-- ==== Sys2Proof/Word.lean ====
section
/-! DEFINITION. The machine words of the block: bytes and byte strings (R16: multi-byte values are little-endian unless a table states otherwise). -/

namespace Sys2Proof

/-- One byte. -/
abbrev Byte := BitVec 8

/-- A string of bytes, the first at the lowest offset. -/
abbrev Bytes := List (BitVec 8)

end Sys2Proof
end

