-- ==== Sys2Proof/OperandTypes.lean ====
section
/-! DEFINITION. The types of the commands' operands: what a step takes from outside the block. -/

namespace Sys2Proof

/-- What a TRDP message request says of its caller (R414): its session and the URIs of source and destination. -/
structure MdCall where
  session : BitVec 128 := 0
  source  : BitVec 256 := 0
  dest    : BitVec 256 := 0
  deriving DecidableEq, Repr

/-- The way an ODX request came in (R400, R414): the mailbox, a TRDP message or a direct datagram, with the sender's
IPv4 address and UDP port. -/
inductive Transport where
  | mailbox
  | trdp (src : BitVec 32) (port : BitVec 16) (call : MdCall)
  | udp (src : BitVec 32) (port : BitVec 16)
  deriving DecidableEq, Repr

/-- The session and tag of an ODX request (R400). -/
structure Req where
  via     : Transport
  session : BitVec 32
  tag     : BitVec 16
  deriving DecidableEq, Repr

/-- The two mirror axes (R228). -/
inductive Axis where
  | h | v
  deriving DecidableEq, Repr

/-- The level that an input pair reaches at an instant, in mV, and holds until the next sample. The instant is in
1.953125 ps from t+0; `ph` is the interpolator phase that an edge there would be stamped with. -/
structure Sample where
  t  : Nat
  ph : Fin 16
  mv : Int
  deriving DecidableEq, Repr

/-- A return at a channel's input pair, as it comes in: the input's baseline in mV, and the waveform. What it crosses and
when is the discriminators' matter (R52, R53, R56). -/
structure Pulse where
  base : Int
  wave : List Sample
  deriving DecidableEq, Repr

/-- What is latched at t+10.0 µs: the bits of the four modulators since the last latch (R229), and the tick integral and
the quiet integral of each sense group, in pC (R214). -/
structure LatchInputs where
  sdm    : List (BitVec 256)
  charge : List Nat
  quiet  : List Nat
  deriving DecidableEq, Repr

/-- The calibration hits of a channel in one tick: how many of the 128 fell into each of the 16 phases (R61). -/
structure CalHits where
  c      : Fin 512
  counts : List Nat
  deriving DecidableEq, Repr

/-- What the full calibration measured of a channel (R75): quadrant lock, threshold converters within R51 after trim, the
hits per phase of step 4, the path delay in fs and whether its deviation exceeded 10 ps, stuck for the whole of step 6, and
the ambient rate in 10,000 events/s. -/
structure CalChan where
  c       : Fin 512
  lockOk  : Bool
  dacOk   : Bool
  counts  : List Nat
  delay   : Int
  spread  : Bool
  stuck   : Bool
  rate    : Nat
  deriving DecidableEq, Repr

/-- What a full calibration measured: its channels, and the banks that failed the memory test (R112). -/
structure FullCalResult where
  chans  : List CalChan
  memBad : BitVec 64
  deriving DecidableEq, Repr
/-- The ECC of a packet header (R282). -/
inductive Ecc where
  | ok | corrected | bad
  deriving DecidableEq, Repr

/-- A Frame Start or Frame End packet (R282): virtual channel, header ECC, frame number, and its instant in ns from t+0. -/
structure FramePacket where
  vc  : Fin 4
  ecc : Ecc
  no  : BitVec 16
  ofs : Nat
  deriving DecidableEq, Repr

/-- A long packet (R282): virtual channel, data type, header ECC, whether its payload CRC holds, and its pixels. -/
structure LinePacket where
  vc    : Fin 4
  dt    : BitVec 6
  ecc   : Ecc
  crcOk : Bool
  px    : List Nat
  deriving DecidableEq, Repr

/-- A sample of the island's inputs (R315, R318): the levels of SIN_A and SIN_B, and of the two feedback inputs. -/
structure SafetyInputs where
  a   : BitVec 4
  b   : BitVec 4
  fbA : Bool
  fbB : Bool
  deriving DecidableEq, Repr

/-- A tick marker item of a FRAME block (R360): whether it is TICK or TICKRX, its AUX field, and for TICK its arrival in
1/16 UI from the receiver's t+0. -/
structure MarkerItem where
  rx    : Bool
  aux   : BitVec 32
  rxOfs : BitVec 23
  deriving DecidableEq, Repr

/-- Why a lane in DATA is lost (R356). -/
inductive LossCause where
  | blockLock | noSignal | uncorrectable
  deriving DecidableEq, Repr

/-- Codewords of a lane that the decoder corrected, and those it could not (R350). -/
structure CodewordCount where
  lane          : Fin 16
  corrected     : Nat
  uncorrectable : Nat
  deriving DecidableEq, Repr

/-- A read of BAR0 (R375): its offset, its size in bytes, whether all byte enables are set; or, with `cfg`, a read of a
doubleword of the configuration space (R373). -/
structure RegRead where
  off  : BitVec 20
  size : Nat
  full : Bool
  cfg  : Bool := false
  deriving DecidableEq, Repr

/-- A write to BAR0 (R375), with the value of a 32-bit write and the REF cycle of the tick in which it arrives; or, with
`cfg`, a write of a doubleword of the configuration space (R373). -/
structure RegWrite where
  off   : BitVec 20
  size  : Nat
  full  : Bool
  v     : BitVec 32
  cycle : Nat := 0
  cfg   : Bool := false
  deriving DecidableEq, Repr

/-- A frame at a port of the switch (R411): its bytes from the destination address to the end of the payload, without
the FCS; whether the FCS is good; whether each egress queue has room, queue k of port p at bit 4 × p + k; and the time that
it stays in the switch, in 2^−16 ns (R423). -/
structure EthFrame where
  data  : List (BitVec 8)
  fcsOk : Bool
  room  : BitVec 12
  stay  : BitVec 64
  deriving DecidableEq, Repr

/-- Where a datagram came from: source and destination address, source UDP port, source MAC, arrival port (R417). -/
structure NetFrom where
  ip   : BitVec 32
  udp  : BitVec 16
  dst  : BitVec 32
  mac  : BitVec 48
  port : Fin 3
  deriving DecidableEq, Repr

/-- A received Sync (R422): the port, the origin time in ns of the PTP timescale, the correction in ns, the REF cycle of its
arrival, the log interval, the rate ratio to the grandmaster that it carries, in ppb, and the time in ns until its relay
leaves the other port. -/
structure SyncMeas where
  port     : Fin 3
  origin   : Nat
  corr     : Int
  cycle    : Nat
  interval : Int
  rate     : Int
  stay     : Nat
  deriving DecidableEq, Repr

/-- A neighbour delay measurement (R422): the port, the own turnaround and the neighbour's in ns, and the neighbour's rate
offset in ppb. -/
structure DelayMeas where
  port : Fin 3
  turn : Nat
  resp : Nat
  rate : Int
  deriving DecidableEq, Repr

/-- A completed delay exchange (R423): origin time and receipt of the Sync, receipt of the Delay_Req at the master, with
their corrections in ns; times of the master are ns of the PTP timescale, the own one is C; and the REF cycle in which the
exchange completes. -/
structure DelayExch where
  t1    : Nat
  corr1 : Int
  t2    : Nat
  t4    : Nat
  corr4 : Int
  cycle : Nat
  gm    : BitVec 64
  utc   : Option (BitVec 16)
  deriving DecidableEq, Repr

/-- Who accesses the internal address space (R48, R49). -/
inductive BusClient where
  | service | plan | cal | acq | host
  deriving DecidableEq, Repr

/-- Who casts power votes (R429). -/
inductive VoteClient where
  | host | net | fw | safe | pin
  deriving DecidableEq, Repr

/-- The power domains (R427). -/
inductive Dom where
  | aon | core | safe | rx | emit | servo | cam | mem | lanes | host
  deriving DecidableEq, Repr

/-- A trigger edge of an emitter: that of its shot, or of the shot's second pulse (R202). -/
structure LaunchEdge where
  e      : Fin 64
  second : Bool := false
  deriving DecidableEq, Repr

/-- A channel whose low discriminator has been active, and for how long, in ns (R60). -/
structure StuckInput where
  c  : Fin 512
  ns : Nat
  deriving DecidableEq, Repr

/-- What a decision of the coincidence filter meets (R90, R92, R111): its cycle of the tick, the corrected errors of the
memory words it reads, and whether one of them cannot be corrected. -/
structure FilterCycle where
  cycle     : Nat
  corrected : Nat := 0
  bad       : Bool := false
  deriving DecidableEq, Repr

/-- An edge on SHOT_SYNC_IN: its direction and the REF cycle of the tick (R35). -/
structure SyncEdge where
  rising : Bool
  ref    : Fin 2000
  deriving DecidableEq, Repr

/-- A channel whose result Oxbow decides, and which of the records formed arrive corrupt at the next stage (R175, R265). -/
structure ResultTurn where
  c       : Fin 512
  corrupt : BitVec 4 := 0
  deriving DecidableEq, Repr

end Sys2Proof
end

