-- ==== Sys2Proof/Syntax.lean ====
section
/-! DEFINITION. The commands of the block: one constructor per row of `spec/opcode_table.json`, in the table's order, each naming the rule that governs it. A command is one whole step; its operands are what the step takes from outside the block. -/

namespace Sys2Proof

/-- The commands (the 217 rows of the opcode table). -/
inductive Instr where
  /-- TICK_STROBE (R22). At t+0 the new tick starts: the shadow settings take effect, the launch slot and the receive gate open, and the PWM and housekeeping slot 0 begin. -/
  | tickStrobe
  /-- SHOT_LAUNCH (R202). An emitter trigger rising edge leaves EMIT at the launch instant, and the shot is confirmed fired. -/
  | shotLaunch (e : LaunchEdge)
  /-- SWAP_POINT_B_SLOT (R97). At t+0.416 µs, stacks whose shot was suppressed in the launch slot close at swap point B. -/
  | swapPointBSlot
  /-- FRONT_END_EVENT (R57). A return pulse is timed at the low threshold, corrected for walk and skew, and delivered as an event word. -/
  | frontEndEvent (c : Fin 512) (p : Pulse)
  /-- STUCK_TICK (R60). A low discriminator active longer than the stuck time discards the channel's events of the tick and counts a stuck tick. -/
  | stuckTick (c : StuckInput)
  /-- BLANKING_INTERVAL_END (R66). At the end of a blanking interval an overload descriptor is passed on, and the saturation and crosstalk masks are marked. -/
  | blankingIntervalEnd (c : Fin 512)
  /-- COINCIDENCE_DECISION (R90). Once the group's events up to TIME + W are in, the filter accepts or rejects an event, and an accepted event passes the quota and the coalescing buffer. -/
  | coincidenceDecision (c : Fin 512) (time : Nat) (cycle : FilterCycle)
  /-- POSITION_SAMPLE_LATCH (R258). At t+10.0 µs the decimators latch; positions, loss detection, loop commands, the compensators, Weir's measured charge and the bank-voltage comparison run. -/
  | positionSampleLatch (x : LatchInputs)
  /-- GATE_CLOSE (R97). At t+10.5 µs the receive gate closes, open pulses get WINV, and stacks reaching S shots swap at point A. -/
  | gateClose
  /-- EARLY_TERMINATION_TEST (R153). At t+10.60 µs each eligible open stack is tested on its peak registers and may close early. -/
  | earlyTerminationTest
  /-- CALIBRATION_HITS (R61). From t+10.55 to t+12.70 µs, 128 oscillator hits are applied to each channel's interpolator. -/
  | calibrationHits (h : List CalHits)
  /-- SHADOW_LOAD (R26). In the bookkeeping interval the next tick's windows, thresholds, emitter choice, fade steps, set-points, probe choice and Weir's final veto are loaded. -/
  | shadowLoad
  /-- DRIVE_VALUE_WRITE (R228). At t+12.0 µs the drive codes of both axes, or their park or hold values, are written to the shadow. -/
  | driveValueWrite
  /-- SHADOW_FREEZE (R27). At t+12.7 µs the shadow freezes, threshold DACs load, and stacks whose next shot is withheld close at swap point B. -/
  | shadowFreeze (late : Bool)
  /-- PROBE_PULSE (R219). At t+12.72 µs a 20 ns probe fires on the selected emitters, and its peak hold is requested for conversion. -/
  | probePulse
  /-- SHOT_SYNC_EDGE (R35). An edge on SHOT_SYNC_IN, or a tick marker, is judged against its predicted band and moves the tick synchronisation state. -/
  | shotSyncEdge (ref : SyncEdge)
  /-- MISSED_EDGE (R38). A predicted band passes without an edge, so a missed edge is counted and the sync state may change. -/
  | missedEdge
  /-- TICK_STRETCH (R37). Once emission is off and both loops are open, one bookkeeping interval is stretched to align t+0. -/
  | tickStretch
  /-- TICK_MONITOR_FAULT (R40). The island finds two tick periods out of ±2 %, or no strobe for 25.6 µs, and takes the safe state. -/
  | tickMonitorFault (noStrobe : Bool)
  /-- WDT_SVC (R47). The service controller watchdog expires, the outputs go safe, and the shell is reset. -/
  | wdtSvc
  /-- WDT_PLAN (R47). The plan controller watchdog expires, emission is inhibited, and the device is forced into QUIET. -/
  | wdtPlan
  /-- WDT_CAL (R47). The calibration controller watchdog expires, emission is inhibited, and the device is forced into QUIET. -/
  | wdtCal
  /-- INTERNAL_BUS_ACCESS (R50). A controller or ACQ accesses the internal address space, and unmapped or unpowered targets are logged with a bus error. -/
  | internalBusAccess (client : BusClient) (addr : BitVec 40) (len : Nat) (wr : Option Bytes)
  /-- CALIBRATION_PERIOD_END (R62). After 256 ticks the interpolator tables are computed, checked and applied, and the oscillator frequency is measured. -/
  | calibrationPeriodEnd (osc : List Nat)
  /-- FULL_CALIBRATION_REQUEST (R75). A write of 1 to 0x3000:01 while emission is off starts a 120 ms full calibration. -/
  | fullCalibrationRequest (req : Req)
  /-- FULL_CALIBRATION_END (R75). At 120 ms the calibration ends: passing channels enter RUN, Eddy is initialised, and the start-up plan is admitted. -/
  | fullCalibrationEnd (r : FullCalResult)
  /-- READ_PASS_COMPLETE (R106). A closed half has been streamed through the processing port, and bound and ECC checks are applied. -/
  | readPassComplete (c : Fin 512) (corrected : Nat) (bad : Bool)
  /-- READ_PASS_OVERRUN (R110). A read pass that is incomplete at t+10.4 µs of its extraction tick drops the stack and is treated as a tick overrun. -/
  | readPassOverrun (c : Fin 512)
  /-- ECHO_EXTRACTION (R122). The extraction lane finishes a channel result with lists F and S, the ambient estimate and the Eddy update. -/
  | echoExtraction (c : Fin 512)
  /-- OXBOW_DECISION (R175). Oxbow commits or discards a channel result, forms its records and passes records and coverage markers on. -/
  | oxbowDecision (c : ResultTurn)
  /-- CONFLUENCE (R277). Confluence projects a committed record into the cameras, chooses a frame and issues the pixel read. -/
  | confluence
  /-- PIXEL_READ_RETURN (R278). The pixel data returns from QDR, and the record leaves COLOURED to the router. -/
  | pixelReadReturn
  /-- MEM_LATE (R278). A pixel read not returned within 1.5 µs lets the record leave with MEM_LATE. -/
  | memLate
  /-- PLAN_WRITE (R180). A write of 0x2100:01 starts admission of the written plan. -/
  | planWrite (req : Req) (plan : Bytes)
  /-- ADMISSION_END (R181). Admission finishes its checks, answers the write, and either refuses the plan or makes it pending. -/
  | admissionEnd
  /-- PLAN_SWITCH (R31). A pending plan takes effect at its switching column boundary, or at tick a + 5 when no plan runs. -/
  | planSwitch
  /-- STOP_RUNNING_PLAN (R189). A write of 1 to 0x2100:04 requests a stop of the running plan and discards any pending plan. -/
  | stopRunningPlan (req : Req)
  /-- PLAN_STOP_EFFECT (R189). At the stop boundary no further stack is planned, and the axes take the manual set-point. -/
  | planStopEffect
  /-- VEHICLE_SPEED_WRITE (R198). A write of speed or uncertainty restarts the speed timeout and applies from the next planning tick. -/
  | vehicleSpeedWrite (req : Req) (sub : Fin 2) (bits : BitVec 32)
  /-- SPEED_TIMEOUT (R170). The speed value becomes stale, and Headwater widens windows instead of moving them. -/
  | speedTimeout
  /-- WEIR_HOLD_OFF_END (R195). The preloaded W2 and W3 buckets have slid out, and Weir's own veto ends. -/
  | weirHoldOffEnd
  /-- EMISSION_ENABLE (R207). A write of 1 to 0x4000:01 starts FADE_IN, or aborts when an inhibit is active. -/
  | emissionEnable (req : Req)
  /-- EMISSION_DISABLE (R207). A write of 0 to 0x4000:01 starts FADE_OUT from the level reached. -/
  | emissionDisable (req : Req)
  /-- FAULT_ACKNOWLEDGE (R208). A write of 1 to 0x4000:03 clears latched causes whose condition has gone. -/
  | faultAcknowledge (req : Req)
  /-- BANK_VOLTAGE_FAULT (R206). 64 consecutive compared readings outside tolerance declare an over- or under-voltage of the bank. -/
  | bankVoltageFault (b : Fin 8)
  /-- DIAGNOSIS_WINDOW (R216). After 1,024 entered ticks a group's charge window is evaluated per emitter, or as a group deficit or excess. -/
  | diagnosisWindow (g : Fin 16)
  /-- STUCK_ON (R218). A quiet integral above the threshold in two consecutive ticks marks the group stuck on and raises the inhibit. -/
  | stuckOn (g : Fin 16)
  /-- STUCK_ON_CLEAR (R218). After 64 consecutive quiet ticks the STUCK_ON cause stops being active. -/
  | stuckOnClear (g : Fin 16)
  /-- DIAGNOSIS_CLEAR (R220). SERVICE writes 0x4013:03 with emission off to return emitters to UNTESTED and their banks to service. -/
  | diagnosisClear (req : Req) (mask : BitVec 64)
  /-- LOOP_COMMAND_OPEN (R247). Loop command OPEN, carried out at the next latch, holds the last drive. -/
  | loopCommandOpen (req : Req) (a : Axis)
  /-- LOOP_COMMAND_CLOSE (R249). Loop command CLOSE is checked at the write, then closes bumplessly and starts a capture at the latch. -/
  | loopCommandClose (req : Req) (a : Axis)
  /-- LOOP_COMMAND_PARK (R247). Loop command PARK starts a park ramp at the next latch. -/
  | loopCommandPark (req : Req) (a : Axis)
  /-- FEEDBACK_LOSS (R256). A range loss, freeze or cross-check fault opens the axis, raises SERVO and starts a park ramp. -/
  | feedbackLoss (a : Axis)
  /-- SERVO_FAULT_CLEAR (R257). A write of 0x5010+a:0F in LOSS with 16 valid in-band samples moves the axis to OPEN at the next latch. -/
  | servoFaultClear (req : Req) (a : Axis)
  /-- DECIMATOR_START (R236). A write of 1 to 0x5040+d:01 starts the decimator at the next latch. -/
  | decimatorStart (req : Req) (d : Fin 3)
  /-- DECIMATOR_STOP (R236). A write of 0 stops the decimator at once, unless its loop is closed. -/
  | decimatorStop (req : Req) (d : Fin 3)
  /-- SP_PULSE_PERIOD (R241). A completed SP_PULSE period updates u in PWM-duty mode. -/
  | spPulsePeriod (high : Nat) (period : Nat)
  /-- COUNT_GATE (R241). At the end of a count gate of G ticks, u is updated from the pulse frequency. -/
  | countGate (count : Nat)
  /-- SOURCE_TIMEOUT (R241). A set-point source without a valid update for the timeout sets SRC_INV and holds the last value. -/
  | sourceTimeout
  /-- TRACE_ARM (R259). Trace command 1 starts ring recording. -/
  | traceArm (req : Req)
  /-- TRACE_MANUAL_TRIGGER (R259). Trace command 2 triggers the trace buffer manually. -/
  | traceManualTrigger (req : Req)
  /-- TRACE_STOP (R259). Trace command 0 stops the trace buffer. -/
  | traceStop (req : Req)
  /-- TRACE_DONE (R259). After 4,096 − P post-trigger ticks the trace buffer enters DONE. -/
  | traceDone
  /-- PR32_VERSION_WRITE (R272). A host writes its highest PR-32 version, and the lower of the two is set in force from the next column. -/
  | pr32VersionWrite (req : Req) (sub : Fin 256) (v : BitVec 8)
  /-- FRAME_START (R284). A Frame Start packet is stamped, takes a store slot and advances the tone-curve fade. -/
  | frameStart (k : Fin 2) (p : FramePacket)
  /-- FRAME_END (R288). A Frame End closes the frame, which is judged by line count and gets its descriptor. -/
  | frameEnd (k : Fin 2) (p : FramePacket)
  /-- LINE_PACKET (R288). A long packet carries one line into the input buffer, with repair, drop or overflow handling. -/
  | linePacket (k : Fin 2) (p : LinePacket)
  /-- LINE_SERVICE (R289). The shared pipeline serves one waiting line of the higher-priority camera through the stages. -/
  | lineService
  /-- FRAME_STORED (R291). The last line of a closed frame reaches the store, and the frame becomes a candidate. -/
  | frameStored (k : Fin 2)
  /-- FRAME_TIMEOUT (R287). The frame-timeout watchdog expires, and the port enters ABSENT. -/
  | frameTimeout (k : Fin 2)
  /-- PORT_ENABLE_WRITE (R287). A write of 0x6000+k:01 enables a camera port into STARTUP or disables it to OFF. -/
  | portEnableWrite (req : Req) (k : Fin 2) (v : Bool)
  /-- TEST_REQUEST_WRITE (R287). A write of 0x6000+k:0F moves the port into TEST or back to STARTUP. -/
  | testRequestWrite (req : Req) (k : Fin 2) (v : Bool)
  /-- CAM_FSYNC_PULSE_END (R285). The CAM_FSYNC pulse ends after its width. -/
  | camFsyncPulseEnd (k : Fin 2)
  /-- ISLAND_INIT_COMPLETE (R303). The island finishes its self-test and selector read and enters SERVICE, SAFE or LOCKOUT. -/
  | islandInitComplete (ok : Bool)
  /-- LOCKSTEP_FAULT (R301). The cores disagree or the memory fails, and the island goes to LOCKOUT. -/
  | lockstepFault
  /-- SUPPLY_MONITOR_FAULT (R301). VDD_SAFE or VDD_CORE leaves its window, and SUPPLY is raised. -/
  | supplyMonitorFault
  /-- ISLAND_WATCHDOG (R301). The island's own watchdog expires, and WATCHDOG is raised. -/
  | islandWatchdog
  /-- EVAL_TIMEOUT (R301). A record or marker waits in the FIFO beyond 1.5 ticks, and EVAL is raised. -/
  | evalTimeout
  /-- SEAL_SAMPLE (R305). Every 10 ms AON samples SEAL_A and SEAL_B, counts glitches and detects a selector change. -/
  | sealSample (a : BitVec 8) (b : BitVec 8)
  /-- STORE_CONFIGURATION (R306). In SERVICE, a write of n to 0x8002:01 stores the working set as configuration n. -/
  | storeConfiguration (req : Req) (n : BitVec 8)
  /-- PAIR_CONFIGURATION (R306). In SERVICE, a write of n to 0x8002:02 copies the stored CRC into pairing entry n. -/
  | pairConfiguration (req : Req) (n : BitVec 8)
  /-- DELETE_CONFIGURATION (R306). In SERVICE, a write of n to 0x8002:03 deletes configuration n and its pairing. -/
  | deleteConfiguration (req : Req) (n : BitVec 8)
  /-- CONFIG_NOR_WRITE_DONE (R306). The QSPI NOR write of a configuration command completes, and the command is answered. -/
  | configNorWriteDone (ok : Bool)
  /-- ZONE_EVALUATION (R309). The island evaluates a record copy against the zone layers and the minimum-object rule. -/
  | zoneEvaluation
  /-- COVERAGE_MARKER (R312). A coverage marker updates the complete coverage of zone cells. -/
  | coverageMarker
  /-- COVERAGE_TIMEOUT (R312). A cell goes without complete coverage for REVISIT ticks, and COVERAGE is raised. -/
  | coverageTimeout (z : Fin 16)
  /-- OSSD_TEST_PULSE (R315). In OPERATE each output is pulsed low once per period, and the feedback is checked. -/
  | ossdTestPulse (ch : Fin 2) (fb : Bool)
  /-- OSSD_FEEDBACK_TIMEOUT (R315). Feedback does not follow an output transition within 1.0 ms, and OUTPUT is raised. -/
  | ossdFeedbackTimeout (ch : Fin 2)
  /-- SAFETY_INPUT_SAMPLE (R318). Each tick the dual-channel inputs are sampled for discrepancy, STOP, and restart or reset events. -/
  | safetyInputSample (x : SafetyInputs)
  /-- BSL_CYCLE (R324). At its cycle a producer connection sends CONNECT or its DATA status telegram. -/
  | bslCycle (c : Fin 4)
  /-- BSL_TELEGRAM_RECEIVE (R325). A consumer checks a received BSL telegram's code, addresses and sequence and accepts or discards it. -/
  | bslTelegramReceive (c : Fin 4) (t : Bytes)
  /-- BSL_WATCHDOG (R325). A consumer watchdog expires, the connection goes DOWN and, if required, BSL is raised. -/
  | bslWatchdog (c : Fin 4)
  /-- BSL_RETRY (R324). One second after REJECT the producer retries CONNECT. -/
  | bslRetry (c : Fin 4)
  /-- RECOVERY_COMPLETE (R327). The fault manager's running recovery action completes, and the next queued recovery starts. -/
  | recoveryComplete
  /-- ACQ_ARM (R342). ACQ command 1 is checked and, if accepted, starts a capture in PRETRIG. -/
  | acqArm (req : Req)
  /-- ACQ_STOP (R340). ACQ command 0 ends the capture with end cause 3 after drain. -/
  | acqStop (req : Req)
  /-- ACQ_MANUAL_TRIGGER (R337). ACQ command 2 makes comparator 4 true in the next row. -/
  | acqManualTrigger (req : Req)
  /-- ACQ_ROW (R329). At t+11.0 µs ACQ forms a row, evaluates comparators and masks, and enters it or a gap into the FIFO. -/
  | acqRow
  /-- ACQ_DRAIN_COMPLETE (R340). The last row or marker of an ending capture reaches QDR, and the capture enters DONE. -/
  | acqDrainComplete
  /-- PROBE_BURST (R358). On expiry of the probe period a searching lane sends a burst of PROBE blocks. -/
  | probeBurst (l : Fin 16)
  /-- PARTNER_PROBE_RECEIVED (R356). A partner PROBE with block lock starts equalisation. -/
  | partnerProbeReceived (l : Fin 16) (w : BitVec 64)
  /-- TRAIN_REQUEST (R352). A TRAIN block requests tap changes, and the transmitter answers with its status. -/
  | trainRequest (l : Fin 16) (w : BitVec 64)
  /-- EQ_COMPLETE (R356). Both directions report RX_READY, precoding takes effect, and FEC starts. -/
  | eqComplete (l : Fin 16) (eyeH : BitVec 16) (eyeW : BitVec 16)
  /-- FEC_ALIGN_COMPLETE (R356). Two CWMs and decoded block lock move the lane to DESKEW. -/
  | fecAlignComplete (l : Fin 16)
  /-- DESKEW_COMPLETE (R356). All lanes of the link are matched within 64 UI, and superframes lock. -/
  | deskewComplete (j : Fin 16) (skews : List Nat)
  /-- CAPS_RECEIVED (R357). Three identical partner CAPS set the version and roles, or fail the link. -/
  | capsReceived (l : Fin 16) (w : BitVec 64)
  /-- TRAINING_TIMEOUT (R356). A training step exceeds its time limit, and every lane of the link fails to ABSENT. -/
  | trainingTimeout (l : Fin 16)
  /-- LINK_LOSS (R356). Lost block lock, lost signal or excess uncorrectable codewords fail a link in DATA. -/
  | linkLoss (l : Fin 16) (cause : LossCause)
  /-- IDLE_ENTRY (R359). A link sends IDLE TRAIN blocks and enters electrical idle. -/
  | idleEntry (j : Fin 16)
  /-- IDLE_EXIT (R359). An exit burst ends idle, with fast exit or full equalisation. -/
  | idleExit (j : Fin 16)
  /-- SUPERFRAME (R363). Each superframe the scheduler gives the link's segment to a stream, or sends fill. -/
  | superframe (j : Fin 16) (ofs : BitVec 12)
  /-- TICK_MARKER (R365). A TICK or TICKRX item updates the follower's path delay and phase error. -/
  | tickMarker (j : Fin 16) (m : MarkerItem)
  /-- DSTATE (R368). A DSTATE item is adopted as, or compared with, the follower's dither generator state. -/
  | dstateItem (j : Fin 16) (aux : BitVec 32)
  /-- DMASK (R368). A DMASK item assigns the follower's family mask. -/
  | dmaskItem (j : Fin 16) (aux : BitVec 32)
  /-- CREDIT (R364). A CREDIT item grants segments to a stream at version 1.1. -/
  | creditItem (j : Fin 16) (aux : BitVec 32)
  /-- PCIE_RESET (R374). A conventional, hot or function-level reset or a link-down resets the PCI Express controller and host window. -/
  | pcieReset
  /-- REGISTER_WRITE (R375). A BAR0 write to a register without a row of its own is applied, or dropped and logged. -/
  | registerWrite (a : RegWrite)
  /-- UPPER_HALF_LATCH_READ (R375). A 32-bit read of the lower half of a 64-bit register latches the upper half. -/
  | upperHalfLatchRead (a : RegRead)
  /-- LATCH (R378). A write of LATCH = 1 latches device time and sets TIME_LO, TIME_HI and VALID. -/
  | timeLatch (cycle : Nat)
  /-- TIME_HI_READ (R378). A read of 0x0038 returns the latched time and clears VALID. -/
  | timeHiRead
  /-- VOTE (R379). A write to VOTE starts the vote handshake, and a new bit may be a DOZE wake event. -/
  | voteWrite (v : BitVec 32)
  /-- VOTE_REGISTERED (R431). A vote handshake completes in AON, and the Sluice gate raises or drops domains. -/
  | voteRegistered (client : VoteClient)
  /-- INTERRUPT_STATUS_CLEAR (R381). A write to INT_STATUS or RING_INT clears bits and re-evaluates every vector. -/
  | interruptStatusClear (ring : Bool) (v : BitVec 32)
  /-- MSIX_UNMASK (R381). Unmasking a vector with its pending bit set sends its message. -/
  | msixUnmask (vec : Option (Fin 64))
  /-- GO (R383). GO = 1 submits the mailbox request, or ends at once with bad length. -/
  | mailboxGo
  /-- ABORT (R383). ABORT = 1 removes a queued mailbox request. -/
  | mailboxAbort
  /-- MAILBOX_RESPONSE (R383). The service controller completes a mailbox request and writes the response with VALID. -/
  | mailboxResponse
  /-- MAILBOX_STATUS_READ (R382). A read of 0x0108 returns the result status and clears VALID. -/
  | mailboxStatusRead
  /-- DATA_PORT_ACCESS (R385). A BAR2 request accesses the internal address space in INC or WINDOW mode. -/
  | dataPortAccess (off : BitVec 24) (len : Nat) (wr : Option Bytes) (full : Bool)
  /-- PULL_READ (R392). A BAR2 read with a pull selector consumes staged bytes of a pull-mode ring. -/
  | pullRead (r : Fin 16) (len : Nat)
  /-- RING_ENABLE (R389). A write of ENABLE 0 to 1 starts a ring with HEAD and TAIL at 0. -/
  | ringEnable (r : Fin 16)
  /-- RING_DISABLE (R389). A write of ENABLE 1 to 0 completes the current entry and drops the staged units. -/
  | ringDisable (r : Fin 16)
  /-- TAIL_WRITE (R389). A TAIL write is accepted if valid, or refused with TAIL_ERR. -/
  | tailWrite (r : Fin 16) (v : BitVec 32)
  /-- RING_ENTRY_PUBLISH (R390). A staged unit fits the free space and is written, HEAD advances and the ring signals. -/
  | ringEntryPublish (r : Fin 16)
  /-- RING_SIGNAL_TIMER (R390). INT_USEC expires for an unsignalled entry, and RING_INT is set. -/
  | ringSignalTimer (r : Fin 16)
  /-- RING_DROP_COUNTER_READ (R388). A read of DROP_UNITS or DROP_RECORDS returns and clears the counter. -/
  | ringDropCounterRead (r : Fin 16) (records : Bool)
  /-- POP (R393). A write of POP = 1 removes the oldest access-fault entry. -/
  | faultLogPop
  /-- ACCESS_FAULT_LOG_READ (R393). A read of 0x0300 returns the log status and clears LOST. -/
  | accessFaultLogRead
  /-- OPEN (R402). An ODX OPEN negotiates a version and opens a session with its base role. -/
  | odxOpen (req : Req) (version : BitVec 8) (payload : Bytes)
  /-- CLOSE (R401). An ODX CLOSE ends the session. -/
  | odxClose (req : Req)
  /-- READ (R408). An ODX READ returns an object value, or its first segment. -/
  | odxRead (req : Req) (index : BitVec 16) (sub : BitVec 8) (seg : Bool)
  /-- WRITE (R408). An ODX WRITE of an object without its own row is checked in order and applied in full or aborted. -/
  | odxWrite (req : Req) (index : BitVec 16) (sub : BitVec 8) (data : Bytes) (seg : Bool)
  /-- READ_SEG (R407). An ODX READ_SEG returns a chunk of a held snapshot. -/
  | odxReadSeg (req : Req) (index : BitVec 16) (sub : BitVec 8) (payload : Bytes)
  /-- WRITE_SEG (R407). An ODX WRITE_SEG adds a chunk, and the completing segment checks and applies the value. -/
  | odxWriteSeg (req : Req) (index : BitVec 16) (sub : BitVec 8) (payload : Bytes)
  /-- CHALLENGE (R403). An ODX CHALLENGE returns a nonce for raising a role. -/
  | odxChallenge (req : Req) (payload : Bytes)
  /-- AUTH (R403). An ODX AUTH checks the HMAC and raises the session role. -/
  | odxAuth (req : Req) (payload : Bytes)
  /-- READ_MULTI (R401). An ODX READ_MULTI returns up to 16 values with per-entry abort codes. -/
  | odxReadMulti (req : Req) (payload : Bytes)
  /-- KEEPALIVE (R404). An ODX KEEPALIVE restarts the session idle timer. -/
  | odxKeepalive (req : Req)
  /-- SESSION_IDLE_TIMEOUT (R404). A network session without requests for the idle timeout closes. -/
  | sessionIdleTimeout (sess : Fin 8)
  /-- SEGMENT_TRANSFER_TIMEOUT (R407). A segmented transfer without a segment for 5 s is discarded. -/
  | segmentTransferTimeout (sess : Fin 8)
  /-- AUTH_LOCKOUT_END (R403). The 60 s AUTH lockout of a transport ends. -/
  | authLockoutEnd (via : Transport)
  /-- STORE_PERSISTENT_VALUES (R399). A write of 1 to 0x1010:01 snapshots the persistent values and starts the NOR store. -/
  | storePersistentValues (req : Req)
  /-- STORE_COMPLETE (R399). The persistent copy is written and marked valid, or the store fails, and the write is answered. -/
  | storeComplete (ok : Bool)
  /-- RESTORE_DEFAULTS (R399). A write of 1 to 0x1011:01 invalidates both stored copies. -/
  | restoreDefaults (req : Req)
  /-- ETHERNET_FRAME (R411). The switch receives a frame and forwards, floods, drops or delivers it to port 0. -/
  | ethernetFrame (port : Fin 3) (f : EthFrame)
  /-- ETH_LINK_CHANGE (R411). A link change on port 1 or 2 updates the port state and flushes the address table. -/
  | ethLinkChange (port : Fin 3) (speed : Fin 4) (full : Bool)
  /-- ADDRESS_AGEING (R411). An address table entry ages out after 300 s. -/
  | addressAgeing (mac : BitVec 48)
  /-- RING_CHECK (R412). Every 10 ms the ring breaker sends a ring-check frame and tracks arrivals to open or close port 2. -/
  | ringCheck (arrived : Bool)
  /-- FLUSH_FRAME (R412). A received flush frame flushes the address table. -/
  | flushFrame (port : Fin 3)
  /-- TRDP_MESSAGE_REQUEST (R414). A TRDP Mr with the ODX ComId carries an ODX message, and the answer is sent as Mp. -/
  | trdpMessageRequest (src : NetFrom) (tel : Bytes)
  /-- DIRECT_ODX (R414). A datagram beginning with ODX2 on port 17225 carries an ODX message. -/
  | directOdx (src : NetFrom) (dgram : Bytes)
  /-- ANNOUNCEMENT (R415). The announcement dataset is published at its period. -/
  | announcement
  /-- SPEED_DATASET (R416). A subscribed dataset writes speed and uncertainty as a NET write. -/
  | speedDataset (src : NetFrom) (comId : BitVec 32) (data : Bytes)
  /-- PEER_AGE_OUT (R417). A peer not heard from for the age limit is removed from the table. -/
  | peerAgeOut (ip : BitVec 32)
  /-- GPTP_SYNC (R422). A received 802.1AS Sync is one time measurement and is relayed to the other port. -/
  | gptpSync (m : SyncMeas)
  /-- NEIGHBOUR_DELAY_MEASUREMENT (R422). Each second the neighbour delay and rate ratio of each port are measured. -/
  | neighbourDelayMeasurement (m : DelayMeas)
  /-- DELAY_EXCHANGE (R423). A completed IEEE 1588 delay exchange is one time measurement. -/
  | delayExchange (m : DelayExch)
  /-- PPS_EDGE (R424). A rising edge on PPS_IN gives an offset measurement for second S. -/
  | ppsEdge (c : Nat)
  /-- TIME_HOLDOVER (R420). No valid measurement for 3 s moves the time state to HOLDOVER. -/
  | timeHoldover
  /-- POWER_STATE_REQUEST (R432). A write of 0x9000:01 is checked for refusals and starts the chain of state entries. -/
  | powerStateRequest (req : Req) (v : BitVec 8)
  /-- PHASE_A_END (R434). The stop phase of an entry ends after three ticks with the axes open, and the drain starts. -/
  | phaseAEnd
  /-- DRAIN_COMPLETE (R434). No implicit vote remains, and the domains are dropped, retained or idled in order. -/
  | drainComplete
  /-- DRAIN_TIMEOUT (R435). An implicit vote outlasts 1 ms, and the entry is aborted or, if forced, dropped anyway. -/
  | drainTimeout
  /-- DOMAIN_POWER_GOOD (R442). A domain reaches power good and runs its own start-up. -/
  | domainPowerGood (d : Dom)
  /-- DOMAIN_DROP (R431). A domain whose last vote has gone and whose implicit votes have cleared is dropped. -/
  | domainDrop (d : Dom)
  /-- RTC_ALARM (R440). The RTC reaches the armed alarm, which is a wake event or disarms in RUN and QUIET. -/
  | rtcAlarm
  /-- WAKE_REQ (R440). A rising edge on WAKE_REQ is a DOZE wake event. -/
  | wakeReq (level : Bool)
  /-- NETWORK_WAKE (R440). A frame to the device's address on port 17225 wakes it from DOZE. -/
  | networkWake
  /-- QUIESCE (R448). PWR_FAIL_N low for 2.0 µs starts a quiesce: emission halts, the island goes safe and NOR stops. -/
  | quiesceStart (edge : Int)
  /-- QUIESCE_DROP (R448). At +50 µs EMIT, RX, CAM, MEM and LANES are dropped without waiting. -/
  | quiesceDrop
  /-- NOR_PROGRAM_LIMIT (R449). A page program still running after 2.0 ms is ended by the reset command. -/
  | norProgramLimit
  /-- QUIESCE_DONE (R448). The quiesce record and the emission-stop record are complete. -/
  | quiesceDone
  /-- PWR_FAIL_N_RISE (R447). PWR_FAIL_N returns high, counting a short pulse or starting the release time. -/
  | pwrFailNRise
  /-- PWR_FAIL_RELEASE (R450). PWR_FAIL_N has been high for the release time, and the domains may come up again. -/
  | pwrFailRelease
  /-- BROWN_OUT (R446). A rail falls below its brown-out threshold, light stops and the device is held in reset. -/
  | brownOut (r : Fin 16)
  /-- RAIL_OUT_OF_WINDOW (R492). A rail outside its window for 10 µs is recorded and reported. -/
  | railOutOfWindow (r : Fin 16)
  /-- AON_BROWN_OUT (R443). The AON rail browns out in STANDBY, AON is reset and a cold start follows. -/
  | aonBrownOut
  /-- VAON_POWER_ON (R471). VAON rises through its power-on threshold and resets AON, the VAON cells and the device. -/
  | vaonPowerOn
  /-- CONVERSION_COMPLETE (R464). A housekeeping conversion ends, and its result goes to the slot, the data register and its consumers. -/
  | conversionComplete (raw : Fin 4096) (oor : Bool)
  /-- HOST_GROUP_TRIGGER (R463). A write of 0xB002:02 submits the host group as a level-1 request. -/
  | hostGroupTrigger (req : Req)
  /-- CONVERTER_CHECK (R468). Every 256 ticks a level-2 check of input 25 or 26 is requested and judged. -/
  | converterCheck (input : Fin 32)
  /-- HK_DATA_REGISTER_READ (R466). A read of the data register returns the result and clears VALID and OVR. -/
  | hkDataRegisterRead
  /-- RESET_N (R471). RESET_N low for 10 µs resets the device. -/
  | resetN
  /-- RESET_STUCK (R474). RESET_N low for 4 s releases reset, ignores the pin and latches RESET_STUCK. -/
  | resetStuck
  /-- RESET_N_ATTENDED (R474). RESET_N high for 100 ms ends the ignoring of the pin. -/
  | resetNAttended
  /-- SOFTWARE_RESET (R472). A write of 1 to 0x1F30:05 with emission off resets the device after the response. -/
  | softwareReset (req : Req)
  /-- RESET_RELEASE (R475). Once supplies, REF and RESET_N allow it, the internal reset is released and the boot ROM chooses a slot. -/
  | resetRelease
  /-- FIRMWARE_START (R482). A verified slot starts, restores the persistent values and votes the start-up domains. -/
  | firmwareStart
  /-- BEGIN (R484). Update command BEGIN starts erasing the target slot. -/
  | updateBegin (req : Req)
  /-- ERASE_COMPLETE (R484). The target slot erase completes, and the update opens. -/
  | eraseComplete (ok : Bool)
  /-- ACTIVATE (R484). Update command ACTIVATE marks the verified slot for a trial boot. -/
  | updateActivate (req : Req)
  /-- CONFIRM (R486). Update command CONFIRM raises the anti-rollback counter and makes the trial slot active. -/
  | updateConfirm (req : Req)
  /-- CANCEL (R484). Update command CANCEL ends the running update, or clears TRIAL. -/
  | updateCancel (req : Req)
  /-- KEY_REVOCATION (R478). A SERVICE write of 0x1F40:0A revokes a boot key in OTP. -/
  | keyRevocation (req : Req) (v : BitVec 8)
  /-- DOMAIN_START_UP_DONE (R261). A powered domain finishes its own timed start-up calibration (lanes 2 ms, servo PWM 1 ms, camera D-PHY 1 ms, emitter integrators 2 ms and the 50 ms bank check), after which lanes start searching, modulators and decimators start, camera ports enter STARTUP and banks are judged. -/
  | domainStartUpDone (d : Dom)
  /-- SHOT_SYNC_OUT_PULSE (R35). When the REF count reaches the programmed offset after t+0, SHOT_SYNC_OUT starts its 8-cycle pulse. -/
  | shotSyncOutPulse
  /-- SHOT_SYNC_OUT_PULSE_END (R35). Eight REF cycles after it started, the SHOT_SYNC_OUT pulse ends. -/
  | shotSyncOutPulseEnd
  /-- SEGMENT_RECEIVED (R361). A segment received from the partner with a STREAM other than fill is discarded and counted in 0xC020+j:08. -/
  | segmentReceived (j : Fin 16) (stream : Fin 32) (fec : List CodewordCount)
  /-- PCIE_LINK_TRAINED (R372). The PCI Express link comes up or retrains, and LINK and PCIE_LIMIT are updated for the next admission. -/
  | pcieLinkTrained (speed : Fin 5) (width : Fin 9) (bme : Bool) (mps : Fin 513)
  /-- LATCH_COMPLETE (R378). Up to 4 CORE cycles after a LATCH write, TIME_LO, TIME_HI and VALID = 1 are written and INT_STATUS bit 18 is set. -/
  | latchComplete
  /-- DELAY_REQ_SEND (R423). With source 2, the device sends a Delay_Req at the master's logMinDelayReqInterval. -/
  | delayReqSend (cycle : Nat)
  /-- ACQ_QDR_WRITE (R344). ACQ writes a FIFO entry to QDR in a cycle that no admitted user claims, which frees FIFO space, or ends the capture with cause 4 on an uncorrectable error. -/
  | acqQdrWrite (bad : Bool)
  /-- NON_VOLATILE_WRITE_DONE (R485). A QSPI NOR or OTP write completes: an update segment or header program, a role-key store, a start-up plan store, or the OTP and boot-control writes of CONFIRM. The waiting answer is sent or the update moves to VERIFIED or FAILED. -/
  | nonVolatileWriteDone (ok : Bool)
  /-- LPR_LIMIT (R443). In STANDBY the low-power regulator reaches its 4 mA limit, limits its current and sets LPR_LIMIT. -/
  | lprLimit
  /-- VAON_LOW (R445). VAON falls below its 3.0 V window but stays above the power-on threshold, and VAON_LOW is set. -/
  | vaonLow
  /-- VAON_POWER_LOSS (R493). VAON falls below 2.50 V, all device state including the VAON cells is lost, and the next rise is a VAON power-on. -/
  | vaonPowerLoss
  /-- RESET_OUTPUT_RELEASE (R489). QSPI_RST_N rises 100 µs after reset release and ETH_PHY_RST_N rises 10 ms after it. -/
  | resetOutputRelease (phy : Bool)
  deriving DecidableEq, Repr

end Sys2Proof
end

