-- ==== Sys2Proof/Machine/Arith.lean ====
section
/-! DEFINITION. The arithmetic conventions of the manual (R510, R16) and the byte and bit-field helpers the meanings
share. Values that wrap or saturate do so at a stated width; everything else is exact integer arithmetic. -/

namespace Sys2Proof.Machine

/-- `a div b` of R510: the quotient rounded toward minus infinity. -/
def fdiv (a : Int) (b : Nat) : Int := a / (b : Int)

/-- `round(a / b)` of R510: half up. -/
def roundDiv (a : Int) (b : Nat) : Int := (2 * a + b) / (2 * (b : Int))

/-- `round(a / b)` of R510 for natural numbers. -/
def roundDivN (a b : Nat) : Nat := (2 * a + b) / (2 * b)

/-- The magnitude of an integer. -/
def iabs (x : Int) : Int := x.natAbs

/-- `ceil(a / b)`. -/
def ceilDiv (a b : Nat) : Nat := (a + b - 1) / b

/-- A value held in `[lo, hi]` (saturation). -/
def clampI (lo hi x : Int) : Int := max lo (min hi x)

/-- A natural number saturated at a width of `w` bits. -/
def satN (w n : Nat) : Nat := min n (2 ^ w - 1)

/-- The two's complement value of the low `w` bits of `n` (R395). -/
def toSigned (w n : Nat) : Int :=
  let m := n % 2 ^ w
  if m < 2 ^ (w - 1) then (m : Int) else (m : Int) - 2 ^ w

/-- The low `w` bits of an integer in two's complement (R395). -/
def toBits (w : Nat) (i : Int) : Nat := (i % (2 ^ w : Nat)).toNat

/-- Bits `[hi:lo]` of a number (R16). -/
def bits (n hi lo : Nat) : Nat := (n >>> lo) % 2 ^ (hi + 1 - lo)

/-- Bit `b` of a number. -/
def bit (n b : Nat) : Bool := n.testBit b

/-- A number with bit `b` set or cleared. -/
def setBit (n b : Nat) (v : Bool) : Nat :=
  if v then n ||| (1 <<< b) else if n.testBit b then n - (1 <<< b) else n

/-- The bits of `n` that are not in `m`. -/
def andNot (n m : Nat) : Nat := n - (n &&& m)

/-- 1 for true, 0 for false. -/
def b2n (b : Bool) : Nat := if b then 1 else 0

/-- The little-endian bytes of a number, `k` of them (R16). -/
def leBytes : Nat → Nat → Bytes
  | 0, _ => []
  | k + 1, n => BitVec.ofNat 8 n :: leBytes k (n / 256)

/-- The number that little-endian bytes spell (R16). -/
def leNat : Bytes → Nat
  | [] => 0
  | b :: bs => b.toNat + 256 * leNat bs

/-- The number that big-endian bytes spell. -/
def beNat (bs : Bytes) : Nat := bs.foldl (fun a b => a * 256 + b.toNat) 0

/-- The big-endian bytes of a number, `k` of them. -/
def beBytes (k n : Nat) : Bytes := (leBytes k n).reverse

/-- `k` bytes from offset `o`. -/
def slice (bs : Bytes) (o k : Nat) : Bytes := (bs.drop o).take k

/-- The little-endian field of `k` bytes at offset `o`. -/
def fieldN (bs : Bytes) (o k : Nat) : Nat := leNat (slice bs o k)

/-- The signed little-endian field of `k` bytes at offset `o`. -/
def fieldI (bs : Bytes) (o k : Nat) : Int := toSigned (8 * k) (fieldN bs o k)

/-- `k` zero bytes. -/
def zeros (k : Nat) : Bytes := List.replicate k 0

/-- The bytes of a field replaced at offset `o`. -/
def splice (bs : Bytes) (o : Nat) (v : Bytes) : Bytes := bs.take o ++ v ++ bs.drop (o + v.length)

/-- The number of one bits in the low `k` bits. -/
def popcount : Nat → Nat → Nat
  | 0, _ => 0
  | k + 1, n => n % 2 + popcount k (n / 2)

/-- The positions of the one bits in the low `k` bits, ascending. -/
def bitsOf (k n : Nat) : List Nat := (List.range k).filter n.testBit

/-- `floor(log2 n)`, 0 for 0. -/
def ilog2 (n : Nat) : Nat := Nat.log2 n

/-- The integer square root, found bit by bit from bit `k` down: the largest `r` with `r * r ≤ n` below `2 ^ (k + 1)`. -/
def isqrtAux (n : Nat) : Nat → Nat → Nat
  | 0, r => if (r + 1) * (r + 1) ≤ n then r + 1 else r
  | k + 1, r => let r' := r + 2 ^ (k + 1); isqrtAux n k (if r' * r' ≤ n then r' else r)

/-- The floor of the square root. -/
def isqrt (n : Nat) : Nat := isqrtAux n (Nat.log2 n / 2) 0

/-- The square root of a rational `a / b` rounded half up: the largest `r` with `(2r − 1)² b ≤ 4a`. -/
def isqrtRound (a b : Nat) : Nat := (isqrt (4 * a / b) + 1) / 2

end Sys2Proof.Machine
end

