-- ==== Sys2Proof/Machine/Crypto.lean ====
section
/-! DEFINITION. The codes the manual names: CRC-32 (R159), CRC-16 (R265), CRC-32C (R323), SHA-256 and HMAC-SHA-256
(R403, R326, R477) and ECDSA P-256 verification (R477). Each follows its published algorithm. -/

namespace Sys2Proof.Machine

/-- One bit of a reflected CRC with polynomial `p`. -/
def crcBitR (p : BitVec 32) (c : BitVec 32) : BitVec 32 :=
  if c.getLsbD 0 then (c >>> 1) ^^^ p else c >>> 1

/-- One byte of a reflected CRC. -/
def crcByteR (p : BitVec 32) (c : BitVec 32) (b : Byte) : BitVec 32 :=
  let x := c ^^^ b.zeroExtend 32
  let f := crcBitR p
  f (f (f (f (f (f (f (f x)))))))

/-- A reflected CRC of 32 bits with initial value and final XOR 0xFFFF_FFFF. -/
def crcR (p : BitVec 32) (bs : Bytes) : BitVec 32 :=
  bs.foldl (crcByteR p) 0xFFFFFFFF#32 ^^^ 0xFFFFFFFF#32

/-- CRC-32 of R159 (the IEEE 802.3 polynomial, in that standard's bit order). -/
def crc32 (bs : Bytes) : BitVec 32 := crcR 0xEDB88320#32 bs

/-- CRC-32C of R323: polynomial 0x1EDC_6F41, reflected input and output. -/
def crc32c (bs : Bytes) : BitVec 32 := crcR 0x82F63B78#32 bs

/-- One bit of CRC-16, most significant bit first. -/
def crc16Bit (c : BitVec 16) : BitVec 16 :=
  if c.getLsbD 15 then (c <<< 1) ^^^ 0x1021#16 else c <<< 1

/-- CRC-16 of R265: polynomial 0x1021, initial value 0xFFFF, no reflection, no final XOR. -/
def crc16 (bs : Bytes) : BitVec 16 :=
  bs.foldl (fun (c : BitVec 16) (b : Byte) =>
    let f := crc16Bit
    f (f (f (f (f (f (f (f (c ^^^ BitVec.ofNat 16 (b.toNat * 256)))))))))) 0xFFFF#16

/-- The primes below `n`. -/
def primesBelow (n : Nat) : List Nat :=
  (List.range n).filter fun p => 2 ≤ p && (List.range p).all fun d => d < 2 || p % d != 0

/-- The largest `r` of at most `b` bits above those of `r0` whose `k`-th power is not above `n`. -/
def rootFrom (k n : Nat) : Nat → Nat → Nat
  | 0, r => r
  | b + 1, r => rootFrom k n b (if (r + 2 ^ b) ^ k ≤ n then r + 2 ^ b else r)

/-- The first 32 bits of the fractional part of the `k`-th root of `p`, which FIPS 180-4 builds its constants from. -/
def rootFraction (k p : Nat) : BitVec 32 := BitVec.ofNat 32 (rootFrom k (p * 2 ^ (32 * k)) 37 0)

/-- The round constants of SHA-256: cube roots of the first 64 primes. -/
def shaK : List (BitVec 32) := (primesBelow 312).map (rootFraction 3)

/-- The initial hash value of SHA-256: square roots of the first eight primes. -/
def shaH0 : List (BitVec 32) := (primesBelow 20).map (rootFraction 2)

/-- Big-endian 32-bit words of a byte string. -/
def beWords : Nat → Bytes → List (BitVec 32)
  | 0, _ => []
  | k + 1, bs => BitVec.ofNat 32 (beNat (bs.take 4)) :: beWords k (bs.drop 4)

/-- The message schedule of SHA-256, newest word first, extended by `k` words. -/
def shaExtend : Nat → List (BitVec 32) → List (BitVec 32)
  | 0, w => w
  | k + 1, w =>
    let g := fun i => w.getD i 0
    let a := g 14
    let b := g 1
    let s0 := a.rotateRight 7 ^^^ a.rotateRight 18 ^^^ (a >>> 3)
    let s1 := b.rotateRight 17 ^^^ b.rotateRight 19 ^^^ (b >>> 10)
    shaExtend k ((g 15 + s0 + g 6 + s1) :: w)

/-- The eight working variables of SHA-256. -/
structure ShaVars where
  a : BitVec 32
  b : BitVec 32
  c : BitVec 32
  d : BitVec 32
  e : BitVec 32
  f : BitVec 32
  g : BitVec 32
  h : BitVec 32
  deriving DecidableEq, Repr

/-- One round of SHA-256 with round constant `k` and schedule word `w`. -/
def shaRound (v : ShaVars) (k w : BitVec 32) : ShaVars :=
  let s1 := v.e.rotateRight 6 ^^^ v.e.rotateRight 11 ^^^ v.e.rotateRight 25
  let ch := (v.e &&& v.f) ^^^ (~~~v.e &&& v.g)
  let t1 := v.h + s1 + ch + k + w
  let s0 := v.a.rotateRight 2 ^^^ v.a.rotateRight 13 ^^^ v.a.rotateRight 22
  let mj := (v.a &&& v.b) ^^^ (v.a &&& v.c) ^^^ (v.b &&& v.c)
  ⟨t1 + (s0 + mj), v.a, v.b, v.c, v.d + t1, v.e, v.f, v.g⟩

/-- One 64-byte block of SHA-256. -/
def shaBlock (h : List (BitVec 32)) (blk : Bytes) : List (BitVec 32) :=
  let w := (shaExtend 48 (beWords 16 blk).reverse).reverse
  let g := fun i => h.getD i 0
  let v0 : ShaVars := ⟨g 0, g 1, g 2, g 3, g 4, g 5, g 6, g 7⟩
  let v := (shaK.zip w).foldl (fun v kw => shaRound v kw.1 kw.2) v0
  [g 0 + v.a, g 1 + v.b, g 2 + v.c, g 3 + v.d, g 4 + v.e, g 5 + v.f, g 6 + v.g, g 7 + v.h]

/-- `k` blocks of SHA-256. -/
def shaBlocks : Nat → List (BitVec 32) → Bytes → List (BitVec 32)
  | 0, h, _ => h
  | k + 1, h, bs => shaBlocks k (shaBlock h (bs.take 64)) (bs.drop 64)

/-- SHA-256: 32 bytes. -/
def sha256 (m : Bytes) : Bytes :=
  let n := m.length
  let pad := (119 - n % 64) % 64
  let p := m ++ [0x80#8] ++ zeros pad ++ beBytes 8 (8 * n)
  (shaBlocks (p.length / 64) shaH0 p).flatMap (fun w => beBytes 4 w.toNat)

/-- HMAC-SHA-256 with a key of at most 64 bytes. -/
def hmac256 (key m : Bytes) : Bytes :=
  let k := key ++ zeros (64 - key.length)
  sha256 (k.map (· ^^^ 0x5C#8) ++ sha256 (k.map (· ^^^ 0x36#8) ++ m))

/-- The prime of the field of NIST P-256. -/
def p256P : Nat := 2 ^ 256 - 2 ^ 224 + 2 ^ 192 + 2 ^ 96 - 1

/-- The order of the base point of P-256. -/
def p256N : Nat := 0xffffffff00000000ffffffffffffffffbce6faada7179e84f3b9cac2fc632551

/-- The base point of P-256. -/
def p256G : Nat × Nat :=
  (0x6b17d1f2e12c4247f8bce6e563a440f277037d812deb33a0f4a13945d898c296,
   0x4fe342e2fe1a7f9b8ee7eb4a7c0f9e162bce33576b315ececbb6406837bf51f5)

/-- The coefficient b of P-256 (a is −3). -/
def p256B : Nat := 0x5ac635d8aa3a93e7b3ebbd55769886bc651d06b0cc53b0f63bce3c3e27d2604b

/-- `b ^ e mod m` over the `k` low bits of `e`, least significant first. -/
def powMod (m : Nat) : Nat → Nat → Nat → Nat
  | 0, _, _ => 1 % m
  | k + 1, b, e => (if e % 2 = 1 then b else 1) * powMod m k (b * b % m) (e / 2) % m

/-- The inverse modulo a prime of 256 bits. -/
def invMod (m a : Nat) : Nat := powMod m 256 (a % m) (m - 2)

/-- A point of P-256, `none` the point at infinity. -/
abbrev EcPoint := Option (Nat × Nat)

/-- Point addition on P-256. -/
def ecAdd (x y : EcPoint) : EcPoint :=
  match x, y with
  | none, q => q
  | p, none => p
  | some (x1, y1), some (x2, y2) =>
    let m := p256P
    if x1 = x2 ∧ (y1 + y2) % m = 0 then none
    else
      let l := if x1 = x2 ∧ y1 = y2 then (3 * x1 * x1 + (m - 3)) * invMod m (2 * y1) % m
        else (y2 + m - y1) * invMod m (x2 + m - x1) % m
      let x3 := (l * l + 2 * m - x1 - x2) % m
      some (x3, (l * (x1 + m - x3) + m - y1) % m)

/-- Scalar multiplication over the `k` low bits of the scalar. -/
def ecMul : Nat → Nat → EcPoint → EcPoint
  | 0, _, _ => none
  | k + 1, e, p => ecAdd (if e % 2 = 1 then p else none) (ecMul k (e / 2) (ecAdd p p))

/-- ECDSA P-256 verification of signature (r, s) over a 32-byte hash with the public key (x, y). -/
def ecdsaVerify (hash : Bytes) (r s : Nat) (q : Nat × Nat) : Bool :=
  let n := p256N
  let onCurve : Bool := q.1 < p256P && q.2 < p256P &&
    (q.2 * q.2 + 3 * q.1) % p256P == (q.1 * q.1 * q.1 + p256B) % p256P
  if onCurve && 0 < r && r < n && 0 < s && s < n then
    let w := invMod n s
    match ecAdd (ecMul 256 (beNat hash * w % n) (some p256G)) (ecMul 256 (r * w % n) (some q)) with
    | none => false
    | some (x, _) => x % n == r
  else false

end Sys2Proof.Machine
end

