-- ==== Sys2Proof/Machine/Float32.lean ====
section
/-! DEFINITION. IEEE 754 binary32 (REAL32 of R395): its values as exact rationals, and rounding to nearest, ties to even.
Every operation of the manual on binary32 values is the exact operation followed by this rounding. -/

namespace Sys2Proof.Machine

/-- 2 to an integer power. -/
def pow2 (e : Int) : Rat := if 0 ≤ e then ((2 ^ e.toNat : Nat) : Rat) else 1 / ((2 ^ (-e).toNat : Nat) : Rat)

/-- The value of a binary32 encoding; none for NaN and the infinities. -/
def f32Val (n : Nat) : Option Rat :=
  let ex : Nat := n / 2 ^ 23 % 256
  let m : Nat := n % 2 ^ 23
  let mag : Rat := if ex = 0 then (m : Rat) * pow2 (-149) else ((m + 2 ^ 23 : Nat) : Rat) * pow2 ((ex : Int) - 150)
  if ex = 255 then none else some (if n / 2 ^ 31 % 2 = 1 then -mag else mag)

/-- Round half to even of a non-negative rational. -/
def roundEven (q : Rat) : Nat :=
  let f := q.floor.toNat
  let d := q - (f : Rat)
  if d < 1 / 2 then f else if 1 / 2 < d then f + 1 else f + f % 2

/-- `floor(log2 q)` of a positive rational. -/
def ratLog2 (q : Rat) : Int :=
  let g : Int := (Nat.log2 q.num.toNat : Int) - (Nat.log2 q.den : Int)
  if pow2 g ≤ q then g else g - 1

/-- The binary32 encoding nearest to a rational, ties to even; overflow gives an infinity. -/
def f32Of (q : Rat) : Nat :=
  if q = 0 then 0
  else
    let sign := if q < 0 then 2 ^ 31 else 0
    let a := if q < 0 then -q else q
    let e := max (-126) (ratLog2 a)
    let m := roundEven (a * pow2 (23 - e))
    let code := ((e + 126).toNat) * 2 ^ 23 + m
    sign + min code (255 * 2 ^ 23)

/-- A binary32 number as an operand of arithmetic: zeros carry no sign, which no operation of the manual depends on. -/
inductive F32 where
  | fin (q : Rat)
  | inf (neg : Bool)
  | nan
  deriving DecidableEq, Repr

/-- A rational rounded to binary32. -/
def F32.round (q : Rat) : F32 :=
  match f32Val (f32Of q) with
  | some v => .fin v
  | none => .inf (q < 0)

/-- The value of a finite number. -/
def F32.val? : F32 → Option Rat
  | .fin q => some q
  | _ => none

/-- A product in binary32. -/
def F32.mul : F32 → F32 → F32
  | .fin a, .fin b => .round (a * b)
  | .inf m, .inf n => .inf (m != n)
  | .inf m, .fin b => if b = 0 then .nan else .inf (m != decide (b < 0))
  | .fin a, .inf n => if a = 0 then .nan else .inf (n != decide (a < 0))
  | _, _ => .nan

/-- A sum in binary32. -/
def F32.add : F32 → F32 → F32
  | .fin a, .fin b => .round (a + b)
  | .inf m, .inf n => if m = n then .inf m else .nan
  | .inf m, .fin _ => .inf m
  | .fin _, .inf n => .inf n
  | _, _ => .nan

/-- A quotient in binary32. -/
def F32.div : F32 → F32 → F32
  | .fin a, .fin b => if b = 0 then (if a = 0 then .nan else .inf (a < 0)) else .round (a / b)
  | .inf m, .fin b => .inf (m != decide (b < 0))
  | .fin _, .inf _ => .fin 0
  | _, _ => .nan

/-- Comparison: false for a NaN. -/
def F32.lt : F32 → F32 → Bool
  | .fin a, .fin b => a < b
  | .inf m, .inf n => m && !n
  | .inf m, .fin _ => m
  | .fin _, .inf n => !n
  | _, _ => false

/-- Comparison: false for a NaN. -/
def F32.le (a b : F32) : Bool := a.lt b || (a != .nan && a == b)

/-- Round half up of R510. -/
def roundQ (q : Rat) : Int := (q + 1 / 2).floor

end Sys2Proof.Machine
end

