-- ==== Sys2Proof/Machine/Trig.lean ====
section
/-! DEFINITION. Sine, cosine, angles between directions and logarithm, in fixed point with 64 fractional bits. The manual
writes these functions without a rounding; the error here lies below the last bit that any result keeps (assumption 11). -/

namespace Sys2Proof.Machine

/-- One in fixed point. -/
def fxOne : Int := 2 ^ 64

/-- A rational in fixed point, rounded half up. -/
def fxOf (q : Rat) : Int := roundQ (q * (fxOne : Rat))

/-- A fixed-point value as a rational. -/
def fxRat (x : Int) : Rat := (x : Rat) / (fxOne : Rat)

/-- The product of two fixed-point values. -/
def fxMul (a b : Int) : Int := (2 * a * b + fxOne) / (2 * fxOne)

/-- π in fixed point. -/
def fxPi : Int := 57952155664616982739

/-- The terms of the sine and cosine series from a term on: `k` terms, the next divisor factor `d`. -/
def trigSeries : Nat → Int → Int → Nat → Int
  | 0, _, _, _ => 0
  | k + 1, t, x2, d => t + trigSeries k (-(fxMul t x2) / ((d * (d + 1) : Nat) : Int)) x2 (d + 2)

/-- Cosine of an angle in radians in fixed point, |x| ≤ π. -/
def fxCosR (x : Int) : Int := trigSeries 24 fxOne (fxMul x x) 1

/-- Sine of an angle in radians in fixed point, |x| ≤ π. -/
def fxSinR (x : Int) : Int := trigSeries 24 x (fxMul x x) 2

/-- An angle in 0.001° as radians in fixed point, reduced to half a turn either way. -/
def mdegRad (q : Rat) : Int :=
  let n := (q / 360000 + 1 / 2).floor
  let r := q - 360000 * (n : Rat)
  fxMul (fxOf (r / 180000)) fxPi

/-- Cosine of an angle in 0.001°. -/
def cosMdeg (q : Rat) : Int := fxCosR (mdegRad q)

/-- Sine of an angle in 0.001°. -/
def sinMdeg (q : Rat) : Int := fxSinR (mdegRad q)

/-- The angle in `[lo, lo + 2^k)` whose cosine is `c`, by bisection: cosine falls from 0 to π. -/
def fxAcosAux : Nat → Int → Int → Int
  | 0, lo, _ => lo
  | k + 1, lo, c =>
    let m := lo + 2 ^ k
    if m ≤ fxPi && c ≤ fxCosR m then fxAcosAux k m c else fxAcosAux k lo c

/-- Arc cosine in radians, fixed point. -/
def fxAcos (c : Int) : Int := fxAcosAux 66 0 (clampI (-fxOne) fxOne c)

/-- The angle in radians between two directions (azimuth, elevation) in 0.001°. -/
def angleBetween (h1 v1 h2 v2 : Rat) : Rat :=
  let dot := fxMul (fxMul (cosMdeg v1) (cosMdeg v2)) (cosMdeg (h1 - h2)) + fxMul (sinMdeg v1) (sinMdeg v2)
  fxRat (fxAcos dot)

/-- `2 · artanh(z)` by its series: `k` terms from the power `p` and divisor `d`. -/
def artanhSeries : Nat → Int → Int → Nat → Int
  | 0, _, _, _ => 0
  | k + 1, p, z2, d => 2 * p / (d : Int) + artanhSeries k (fxMul p z2) z2 (d + 2)

/-- ln 2 in fixed point. -/
def fxLn2 : Int := 12786308645202655660

/-- The natural logarithm of a positive rational, fixed point. -/
def fxLn (q : Rat) : Int :=
  let e := ratLog2 q
  let m := q * pow2 (-e)
  e * fxLn2 + artanhSeries 40 (fxOf ((m - 1) / (m + 1))) (fxMul (fxOf ((m - 1) / (m + 1))) (fxOf ((m - 1) / (m + 1)))) 1

end Sys2Proof.Machine
end

