-- ==== Sys2Proof/Config.lean ====
section
/-! DEFINITION. What an implementation of the block fixes, and the values the manual leaves open. A constant without a
body is a free value: nothing in Lean can evaluate it. -/

namespace Sys2Proof.Config

/-- A fresh unconstrained number, by the count of free values taken (assumption 5). -/
opaque freeNat : Nat → Nat

/-- The hardware random generator of R403: byte `i` of draw `n`. -/
opaque randomByte : Nat → Nat → Byte

/-- The default walk table per detector type (0x3010+n:07): entry `i` of type `t`, in 1.953125 ps. The manual gives no
values (assumption 6). -/
opaque walkDefault : Nat → Nat → BitVec 16

/-- What the trace buffer's memory held where a recording wrote nothing (assumption 9). -/
opaque traceStale : Nat → Byte

/-- The transmit taps of a TRAIN preset (R352; assumption 10): preset 1–3, tap 0–2. -/
opaque tapPreset : Nat → Nat → BitVec 8

/-- What an adapting equaliser asks of the partner's transmitter, by draw: for c−1, c0 and c+1, and the preset (R352,
R356): the manual gives no algorithm (assumption 83). -/
opaque tapRequest : Nat → Nat → Nat

/-- What the eye monitor of a lane in DATA measures in a tick: height and width (R370), by draw and lane (assumption 83). -/
opaque eyeReading : Nat → Nat → BitVec 16 × BitVec 16

/-- The words of a segment beyond its valid ones, by draw and word (R354; assumption 83). -/
opaque fillWord : Nat → Nat → BitVec 64

/-- What the demosaic stage takes for a line that was dropped inside a frame, by draw and column (R290, R292). -/
opaque mosaicOpen : Nat → Nat → BitVec 16

/-- What is left of a gap between the baseline estimate and the input baseline (R53), by the time constant and the time
run, both in 1.953125 ps, and the gap in mV: the rule gives the constant of an analogue circuit (assumption 70). -/
opaque baselineLeft : Nat → Nat → Int → Int

/-- What the internal address space holds where the manual gives no layout: block registers, NOR records, controller
memories (R49), by draw and address. -/
opaque innerByte : Nat → Nat → Byte

/-- Which unit an address of the block-register space belongs to (R49): the manual places no unit there (assumption 60). -/
opaque regUnit : Nat → Nat

/-- Where the PCI Express function keeps its capabilities of R371 and R373, and its vendor: PCI leaves the offsets to the
device, and the manual gives none (assumption 61). -/
opaque pmCapability : Nat
opaque pcieCapability : Nat
opaque msixCapability : Nat
opaque serialCapability : Nat
opaque secondaryCapability : Nat
opaque physCapability : Nat
opaque marginCapability : Nat
opaque substateCapability : Nat
opaque vendorId : BitVec 16

/-- Of the ring-check frame of R412 the group within the locally administered multicast addresses and what follows the
EtherType, and the flush frame: the manual does not lay them out. -/
opaque ringGroup : BitVec 48
opaque ringCheckBody : Bytes
opaque flushFrame : Bytes

/-- The address to which process data goes that carries the telegrams of a BSL connection: the manual gives none. -/
opaque bslAddress : Nat → BitVec 32

end Sys2Proof.Config
end

