-- ==== Sys2Proof/Machine/State.lean ====
section
/-! DEFINITION. The state of the block: every register, buffer, counter, mode and pin the manual names, as plain data,
and the queue of waiting commands. Each unit of the device has a structure of its own; the defaults of the fields are
the values of `State.reset`. Counters and settings that are objects of the dictionary stand in `State.od`. -/

namespace Sys2Proof.Machine

/-- A sparse table: pairs of key and value, keys strictly rising. -/
abbrev Tbl (α : Type) := List (Nat × α)

/-- The value of an object of the dictionary (R395): a number, or a byte string. -/
inductive Val where
  | num (v : Int)
  | bytes (v : Bytes)
  deriving DecidableEq, Repr

/-- The variants of R4. -/
inductive Variant where
  | fc | f | c | lf
  deriving DecidableEq, Repr

/-- The fuses and OTP words read at reset release (R6, R11, R12, R377, R410, R425). -/
structure Fuses where
  variant : Variant := .fc
  screenA : Bool := true
  step    : BitVec 8 := 0
  serial  : BitVec 64 := 0
  mac     : BitVec 48 := 0
  /-- the fuse default of the dither seed, never zero (R158) -/
  dither  : BitVec 31 := 1
  /-- QDR-IV SRAM fitted on the board, in bytes, read at boot (R49, R377; assumption 7) -/
  qdr     : Nat := 75497472
  deriving DecidableEq, Repr

/-! ### The host interface (R371 to R394) -/

/-- A unit of a stream (R361): the unit word and its words, with what the sinks must count. -/
structure OutUnit where
  stream  : Nat
  word    : BitVec 64
  words   : List (BitVec 64)
  records : Nat := 0
  /-- the camera's frame a line belongs to, by its order of arrival (R297); no field of the unit -/
  frame   : Nat := 0
  deriving DecidableEq, Repr

/-- A push ring (R388). -/
structure Ring where
  base        : BitVec 64 := 0
  size        : Nat := 12
  hwb         : Bool := false
  pull        : Bool := false
  enable      : Bool := false
  head        : Nat := 0
  tail        : Nat := 0
  hwbAddr     : BitVec 64 := 0
  intBytes    : Nat := 0
  intUsec     : Nat := 0
  dropUnits   : Nat := 0
  dropRecords : Nat := 0
  staged      : List OutUnit := []
  /-- the bytes of the oldest staged entry that pull reads have already consumed (R392) -/
  pulled      : Nat := 0
  /-- bytes published or staged since the ring bit was last set (R390) -/
  sinceInt    : Nat := 0
  /-- the tick of the first entry not yet signalled (R390) -/
  unsignalled : Option Nat := none
  tailErr     : Bool := false
  /-- the streams and frame numbers whose remaining lines are dropped (R391) -/
  cut         : List (Nat × Nat) := []
  deriving DecidableEq, Repr

/-- An entry of the access-fault log (R393). -/
structure FaultEntry where
  addr   : Nat
  client : Nat
  type   : Nat
  write  : Bool
  tick   : Nat
  deriving DecidableEq, Repr

/-- The mailbox states (R382). -/
inductive MboxState where
  | idle | queued | busy | done
  deriving DecidableEq, Repr

/-- The mailbox (R382, R383). -/
structure Mailbox where
  req     : Bytes := []
  resp    : Bytes := []
  reqLen  : Nat := 0
  respLen : Nat := 0
  status  : Nat := 0
  valid   : Bool := false
  state   : MboxState := .idle
  deriving DecidableEq, Repr

/-- The data port (R384). -/
structure DataPort where
  addr     : BitVec 40 := 0
  sel      : BitVec 8 := 0
  window   : Bool := false
  enable   : Bool := false
  errSize  : Bool := false
  errFault : Bool := false
  underrun : Bool := false
  config   : Bool := false
  deriving DecidableEq, Repr

/-- The PCI Express attachment and the register window (R371 to R394). -/
structure HostSt where
  linkUp      : Bool := false
  speed       : Nat := 0
  width       : Nat := 0
  bme         : Bool := false
  mps         : Nat := 128
  /-- the function's power state: D3hot instead of D0 (R371); the base addresses of BAR0 and BAR2 (R373) -/
  d3          : Bool := false
  bar0        : BitVec 64 := 0
  bar2        : BitVec 64 := 0
  /-- what software has written to the capabilities of R371, by the offset of the doubleword -/
  caps        : Tbl (BitVec 32) := []
  /-- upper halves latched by a 32-bit read of the lower half (R375): TICK, TIME, ADDR -/
  tickHi      : Option Nat := none
  timeHiLatch : Option Nat := none
  addrHi      : Option Nat := none
  /-- the time latch (R378): the result registers and the device time of a latch under way -/
  timeLo      : Nat := 0
  timeHi      : Nat := 0
  timeValid   : Bool := false
  latching    : Option Nat := none
  /-- the HOST votes (R379) -/
  vote        : BitVec 9 := 0
  intStatus   : BitVec 21 := 0
  intEnable   : BitVec 21 := 0
  ringInt     : BitVec 16 := 0
  ringEnable  : BitVec 16 := 0
  /-- MSI-X: vector masks, the function mask and the pending bits (R373, R381) -/
  vecMask     : BitVec 64 := BitVec.allOnes 64
  funMask     : Bool := false
  pba         : BitVec 64 := 0
  /-- the MSI-X table: address and data of each vector (R376) -/
  vecAddr     : Tbl (BitVec 64) := []
  vecData     : Tbl (BitVec 32) := []
  mbox        : Mailbox := {}
  dp          : DataPort := {}
  rings       : Tbl Ring := []
  log         : List FaultEntry := []
  lost        : Nat := 0
  deriving DecidableEq, Repr

/-! ### The object dictionary, its sessions and its stores (R395 to R410) -/

/-- The four access roles (R397, R403). -/
inductive Role where
  | host | net | safeCfg | service
  deriving DecidableEq, Repr

/-- A nonce given by CHALLENGE (R403). -/
structure Nonce where
  role : Role
  val  : Bytes
  tick : Nat
  deriving DecidableEq, Repr

/-- A segmented read's snapshot (R407). -/
structure Snapshot where
  index : Nat
  sub   : Nat
  value : Bytes
  /-- the chunks read so far, as (offset, length) -/
  read  : List (Nat × Nat)
  tick  : Nat
  deriving DecidableEq, Repr

/-- A segmented write in progress (R407). -/
structure Xfer where
  index : Nat
  sub   : Nat
  total : Nat
  got   : Bytes
  /-- the offset of the latest chunk taken -/
  prev  : Nat
  tick  : Nat
  deriving DecidableEq, Repr

/-- A session (R402 to R407). -/
structure Session where
  number  : Nat
  via     : Transport
  role    : Role
  version : Nat
  lastReq : Nat
  lastTag : Option (BitVec 16) := none
  cached  : Bytes := []
  nonce   : Option Nonce := none
  snap    : Option Snapshot := none
  xfer    : Option Xfer := none
  deriving DecidableEq, Repr

/-- The writes that are answered later (R405, R399, R410, R484, R486). -/
inductive LongKind where
  | plan | storeCfg | pairCfg | deleteCfg | persist | keySafe | keyService | confirm | segment
  deriving DecidableEq, Repr

/-- A write that waits for its answer. -/
structure LongWrite where
  kind  : LongKind
  req   : Req
  index : Nat
  sub   : Nat
  cmd   : BitVec 8
  /-- a reset of R374 came since: the answer is discarded -/
  drop  : Bool := false
  deriving DecidableEq, Repr

/-- One persistent copy in QSPI NOR (R399): its store count and its values. -/
structure StoreCopy where
  count : Nat
  vals  : Tbl Val
  deriving DecidableEq, Repr

/-- The failed AUTHs and the lockout of one kind of transport (R403). -/
structure AuthSt where
  fails   : List Nat := []
  lockout : Option Nat := none
  deriving DecidableEq, Repr

/-- Sessions, waiting answers and the persistent stores. -/
structure OdxSt where
  sessions : List Session := []
  longs    : List LongWrite := []
  authMbx  : AuthSt := {}
  authNet  : AuthSt := {}
  copyA    : Option StoreCopy := none
  copyB    : Option StoreCopy := none
  /-- a start-up plan being programmed (R188) -/
  planStore : Option Bytes := none
  /-- the values a store under way has taken (R399) -/
  storing  : Option (Tbl Val) := none
  /-- the role keys and the start-up plan, in QSPI NOR by their own writes (R398) -/
  keySafe  : Bytes := List.replicate 32 0
  keyServ  : Bytes := List.replicate 32 0
  keyNew   : Bytes := []
  startUp  : Bytes := []
  /-- the network requests that wait to be taken, and whose turn it is where the mailbox holds one too (R405) -/
  netQ     : List (Transport × Bytes) := []
  turnMbx  : Bool := false
  /-- the start-up plan waits for the end of the full calibration (R190) -/
  startDue : Bool := false
  deriving DecidableEq, Repr

/-! ### The field network (R411 to R417) and device time (R418 to R424) -/

/-- An entry of the peer table (R417). -/
structure Peer where
  ip     : BitVec 32
  mac    : BitVec 48
  port   : Nat
  ann    : Bool
  comId  : Nat
  tick   : Nat
  serial : BitVec 32
  deriving DecidableEq, Repr

/-- An entry of the switch's address table (R411). -/
structure AddrEntry where
  mac  : BitVec 48
  port : Nat
  tick : Nat
  deriving DecidableEq, Repr

/-- The switch, the ring and the network stack. -/
structure NetSt where
  link1    : Nat := 0
  link2    : Nat := 0
  addrs    : List AddrEntry := []
  ring     : Nat := 0
  /-- consecutive 10 ms periods without, and with, a ring check on port 2 (R412) -/
  missRun  : Nat := 0
  seenRun  : Nat := 0
  /-- tick of the latest ring check sent -/
  lastRing : Nat := 0
  peers    : List Peer := []
  /-- tick of the latest announcement, and the announcements sent (R415) -/
  lastAnn  : Option Nat := none
  annSeq   : Nat := 0
  /-- by BSL connection, the sequence number of its next process data telegram (R414) -/
  bslSeq   : Tbl Nat := []
  /-- the egress queues (R411), queue k of port p at 4 × p + k: frames and whether they end with an invalid FCS; and by port
  the bytes that the line still carries in this tick, where it is not a whole tick's -/
  queues   : Tbl (List (Bytes × Bool)) := []
  room     : Tbl Int := []
  deriving DecidableEq, Repr

/-- The time states (R420). -/
inductive TimeState where
  | unsync | acquiring | locked | holdover
  deriving DecidableEq, Repr

/-- An Announce held for a port (R422): its priority vector as a number, the lower the better; grandmaster and UTC offset;
and the ticks in which it ages out and, once a Sync of it has come, in which its Sync times out. -/
structure Master where
  vector : Nat
  gm     : BitVec 64
  utc    : Option (BitVec 16)
  until_ : Nat
  syncBy : Option Nat := none
  deriving DecidableEq, Repr

/-- The exchange of messages of source 2 (R423): the master's latest Sync, by its sequence number, correction in ns, arrival in
device time and, once it is known, origin time; and the own Delay_Reqs: the log interval that the master asks for, the tick of
the latest and its sequence number. -/
structure PtpSt where
  syncSeq   : Option Nat := none
  syncCorr  : Int := 0
  arrival   : Nat := 0
  origin    : Option Nat := none
  delayLog  : Int := 0
  delayTick : Option Nat := none
  delaySeq  : Nat := 0
  deriving DecidableEq, Repr

/-- The device time base (R418 to R424). `c` is C in units of 2^−32 ns. -/
structure TimeSt where
  c          : Nat := 0
  /-- the rate correction, in ppb; it stands from a REF cycle of the tick on, to which C has advanced by so much -/
  rho        : Int := 0
  part       : Nat := 0
  adv        : Nat := 0
  /-- a step waiting for the next t+0, in ns -/
  step       : Option Int := none
  tickOf     : Nat := 0
  tDev       : Nat := 0
  state      : TimeState := .unsync
  everLocked : Bool := false
  /-- C has been stepped since reset (R421) -/
  stepped    : Bool := false
  /-- consecutive measurements below 1 µs, and at 10 µs or more (R420) -/
  near       : Nat := 0
  far        : Nat := 0
  /-- tick of the latest valid measurement, and its offset in ns -/
  lastMeas   : Nat := 0
  lastOffset : Int := 0
  backward   : Bool := false
  /-- PPS: a written second and the device time at its acceptance, and the second of the next edge (R424) -/
  ppsWritten : Option (Nat × Nat) := none
  ppsNext    : Option Nat := none
  /-- IEEE 802.1AS (R422), by port, 0 for source 2: the best Announce heard, the neighbour's rate offset in ppb, and the tick of the latest
  Pdelay_Req with whether its exchange is still open -/
  masters    : Tbl Master := []
  ratios     : Tbl Int := []
  pdelays    : Tbl (Nat × Bool) := []
  /-- the device time of a Delay_Req that waits for its response, and the messages of the exchange (R423) -/
  delayReq   : Option Nat := none
  ptp        : PtpSt := {}
  deriving DecidableEq, Repr

/-! ### Power states and supply (R426 to R452) -/

/-- The power states (R426). -/
inductive PState where
  | run | quiet | doze | standby | off
  deriving DecidableEq, Repr

/-- The phases of a downward entry (R434). -/
inductive EntryPhase where
  | stop | drain
  deriving DecidableEq, Repr

/-- A downward entry under way. -/
structure Entry where
  /-- the state being entered now, and the state the chain ends in -/
  dest   : PState
  final  : PState
  phase  : EntryPhase
  forced : Bool
  /-- tick of acceptance and tick in which phase A ended -/
  start  : Nat
  phaseB : Nat := 0
  /-- a latched wake event (R441), by its code -/
  wake   : Option Nat := none
  deriving DecidableEq, Repr

/-- An upward step under way: QUIET to RUN, or an exit from DOZE (R433, R442). -/
structure Exit where
  dest  : PState
  start : Nat
  deriving DecidableEq, Repr

/-- A PWR_FAIL_N quiesce (R447 to R451). -/
structure Quiesce where
  tick    : Nat
  time    : Nat
  pBefore : Nat
  eBefore : Nat
  iBefore : Nat
  steps   : Nat
  nor     : Nat
  deriving DecidableEq, Repr

/-- Power states, votes and the Sluice gate. Vote maps use the layout of R379. -/
structure PwrSt where
  state     : PState := .run
  entry     : Option Entry := none
  exit      : Option Exit := none
  /-- a forced entry that waits for a running transition (R436) -/
  forced    : Bool := false
  /-- domains powered, domains waiting for power good, domains in their own start-up -/
  on        : BitVec 9 := 0
  rising    : BitVec 9 := 0
  starting  : BitVec 9 := 0
  /-- domains in retention or idle in DOZE (R427) -/
  idle      : BitVec 9 := 0
  /-- the votes registered in AON -/
  hostV     : BitVec 9 := 0
  netV      : BitVec 9 := 0
  fwV       : BitVec 9 := 0
  safeV     : BitVec 9 := 0
  pinV      : BitVec 9 := 0
  /-- vote handshakes running and the latest held value, per client -/
  sending   : Tbl (BitVec 9) := []
  held      : Tbl (BitVec 9) := []
  wakePin   : Bool := false
  pwrFailN  : Bool := true
  pfState   : Nat := 0
  pfRise    : Option Nat := none
  quiesce   : Option Quiesce := none
  /-- the RTC (AON): whole seconds are object 0x9003:01, this is the part below, in ns -/
  rtcSub    : Nat := 0
  /-- the emission-stop record in AON: the RTC seconds at which emission was last known on or stopped (R195) -/
  stopRec   : Option Nat := none
  /-- the VAON cells (R445, R451) -/
  supply    : BitVec 32 := 0x80000000
  record    : Bytes := List.replicate 24 0
  vaonOk    : Bool := true
  deriving DecidableEq, Repr

/-! ### Reset, boot and update (R471 to R487) -/

/-- One copy of the boot control record (R479). -/
structure BootCtl where
  seq    : Nat
  active : Nat
  trial  : Option Nat
  tried  : Bool
  deriving DecidableEq, Repr

/-- An image slot of the QSPI NOR (R476, R477): 4,096 header bytes and the payload; erased bytes read 0xFF. -/
structure Slot where
  header  : Bytes := []
  payload : Bytes := []
  deriving DecidableEq, Repr

/-- Where the device stands between reset and firmware. -/
inductive BootPhase where
  | held | rom | firmware | recovery
  deriving DecidableEq, Repr

/-- The update states (R484). -/
inductive UpdState where
  | idle | erasing | opened | verified | activated | failed
  deriving DecidableEq, Repr

/-- What the QSPI NOR is busy with for the update (R449, R485). -/
inductive NorOp where
  | idle | erase | program
  deriving DecidableEq, Repr

/-- Reset, boot and field update. -/
structure BootSt where
  phase     : BootPhase := .held
  /-- AON: the reset cause record, the latest causes, RESET_N -/
  causes    : BitVec 16 := 1
  last      : BitVec 16 := 1
  resetLow  : Bool := false
  ignored   : Bool := false
  stuck     : Bool := false
  wakeBoot  : Bool := false
  /-- boot results -/
  slot      : Nat := 0
  mode      : Nat := 0
  status0   : Nat := 0
  status1   : Nat := 0
  released  : Nat := 0
  ver0      : Nat := 0
  ver1      : Nat := 0
  svn0      : Nat := 0
  svn1      : Nat := 0
  restored  : Nat := 0
  /-- the reason of a fallback: a trial that was not confirmed (R479) -/
  unconfirmed : Bool := false
  /-- OTP -/
  keyHash   : List Bytes := [List.replicate 32 0, List.replicate 32 0, List.replicate 32 0, List.replicate 32 0]
  revoked   : BitVec 4 := 0
  rollback  : BitVec 64 := 0
  /-- QSPI NOR: the two boot control copies and the two slots -/
  ctlA      : Option BootCtl := none
  ctlB      : Option BootCtl := none
  slot0     : Slot := {}
  slot1     : Slot := {}
  /-- update -/
  upd       : UpdState := .idle
  target    : Nat := 0
  programmed : Nat := 0
  reason    : Nat := 0
  updHeader : Bytes := []
  /-- the payload has passed its check: the header is programmed last (R485) -/
  headerDue : Bool := false
  nor       : NorOp := .idle
  /-- the controllers' local memories: the bytes written (R49) -/
  localMem  : Tbl Byte := []
  /-- the output resets of R489 -/
  qspiRst   : Bool := false
  phyRst    : Bool := false
  /-- the level of TEST_EN, which the integrator ties to VSS (R489) -/
  testEn    : Bool := false
  deriving DecidableEq, Repr

/-! ### Emitter channels (R199 to R227) and Weir (R191 to R196) -/

/-- The emission states (R207). -/
inductive EmState where
  | off | fadeIn | on | fadeOut | halted
  deriving DecidableEq, Repr

/-- The states of a bank (0x4014). -/
inductive BankState where
  | ok | under | overVoltage | short | stuckOn
  deriving DecidableEq, Repr

/-- The diagnosis states of an emitter (R220). -/
inductive Diag where
  | untested | ok | weak | opened | short | stuckOn
  deriving DecidableEq, Repr

/-- A set-point of a bank: the voltage squared, exact, in mV² (R204), and the voltage in µV. -/
structure SetPoint where
  v2 : Rat := 0
  uv : Nat := 0
  deriving DecidableEq, Repr

/-- An emitter bank (R203 to R213). -/
structure Bank where
  phi     : Rat := 0
  phi0    : Rat := 0
  target  : Rat := 0
  /-- a derate has limited the running fade-out (R213) -/
  capped  : Bool := false
  /-- step and length of the running fade; the length is 0 when no fade runs -/
  step    : Nat := 0
  steps   : Nat := 0
  /-- the set-point of the current tick's shots, the one in force (for the next tick's shots, R205), and the one that the
  shadow holds for the tick after -/
  shotSp  : SetPoint := {}
  now     : SetPoint := {}
  next    : SetPoint := {}
  readback : Nat := 0
  run     : Nat := 0
  overSeen : Bool := false
  locked  : Bool := false
  settle  : Nat := 0
  st      : BankState := .ok
  deriving DecidableEq, Repr

/-- An emitter channel's diagnosis (R219, R220). -/
structure Emitter where
  diag      : Diag := .untested
  ratio     : Nat := 0
  lastProbe : Nat := 0
  scheduled : Bool := false
  /-- ticks that it has been due while emission was on, and whether that was counted (R219) -/
  dueFor    : Nat := 0
  overdue   : Bool := false
  deriving DecidableEq, Repr

/-- A sense group of four emitters (R214 to R218). -/
structure Group where
  quietRun : Nat := 0
  below    : Nat := 0
  stuck    : Bool := false
  /-- the diagnosis window: ticks entered, A (16 entries, row by row), b, the sum of Q, the emitters fired -/
  ticks    : Nat := 0
  a        : List Rat := []
  bv       : List Rat := []
  sumQ     : Rat := 0
  fired    : BitVec 4 := 0
  deriving DecidableEq, Repr

/-- A shot of one emitter in one tick. Energies are in 1/256 nJ (R193), charges in pC. -/
structure Shot where
  cls    : Nat
  /-- launch instant after t+0, in 62.5 ps (R23) -/
  launch : Nat
  /-- trigger width in 250 ps, and the spacing of a second pulse in ns, 0 for none (R200, R201) -/
  width  : Nat
  second : Nat
  cell   : Nat
  energy : Nat
  charge : Rat
  fired  : Bool := false
  /-- the second pulse's edge has left EMIT (R202); a second pulse that an inhibit suppressed has spacing 0 -/
  secondOut : Bool := false
  deriving DecidableEq, Repr

/-- A probe selected for the end of a tick (R219). -/
structure Probe where
  /-- the tick in which it fires -/
  tick   : Nat := 0
  e      : Nat
  cell   : Nat
  energy : Nat
  charge : Rat
  /-- the modelled peak current in mA -/
  peak   : Rat
  deriving DecidableEq, Repr

/-- The emitter drive. -/
structure EmitSt where
  state    : EmState := .off
  enable   : Bool := false
  /-- an enable or disable written and not yet taken in a shadow load (R207) -/
  request  : Option Bool := none
  active   : BitVec 12 := 0
  latched  : BitVec 12 := 0
  /-- watchdog causes that inhibit emission from the next tick (R47) -/
  wdtDue   : BitVec 12 := 0
  banks    : Tbl Bank := []
  emitters : Tbl Emitter := []
  groups   : Tbl Group := []
  /-- the shots of the current tick, and those the shadow holds for the next -/
  shots    : Tbl Shot := []
  shadow   : Tbl Shot := []
  /-- the probes selected in this tick's shadow load, and those fired at the end of the tick before -/
  probes   : List Probe := []
  probed   : List Probe := []
  /-- the last four valid NTC temperatures, newest first, in 10^−6 °C, and the runs of R223 -/
  ntc      : List Int := []
  validRun : Nat := 0
  badRun   : Nat := 0
  /-- the derate level in force, and the one decided by the latest reading (R221) -/
  derate   : Nat := 0
  derateNext : Nat := 0
  thermal  : Bool := false
  ntcFault : Bool := false
  /-- probes whose peak is to be converted, by sense group (R219) -/
  awaiting : Tbl Probe := []
  /-- the energy model, probe model and cell objects in force, as they were written at t+0 (R196, R227) -/
  model    : Tbl Val := []
  deriving DecidableEq, Repr

/-- The sums of one cell (R192), in 1/256 nJ: charges per tick, per bucket of 64 ticks and per bucket of 1,024 ticks. -/
structure Cell where
  w1 : Tbl Nat := []
  w2 : Tbl Nat := []
  w3 : Tbl Nat := []
  deriving DecidableEq, Repr

/-- A planned shot that passed the pre-check (R194), with its model charge in 1/256 nJ. -/
structure Planned where
  tick   : Nat
  e      : Nat
  cell   : Nat
  charge : Nat
  deriving DecidableEq, Repr

/-- Weir. -/
structure WeirSt where
  cells   : Tbl Cell := []
  planned : List Planned := []
  /-- tick of a start that preloaded the newest buckets (R195) -/
  hold    : Option Nat := none
  deriving DecidableEq, Repr

/-! ### The safety island (R301 to R328) -/

/-- The island states (R303). -/
inductive IslState where
  | init | service | safe | operate | lockout
  deriving DecidableEq, Repr

/-- The function groups of R313 and R327. -/
inductive FGroup where
  | detection | input | output | comm | beam | platform
  deriving DecidableEq, Repr

/-- A stored safety configuration (R304, R306); one whose store was interrupted is not whole, and its CRC does not hold
(R449). -/
structure SafeCfg where
  crc   : BitVec 32
  vals  : Tbl Val
  whole : Bool := true
  deriving DecidableEq, Repr

/-- A configuration command whose NOR write is under way (R306). -/
inductive CfgWrite where
  | store (n : Nat) (c : SafeCfg)
  | pair (n : Nat) (crc : BitVec 32)
  | delete (n : Nat)
  deriving DecidableEq, Repr

/-- One output and its feedback (R315). -/
structure Ossd where
  on       : Bool := false
  fb       : Bool := false
  /-- tick of the last transition, consecutive mismatching samples, consecutive matching samples -/
  changed  : Nat := 0
  mism     : Nat := 0
  good     : Nat := 0
  /-- tick in which the latest test pulse since OPERATE was entered began, and whether the pin is low for it -/
  pulsed   : Option Nat := none
  inPulse  : Bool := false
  deriving DecidableEq, Repr

/-- A coverage cell of a zone (R310 to R312): the tick of its last complete coverage, whether it has been covered since
activation, and the coverages since the last violating column. -/
structure CovCell where
  last    : Nat := 0
  covered : Bool := false
  clear   : Nat := 0
  deriving DecidableEq, Repr

/-- A protective zone's evaluation (R309 to R312). -/
structure ZoneSt where
  violated : Bool := false
  /-- the column being counted, and the channels counted in it -/
  col      : Option Nat := none
  chans    : BitVec 512 := 0
  /-- whether the column being counted violates the zone -/
  colBad   : Bool := false
  /-- the markers of the column being covered: its number, the channels that delivered, the azimuth intervals -/
  mCol     : Option Nat := none
  mChans   : BitVec 512 := 0
  mSpans   : List (Int × Int) := []
  /-- the cells that this column has covered -/
  mDone    : List Nat := []
  cells    : Tbl CovCell := []
  fault    : Bool := false
  deriving DecidableEq, Repr

/-- A dual-channel input (R318). `since` is the tick from which it has read active. -/
structure SafeInput where
  count    : Nat := 0
  faulty   : Bool := false
  seenSafe : Bool := false
  value    : Bool := false
  since    : Nat := 0
  deriving DecidableEq, Repr

/-- The states of a BSL connection (0x8400+c:0D). -/
inductive BslState where
  | down | connecting | data
  deriving DecidableEq, Repr

/-- A BSL connection (R322 to R326). -/
structure Bsl where
  st       : BslState := .down
  version  : Nat := 0
  mac      : Bool := false
  nextSeq  : Nat := 1
  lastSeq  : Nat := 0
  lastTime : Nat := 0
  /-- tick of the last telegram sent, of the last accepted, and of a REJECT -/
  sent     : Option Nat := none
  heard    : Nat := 0
  rejected : Option Nat := none
  payload  : BitVec 8 := 0
  deriving DecidableEq, Repr

/-- A record copy without colour (R33, R270), as the island's evaluator uses it. -/
structure IslRecord where
  chan  : Nat
  range : Nat
  az    : Int
  cls   : Nat
  coarse : Bool
  /-- NO_RETURN: never counted (R308) -/
  empty : Bool
  col   : Nat
  tick  : Nat
  deriving DecidableEq, Repr

/-- A coverage marker (R311). -/
structure IslMarker where
  chan  : Nat
  col   : Nat
  shots : Nat
  lo    : Int
  hi    : Int
  tick  : Nat
  deriving DecidableEq, Repr

/-- An item of the island's FIFO (R44). -/
inductive IslItem where
  | record (r : IslRecord)
  | marker (m : IslMarker)
  deriving DecidableEq, Repr

/-- The safety island. -/
structure IslSt where
  st        : IslState := .init
  active    : BitVec 17 := 0
  latched   : BitVec 17 := 0
  /-- the lockout latch and its causes, in VAON-powered cells (R303, R444) -/
  lockout   : BitVec 17 := 0
  /-- the code read at the last AON power-on (R305, R471), and the run of identical valid samples -/
  code      : Option Nat := none
  sample    : BitVec 16 := 0
  sealRun   : Nat := 0
  samples   : Nat := 0
  selBad    : Bool := false
  glitches  : Nat := 0
  cfgNum    : Nat := 0
  cfgCrc    : BitVec 32 := 0
  stored    : Tbl SafeCfg := []
  paired    : Tbl (BitVec 32) := []
  outA      : Ossd := {}
  outB      : Ossd := {}
  zones     : Tbl ZoneSt := []
  /-- the tick of the last entry into SAFE from INIT (R312) -/
  activated : Nat := 0
  inputs    : Tbl SafeInput := []
  bsl       : Tbl Bsl := []
  fifo      : List IslItem := []
  /-- configuration commands whose NOR write is under way, oldest first (R306) -/
  writes    : List CfgWrite := []
  /-- conditions for a reset (R313): consecutive tick periods within limits, tick since which the rails are good,
  the controllers have restarted -/
  goodTicks : Nat := 0
  railsFrom : Option Nat := none
  restarted : Bool := true
  deriving DecidableEq, Repr

/-- The fault manager (R327): the group whose recovery runs, and the queue behind it. -/
structure FmSt where
  running : Option FGroup := none
  queue   : List FGroup := []
  /-- the groups whose recovery action is complete, while a latched cause of theirs may still be held -/
  held    : List FGroup := []
  /-- the groups whose faults have escalated since ESCALATION was last cleared -/
  esc     : List FGroup := []
  deriving DecidableEq, Repr

/-! ### Return channels and histograms (R51 to R121) -/

/-- The return channel states (R72). -/
inductive ChanState where
  | off | cal | run | degraded | fault
  deriving DecidableEq, Repr

/-- An event delivered for an assigned channel in this tick (R58, R83): its word's fields, and what the coincidence
filter decided. -/
structure Event where
  time   : Nat
  width  : Nat
  ht     : Bool
  ovl    : Bool
  blank  : Bool
  wclamp : Bool
  winv   : Bool
  passed : Option Bool := none
  deriving DecidableEq, Repr

/-- The window descriptors of a stack (R84): starts in 250 ps units, lengths in bins, 0 for no window. -/
structure Windows where
  s0 : Nat := 0
  l0 : Nat := 0
  s1 : Nat := 0
  l1 : Nat := 0
  deriving DecidableEq, Repr

/-- A fine bin (R103, R117). -/
structure FineBin where
  n  : Nat := 0
  sr : Nat := 0
  sq : Nat := 0
  deriving DecidableEq, Repr

/-- One buffer half of a channel (R95, R116, R124): header, bins, masks and ECHO's two stores. -/
structure Half where
  stackSeq : Nat := 0
  colSeq   : Nat := 0
  planId   : Nat := 0
  fired    : Nat := 0
  planned  : Nat := 0
  eccErr   : Bool := false
  cntBound : Bool := false
  winTrunc : Bool := false
  lutChg   : Bool := false
  thrChg   : Bool := false
  overload : Bool := false
  cutShort : Bool := false
  early    : Bool := false
  bufDrop  : Bool := false
  rateLim  : Bool := false
  win      : Windows := {}
  offered  : Nat := 0
  rejects  : Nat := 0
  quotaDrop : Nat := 0
  bufDrops : Nat := 0
  counted  : Nat := 0
  inWin0   : Nat := 0
  inWin1   : Nat := 0
  peak0    : Nat := 0
  peakBin0 : Nat := 0
  peak1    : Nat := 0
  peakBin1 : Nat := 0
  firstTick : Nat := 0
  closeTick : Nat := 0
  scout    : Tbl Nat := []
  fine     : Tbl FineBin := []
  sat      : BitVec 2560 := 0
  xt       : BitVec 2560 := 0
  eOut     : Nat := 0
  wclamp   : BitVec 160 := 0
  /-- what the stack was planned with: dither other than OFF, two-pulse coding, early termination, a fovea stack, and
  the directions of R311 at its first and last shots -/
  dithered : Bool := false
  twoPulse : Bool := false
  earlyOk  : Bool := false
  fovea    : Bool := false
  deriving DecidableEq, Repr

/-- The pair states (R101). -/
inductive PairState where
  | idle | opened
  deriving DecidableEq, Repr

/-- An echo with the attributes of R134. -/
structure Echo where
  range  : Nat
  inten  : Nat
  width  : Nat
  conf   : Nat
  cls    : Nat
  lead   : Nat
  coarse : Bool
  xtalk  : Bool
  walk   : Bool
  paired : Bool
  more   : Bool := false
  none   : Bool := false
  sigma  : Nat
  /-- the excess E in 1/1024 count -/
  e      : Nat
  deriving DecidableEq, Repr

/-- The strongest fine echo of a window (R143): E and range, and its supporting candidate's E, `none` where unsupported. -/
structure FineTop where
  e       : Nat
  range   : Nat
  support : Option Nat
  deriving DecidableEq, Repr

/-- A channel result (R143). -/
structure ChanResult where
  chan     : Nat
  half     : Half
  listF    : List Echo
  listS    : List Echo
  /-- the strongest scout peak: its maximum bin, E in 1/1024, and the window that its bin lies wholly in -/
  strong   : Option (Nat × Nat × Option Nat)
  /-- per present window its strongest fine echo, `none` where it has none -/
  support  : List (Option FineTop)
  ambient  : Nat
  /-- Eddy's proposal after this stack -/
  eddy     : Nat
  deriving DecidableEq, Repr

/-- The echoes of a channel's latest committed result, which Headwater takes its seeds from (R166). -/
structure SeedResult where
  close  : Nat
  /-- the direction of the stack, in 0.001° -/
  dirH   : Rat
  dirV   : Rat
  echoes : List Echo
  deriving DecidableEq, Repr

/-- A waiting entry of a coalescing buffer (R92). -/
structure CoEntry where
  chan  : Nat
  bin   : Nat
  fine  : Option Nat
  deriving DecidableEq, Repr

/-- A return channel. Times are in 1.953125 ps units. -/
structure Chan where
  st        : ChanState := .off
  failRun   : Nat := 0
  stuckRun  : Nat := 0
  stuckNow  : Bool := false
  /-- interpolator table in force, the one waiting for its tick, and the code-density counts (R62) -/
  lut       : List Nat := []
  lutNew    : Option (List Nat × Nat) := none
  counts    : List Nat := []
  /-- the counts of the period that has ended, until its tables are computed (R62) -/
  density   : Option (List Nat) := none
  /-- the period boundary from which on-the-fly calibration of the channel runs (R72) -/
  calFrom   : Nat := 0
  skew      : Int := 0
  lowEff    : Nat := 0
  highEff   : Nat := 0
  lowNext   : Nat := 0
  highNext  : Nat := 0
  /-- Eddy: A_s with eight fractional bits, and L_e (R146) -/
  as8       : Int := 0
  le        : Int := 0
  /-- the Eddy mask bit was set again since the latest update: the next one starts from L_e raised to L_s -/
  eddyBack  : Bool := false
  /-- time of the latest trailing edge of this tick, the running blanking interval, and those of the tick that have ended
  (R59, R65) -/
  trail     : Option Int := none
  blank     : Option (Int × Int) := none
  blanked   : List (Int × Int) := []
  /-- the baseline estimate in mV, how long the restorer ran since it was last brought up to date, by time constant, and
  from when in this tick it runs on (R53) -/
  est       : Int := 0
  estRuns   : List (Nat × Nat) := []
  estAt     : Nat := 0
  /-- events held until the tick's shot is confirmed, and the events of the assigned channel (R83) -/
  early     : List Event := []
  events    : List Event := []
  accepted  : Nat := 0
  /-- events delivered in this tick, those with HT, those with OVL -/
  rate      : Nat × Nat × Nat := (0, 0, 0)
  trim      : Int := 0
  /-- the emitter of the open stack, its launch instant in 31.25 ps, and whether its shot of this tick is confirmed -/
  lambda    : Nat := 0
  assigned  : Bool := false
  /-- thresholds or table changed since the stack's latest shot (R116) -/
  thrMark   : Bool := false
  lutMark   : Bool := false
  pair      : PairState := .idle
  acc       : Half := {}
  held      : Half := {}
  /-- the half the window shows until t+10.60 µs after a close at point A (R114) -/
  shown     : Option Half := none
  /-- the accumulating half as it was when this tick's shot was confirmed; it outlasts a close in the tick (R60) -/
  base      : Option Half := none
  /-- a close at point A in this tick: events still in flight belong to the held half -/
  late      : Bool := false
  /-- the channel left RUN or DEGRADED with its stack open: the half is discarded at swap point B (R99) -/
  gone      : Bool := false
  /-- the tick by whose t+10.4 µs the read pass must be complete (R110) -/
  due       : Nat := 0
  stackSeq  : Nat := 0
  /-- the held half waits for its read pass, and for its extraction -/
  reading   : Bool := false
  toExtract : Bool := false
  seed      : Option SeedResult := none
  epoch     : Nat := 0
  deriving DecidableEq, Repr

/-- The front-end settings of a quadrant that follow R79: walk mode, overload width, walk limit, walk table. -/
structure Quad where
  slope : Bool
  ovlw  : Nat
  wmax  : Nat
  walk  : Bytes
  deriving DecidableEq, Repr

/-- One bank's coalescing buffer (R92): waiting entries, oldest first, and the HIST cycle up to which it has drained. -/
structure CoBuf where
  entries : List CoEntry := []
  cycle   : Nat := 0
  deriving DecidableEq, Repr

/-- The full calibration states (0x3000:02). -/
inductive CalState where
  | idle | running | done | faults | aborted
  deriving DecidableEq, Repr

/-- The dither settings in force, as the objects held them at t+0 (R156): default mode, seed, family mask, default of the
two-pulse code, pulse distance in ns. -/
structure DitherSet where
  mode : Nat := 2
  seed : BitVec 31 := 1
  mask : Nat := 0
  two  : Bool := false
  gap  : Nat := 24
  deriving DecidableEq, Repr

/-- Front end and histogram engine. -/
structure RxSt where
  chans    : Tbl Chan := []
  bufs     : Tbl CoBuf := []
  gate     : Bool := false
  /-- t+10.60 µs of this tick has passed: all accepted events are written -/
  settled  : Bool := true
  /-- swap point B of the launch slot has passed in this tick -/
  slotDone : Bool := true
  /-- tick of the latest power-up of the RX domain -/
  onFrom   : Nat := 0
  /-- a calibration period has ended and its tables are not yet computed -/
  periodDue : Bool := false
  /-- settings of the quadrants in force and those the shadow holds (R79) -/
  quads    : Tbl Quad := []
  quadsNext : Tbl Quad := []
  /-- the channel enable masks, coincidence settings and neighbour map in force (R78, R79, R121); `none` for the default map -/
  enabled  : BitVec 512 := BitVec.allOnes 512
  coinc    : Tbl (Nat × Nat × Nat × Bool) := []
  /-- the baseline restorer setting of each quadrant that was in force at t+0 (R76) -/
  restore  : Tbl Nat := []
  nmap     : Option Val := none
  cal      : CalState := .idle
  calStart : Nat := 0
  /-- the running calibration belongs to a power-up and tests the memory (R112) -/
  calPower : Bool := false
  /-- channel results waiting for Oxbow (R143) -/
  results  : List ChanResult := []
  /-- HIST cycles of read passes per bank in this tick (R110) -/
  load     : Tbl Nat := []
  /-- the dither generator (R148): its state, and the 64 codes, mask applied, of this tick and of the next two -/
  lfsr     : BitVec 31 := 1
  codes0   : List Nat := []
  codes1   : List Nat := []
  codes2   : List Nat := []
  /-- the codes come from the lane partner, with this mask; the states to adopt or compare, each for a tick; the mask of
  the latest DMASK (R368) -/
  partner  : Bool := false
  mask     : Nat := 0
  adopt    : Tbl (BitVec 31) := []
  dmask    : Nat := 0
  /-- the settings that the tick began with (R156) -/
  dith     : DitherSet := {}
  deriving DecidableEq, Repr

/-! ### Scan plans and Headwater (R159 to R190) -/

/-- A column entry (R160). -/
structure Column where
  angH   : Int
  angV   : Int
  zmask  : Nat
  region : Nat
  cflags : Nat
  banks  : Nat
  deriving DecidableEq, Repr

/-- A region entry (R161). -/
structure Region where
  s      : Nat
  wpol   : Nat
  nwmax  : Nat
  lmax   : Nat
  lmin   : Nat
  lfix   : Nat
  sfix   : Nat
  dither : Nat
  two    : Nat
  early  : Nat
  ksig   : Nat
  grad   : Nat
  hmin   : Nat
  eclass : List Nat
  deriving DecidableEq, Repr

/-- A fovea rule (R162). -/
structure FovRule where
  mode   : Nat
  cls    : Nat
  fmin   : Nat
  lfov   : Nat
  c0     : Int
  gain   : Int
  hw     : Int
  elLo   : Int
  elHi   : Int
  deriving DecidableEq, Repr

/-- A zone entry (R162). -/
structure ZoneEntry where
  zone    : Nat
  flags   : Nat
  revisit : Nat
  deriving DecidableEq, Repr

/-- An output entry (R162). -/
structure OutEntry where
  otype  : Nat
  sinkk  : Nat
  sinki  : Nat
  oflags : Nat
  ecap   : Nat
  cmask  : BitVec 512
  deriving DecidableEq, Repr

/-- A decoded scan plan with its image (R159 to R162). -/
structure Plan where
  raw    : Bytes
  id     : Nat
  axsrc  : Nat
  cols   : List Column
  regs   : List Region
  fovs   : List FovRule
  zones  : List ZoneEntry
  map    : List Nat
  outs   : List OutEntry
  deriving DecidableEq, Repr

/-- A seed of a window (R166): range and sigma in 0.25 mm, confidence, CLOSE_TICK, and the direction of its stack in
0.001°. -/
structure Seed where
  range : Nat
  sigma : Nat
  conf  : Nat
  close : Nat
  dirH  : Rat
  dirV  : Rat
  deriving DecidableEq, Repr

/-- What Headwater planned for one channel of a column: its emitter, its seeds and its windows. -/
structure ChanPlan where
  e     : Nat
  seeds : List Seed := []
  win   : Windows := {}
  deriving DecidableEq, Repr

/-- A fovea stack of an emitter (R174): its class, its first tick, its window per channel. -/
structure Fovea where
  cls   : Nat
  first : Nat
  wins  : Tbl Windows
  deriving DecidableEq, Repr

/-- A column from its planning tick until its last commit. -/
structure ColRun where
  seq      : Nat
  planId   : Nat
  frame    : Nat
  k        : Nat
  /-- first tick and depth -/
  first    : Nat
  s        : Nat
  region   : Region
  banks    : Nat
  zmask    : Nat := 0
  foveaOk  : Bool
  lastOfFrame : Bool
  fovs     : List FovRule
  outs     : List OutEntry
  axsrc    : Nat
  /-- emission was on at the planning tick (R165) -/
  enabled  : Bool
  /-- servo units: the set-points at the first tick of this column and of the next; both the latched position for an
  axis with external set-point (R164) -/
  h0       : Int
  h1       : Int
  v0       : Int
  v1       : Int
  chans    : Tbl ChanPlan := []
  /-- the first tick from which the shots of an emitter are withheld or freed, and the emitters whose shots were freed -/
  cut      : Tbl Nat := []
  freed    : BitVec 64 := 0
  /-- the emitters whose shots the gate of R252 has withheld, later ones of the column included -/
  gated    : BitVec 64 := 0
  fovea    : Tbl Fovea := []
  foveaCut : Tbl Nat := []
  /-- the set-points of its ticks in servo units, once fixed -/
  angles   : List (Int × Int) := []
  curve    : Rat := 0
  /-- vehicle speed and its uncertainty as of the planning tick, in m/s (R170) -/
  speed    : Rat × Rat := (0, 0)
  dither   : Nat
  twoPulse : Bool
  /-- PR-32 versions of the records for the rings and the lanes (R263) -/
  version  : Nat := 2
  laneVersion : Nat := 2
  /-- the column has a record (R30) -/
  anyRecord : Bool := false
  /-- by shot tick: the effective set-points of both axes at the latch before it, and the device time at its t+0 (R266, R267) -/
  theta    : Tbl (Int × Int) := []
  tdev     : Tbl Nat := []
  /-- the calibration sets of both cameras for its records (R279) -/
  cals     : List Bytes := []
  deriving DecidableEq, Repr

/-- Where the planning of columns stands: the plan whose columns are planned, its next column and that column's first
tick, the frame being planned. -/
structure Cursor where
  plan  : Plan
  k     : Nat
  start : Nat
  frame : Nat
  deriving DecidableEq, Repr

/-- An admission under way (R180). -/
structure Admission where
  image   : Bytes
  req     : Option Req
  start   : Nat
  check   : Bool
  /-- the energy model and cell objects as they were when it began (R196, R227) -/
  model   : Tbl Val
  deriving DecidableEq, Repr

/-- Decision counts of a frame (R179). -/
structure FrameCount where
  planId   : Nat
  frame    : Nat
  commits  : Nat := 0
  discards : Nat := 0
  /-- the commit tick of the frame's last column, once that column is planned -/
  lastTick : Option Nat := none
  deriving DecidableEq, Repr

/-- Plans, Headwater and Oxbow. -/
structure PlanSt where
  running  : Option Plan := none
  cursor   : Option Cursor := none
  pending  : Option (Plan × Nat) := none
  switching : Option (Nat × Plan) := none
  /-- the cursor and the column sequence as they were when that switch was decided: the plan that goes on if the switching
  one is superseded before it takes effect (R188) -/
  before   : Option Cursor × Nat := (none, 0)
  stopReq  : Option Nat := none
  stopAt   : Option Nat := none
  /-- the plan that DOZE suspended, and its next frame (R438) -/
  suspended : Option (Plan × Nat) := none
  admission : Option Admission := none
  cols     : List ColRun := []
  colSeq   : Nat := 0
  frames   : List FrameCount := []
  frame    : Nat := 0
  curSeq   : Nat := 0
  /-- the speed is stale (R170); tick of the latest write of speed or uncertainty since reset (R198) -/
  stale    : Bool := true
  speedTick : Option Nat := none
  deriving DecidableEq, Repr

/-! ### The tick (R22 to R50) -/

/-- The tick synchronisation states (R38). -/
inductive TickSync where
  | free | acquire | locked | holdover
  deriving DecidableEq, Repr

/-- The tick generator and the tick synchronisation. -/
structure TickSt where
  num        : Nat := 0
  started    : Bool := false
  sync       : TickSync := .free
  /-- consecutive valid edges, the phase of the latest valid edge of the running chain, the held phase (R35) -/
  valid      : Nat := 0
  chain      : Option Nat := none
  held       : Option Nat := none
  missRow    : Nat := 0
  syncLost   : Bool := false
  phaseMoved : Bool := false
  /-- the REF cycles by which the latest bookkeeping interval was stretched (R37, R40) -/
  stretched  : Nat := 0
  /-- a tick overrun: the shadow of the next tick is not applied (R27) -/
  overrun    : Bool := false
  syncOut    : Bool := false
  /-- t+10.0 µs of this tick has passed: the listen window is over (R26) -/
  listenOver : Bool := false
  /-- the SHOT_SYNC_OUT offset in force, latched at t+0 (R41) -/
  syncOutOfs : Nat := 0
  deriving DecidableEq, Repr

/-! ### Beam steering (R228 to R262) -/

/-- The axis states (R246). -/
inductive AxisState where
  | off | opened | closed | parking | loss
  deriving DecidableEq, Repr

/-- A park ramp (R248): start and end values, steps written, steps in all, and whether a loss caused it. -/
structure Ramp where
  d0   : Int
  dp   : Int
  i    : Nat
  n    : Nat
  loss : Bool
  deriving DecidableEq, Repr

/-- The input and output histories of a notch (R245). -/
structure Notch where
  x1 : Int := 0
  x2 : Int := 0
  y1 : Int := 0
  y2 : Int := 0
  deriving DecidableEq, Repr

/-- A mirror axis. Angles are in servo units of 0.0001°. The hold drive is object 0x5010+a:03. -/
structure AxisSt where
  st      : AxisState := .off
  /-- the accepted command and fault clear that wait for the next latch (R247, R257) -/
  cmd     : Option Nat := none
  clear   : Bool := false
  ramp    : Option Ramp := none
  /-- drive code in force, the one of the shadow, and the one the loop wants, computed at the latest latch -/
  drive   : Int := 0
  shadow  : Int := 0
  want    : Int := 0
  /-- both legs of the drive pair are held low (R229), in this tick and by the shadow in the next -/
  idle    : Bool := true
  idleNext : Bool := true
  /-- the calibrated band of the latest latch, in 0.001° (R253, R262) -/
  band    : Int × Int := (0, 0)
  u0      : Int := 0
  /-- sample value and position of the latest valid latch -/
  x       : Int := 0
  pos     : Int := 0
  posSeen : Bool := false
  /-- the latest axis sample was INVALID, or none has come -/
  invalid : Bool := true
  src     : Int := 0
  /-- kind of the source of R238 at the latest latch: 0 manual, 1 plan, 2 external -/
  kind    : Nat := 0
  /-- effective set-points of the latest latch and the one before -/
  th1     : Int := 0
  th2     : Int := 0
  eqRun   : Nat := 0
  err     : Int := 0
  e1      : Int := 0
  e2      : Int := 0
  e3      : Int := 0
  v1      : Int := 0
  v2      : Int := 0
  v3      : Int := 0
  notch1  : Notch := {}
  notch2  : Notch := {}
  vRaw    : Int := 0
  y1      : Int := 0
  y2      : Int := 0
  uff     : Int := 0
  satInt  : Bool := false
  satDrv  : Bool := false
  limit   : Bool := false
  track   : Bool := false
  capture : Bool := false
  lossRange  : Bool := false
  lossFreeze : Bool := false
  cross   : Bool := false
  cause   : Nat := 0
  /-- consecutive latches outside the band, valid samples inside it (R257), and cross-check deviations (R255) -/
  outRun  : Nat := 0
  inRun   : Nat := 0
  crossRun : Nat := 0
  /-- the last 64 latches in CLOSED: x div 256 and drive code, newest first (R254) -/
  freeze  : List (Int × Int) := []
  /-- a loss decided at the latest latch and not yet acted on: its cause code (R256) -/
  lossDue : Option Nat := none
  /-- the gate of R252, as the latest latch decided it -/
  gate    : Bool := false
  deriving DecidableEq, Repr

/-- A CIC decimator (R231 to R236). -/
structure Decim where
  on      : Bool := false
  /-- a start waits for the next latch -/
  starting : Bool := false
  /-- the modulator bits of the last ticks since the latest restart, newest first -/
  hist    : List (BitVec 256) := []
  /-- samples delivered since the latest change (continuous) -/
  count   : Nat := 0
  /-- latches since the conversion started (SCS) -/
  phase   : Nat := 0
  input   : Nat := 0
  dwell   : Nat := 0
  word    : BitVec 32 := 0x80000000
  deriving DecidableEq, Repr

/-- An external input value u (R241): its value and the tick of its latest valid update. -/
structure ExtIn where
  u    : Rat := 0
  tick : Nat := 0
  late : Bool := false
  deriving DecidableEq, Repr

/-- The trace buffer's states (0x5060:05). -/
inductive TraceState where
  | idle | armed | recording | done
  deriving DecidableEq, Repr

/-- The trace buffer (R259): records newest first. -/
structure Trace where
  st    : TraceState := .idle
  recs  : List (List Int) := []
  tick  : Nat := 0
  held  : Nat := 0
  left  : Nat := 0
  deriving DecidableEq, Repr

/-- The servo. -/
structure ServoSt where
  h      : AxisSt := {}
  v      : AxisSt := {}
  dec    : Tbl Decim := []
  /-- the inputs whose gain changes at the next latch -/
  gainNew : BitVec 4 := 0
  ana    : ExtIn := {}
  pulse  : ExtIn := {}
  trace  : Trace := {}
  /-- the delay lines of R228 are calibrated -/
  pwmCal : Bool := false
  deriving DecidableEq, Repr

/-! ### Cameras (R282 to R300) -/

/-- The camera port states (R287). -/
inductive PortState where
  | off | startup | normal | test | recovery | absent
  deriving DecidableEq, Repr

/-- A frame from its Frame Start until it is stored (R284 to R298). -/
structure CamFrame where
  seq     : Nat
  no      : Nat
  tfs     : Nat
  tmid    : Int
  slot    : Nat
  /-- the port state at Frame Start, by its code -/
  state   : Nat
  w       : Nat
  h       : Nat
  bits    : Nat
  order   : Nat
  /-- the start of its slot and the bytes of a pixel -/
  base    : Nat
  px      : Nat
  /-- the parameters of stages 1, 2, 4 and 5 (R291) -/
  black   : Bytes
  defects : Bytes
  gains   : Bytes
  matrix  : Bytes
  /-- the displayed tone curve: banks X and Y, N and j (R293) -/
  curveX  : Bytes
  curveY  : Bytes
  fadeN   : Nat
  fadeJ   : Nat
  fading  : Bool
  syncMiss : Bool
  /-- lines arrived, lines put into the buffer, dropped, repaired -/
  arrived : Nat := 0
  written : Nat := 0
  dropped : Nat := 0
  repaired : Nat := 0
  widthErr : Bool := false
  noFe    : Bool := false
  trunc   : Bool := false
  short   : Bool := false
  /-- an overflow drops the rest of the frame (R292) -/
  cut     : Bool := false
  closed  : Bool := false
  /-- the last two lines as received or repaired, the newest first -/
  raw     : List (List Nat) := []
  /-- the demosaic line memories: line number and values after stage 2, the newest first -/
  mem     : List (Nat × List Nat) := []
  deriving DecidableEq, Repr

/-- A complete frame in a slot of the store (R295, R296). -/
structure StoredFrame where
  seq  : Nat
  tmid : Int
  /-- SHORT or TRUNCATED (R277) -/
  bad  : Bool
  base : Nat
  w    : Nat
  px   : Nat
  deriving DecidableEq, Repr

/-- A camera. -/
structure CamSt where
  st      : PortState := .off
  /-- tick of entry into the state or of the latest Frame Start, whichever is later -/
  armed   : Nat := 0
  good    : Nat := 0
  bad     : Nat := 0
  seq     : Nat := 0
  frames  : List CamFrame := []
  /-- the input buffer: frame, line number, pixels, oldest first -/
  buf     : List (Nat × Nat × List Nat) := []
  slots   : Tbl StoredFrame := []
  /-- device time of the previous accepted Frame Start, and whether the present frame is ignored (R288) -/
  lastFs  : Option Nat := none
  ignore  : Bool := false
  /-- the tone bank displayed or left, and the running fade's N and j (R293); the bank is 0 for A -/
  bank    : Nat := 0
  fade    : Option (Nat × Nat) := none
  desc    : Bytes := List.replicate 32 0
  /-- CAM_FSYNC: its level, the width of the running pulse in 0.1 µs, and tick and device time of the latest pulse -/
  sync    : Bool := false
  syncW   : Nat := 0
  syncT   : Option (Nat × Nat) := none
  deriving DecidableEq, Repr

/-- The CAM_FSYNC settings collected and not yet in force (R285): enable, P, O, width. -/
structure FsyncSet where
  en : Nat
  p  : Nat
  o  : Nat
  w  : Nat
  deriving DecidableEq, Repr

/-! ### Records and Confluence (R263 to R281) -/

/-- Where a record stands in Confluence: waiting, with a pixel read issued (camera, slot, address, bytes, age in µs), done. -/
inductive PStage where
  | wait
  | read (cam slot addr px age : Nat)
  | done
  deriving DecidableEq, Repr

/-- A record between Oxbow and the output router (R263), with its column's outputs and versions. -/
structure PointRec where
  commit  : Nat
  time    : Nat
  chan    : Nat
  range   : Nat
  flags   : Nat
  idx     : Nat
  az      : Int
  /-- the elevation of R274, in 0.001° -/
  el      : Rat
  conf    : Nat
  width   : Nat
  inten   : Nat
  colSeq  : Nat
  ambient : Nat
  epoch   : Nat
  planId  : Nat
  outs    : List OutEntry
  version : Nat
  laneVersion : Nat
  cals    : List Bytes
  stage   : PStage := .wait
  status  : Nat := 0
  cam     : Nat := 3
  rgb     : Nat × Nat × Nat := (0, 0, 0)
  /-- it will be found corrupt before the router (R265) -/
  corrupt : Bool := false
  deriving DecidableEq, Repr

/-- Records on their way, the column log (R268), and the records of the current commit tick. -/
structure PointSt where
  queue  : List PointRec := []
  log    : Tbl Bytes := []
  logAt  : Option Nat := none
  /-- reads that MEM_LATE has given up and that have not returned, oldest first: camera and slot (R278) -/
  late     : List (Nat × Nat) := []
  formed : Nat × Nat := (0, 0)
  deriving DecidableEq, Repr

/-! ### The acquisition engine (R329 to R349) -/

/-- The capture states (0x7000:02). -/
inductive CapState where
  | idle | pretrig | posttrig | done
  deriving DecidableEq, Repr

/-- The value of a probe in a row (R329, R331): a scalar's 32 bits, or a block's header word and bins. -/
inductive AcqVal where
  | scalar (v : Nat)
  | hist (hdr : Nat) (bins : List Nat)
  deriving DecidableEq, Repr

/-- A probe's values over a reduction interval (R335): minimum and maximum. -/
inductive AcqRed where
  | scalar (lo hi : Nat)
  | hist (hdr : Nat) (lo hi : List Nat)
  deriving DecidableEq, Repr

/-- A run of lost rows (R344): among the post-trigger rows or before, its first tick, its rows. -/
structure AcqGap where
  post  : Bool
  tick  : Nat
  count : Nat
  deriving DecidableEq, Repr

/-- The acquisition engine. -/
structure AcqSt where
  st      : CapState := .idle
  /-- the capture ends: no more rows, its entries drain -/
  ending  : Bool := false
  /-- the capture ended with its trigger row: PRETRIG stands until DONE (R340) -/
  atTrig  : Bool := false
  /-- P_pre as it stood at the arm command: in DONE the status keeps it (R340) -/
  pre     : Nat := 0
  /-- ticks of the arm command and of the latest row -/
  armed   : Nat := 0
  lastRow : Nat := 0
  /-- command 2 waits for the next row -/
  manual  : Bool := false
  /-- entries waiting for QDR: address and bytes, oldest first -/
  fifo    : List (Nat × Bytes) := []
  /-- the ring's entries held, oldest first: whether a row, its tick; and how many have been entered in all -/
  ring    : List (Bool × Nat) := []
  ringN   : Nat := 0
  /-- post-trigger slots written, the tick of the first row among them, post-trigger rows counted -/
  postN   : Nat := 0
  postFirst : Option Nat := none
  postRows : Nat := 0
  gaps    : List AcqGap := []
  /-- by probe, the value compared in the last row in which it was present; the comparators true in the latest row -/
  prev    : Tbl Int := []
  prevTrue : Nat := 0
  log     : List (Nat × Nat) := []
  /-- by HIST probe p, the block of the latest read pass: CLOSE_TICK, header word, bins; under p + 16 the block before it -/
  blocks  : Tbl (Nat × Nat × List Nat) := []
  /-- converter inputs with a result, and cameras with a line (maximum and mean per component), since the latest row -/
  adc     : BitVec 32 := 0
  lines   : Tbl (List (Nat × Nat)) := []
  /-- the reduction interval under way: its probes, its rows, its first tick, TRIG and MVIOL -/
  red     : Tbl AcqRed := []
  redN    : Nat := 0
  redTick : Nat := 0
  redTrig : Bool := false
  redViol : Bool := false
  deriving DecidableEq, Repr

/-! ### Lanes (R347 to R370) -/

/-- The lane states (0xC010+l:01). -/
inductive LaneState where
  | disabled | searching | absent | eq | fecAlign | deskew | caps | data | idle
  deriving DecidableEq, Repr

/-- A lane. -/
structure LaneSt where
  st      : LaneState := .disabled
  /-- failures since the lane last reached DATA (R356) -/
  k       : Nat := 0
  reason  : Nat := 0
  partner : Nat := 0
  eyeH    : Nat := 0
  eyeW    : Nat := 0
  taps    : List Int := [0, 0, 0]
  /-- the partner's PRECODE_REQ and RX_READY, and the own RX_READY: the eye meets the thresholds (R356) -/
  preReq  : Bool := false
  ready   : Bool := false
  eyeOk   : Bool := false
  /-- the tap handshake (R352): own requests for c−1, c0, c+1 and the own preset request, and the status returned to the
  partner's requests -/
  req     : List Nat := [0, 0, 0]
  preset  : Nat := 0
  stat    : List Nat := [0, 0, 0]
  /-- a partner's probe is answered by the burst that runs: equalisation starts at its end (R358) -/
  answer  : Bool := false
  precode : Nat := 0
  skew    : Nat := 0
  /-- tick of entry into the state, and of the latest own probe burst -/
  since   : Nat := 0
  probed  : Option Nat := none
  /-- the latest partner CAPS and how many identical ones have come -/
  caps    : BitVec 64 := 0
  capsRun : Nat := 0
  deriving DecidableEq, Repr

/-- A link, by its first lane (R353 to R364). -/
structure LinkSt where
  version  : Nat := 0
  /-- the partner's roles -/
  leader   : Bool := false
  follower : Bool := false
  queues   : Tbl (List OutUnit) := []
  /-- words of the first unit of each stream that have been sent -/
  sent     : Tbl Nat := []
  credits  : Tbl Nat := []
  rr       : Nat := 0
  cut      : List (Nat × Nat) := []
  idleFrom : Nat := 0
  /-- FRAME blocks sent since t+0 (R360) -/
  marks    : Nat := 0
  /-- the counter of the next codeword marker, and the message bits to be sent before it (R350) -/
  cwm      : Nat := 0
  cwmDue   : Nat := 0
  /-- the streams that have had a full segment and no credit in this tick (R364) -/
  stalls   : List Nat := []
  /-- OFS of the own TICK items sent lately, by tick number -/
  sentOfs  : Tbl Nat := []
  /-- the partner TICK measured last: its tick bits, RX_OFS and OFS, and the tick of its arrival -/
  rxTick   : Option (Nat × Nat × Nat × Nat) := none
  deriving DecidableEq, Repr

/-- A completed marker pair (R365): err and path delay in UI, the leader's tick (15 bits) and the own tick that corresponds
to it. -/
structure PairRes where
  err   : Rat
  delay : Rat
  lead  : Nat
  own   : Nat
  deriving DecidableEq, Repr

/-- The tick follower (R365 to R368). Angles of time are in UI. -/
structure FollowSt where
  errs  : List Rat := []
  delay : Rat := 0
  err   : Rat := 0
  /-- err of the latest valid marker of the running chain -/
  chain : Option Rat := none
  slot  : Nat := 0
  group : Nat := 1
  /-- tick of the latest pair used -/
  pair  : Option Nat := none
  /-- the partner TICK used last: its tick bits and the tick of its arrival; a pair that came after t+10.0 µs -/
  used  : Option (Nat × Nat) := none
  late  : Option PairRes := none
  /-- a leader tick number (15 bits) and the own tick that corresponds to it -/
  corr  : Option (Nat × Nat) := none
  deriving DecidableEq, Repr

/-- The lanes. -/
structure LanesSt where
  lanes  : Tbl LaneSt := []
  links  : Tbl LinkSt := []
  follow : FollowSt := {}
  /-- group size and slot table in force (they change at t+0) -/
  group  : Nat := 1
  slots  : Bytes := List.replicate 16 1
  deriving DecidableEq, Repr

/-! ### The housekeeping converter (R453 to R470) -/

/-- The converter's states (0xB000:01); FAULT is the check's flag. -/
inductive HkState where
  | off | cal | run
  deriving DecidableEq, Repr

/-- A conversion under way: its level, its entry (level 0) or place in its group (level 1), its input and mux select, and
whether it is the guard that will be discarded. -/
structure Conv where
  level : Nat
  entry : Nat
  input : Nat
  mux   : Nat
  guard : Bool
  /-- the correction in force when it started: offset and gain (R455) -/
  ofs   : Int := 0
  gain  : Int := 32768
  deriving DecidableEq, Repr

/-- A level-1 group: whose it is, its inputs and mux selects, how many are done, whether it has started, and whether it waits
to start again after a level-2 conversion (R462). -/
structure HkGroup where
  host    : Bool
  items   : List (Nat × Nat)
  pos     : Nat := 0
  started : Bool := false
  again   : Bool := false
  deriving DecidableEq, Repr

/-- The housekeeping converter. -/
structure HkSt where
  st      : HkState := .off
  calFrom : Nat := 0
  cur     : Option Conv := none
  guardOwed : Bool := false
  noGuard : Bool := false
  /-- the due entries of this tick that have not started -/
  due     : List Nat := []
  groups  : List HkGroup := []
  level2  : Option Nat := none
  /-- the regular sequence in force, `none` for the default -/
  seq     : Option Bytes := none
  slots   : Tbl Nat := []
  /-- the mux select of the latest result of input 8 -/
  lastMux : Nat := 0
  /-- the tick in which the latest conversion of an input ended (R467) -/
  own     : Tbl Nat := []
  oor     : BitVec 32 := 0
  data    : BitVec 32 := 0
  /-- consecutive failed and passed checks of inputs 25 and 26 -/
  fails   : Tbl Nat := []
  passes  : Tbl Nat := []
  fault   : Bool := false
  /-- the latest converter check requested: its input and tick -/
  checked : Option (Nat × Nat) := none
  deriving DecidableEq, Repr


/-- What the block sends out, newest first (the model's own record of it). -/
inductive Out where
  /-- the answer to an ODX request, handed to its transport: the mailbox, or the telegram that follows it (R414) -/
  | response (r : Req) (msg : Bytes)
  /-- an MSI-X message -/
  | msix (vec : Nat)
  /-- a posted write to host memory -/
  | hostWrite (addr : BitVec 64) (data : Bytes)
  /-- the data a read returns: a register, the data port, an internal client -/
  | readData (data : Bytes)
  /-- the answer to a configuration request before the firmware or the recovery server has started (R481) -/
  | cfgRetry
  /-- a bus error to an internal client (R394) -/
  | busError (client : BusClient)
  /-- a frame or datagram sent on the network: its port or destination and its bytes -/
  | datagram (dst : BitVec 32) (port : Nat) (data : Bytes)
  /-- a BSL telegram handed to TRDP process data: its connection and the telegram -/
  | bsl (c : Nat) (telegram : Bytes)
  /-- the relay of a Sync to a port by a two-step Sync (R422): origin time, correction in ns, rate ratio in ppb, log interval -/
  | syncRelay (port origin : Nat) (corr rate interval : Int)
  /-- a Pdelay_Req on a port (R422) -/
  | pdelayReq (port : Nat)
  /-- a Delay_Req (R423) -/
  | delayReq
  /-- an Ethernet frame sent on a port of the switch: the port and the bytes -/
  | frame (port : Nat) (data : Bytes)
  /-- a cut-through frame ended with an invalid FCS (R411) -/
  | badFrame (port : Nat) (data : Bytes)
  /-- a segment, a block or a burst sent on a lane or link: its number and its words -/
  | lane (l : Nat) (words : List (BitVec 64))
  /-- a level of an output pin: SHOT_SYNC_OUT, CAM_FSYNC, OSSD, the output resets -/
  | pin (name : String) (level : Bool)
  /-- the start of the pulse on SHOT_SYNC_OUT, at a REF cycle of the tick (R35) -/
  | syncPulse (ref : Nat)
  deriving DecidableEq, Repr

/-- The state of the block. `free` counts the free values taken (the model's own field). -/
structure State where
  fuses   : Fuses := {}
  od      : Tbl Val := []
  tick    : TickSt := {}
  host    : HostSt := {}
  odx     : OdxSt := {}
  net     : NetSt := {}
  time    : TimeSt := {}
  pwr     : PwrSt := {}
  boot    : BootSt := {}
  emit    : EmitSt := {}
  weir    : WeirSt := {}
  isl     : IslSt := {}
  fm      : FmSt := {}
  rx      : RxSt := {}
  plan    : PlanSt := {}
  servo   : ServoSt := {}
  cams    : Tbl CamSt := []
  fsync   : Option FsyncSet := none
  points  : PointSt := {}
  acq     : AcqSt := {}
  qdr     : List Host.Cell := []
  lane    : LanesSt := {}
  hk      : HkSt := {}
  free    : Nat := 0
  out     : List Out := []
  pending : List Instr := []
  deriving DecidableEq, Repr

/-- Why the block could stop with a fault. No command of this block does: the manual gives every one of them an
effect or none, and a step without an effect is a next state. -/
inductive Fault where
  /-- raised by no meaning (the type must not be empty); safe -/
  | unreachable
  deriving DecidableEq, Repr

/-- Why a command is refused. -/
inductive Refusal where
  /-- raised by the dispatch for a command that has no meaning yet; safe -/
  | notModelled (mnemonic : String)
  deriving DecidableEq, Repr

/-- The state right after a VAON power-on reset (R471): the device is held in reset, every object has its default,
every counter is 0, the record cells are initialised (VAON_POR, R445, R473), and no command waits. -/
def State.reset : State := {}

end Sys2Proof.Machine
end

