-- ==== Sys2Proof/Machine/ObjTable.lean ====
section
/-! DEFINITION. The object tables of the manual, one row per table row: R12, R45, R77, R120, R157, R198, R227, R260,
R281, R300, R328, R349, R370, R410, R425, R452, R470, R488 and the tables beside them. -/

namespace Sys2Proof.Machine

/-- The types of R395. `oct n` has exactly `n` bytes, `dom n` at most `n`. -/
inductive ObjTy where
  | u (k : Nat)
  | i (k : Nat)
  | bool
  | real
  | str
  | oct (n : Nat)
  | dom (n : Nat)
  deriving DecidableEq, Repr

/-- What a write does: nothing is written, a value is kept, a command is given and reads return 0, a counter is
cleared by 0, bits are cleared by 1. -/
inductive ObjKind where
  | ro | rw | wo | counter | w1c
  deriving DecidableEq, Repr

/-- The operating-state condition of a row's access column (R75, R155, R236, R251, R299, R349). -/
inductive ObjCond where
  | none | emOff | sealed | emOffSealed | loopOpen | stopped | portOff | acqIdle
  deriving DecidableEq, Repr

/-- Where a value persists (R398): nowhere, in the store of R399, in a safety configuration. -/
inductive ObjPers where
  | no | yes | cfg
  deriving DecidableEq, Repr

/-- What the row's presence depends on (R7, R10): the camera, the island, or the quadrant, emitter bank, sense group,
lane or converter input that the index or the subindex names. -/
inductive ObjUnit where
  | all | cam | safe | quad | bank | group | lane | input
  deriving DecidableEq, Repr

/-- A row of an object table: indices `ix … ix + nIx − 1`, subindices `sub … sub + nSub − 1`. `wr` has bit 0 for HOST,
1 for NET, 2 for SAFE-CFG, 3 for SERVICE. For REAL32 rows `lo` and `hi` are the bounds and `dflt` is the encoding. -/
structure ObjRow where
  ix   : Nat
  nIx  : Nat
  sub  : Nat
  nSub : Nat
  ty   : ObjTy
  wr   : Nat
  kind : ObjKind
  cond : ObjCond
  lo   : Int
  hi   : Int
  dflt : Int
  pers : ObjPers
  unit : ObjUnit
  deriving DecidableEq, Repr

/-- Rows of the tables at 0x3000 to 0x3080. -/
def objRows30a : List ObjRow := [
  ⟨0x3000, 1, 1, 1, .bool, 11, .wo, .emOff, 0, 1, 0, .no, .all⟩,
  ⟨0x3000, 1, 2, 1, .u 1, 0, .ro, .none, 0, 255, 0, .no, .all⟩,
  ⟨0x3000, 1, 3, 1, .u 4, 0, .ro, .none, 0, 4294967295, 0, .no, .all⟩,
  ⟨0x3000, 1, 4, 1, .bool, 8, .rw, .none, 0, 1, 1, .yes, .all⟩,
  ⟨0x3000, 1, 5, 1, .u 4, 0, .ro, .none, 0, 4294967295, 0, .no, .all⟩,
  ⟨0x3000, 1, 6, 1, .u 4, 0, .ro, .none, 0, 4294967295, 0, .no, .all⟩,
  ⟨0x3000, 1, 7, 1, .u 2, 11, .rw, .none, 200, 5000, 1000, .yes, .all⟩,
  ⟨0x3000, 1, 8, 1, .u 1, 11, .rw, .none, 1, 255, 64, .yes, .all⟩,
  ⟨0x3000, 1, 9, 1, .u 1, 11, .rw, .none, 1, 255, 16, .yes, .all⟩,
  ⟨0x3000, 1, 10, 1, .u 2, 0, .ro, .none, 0, 512, 0, .no, .all⟩,
  ⟨0x3000, 1, 11, 1, .u 2, 0, .ro, .none, 0, 512, 0, .no, .all⟩,
  ⟨0x3010, 8, 1, 1, .u 1, 11, .rw, .emOff, 0, 1, 0, .yes, .quad⟩,
  ⟨0x3010, 8, 2, 1, .u 1, 11, .rw, .emOff, 0, 1, 0, .yes, .quad⟩,
  ⟨0x3010, 8, 3, 1, .u 1, 11, .rw, .emOff, 0, 2, 0, .yes, .quad⟩,
  ⟨0x3010, 8, 4, 1, .u 1, 11, .rw, .emOff, 0, 1, 0, .yes, .quad⟩,
  ⟨0x3010, 8, 5, 1, .u 1, 11, .rw, .emOff, 2, 31, 8, .yes, .quad⟩,
  ⟨0x3010, 8, 6, 1, .u 1, 11, .rw, .emOff, 0, 63, 60, .yes, .quad⟩,
  ⟨0x3010, 8, 7, 1, .oct 128, 11, .rw, .emOff, 0, 0, 0, .yes, .quad⟩,
  ⟨0x3010, 8, 8, 1, .u 8, 11, .rw, .emOff, 0, 18446744073709551615, 18446744073709551615, .yes, .quad⟩,
  ⟨0x3010, 8, 9, 1, .u 1, 11, .rw, .emOff, 0, 12, 0, .yes, .quad⟩,
  ⟨0x3020, 8, 1, 64, .u 2, 11, .rw, .none, 0, 1023, 40, .yes, .quad⟩,
  ⟨0x3028, 8, 1, 64, .u 2, 11, .rw, .none, 0, 1023, 200, .yes, .quad⟩,
  ⟨0x3030, 8, 1, 64, .i 2, 11, .rw, .emOff, -16384, 16383, 0, .yes, .quad⟩,
  ⟨0x3038, 8, 1, 64, .u 2, 0, .ro, .none, 0, 1007, 0, .no, .quad⟩,
  ⟨0x3040, 8, 1, 64, .u 1, 0, .ro, .none, 0, 255, 0, .no, .quad⟩,
  ⟨0x3048, 1, 1, 1, .dom 8192, 11, .rw, .emOff, 0, 0, 0, .yes, .all⟩,
  ⟨0x3050, 8, 1, 64, .u 4, 8, .counter, .none, 0, 4294967295, 0, .no, .quad⟩,
  ⟨0x3058, 8, 1, 64, .u 4, 8, .counter, .none, 0, 4294967295, 0, .no, .quad⟩,
  ⟨0x3060, 8, 1, 64, .u 4, 8, .counter, .none, 0, 4294967295, 0, .no, .quad⟩,
  ⟨0x3068, 8, 1, 64, .u 4, 8, .counter, .none, 0, 4294967295, 0, .no, .quad⟩,
  ⟨0x3070, 8, 1, 1, .oct 1024, 0, .ro, .none, 0, 0, 0, .no, .quad⟩,
  ⟨0x3078, 8, 1, 64, .i 2, 0, .ro, .none, -32768, 32767, 0, .no, .quad⟩,
  ⟨0x3080, 1, 1, 1, .u 4, 8, .counter, .none, 0, 4294967295, 0, .no, .all⟩,
  ⟨0x3080, 1, 2, 1, .u 4, 8, .counter, .none, 0, 4294967295, 0, .no, .all⟩,
  ⟨0x3080, 1, 3, 1, .u 4, 8, .counter, .none, 0, 4294967295, 0, .no, .all⟩,
  ⟨0x3080, 1, 4, 1, .oct 28, 0, .ro, .none, 0, 0, 0, .no, .all⟩]

/-- Rows of the tables at 0x3100 to 0x3148. -/
def objRows31a : List ObjRow := [
  ⟨0x3100, 8, 1, 1, .u 1, 11, .rw, .emOff, 1, 4, 1, .yes, .quad⟩,
  ⟨0x3100, 8, 2, 1, .u 1, 11, .rw, .emOff, 1, 8, 1, .yes, .quad⟩,
  ⟨0x3100, 8, 3, 1, .u 1, 11, .rw, .emOff, 1, 8, 2, .yes, .quad⟩,
  ⟨0x3100, 8, 4, 1, .bool, 11, .rw, .emOff, 0, 1, 1, .yes, .quad⟩,
  ⟨0x3108, 1, 1, 1, .u 2, 0, .ro, .none, 0, 65535, 9728, .no, .all⟩,
  ⟨0x3108, 1, 2, 1, .u 2, 0, .ro, .none, 0, 65535, 1050, .no, .all⟩,
  ⟨0x3108, 1, 3, 1, .u 4, 8, .counter, .none, 0, 4294967295, 0, .no, .all⟩,
  ⟨0x3108, 1, 4, 1, .u 4, 8, .counter, .none, 0, 4294967295, 0, .no, .all⟩,
  ⟨0x3108, 1, 5, 1, .u 2, 8, .counter, .none, 0, 65535, 0, .no, .all⟩,
  ⟨0x3108, 1, 6, 1, .u 1, 0, .ro, .none, 0, 63, 0, .no, .all⟩,
  ⟨0x3108, 1, 7, 1, .u 4, 8, .counter, .none, 0, 4294967295, 0, .no, .all⟩,
  ⟨0x3108, 1, 8, 1, .u 4, 8, .counter, .none, 0, 4294967295, 0, .no, .all⟩,
  ⟨0x3108, 1, 9, 1, .u 8, 0, .ro, .none, 0, 18446744073709551615, 0, .no, .all⟩,
  ⟨0x3110, 8, 1, 64, .u 4, 8, .counter, .none, 0, 4294967295, 0, .no, .quad⟩,
  ⟨0x3118, 8, 1, 64, .u 4, 8, .counter, .none, 0, 4294967295, 0, .no, .quad⟩,
  ⟨0x3120, 8, 1, 64, .u 4, 8, .counter, .none, 0, 4294967295, 0, .no, .quad⟩,
  ⟨0x3128, 8, 1, 64, .u 4, 8, .counter, .none, 0, 4294967295, 0, .no, .quad⟩,
  ⟨0x3130, 8, 1, 64, .u 4, 8, .counter, .none, 0, 4294967295, 0, .no, .quad⟩,
  ⟨0x3138, 8, 1, 64, .u 4, 8, .counter, .none, 0, 4294967295, 0, .no, .quad⟩,
  ⟨0x3140, 8, 1, 64, .u 4, 8, .counter, .none, 0, 4294967295, 0, .no, .quad⟩,
  ⟨0x3148, 8, 1, 64, .u 4, 8, .counter, .none, 0, 4294967295, 0, .no, .quad⟩]

/-- Rows of the tables at 0x3200 to 0x3240. -/
def objRows32a : List ObjRow := [
  ⟨0x3200, 1, 1, 1, .u 1, 11, .rw, .sealed, 0, 2, 0, .yes, .all⟩,
  ⟨0x3200, 1, 2, 1, .u 2, 11, .rw, .sealed, 0, 1500, 150, .yes, .all⟩,
  ⟨0x3200, 1, 3, 1, .bool, 11, .rw, .sealed, 0, 1, 1, .yes, .all⟩,
  ⟨0x3200, 1, 4, 1, .bool, 11, .rw, .sealed, 0, 1, 0, .yes, .all⟩,
  ⟨0x3200, 1, 5, 1, .u 1, 11, .rw, .sealed, 4, 255, 24, .yes, .all⟩,
  ⟨0x3200, 1, 6, 1, .u 2, 11, .rw, .sealed, 1, 65535, 16, .yes, .all⟩,
  ⟨0x3200, 1, 7, 1, .u 1, 11, .rw, .sealed, 1, 32, 3, .yes, .all⟩,
  ⟨0x3200, 1, 8, 1, .u 2, 11, .rw, .sealed, 0, 1500, 300, .yes, .all⟩,
  ⟨0x3200, 1, 9, 1, .u 1, 11, .rw, .sealed, 8, 64, 32, .yes, .all⟩,
  ⟨0x3200, 1, 10, 1, .bool, 11, .rw, .sealed, 0, 1, 1, .yes, .all⟩,
  ⟨0x3200, 1, 11, 1, .u 1, 11, .rw, .sealed, 4, 32, 12, .yes, .all⟩,
  ⟨0x3200, 1, 12, 1, .u 1, 11, .rw, .sealed, 1, 63, 4, .yes, .all⟩,
  ⟨0x3200, 1, 13, 1, .u 1, 11, .rw, .sealed, 1, 16, 4, .yes, .all⟩,
  ⟨0x3208, 8, 1, 1, .u 1, 11, .rw, .sealed, 8, 80, 20, .yes, .quad⟩,
  ⟨0x3208, 8, 2, 1, .u 2, 11, .rw, .sealed, 1, 4095, 3, .yes, .quad⟩,
  ⟨0x3210, 1, 1, 1, .u 1, 11, .rw, .emOffSealed, 0, 2, 2, .yes, .all⟩,
  ⟨0x3210, 1, 2, 1, .u 4, 11, .rw, .emOffSealed, 1, 2147483647, 1, .yes, .all⟩,
  ⟨0x3210, 1, 3, 1, .u 1, 11, .rw, .emOffSealed, 0, 255, 0, .yes, .all⟩,
  ⟨0x3210, 1, 4, 1, .u 1, 0, .ro, .none, 0, 255, 0, .no, .all⟩,
  ⟨0x3210, 1, 5, 1, .bool, 11, .rw, .emOffSealed, 0, 1, 0, .yes, .all⟩,
  ⟨0x3210, 1, 6, 1, .u 1, 11, .rw, .emOffSealed, 8, 64, 24, .yes, .all⟩,
  ⟨0x3218, 1, 1, 1, .u 2, 11, .rw, .sealed, 1, 44400, 500, .yes, .all⟩,
  ⟨0x3218, 1, 2, 1, .u 1, 11, .rw, .sealed, 5, 90, 25, .yes, .all⟩,
  ⟨0x3218, 1, 3, 1, .u 1, 11, .rw, .sealed, 1, 32, 2, .yes, .all⟩,
  ⟨0x3218, 1, 4, 1, .u 2, 11, .rw, .sealed, 0, 1007, 600, .yes, .all⟩,
  ⟨0x3218, 1, 5, 1, .u 1, 11, .rw, .sealed, 0, 4, 2, .yes, .all⟩,
  ⟨0x3220, 8, 1, 1, .u 8, 11, .rw, .sealed, 0, 18446744073709551615, 18446744073709551615, .yes, .quad⟩,
  ⟨0x3228, 8, 1, 64, .u 2, 0, .ro, .none, 0, 65535, 0, .no, .quad⟩,
  ⟨0x3230, 8, 1, 64, .u 2, 0, .ro, .none, 0, 1007, 0, .no, .quad⟩,
  ⟨0x3240, 1, 1, 1, .u 4, 8, .counter, .none, 0, 4294967295, 0, .no, .all⟩,
  ⟨0x3240, 1, 2, 1, .u 4, 8, .counter, .none, 0, 4294967295, 0, .no, .all⟩,
  ⟨0x3240, 1, 3, 1, .u 4, 8, .counter, .none, 0, 4294967295, 0, .no, .all⟩,
  ⟨0x3240, 1, 4, 1, .u 4, 8, .counter, .none, 0, 4294967295, 0, .no, .all⟩,
  ⟨0x3240, 1, 5, 1, .u 4, 8, .counter, .none, 0, 4294967295, 0, .no, .all⟩,
  ⟨0x3240, 1, 6, 1, .u 4, 8, .counter, .none, 0, 4294967295, 0, .no, .all⟩,
  ⟨0x3240, 1, 7, 1, .u 4, 8, .counter, .none, 0, 4294967295, 0, .no, .all⟩,
  ⟨0x3240, 1, 8, 1, .u 4, 8, .counter, .none, 0, 4294967295, 0, .no, .all⟩,
  ⟨0x3240, 1, 9, 1, .u 4, 8, .counter, .none, 0, 4294967295, 0, .no, .all⟩,
  ⟨0x3240, 1, 10, 1, .u 4, 8, .counter, .none, 0, 4294967295, 0, .no, .all⟩,
  ⟨0x3240, 1, 11, 1, .u 4, 8, .counter, .none, 0, 4294967295, 0, .no, .all⟩]

/-- Rows of the tables at 0x3240 to 0x3240. -/
def objRows32b : List ObjRow := [
  ⟨0x3240, 1, 12, 1, .u 4, 8, .counter, .none, 0, 4294967295, 0, .no, .all⟩]

/-- Rows of the tables at 0x3300 to 0x3302. -/
def objRows33a : List ObjRow := [
  ⟨0x3300, 1, 1, 1, .oct 2048, 11, .rw, .emOff, 0, 0, 0, .yes, .all⟩,
  ⟨0x3301, 1, 1, 1, .u 8, 8, .counter, .none, 0, 18446744073709551615, 0, .no, .all⟩,
  ⟨0x3301, 1, 2, 1, .u 2, 8, .counter, .none, 0, 4096, 0, .no, .all⟩,
  ⟨0x3301, 1, 3, 1, .u 4, 8, .counter, .none, 0, 4294967295, 0, .no, .all⟩,
  ⟨0x3302, 1, 1, 1, .dom 98304, 0, .ro, .none, 0, 0, 0, .no, .all⟩,
  ⟨0x3302, 1, 2, 1, .u 2, 0, .ro, .none, 0, 4095, 0, .no, .all⟩]

/-- Rows of the tables at 0x4000 to 0x4015. -/
def objRows40a : List ObjRow := [
  ⟨0x4000, 1, 1, 1, .bool, 11, .rw, .none, 0, 1, 0, .no, .all⟩,
  ⟨0x4000, 1, 2, 1, .u 1, 0, .ro, .none, 0, 255, 0, .no, .all⟩,
  ⟨0x4000, 1, 3, 1, .bool, 11, .wo, .none, 0, 1, 0, .no, .all⟩,
  ⟨0x4000, 1, 4, 1, .u 4, 0, .ro, .none, 0, 4294967295, 0, .no, .all⟩,
  ⟨0x4000, 1, 5, 1, .u 4, 0, .ro, .none, 0, 4294967295, 0, .no, .all⟩,
  ⟨0x4000, 1, 6, 1, .u 2, 11, .rw, .none, 1, 10000, 1000, .yes, .all⟩,
  ⟨0x4000, 1, 7, 1, .u 4, 8, .counter, .none, 0, 4294967295, 0, .no, .all⟩,
  ⟨0x4000, 1, 8, 1, .u 1, 0, .ro, .none, 0, 255, 255, .no, .all⟩,
  ⟨0x4001, 1, 1, 8, .u 4, 0, .ro, .none, 0, 4294967295, 0, .no, .bank⟩,
  ⟨0x4002, 1, 1, 8, .u 4, 0, .ro, .none, 0, 4294967295, 0, .no, .bank⟩,
  ⟨0x4003, 1, 1, 8, .u 4, 0, .ro, .none, 0, 4294967295, 0, .no, .bank⟩,
  ⟨0x4004, 1, 1, 1, .oct 64, 11, .rw, .emOff, 0, 0, 0, .yes, .all⟩,
  ⟨0x4004, 1, 2, 1, .oct 8, 11, .rw, .emOff, 0, 0, 0, .yes, .all⟩,
  ⟨0x4004, 1, 3, 1, .u 8, 11, .rw, .emOff, 0, 18446744073709551615, 18446744073709551615, .yes, .all⟩,
  ⟨0x4005, 1, 1, 8, .u 2, 11, .rw, .emOff, 1, 65535, 4000, .yes, .bank⟩,
  ⟨0x4005, 1, 9, 8, .u 4, 11, .rw, .emOff, 0, 200000, 60000, .yes, .bank⟩,
  ⟨0x4005, 1, 17, 16, .u 4, 11, .rw, .emOff, 0, 4294967295, 0, .yes, .group⟩,
  ⟨0x4006, 1, 1, 8, .u 2, 11, .rw, .emOff, 1, 65535, 4000, .yes, .bank⟩,
  ⟨0x4007, 1, 1, 1, .u 1, 11, .rw, .emOff, 1, 20, 5, .yes, .all⟩,
  ⟨0x4007, 1, 2, 1, .u 2, 11, .rw, .emOff, 8, 4096, 64, .yes, .all⟩,
  ⟨0x4010, 1, 1, 16, .oct 12, 11, .rw, .emOff, 0, 0, 0, .yes, .all⟩,
  ⟨0x4011, 1, 1, 1, .u 2, 11, .rw, .emOff, 1000, 65535, 12000, .yes, .all⟩,
  ⟨0x4011, 1, 2, 1, .u 4, 11, .rw, .emOff, 0, 4294967295, 0, .yes, .all⟩,
  ⟨0x4011, 1, 3, 1, .u 4, 11, .rw, .emOff, 0, 4294967295, 0, .yes, .all⟩,
  ⟨0x4011, 1, 4, 1, .u 2, 11, .rw, .emOff, 0, 65535, 0, .yes, .all⟩,
  ⟨0x4011, 1, 5, 1, .u 4, 11, .rw, .emOff, 1024, 78125, 78125, .yes, .all⟩,
  ⟨0x4011, 1, 6, 1, .bool, 11, .rw, .emOff, 0, 1, 1, .yes, .all⟩,
  ⟨0x4012, 1, 1, 1, .u 1, 11, .rw, .emOff, 5, 50, 15, .yes, .all⟩,
  ⟨0x4012, 1, 2, 1, .u 1, 11, .rw, .emOff, 5, 95, 70, .yes, .all⟩,
  ⟨0x4012, 1, 3, 1, .u 2, 11, .rw, .emOff, 110, 400, 160, .yes, .all⟩,
  ⟨0x4012, 1, 4, 1, .u 4, 11, .rw, .emOff, 50, 100000, 500, .yes, .all⟩,
  ⟨0x4013, 1, 1, 1, .oct 64, 0, .ro, .none, 0, 0, 0, .no, .all⟩,
  ⟨0x4013, 1, 2, 1, .oct 128, 0, .ro, .none, 0, 0, 0, .no, .all⟩,
  ⟨0x4013, 1, 3, 1, .u 8, 8, .wo, .emOff, 0, 18446744073709551615, 0, .no, .all⟩,
  ⟨0x4014, 1, 1, 1, .oct 8, 0, .ro, .none, 0, 0, 0, .no, .all⟩,
  ⟨0x4015, 1, 1, 1, .i 2, 11, .rw, .emOff, -400, 1500, 700, .yes, .all⟩,
  ⟨0x4015, 1, 2, 1, .i 2, 11, .rw, .emOff, 10, 300, 50, .yes, .all⟩,
  ⟨0x4015, 1, 3, 1, .i 2, 11, .rw, .emOff, 5, 200, 30, .yes, .all⟩,
  ⟨0x4015, 1, 4, 1, .i 2, 11, .rw, .emOff, -400, 1500, 900, .yes, .all⟩,
  ⟨0x4015, 1, 5, 1, .i 2, 11, .rw, .emOff, -400, 1500, 750, .yes, .all⟩]

/-- Rows of the tables at 0x4015 to 0x4028. -/
def objRows40b : List ObjRow := [
  ⟨0x4015, 1, 6, 1, .u 4, 11, .rw, .emOff, 100, 1000000, 10000, .yes, .all⟩,
  ⟨0x4015, 1, 7, 1, .u 2, 11, .rw, .emOff, 1000, 10000, 3435, .yes, .all⟩,
  ⟨0x4015, 1, 8, 1, .u 4, 11, .rw, .emOff, 100, 1000000, 10000, .yes, .all⟩,
  ⟨0x4015, 1, 9, 1, .i 2, 0, .ro, .none, -32768, 32767, 0, .no, .all⟩,
  ⟨0x4015, 1, 10, 1, .u 1, 0, .ro, .none, 0, 3, 0, .no, .all⟩,
  ⟨0x4016, 1, 1, 1, .u 8, 8, .counter, .none, 0, 18446744073709551615, 0, .no, .all⟩,
  ⟨0x4016, 1, 2, 1, .u 4, 8, .counter, .none, 0, 4294967295, 0, .no, .all⟩,
  ⟨0x4016, 1, 3, 1, .u 4, 8, .counter, .none, 0, 4294967295, 0, .no, .all⟩,
  ⟨0x4016, 1, 4, 1, .u 4, 8, .counter, .none, 0, 4294967295, 0, .no, .all⟩,
  ⟨0x4016, 1, 5, 1, .u 4, 8, .counter, .none, 0, 4294967295, 0, .no, .all⟩,
  ⟨0x4016, 1, 6, 1, .u 4, 8, .counter, .none, 0, 4294967295, 0, .no, .all⟩,
  ⟨0x4016, 1, 7, 1, .u 4, 8, .counter, .none, 0, 4294967295, 0, .no, .all⟩,
  ⟨0x4016, 1, 8, 1, .u 4, 8, .counter, .none, 0, 4294967295, 0, .no, .all⟩,
  ⟨0x4016, 1, 9, 1, .u 4, 8, .counter, .none, 0, 4294967295, 0, .no, .all⟩,
  ⟨0x4020, 4, 1, 1, .u 4, 11, .rw, .emOff, 0, 4294967295, 0, .yes, .all⟩,
  ⟨0x4020, 4, 2, 1, .u 4, 11, .rw, .emOff, 0, 4294967295, 0, .yes, .all⟩,
  ⟨0x4020, 4, 3, 1, .u 4, 11, .rw, .emOff, 0, 4294967295, 0, .yes, .all⟩,
  ⟨0x4024, 1, 1, 1, .oct 1024, 11, .rw, .emOff, 0, 0, 0, .yes, .all⟩,
  ⟨0x4025, 1, 1, 1, .i 4, 11, .rw, .emOff, -2147483648, 2147483647, -30000, .yes, .all⟩,
  ⟨0x4025, 1, 2, 1, .i 4, 11, .rw, .emOff, 1, 10000, 938, .yes, .all⟩,
  ⟨0x4025, 1, 3, 1, .i 4, 11, .rw, .emOff, -2147483648, 2147483647, -5000, .yes, .all⟩,
  ⟨0x4025, 1, 4, 1, .i 4, 11, .rw, .emOff, 1, 10000, 625, .yes, .all⟩,
  ⟨0x4026, 1, 1, 1, .oct 256, 11, .rw, .emOff, 0, 0, 0, .yes, .all⟩,
  ⟨0x4027, 1, 1, 1, .oct 12288, 0, .ro, .none, 0, 0, 0, .no, .all⟩,
  ⟨0x4028, 1, 1, 1, .u 4, 8, .counter, .none, 0, 4294967295, 0, .no, .all⟩,
  ⟨0x4028, 1, 2, 1, .u 4, 8, .counter, .none, 0, 4294967295, 0, .no, .all⟩,
  ⟨0x4028, 1, 3, 1, .u 4, 8, .counter, .none, 0, 4294967295, 0, .no, .all⟩,
  ⟨0x4028, 1, 4, 1, .u 4, 0, .ro, .none, 0, 4294967295, 0, .no, .all⟩]

/-- Rows of the tables at 0x5000 to 0x5040. -/
def objRows50a : List ObjRow := [
  ⟨0x5000, 1, 1, 1, .u 1, 11, .rw, .none, 0, 2, 0, .yes, .all⟩,
  ⟨0x5000, 1, 2, 1, .real, 0, .ro, .none, 0, 0, 0, .no, .all⟩,
  ⟨0x5000, 1, 4, 1, .u 2, 11, .rw, .none, 1, 5000, 100, .yes, .all⟩,
  ⟨0x5010, 2, 1, 1, .u 1, 11, .rw, .none, 0, 2, 0, .no, .all⟩,
  ⟨0x5010, 2, 3, 1, .i 2, 11, .rw, .loopOpen, -8192, 8191, 0, .no, .all⟩,
  ⟨0x5010, 2, 4, 1, .i 2, 11, .rw, .loopOpen, -8192, 8191, 0, .yes, .all⟩,
  ⟨0x5010, 2, 5, 1, .u 2, 11, .rw, .loopOpen, 1, 1000, 20, .yes, .all⟩,
  ⟨0x5010, 2, 6, 1, .u 1, 11, .rw, .loopOpen, 0, 1, 0, .yes, .all⟩,
  ⟨0x5010, 2, 7, 1, .i 4, 11, .rw, .loopOpen, -2147483648, 2147483647, 0, .yes, .all⟩,
  ⟨0x5010, 2, 8, 1, .i 4, 11, .rw, .loopOpen, -2147483648, 2147483647, 0, .yes, .all⟩,
  ⟨0x5010, 2, 9, 1, .real, 11, .rw, .loopOpen, 1, 100000, 1176256512, .yes, .all⟩,
  ⟨0x5010, 2, 10, 1, .real, 11, .rw, .loopOpen, 1000, 10000000000, 1315859240, .yes, .all⟩,
  ⟨0x5010, 2, 11, 1, .u 4, 11, .rw, .loopOpen, 1, 10000, 20, .yes, .all⟩,
  ⟨0x5010, 2, 12, 1, .i 4, 11, .rw, .loopOpen, -2147483648, 2147483647, -31000, .yes, .all⟩,
  ⟨0x5010, 2, 13, 1, .i 4, 11, .rw, .loopOpen, -2147483648, 2147483647, 31000, .yes, .all⟩,
  ⟨0x5010, 2, 14, 1, .u 2, 11, .rw, .loopOpen, 2, 8192, 64, .yes, .all⟩,
  ⟨0x5010, 2, 15, 1, .bool, 11, .wo, .none, 0, 1, 0, .no, .all⟩,
  ⟨0x5010, 2, 16, 1, .i 4, 11, .rw, .loopOpen, -2147483648, 2147483647, 0, .yes, .all⟩,
  ⟨0x5010, 2, 17, 1, .i 4, 11, .rw, .loopOpen, -2147483648, 2147483647, 0, .yes, .all⟩,
  ⟨0x5010, 2, 18, 1, .i 4, 11, .rw, .loopOpen, -2147483648, 2147483647, 2344, .yes, .all⟩,
  ⟨0x5010, 2, 19, 1, .i 4, 11, .rw, .none, -2147483648, 2147483647, 0, .no, .all⟩,
  ⟨0x5020, 2, 1, 1, .u 1, 11, .rw, .loopOpen, 0, 1, 0, .yes, .all⟩,
  ⟨0x5020, 2, 2, 1, .u 1, 11, .rw, .loopOpen, 0, 1, 0, .yes, .all⟩,
  ⟨0x5020, 2, 3, 1, .oct 28, 11, .rw, .loopOpen, 0, 0, 0, .yes, .all⟩,
  ⟨0x5020, 2, 4, 1, .oct 28, 11, .rw, .loopOpen, 0, 0, 0, .yes, .all⟩,
  ⟨0x5020, 2, 5, 1, .oct 20, 11, .rw, .loopOpen, 0, 0, 0, .yes, .all⟩,
  ⟨0x5020, 2, 6, 1, .oct 20, 11, .rw, .loopOpen, 0, 0, 0, .yes, .all⟩,
  ⟨0x5020, 2, 7, 1, .u 1, 11, .rw, .loopOpen, 0, 3, 0, .yes, .all⟩,
  ⟨0x5020, 2, 8, 1, .u 4, 11, .rw, .loopOpen, 1, 2147483647, 2097152, .yes, .all⟩,
  ⟨0x5020, 2, 9, 1, .u 2, 11, .rw, .loopOpen, 1, 8191, 8191, .yes, .all⟩,
  ⟨0x5030, 2, 1, 1, .i 4, 0, .ro, .none, -2147483648, 2147483647, 0, .no, .all⟩,
  ⟨0x5030, 2, 2, 1, .i 4, 0, .ro, .none, -2147483648, 2147483647, 0, .no, .all⟩,
  ⟨0x5030, 2, 3, 1, .i 4, 0, .ro, .none, -2147483648, 2147483647, 0, .no, .all⟩,
  ⟨0x5030, 2, 4, 1, .i 2, 0, .ro, .none, -8192, 8191, 0, .no, .all⟩,
  ⟨0x5030, 2, 5, 1, .u 2, 0, .ro, .none, 0, 65535, 0, .no, .all⟩,
  ⟨0x5030, 2, 6, 1, .u 1, 0, .ro, .none, 0, 255, 0, .no, .all⟩,
  ⟨0x5030, 2, 7, 1, .u 1, 0, .ro, .none, 0, 255, 0, .no, .all⟩,
  ⟨0x5040, 3, 1, 1, .u 1, 11, .rw, .none, 0, 1, 1, .yes, .all⟩,
  ⟨0x5040, 3, 2, 1, .u 1, 11, .rw, .stopped, 3, 5, 3, .yes, .all⟩,
  ⟨0x5040, 3, 3, 1, .u 1, 11, .rw, .stopped, 0, 1, 0, .yes, .all⟩]

/-- Rows of the tables at 0x5040 to 0x5070. -/
def objRows50b : List ObjRow := [
  ⟨0x5040, 3, 6, 1, .u 4, 0, .ro, .none, 0, 4294967295, 2147483648, .no, .all⟩,
  ⟨0x5042, 1, 4, 1, .u 1, 11, .rw, .stopped, 0, 2, 0, .yes, .all⟩,
  ⟨0x5042, 1, 5, 1, .u 1, 11, .rw, .stopped, 1, 255, 8, .yes, .all⟩,
  ⟨0x5048, 1, 1, 4, .u 1, 11, .rw, .none, 0, 2, 0, .yes, .all⟩,
  ⟨0x5048, 1, 5, 1, .u 1, 11, .rw, .loopOpen, 0, 2, 0, .yes, .all⟩,
  ⟨0x5048, 1, 6, 1, .i 4, 11, .rw, .loopOpen, -2147483648, 2147483647, 0, .yes, .all⟩,
  ⟨0x5048, 1, 7, 1, .i 4, 11, .rw, .loopOpen, -2147483648, 2147483647, 2344, .yes, .all⟩,
  ⟨0x5048, 1, 8, 1, .i 4, 11, .rw, .none, -2147483648, 2147483647, 0, .yes, .all⟩,
  ⟨0x5048, 1, 9, 1, .i 4, 11, .rw, .none, 1, 8388607, 8388607, .yes, .all⟩,
  ⟨0x5048, 1, 10, 1, .u 4, 11, .rw, .loopOpen, 0, 10000, 0, .yes, .all⟩,
  ⟨0x5050, 1, 1, 1, .u 1, 11, .rw, .none, 0, 2, 0, .yes, .all⟩,
  ⟨0x5050, 1, 2, 1, .u 4, 11, .rw, .none, 1, 1000000, 50, .yes, .all⟩,
  ⟨0x5050, 1, 3, 1, .u 4, 11, .rw, .none, 1, 1000000, 20000, .yes, .all⟩,
  ⟨0x5050, 1, 4, 1, .u 2, 11, .rw, .none, 1, 65535, 78, .yes, .all⟩,
  ⟨0x5050, 1, 5, 1, .u 4, 11, .rw, .none, 0, 4294967295, 1000, .yes, .all⟩,
  ⟨0x5050, 1, 6, 1, .u 4, 11, .rw, .none, 1, 1000000, 1000, .yes, .all⟩,
  ⟨0x5050, 1, 7, 1, .real, 0, .ro, .none, 0, 0, 0, .no, .all⟩,
  ⟨0x5060, 1, 1, 1, .oct 8, 11, .rw, .none, 0, 0, 255, .no, .all⟩,
  ⟨0x5060, 1, 2, 1, .u 1, 11, .rw, .none, 0, 4, 1, .no, .all⟩,
  ⟨0x5060, 1, 3, 1, .u 2, 11, .rw, .none, 0, 4095, 1024, .no, .all⟩,
  ⟨0x5060, 1, 4, 1, .u 1, 11, .wo, .none, 0, 2, 0, .no, .all⟩,
  ⟨0x5060, 1, 5, 1, .u 1, 0, .ro, .none, 0, 255, 0, .no, .all⟩,
  ⟨0x5060, 1, 6, 1, .dom 131072, 0, .ro, .none, 0, 0, 0, .no, .all⟩,
  ⟨0x5060, 1, 7, 1, .u 8, 0, .ro, .none, 0, 18446744073709551615, 0, .no, .all⟩,
  ⟨0x5060, 1, 8, 1, .u 2, 0, .ro, .none, 0, 4095, 0, .no, .all⟩,
  ⟨0x5070, 1, 1, 1, .u 4, 8, .counter, .none, 0, 4294967295, 0, .no, .all⟩,
  ⟨0x5070, 1, 2, 1, .u 4, 8, .counter, .none, 0, 4294967295, 0, .no, .all⟩,
  ⟨0x5070, 1, 3, 1, .u 4, 8, .counter, .none, 0, 4294967295, 0, .no, .all⟩,
  ⟨0x5070, 1, 4, 1, .u 4, 8, .counter, .none, 0, 4294967295, 0, .no, .all⟩,
  ⟨0x5070, 1, 5, 1, .u 4, 8, .counter, .none, 0, 4294967295, 0, .no, .all⟩,
  ⟨0x5070, 1, 6, 1, .u 4, 8, .counter, .none, 0, 4294967295, 0, .no, .all⟩,
  ⟨0x5070, 1, 7, 1, .u 4, 8, .counter, .none, 0, 4294967295, 0, .no, .all⟩]

/-- Rows of the tables at 0x1008 to 0x1F40. -/
def objRows1a : List ObjRow := [
  ⟨0x1008, 1, 1, 1, .str, 0, .ro, .none, 0, 0, 0, .no, .all⟩,
  ⟨0x1009, 1, 1, 1, .u 1, 0, .ro, .none, 0, 255, 0, .no, .all⟩,
  ⟨0x100A, 1, 1, 1, .u 4, 0, .ro, .none, 0, 4294967295, 0, .no, .all⟩,
  ⟨0x1010, 1, 1, 1, .bool, 11, .wo, .none, 0, 1, 0, .no, .all⟩,
  ⟨0x1010, 1, 2, 1, .u 4, 0, .ro, .none, 0, 4294967295, 0, .no, .all⟩,
  ⟨0x1010, 1, 3, 1, .u 4, 0, .ro, .none, 0, 4294967295, 0, .no, .all⟩,
  ⟨0x1011, 1, 1, 1, .bool, 8, .wo, .none, 0, 1, 0, .no, .all⟩,
  ⟨0x1018, 1, 1, 1, .u 8, 0, .ro, .none, 0, 18446744073709551615, 0, .no, .all⟩,
  ⟨0x1018, 1, 2, 1, .u 2, 0, .ro, .none, 0, 65535, 0, .no, .all⟩,
  ⟨0x1F10, 1, 1, 1, .u 1, 0, .ro, .none, 1, 4, 0, .no, .all⟩,
  ⟨0x1F10, 1, 2, 1, .u 2, 0, .ro, .none, 0, 65535, 0, .no, .all⟩,
  ⟨0x1F10, 1, 3, 1, .u 1, 0, .ro, .none, 0, 255, 0, .no, .all⟩,
  ⟨0x1F10, 1, 4, 1, .u 1, 0, .ro, .none, 0, 255, 0, .no, .all⟩,
  ⟨0x1F10, 1, 5, 1, .bool, 0, .ro, .none, 0, 1, 0, .no, .all⟩,
  ⟨0x1F10, 1, 6, 1, .bool, 0, .ro, .none, 0, 1, 0, .no, .all⟩,
  ⟨0x1F10, 1, 7, 1, .u 1, 0, .ro, .none, 0, 255, 0, .no, .all⟩,
  ⟨0x1F10, 1, 8, 1, .u 4, 0, .ro, .none, 0, 4294967295, 0, .no, .all⟩,
  ⟨0x1F12, 1, 1, 1, .u 1, 0, .ro, .none, 0, 255, 3, .no, .all⟩,
  ⟨0x1F12, 1, 2, 1, .u 1, 9, .rw, .none, 1, 255, 1, .no, .all⟩,
  ⟨0x1F12, 1, 3, 1, .u 1, 11, .rw, .none, 1, 255, 2, .yes, .all⟩,
  ⟨0x1F20, 1, 1, 1, .u 1, 0, .ro, .none, 0, 8, 0, .no, .all⟩,
  ⟨0x1F20, 1, 2, 1, .u 2, 11, .rw, .none, 5, 3600, 60, .yes, .all⟩,
  ⟨0x1F20, 1, 3, 1, .u 1, 0, .ro, .none, 0, 255, 15, .no, .all⟩,
  ⟨0x1F20, 1, 4, 1, .u 1, 0, .ro, .none, 0, 255, 0, .no, .all⟩,
  ⟨0x1F20, 1, 5, 1, .u 4, 0, .ro, .none, 0, 4294967295, 0, .no, .all⟩,
  ⟨0x1F21, 1, 1, 1, .oct 32, 8, .wo, .none, 0, 0, 0, .no, .all⟩,
  ⟨0x1F21, 1, 2, 1, .oct 32, 8, .wo, .none, 0, 0, 0, .no, .all⟩,
  ⟨0x1F30, 1, 1, 1, .u 2, 8, .w1c, .none, 0, 65535, 1, .no, .all⟩,
  ⟨0x1F30, 1, 2, 1, .u 2, 0, .ro, .none, 0, 65535, 0, .no, .all⟩,
  ⟨0x1F30, 1, 3, 1, .u 4, 0, .ro, .none, 0, 4294967295, 0, .no, .all⟩,
  ⟨0x1F30, 1, 4, 1, .u 1, 0, .ro, .none, 0, 255, 0, .no, .all⟩,
  ⟨0x1F30, 1, 5, 1, .bool, 11, .wo, .emOff, 0, 1, 0, .no, .all⟩,
  ⟨0x1F40, 1, 1, 1, .u 1, 0, .ro, .none, 0, 255, 0, .no, .all⟩,
  ⟨0x1F40, 1, 2, 1, .u 1, 0, .ro, .none, 0, 255, 0, .no, .all⟩,
  ⟨0x1F40, 1, 3, 1, .u 1, 0, .ro, .none, 0, 8, 0, .no, .all⟩,
  ⟨0x1F40, 1, 4, 1, .u 1, 0, .ro, .none, 0, 8, 0, .no, .all⟩,
  ⟨0x1F40, 1, 5, 1, .u 4, 0, .ro, .none, 0, 4294967295, 0, .no, .all⟩,
  ⟨0x1F40, 1, 6, 1, .u 4, 0, .ro, .none, 0, 4294967295, 0, .no, .all⟩,
  ⟨0x1F40, 1, 7, 1, .u 1, 0, .ro, .none, 0, 64, 0, .no, .all⟩,
  ⟨0x1F40, 1, 8, 1, .u 1, 0, .ro, .none, 0, 64, 0, .no, .all⟩]

/-- Rows of the tables at 0x1F40 to 0x1F50. -/
def objRows1b : List ObjRow := [
  ⟨0x1F40, 1, 9, 1, .u 1, 0, .ro, .none, 0, 64, 0, .no, .all⟩,
  ⟨0x1F40, 1, 10, 1, .u 1, 8, .rw, .none, 0, 255, 0, .no, .all⟩,
  ⟨0x1F40, 1, 11, 1, .u 4, 0, .ro, .none, 0, 4294967295, 0, .no, .all⟩,
  ⟨0x1F40, 1, 12, 1, .u 1, 0, .ro, .none, 0, 255, 0, .no, .all⟩,
  ⟨0x1F40, 1, 13, 1, .u 2, 0, .ro, .none, 0, 65535, 0, .no, .all⟩,
  ⟨0x1F40, 1, 14, 1, .u 4, 8, .counter, .none, 0, 4294967295, 0, .no, .all⟩,
  ⟨0x1F40, 1, 15, 1, .u 2, 0, .ro, .none, 0, 65535, 0, .no, .all⟩,
  ⟨0x1F40, 1, 16, 1, .u 2, 11, .rw, .none, 0, 511, 511, .yes, .all⟩,
  ⟨0x1F50, 1, 1, 1, .dom 25165824, 11, .wo, .none, 0, 0, 0, .no, .all⟩,
  ⟨0x1F50, 1, 2, 1, .u 1, 11, .wo, .none, 1, 4, 0, .no, .all⟩,
  ⟨0x1F50, 1, 3, 1, .u 1, 0, .ro, .none, 0, 255, 0, .no, .all⟩,
  ⟨0x1F50, 1, 4, 1, .u 1, 0, .ro, .none, 0, 255, 0, .no, .all⟩,
  ⟨0x1F50, 1, 5, 1, .u 4, 0, .ro, .none, 0, 4294967295, 0, .no, .all⟩,
  ⟨0x1F50, 1, 6, 1, .u 1, 0, .ro, .none, 1, 10, 0, .no, .all⟩]

/-- Rows of the tables at 0x2000 to 0x2112. The default of 0x2104:02, "80 % of fitted peak", is 80 % of 17,056 rounded down,
whatever is fitted (DESIGN CHOICE, assumption 91). -/
def objRows2a : List ObjRow := [
  ⟨0x2000, 1, 1, 1, .u 1, 11, .rw, .emOff, 0, 2, 0, .yes, .all⟩,
  ⟨0x2000, 1, 2, 1, .u 2, 11, .rw, .emOff, 0, 1999, 0, .yes, .all⟩,
  ⟨0x2000, 1, 3, 1, .u 1, 11, .rw, .emOff, 0, 1, 0, .yes, .all⟩,
  ⟨0x2000, 1, 4, 1, .u 1, 11, .rw, .none, 1, 16, 4, .yes, .all⟩,
  ⟨0x2000, 1, 5, 1, .u 1, 0, .ro, .none, 0, 255, 0, .no, .all⟩,
  ⟨0x2000, 1, 6, 1, .u 8, 0, .ro, .none, 0, 18446744073709551615, 0, .no, .all⟩,
  ⟨0x2000, 1, 7, 1, .u 4, 0, .ro, .none, 0, 4294967295, 0, .no, .all⟩,
  ⟨0x2000, 1, 8, 1, .u 4, 0, .ro, .none, 0, 4294967295, 0, .no, .all⟩,
  ⟨0x2000, 1, 9, 1, .bool, 11, .rw, .none, 0, 1, 0, .yes, .all⟩,
  ⟨0x2000, 1, 10, 1, .u 2, 11, .rw, .none, 0, 1999, 0, .yes, .all⟩,
  ⟨0x2000, 1, 11, 1, .u 4, 0, .ro, .none, 0, 4294967295, 0, .no, .all⟩,
  ⟨0x2000, 1, 12, 1, .u 4, 0, .ro, .none, 0, 4294967295, 0, .no, .all⟩,
  ⟨0x2100, 1, 1, 1, .dom 131072, 11, .rw, .none, 0, 0, 0, .no, .all⟩,
  ⟨0x2100, 1, 2, 1, .u 1, 11, .rw, .none, 0, 1, 0, .no, .all⟩,
  ⟨0x2100, 1, 3, 1, .bool, 11, .rw, .none, 0, 1, 0, .no, .all⟩,
  ⟨0x2100, 1, 4, 1, .bool, 11, .wo, .none, 0, 1, 0, .no, .all⟩,
  ⟨0x2101, 1, 1, 1, .u 1, 0, .ro, .none, 0, 255, 0, .no, .all⟩,
  ⟨0x2101, 1, 2, 1, .u 1, 0, .ro, .none, 0, 255, 0, .no, .all⟩,
  ⟨0x2101, 1, 3, 1, .u 4, 0, .ro, .none, 0, 4294967295, 0, .no, .all⟩,
  ⟨0x2101, 1, 4, 1, .u 1, 0, .ro, .none, 1, 3, 0, .no, .all⟩,
  ⟨0x2101, 1, 5, 1, .u 8, 0, .ro, .none, 0, 18446744073709551615, 0, .no, .all⟩,
  ⟨0x2101, 1, 6, 1, .u 8, 0, .ro, .none, 0, 18446744073709551615, 0, .no, .all⟩,
  ⟨0x2101, 1, 7, 1, .u 1, 0, .ro, .none, 1, 255, 0, .no, .all⟩,
  ⟨0x2101, 1, 8, 1, .u 4, 0, .ro, .none, 0, 4294967295, 0, .no, .all⟩,
  ⟨0x2102, 1, 1, 1, .u 1, 0, .ro, .none, 1, 255, 0, .no, .all⟩,
  ⟨0x2102, 1, 2, 1, .u 1, 0, .ro, .none, 1, 255, 0, .no, .all⟩,
  ⟨0x2102, 1, 3, 1, .u 4, 0, .ro, .none, 0, 4294967295, 0, .no, .all⟩,
  ⟨0x2102, 1, 4, 1, .u 2, 0, .ro, .none, 0, 65535, 0, .no, .all⟩,
  ⟨0x2102, 1, 5, 1, .u 4, 8, .counter, .none, 0, 4294967295, 0, .no, .all⟩,
  ⟨0x2102, 1, 6, 1, .u 4, 8, .counter, .none, 0, 4294967295, 0, .no, .all⟩,
  ⟨0x2102, 1, 7, 1, .u 4, 8, .counter, .none, 0, 4294967295, 0, .no, .all⟩,
  ⟨0x2104, 1, 1, 1, .u 4, 0, .ro, .none, 0, 4294967295, 0, .no, .all⟩,
  ⟨0x2104, 1, 2, 1, .u 4, 11, .rw, .none, 1, 17056, 13644, .yes, .all⟩,
  ⟨0x2104, 1, 3, 1, .u 1, 11, .rw, .emOff, 50, 100, 90, .yes, .all⟩,
  ⟨0x2110, 1, 1, 1, .real, 11, .rw, .none, -150, 150, 0, .no, .all⟩,
  ⟨0x2110, 1, 2, 1, .real, 11, .rw, .none, 0, 50, 1065353216, .no, .all⟩,
  ⟨0x2110, 1, 3, 1, .u 2, 11, .rw, .none, 10, 5000, 200, .yes, .all⟩,
  ⟨0x2110, 1, 4, 1, .real, 11, .rw, .none, 1, 150, 1120403456, .yes, .all⟩,
  ⟨0x2110, 1, 5, 1, .u 1, 0, .ro, .none, 0, 255, 1, .no, .all⟩,
  ⟨0x2112, 1, 3, 1, .u 2, 11, .rw, .none, 8, 65535, 256, .yes, .all⟩]

/-- Rows of the tables at 0x2114 to 0x2138. -/
def objRows2b : List ObjRow := [
  ⟨0x2114, 1, 1, 1, .u 1, 11, .rw, .sealed, 0, 64, 8, .yes, .all⟩,
  ⟨0x2120, 1, 1, 1, .u 4, 8, .counter, .none, 0, 4294967295, 0, .no, .all⟩,
  ⟨0x2120, 1, 2, 1, .u 4, 8, .counter, .none, 0, 4294967295, 0, .no, .all⟩,
  ⟨0x2120, 1, 3, 1, .u 4, 8, .counter, .none, 0, 4294967295, 0, .no, .all⟩,
  ⟨0x2120, 1, 4, 1, .u 4, 8, .counter, .none, 0, 4294967295, 0, .no, .all⟩,
  ⟨0x2120, 1, 5, 1, .u 4, 8, .counter, .none, 0, 4294967295, 0, .no, .all⟩,
  ⟨0x2120, 1, 6, 1, .u 4, 0, .ro, .none, 0, 4294967295, 0, .no, .all⟩,
  ⟨0x2120, 1, 7, 1, .u 4, 0, .ro, .none, 0, 4294967295, 0, .no, .all⟩,
  ⟨0x2120, 1, 8, 1, .u 4, 0, .ro, .none, 0, 4294967295, 0, .no, .all⟩,
  ⟨0x2120, 1, 9, 1, .u 4, 8, .counter, .none, 0, 4294967295, 0, .no, .all⟩,
  ⟨0x2120, 1, 10, 1, .u 4, 8, .counter, .none, 0, 4294967295, 0, .no, .all⟩,
  ⟨0x2130, 8, 1, 64, .u 4, 8, .counter, .none, 0, 4294967295, 0, .no, .quad⟩,
  ⟨0x2138, 8, 1, 64, .u 1, 0, .ro, .none, 0, 255, 0, .no, .quad⟩]

/-- Rows of the tables at 0x6000 to 0x6008. -/
def objRows6a : List ObjRow := [
  ⟨0x6000, 2, 1, 1, .bool, 11, .rw, .none, 0, 1, 0, .yes, .cam⟩,
  ⟨0x6000, 2, 2, 1, .u 1, 11, .rw, .portOff, 1, 4, 4, .yes, .cam⟩,
  ⟨0x6000, 2, 3, 1, .u 2, 11, .rw, .portOff, 80, 2500, 2500, .yes, .cam⟩,
  ⟨0x6000, 2, 4, 1, .u 1, 11, .rw, .portOff, 0, 3, 0, .yes, .cam⟩,
  ⟨0x6000, 2, 5, 1, .u 1, 11, .rw, .portOff, 0, 2, 1, .yes, .cam⟩,
  ⟨0x6000, 2, 6, 1, .u 2, 11, .rw, .portOff, 16, 4096, 3840, .yes, .cam⟩,
  ⟨0x6000, 2, 7, 1, .u 2, 11, .rw, .portOff, 16, 4096, 2160, .yes, .cam⟩,
  ⟨0x6000, 2, 8, 1, .u 1, 11, .rw, .portOff, 0, 3, 0, .yes, .cam⟩,
  ⟨0x6000, 2, 9, 1, .u 1, 11, .rw, .none, 0, 7, 0, .yes, .cam⟩,
  ⟨0x6000, 2, 10, 1, .u 2, 11, .rw, .none, 100, 12000, 3000, .yes, .cam⟩,
  ⟨0x6000, 2, 11, 1, .u 1, 11, .rw, .none, 0, 1, 0, .yes, .cam⟩,
  ⟨0x6000, 2, 12, 1, .i 4, 11, .rw, .none, -2147483648, 2147483647, 0, .yes, .cam⟩,
  ⟨0x6000, 2, 13, 1, .u 2, 11, .rw, .none, 10, 5000, 200, .yes, .cam⟩,
  ⟨0x6000, 2, 15, 1, .bool, 11, .rw, .none, 0, 1, 0, .no, .cam⟩,
  ⟨0x6000, 2, 16, 1, .u 1, 11, .rw, .none, 1, 255, 4, .yes, .cam⟩,
  ⟨0x6000, 2, 17, 1, .u 1, 11, .rw, .none, 1, 255, 3, .yes, .cam⟩,
  ⟨0x6002, 2, 1, 1, .oct 8, 11, .rw, .none, 0, 0, 0, .yes, .cam⟩,
  ⟨0x6002, 2, 2, 1, .dom 8192, 11, .rw, .none, 0, 0, 0, .yes, .cam⟩,
  ⟨0x6002, 2, 3, 1, .oct 6, 11, .rw, .none, 0, 0, 0, .yes, .cam⟩,
  ⟨0x6002, 2, 4, 1, .oct 30, 11, .rw, .none, 0, 0, 0, .yes, .cam⟩,
  ⟨0x6004, 2, 1, 1, .dom 6144, 11, .rw, .none, 0, 0, 0, .yes, .cam⟩,
  ⟨0x6004, 2, 2, 1, .dom 6144, 11, .rw, .none, 0, 0, 0, .yes, .cam⟩,
  ⟨0x6004, 2, 3, 1, .u 1, 11, .rw, .none, 0, 1, 0, .yes, .cam⟩,
  ⟨0x6004, 2, 4, 1, .u 1, 11, .rw, .none, 1, 255, 16, .yes, .cam⟩,
  ⟨0x6004, 2, 5, 1, .u 1, 0, .ro, .none, 0, 255, 0, .no, .cam⟩,
  ⟨0x6006, 2, 1, 1, .u 1, 11, .rw, .none, 0, 2, 0, .yes, .cam⟩,
  ⟨0x6006, 2, 2, 1, .u 1, 11, .rw, .none, 0, 255, 0, .yes, .cam⟩,
  ⟨0x6006, 2, 3, 1, .u 1, 11, .rw, .none, 0, 4, 0, .yes, .cam⟩,
  ⟨0x6006, 2, 4, 1, .u 1, 11, .rw, .none, 0, 2, 0, .yes, .cam⟩,
  ⟨0x6006, 2, 5, 1, .u 1, 11, .rw, .none, 0, 255, 0, .yes, .cam⟩,
  ⟨0x6008, 2, 1, 1, .u 1, 0, .ro, .none, 0, 255, 0, .no, .cam⟩,
  ⟨0x6008, 2, 2, 1, .u 4, 8, .counter, .none, 0, 4294967295, 0, .no, .cam⟩,
  ⟨0x6008, 2, 3, 1, .u 4, 8, .counter, .none, 0, 4294967295, 0, .no, .cam⟩,
  ⟨0x6008, 2, 4, 1, .u 4, 8, .counter, .none, 0, 4294967295, 0, .no, .cam⟩,
  ⟨0x6008, 2, 5, 1, .u 4, 8, .counter, .none, 0, 4294967295, 0, .no, .cam⟩,
  ⟨0x6008, 2, 6, 1, .u 4, 8, .counter, .none, 0, 4294967295, 0, .no, .cam⟩,
  ⟨0x6008, 2, 7, 1, .u 4, 8, .counter, .none, 0, 4294967295, 0, .no, .cam⟩,
  ⟨0x6008, 2, 8, 1, .u 4, 8, .counter, .none, 0, 4294967295, 0, .no, .cam⟩,
  ⟨0x6008, 2, 9, 1, .u 4, 8, .counter, .none, 0, 4294967295, 0, .no, .cam⟩,
  ⟨0x6008, 2, 10, 1, .u 4, 8, .counter, .none, 0, 4294967295, 0, .no, .cam⟩]

/-- Rows of the tables at 0x6008 to 0x6044. -/
def objRows6b : List ObjRow := [
  ⟨0x6008, 2, 11, 1, .u 4, 8, .counter, .none, 0, 4294967295, 0, .no, .cam⟩,
  ⟨0x6008, 2, 12, 1, .oct 32, 0, .ro, .none, 0, 0, 0, .no, .cam⟩,
  ⟨0x6008, 2, 13, 1, .u 4, 8, .counter, .none, 0, 4294967295, 0, .no, .cam⟩,
  ⟨0x6008, 2, 14, 1, .u 4, 8, .counter, .none, 0, 4294967295, 0, .no, .cam⟩,
  ⟨0x6010, 2, 1, 1, .u 8, 11, .rw, .portOff, 0, 18446744073709551615, 0, .yes, .cam⟩,
  ⟨0x6010, 2, 2, 1, .u 1, 11, .rw, .portOff, 2, 4, 2, .yes, .cam⟩,
  ⟨0x6010, 2, 3, 1, .u 1, 11, .rw, .portOff, 0, 1, 1, .yes, .cam⟩,
  ⟨0x6012, 1, 1, 1, .u 1, 11, .rw, .none, 0, 3, 0, .yes, .cam⟩,
  ⟨0x6012, 1, 2, 1, .u 2, 11, .rw, .none, 1, 65535, 2604, .yes, .cam⟩,
  ⟨0x6012, 1, 3, 1, .u 2, 11, .rw, .none, 0, 65534, 0, .yes, .cam⟩,
  ⟨0x6012, 1, 4, 1, .u 1, 11, .rw, .none, 1, 255, 10, .yes, .cam⟩,
  ⟨0x6040, 1, 1, 1, .bool, 11, .rw, .none, 0, 1, 1, .yes, .cam⟩,
  ⟨0x6040, 1, 2, 1, .u 2, 11, .rw, .none, 1, 1000, 50, .yes, .cam⟩,
  ⟨0x6041, 2, 1, 1, .oct 100, 11, .rw, .none, 0, 0, 0, .yes, .cam⟩,
  ⟨0x6041, 2, 2, 1, .u 1, 0, .ro, .none, 0, 255, 0, .no, .cam⟩,
  ⟨0x6044, 1, 1, 1, .u 8, 8, .counter, .none, 0, 18446744073709551615, 0, .no, .cam⟩,
  ⟨0x6044, 1, 2, 1, .u 4, 8, .counter, .none, 0, 4294967295, 0, .no, .cam⟩,
  ⟨0x6044, 1, 3, 1, .u 4, 8, .counter, .none, 0, 4294967295, 0, .no, .cam⟩,
  ⟨0x6044, 1, 4, 1, .u 4, 8, .counter, .none, 0, 4294967295, 0, .no, .cam⟩,
  ⟨0x6044, 1, 5, 1, .u 4, 8, .counter, .none, 0, 4294967295, 0, .no, .cam⟩,
  ⟨0x6044, 1, 6, 1, .u 4, 8, .counter, .none, 0, 4294967295, 0, .no, .cam⟩,
  ⟨0x6044, 1, 7, 1, .u 4, 8, .counter, .none, 0, 4294967295, 0, .no, .cam⟩]

/-- Rows of the tables at 0x7000 to 0x7020. -/
def objRows7a : List ObjRow := [
  ⟨0x7000, 1, 1, 1, .u 1, 11, .wo, .none, 0, 2, 0, .no, .all⟩,
  ⟨0x7000, 1, 2, 1, .u 1, 0, .ro, .none, 0, 255, 0, .no, .all⟩,
  ⟨0x7000, 1, 3, 1, .u 1, 0, .ro, .none, 0, 255, 0, .no, .all⟩,
  ⟨0x7000, 1, 4, 1, .u 8, 11, .rw, .acqIdle, 0, 18446744073709551615, 67108864, .no, .all⟩,
  ⟨0x7000, 1, 5, 1, .u 4, 11, .rw, .acqIdle, 4096, 75497472, 1048576, .no, .all⟩,
  ⟨0x7000, 1, 6, 1, .u 4, 11, .rw, .acqIdle, 0, 3145728, 1024, .no, .all⟩,
  ⟨0x7000, 1, 7, 1, .u 4, 11, .rw, .acqIdle, 1, 3145728, 3072, .no, .all⟩,
  ⟨0x7000, 1, 8, 1, .u 4, 11, .rw, .acqIdle, 1, 65536, 1, .no, .all⟩,
  ⟨0x7000, 1, 9, 1, .u 1, 11, .rw, .acqIdle, 0, 1, 0, .no, .all⟩,
  ⟨0x7000, 1, 10, 1, .u 1, 11, .rw, .acqIdle, 0, 2, 0, .no, .all⟩,
  ⟨0x7000, 1, 11, 1, .u 1, 0, .ro, .none, 0, 255, 0, .no, .all⟩,
  ⟨0x7001, 1, 1, 1, .u 2, 0, .ro, .none, 0, 65535, 0, .no, .all⟩,
  ⟨0x7001, 1, 2, 1, .u 4, 0, .ro, .none, 0, 4294967295, 0, .no, .all⟩,
  ⟨0x7001, 1, 3, 1, .u 4, 0, .ro, .none, 0, 4294967295, 0, .no, .all⟩,
  ⟨0x7001, 1, 4, 1, .u 4, 0, .ro, .none, 0, 4294967295, 0, .no, .all⟩,
  ⟨0x7001, 1, 5, 1, .u 4, 0, .ro, .none, 0, 4294967295, 0, .no, .all⟩,
  ⟨0x7001, 1, 6, 1, .u 8, 0, .ro, .none, 0, 18446744073709551615, 0, .no, .all⟩,
  ⟨0x7001, 1, 7, 1, .u 1, 0, .ro, .none, 0, 3, 255, .no, .all⟩,
  ⟨0x7001, 1, 8, 1, .oct 256, 0, .ro, .none, 0, 0, 0, .no, .all⟩,
  ⟨0x7001, 1, 9, 1, .u 4, 0, .ro, .none, 0, 4294967295, 0, .no, .all⟩,
  ⟨0x7001, 1, 10, 1, .u 4, 0, .ro, .none, 0, 4294967295, 0, .no, .all⟩,
  ⟨0x7001, 1, 11, 1, .u 8, 0, .ro, .none, 0, 18446744073709551615, 0, .no, .all⟩,
  ⟨0x7001, 1, 12, 1, .u 4, 0, .ro, .none, 0, 4294967295, 0, .no, .all⟩,
  ⟨0x7001, 1, 13, 1, .oct 16, 0, .ro, .none, 0, 0, 0, .no, .all⟩,
  ⟨0x7001, 1, 14, 1, .u 8, 0, .ro, .none, 0, 18446744073709551615, 0, .no, .all⟩,
  ⟨0x7010, 16, 1, 1, .u 1, 11, .rw, .acqIdle, 0, 7, 0, .no, .all⟩,
  ⟨0x7010, 16, 2, 1, .u 2, 11, .rw, .acqIdle, 0, 65535, 0, .no, .all⟩,
  ⟨0x7010, 16, 3, 1, .u 2, 11, .rw, .acqIdle, 0, 65535, 0, .no, .all⟩,
  ⟨0x7010, 16, 4, 1, .u 2, 11, .rw, .acqIdle, 1, 2560, 1, .no, .all⟩,
  ⟨0x7010, 16, 5, 1, .u 4, 11, .rw, .acqIdle, 0, 4294967295, 0, .no, .all⟩,
  ⟨0x7010, 16, 6, 1, .u 4, 11, .rw, .acqIdle, 0, 4294967295, 4294967295, .no, .all⟩,
  ⟨0x7010, 16, 7, 1, .dom 10240, 11, .rw, .acqIdle, 0, 0, 0, .no, .all⟩,
  ⟨0x7020, 4, 1, 1, .bool, 11, .rw, .acqIdle, 0, 1, 0, .no, .all⟩,
  ⟨0x7020, 4, 2, 1, .u 1, 11, .rw, .acqIdle, 0, 15, 0, .no, .all⟩,
  ⟨0x7020, 4, 3, 1, .u 1, 11, .rw, .acqIdle, 0, 3, 0, .no, .all⟩,
  ⟨0x7020, 4, 4, 1, .u 1, 11, .rw, .acqIdle, 0, 255, 0, .no, .all⟩,
  ⟨0x7020, 4, 5, 1, .u 4, 11, .rw, .acqIdle, 0, 4294967295, 0, .no, .all⟩,
  ⟨0x7020, 4, 6, 1, .u 4, 11, .rw, .acqIdle, 0, 4294967295, 0, .no, .all⟩,
  ⟨0x7020, 4, 7, 1, .u 4, 11, .rw, .acqIdle, 0, 4294967295, 4294967295, .no, .all⟩]

/-- Rows of the tables at 0x8000 to 0x8310. -/
def objRows8a : List ObjRow := [
  ⟨0x8000, 1, 1, 1, .u 1, 0, .ro, .none, 0, 255, 0, .no, .safe⟩,
  ⟨0x8000, 1, 2, 1, .u 1, 0, .ro, .none, 0, 255, 0, .no, .safe⟩,
  ⟨0x8000, 1, 3, 1, .u 2, 0, .ro, .none, 0, 65535, 0, .no, .safe⟩,
  ⟨0x8000, 1, 4, 1, .u 1, 0, .ro, .none, 1, 255, 0, .no, .safe⟩,
  ⟨0x8000, 1, 5, 1, .u 4, 0, .ro, .none, 0, 4294967295, 0, .no, .safe⟩,
  ⟨0x8000, 1, 6, 1, .u 4, 0, .ro, .none, 0, 4294967295, 0, .no, .safe⟩,
  ⟨0x8000, 1, 7, 1, .u 4, 0, .ro, .none, 0, 4294967295, 0, .no, .safe⟩,
  ⟨0x8000, 1, 8, 1, .u 1, 0, .ro, .none, 0, 255, 0, .no, .safe⟩,
  ⟨0x8000, 1, 11, 1, .u 2, 0, .ro, .none, 0, 65535, 0, .no, .safe⟩,
  ⟨0x8000, 1, 12, 1, .u 2, 0, .ro, .none, 0, 65535, 0, .no, .safe⟩,
  ⟨0x8001, 1, 1, 1, .u 4, 0, .ro, .none, 0, 4294967295, 0, .no, .safe⟩,
  ⟨0x8001, 1, 2, 1, .u 4, 0, .ro, .none, 0, 4294967295, 0, .no, .safe⟩,
  ⟨0x8001, 1, 3, 1, .u 4, 0, .ro, .none, 0, 4294967295, 0, .no, .safe⟩,
  ⟨0x8001, 1, 4, 1, .u 4, 0, .ro, .none, 0, 4294967295, 0, .no, .safe⟩,
  ⟨0x8001, 1, 5, 1, .u 4, 0, .ro, .none, 0, 4294967295, 0, .no, .safe⟩,
  ⟨0x8001, 1, 6, 1, .u 4, 0, .ro, .none, 0, 4294967295, 0, .no, .safe⟩,
  ⟨0x8001, 1, 7, 1, .u 4, 0, .ro, .none, 0, 4294967295, 0, .no, .safe⟩,
  ⟨0x8001, 1, 8, 1, .u 4, 0, .ro, .none, 0, 4294967295, 0, .no, .safe⟩,
  ⟨0x8001, 1, 9, 1, .u 4, 0, .ro, .none, 0, 4294967295, 0, .no, .safe⟩,
  ⟨0x8002, 1, 1, 1, .u 1, 4, .wo, .none, 1, 255, 0, .no, .safe⟩,
  ⟨0x8002, 1, 2, 1, .u 1, 4, .wo, .none, 1, 255, 0, .no, .safe⟩,
  ⟨0x8002, 1, 3, 1, .u 1, 4, .wo, .none, 1, 255, 0, .no, .safe⟩,
  ⟨0x8002, 1, 4, 1, .oct 32, 0, .ro, .none, 0, 0, 0, .yes, .safe⟩,
  ⟨0x8002, 1, 5, 1, .oct 32, 0, .ro, .none, 0, 0, 0, .yes, .safe⟩,
  ⟨0x8002, 1, 6, 1, .u 4, 0, .ro, .none, 0, 4294967295, 0, .no, .safe⟩,
  ⟨0x8010, 1, 1, 1, .oct 64, 0, .ro, .none, 0, 0, 0, .no, .safe⟩,
  ⟨0x8200, 16, 1, 1, .u 1, 4, .rw, .none, 0, 255, 0, .cfg, .safe⟩,
  ⟨0x8200, 16, 2, 1, .u 1, 4, .rw, .none, 1, 16, 2, .cfg, .safe⟩,
  ⟨0x8200, 16, 3, 1, .u 1, 4, .rw, .none, 1, 16, 2, .cfg, .safe⟩,
  ⟨0x8200, 16, 4, 1, .u 2, 4, .rw, .none, 1, 1562, 1562, .cfg, .safe⟩,
  ⟨0x8200, 16, 5, 1, .u 1, 4, .rw, .none, 1, 64, 4, .cfg, .safe⟩,
  ⟨0x8200, 16, 6, 1, .dom 784, 4, .rw, .none, 0, 0, 0, .cfg, .safe⟩,
  ⟨0x8200, 16, 7, 1, .i 4, 4, .rw, .none, -2147483648, 2147483647, 0, .cfg, .safe⟩,
  ⟨0x8200, 16, 8, 1, .i 4, 4, .rw, .none, -2147483648, 30000, 0, .cfg, .safe⟩,
  ⟨0x8200, 16, 9, 1, .u 2, 4, .rw, .none, 100, 10000, 1000, .cfg, .safe⟩,
  ⟨0x8300, 4, 1, 1, .u 1, 4, .rw, .none, 0, 3, 0, .cfg, .safe⟩,
  ⟨0x8300, 4, 2, 1, .u 1, 4, .rw, .none, 0, 1, 0, .cfg, .safe⟩,
  ⟨0x8300, 4, 3, 1, .u 2, 4, .rw, .none, 4, 500, 20, .cfg, .safe⟩,
  ⟨0x8310, 1, 1, 1, .u 2, 4, .rw, .none, 100, 1000, 300, .cfg, .safe⟩,
  ⟨0x8310, 1, 2, 1, .u 2, 4, .rw, .none, 10, 1000, 100, .cfg, .safe⟩]

/-- Rows of the tables at 0x8310 to 0x8400. -/
def objRows8b : List ObjRow := [
  ⟨0x8310, 1, 3, 1, .u 1, 4, .rw, .none, 0, 1, 1, .cfg, .safe⟩,
  ⟨0x8400, 4, 1, 1, .u 1, 4, .rw, .none, 0, 2, 0, .cfg, .safe⟩,
  ⟨0x8400, 4, 2, 1, .u 1, 4, .rw, .none, 0, 1, 0, .cfg, .safe⟩,
  ⟨0x8400, 4, 3, 1, .u 4, 4, .rw, .none, 1, 4294967295, 0, .cfg, .safe⟩,
  ⟨0x8400, 4, 4, 1, .u 4, 4, .rw, .none, 1, 4294967295, 0, .cfg, .safe⟩,
  ⟨0x8400, 4, 5, 1, .u 4, 4, .rw, .none, 0, 4294967295, 0, .cfg, .safe⟩,
  ⟨0x8400, 4, 6, 1, .u 2, 4, .rw, .none, 1, 1000, 10, .cfg, .safe⟩,
  ⟨0x8400, 4, 7, 1, .u 2, 4, .rw, .none, 10, 1000, 30, .cfg, .safe⟩,
  ⟨0x8400, 4, 8, 1, .u 1, 4, .rw, .none, 0, 15, 3, .cfg, .safe⟩,
  ⟨0x8400, 4, 9, 1, .u 1, 4, .rw, .none, 1, 3, 2, .cfg, .safe⟩,
  ⟨0x8400, 4, 10, 1, .u 4, 4, .wo, .none, 0, 4294967295, 0, .cfg, .safe⟩,
  ⟨0x8400, 4, 11, 1, .oct 32, 4, .wo, .none, 0, 0, 0, .cfg, .safe⟩,
  ⟨0x8400, 4, 12, 1, .u 1, 0, .ro, .none, 0, 255, 0, .no, .safe⟩,
  ⟨0x8400, 4, 13, 1, .u 1, 0, .ro, .none, 0, 255, 0, .no, .safe⟩]

/-- Rows of the tables at 0x9000 to 0x9010. -/
def objRows9a : List ObjRow := [
  ⟨0x9000, 1, 1, 1, .u 1, 11, .rw, .none, 0, 4, 0, .no, .all⟩,
  ⟨0x9000, 1, 2, 1, .u 1, 0, .ro, .none, 0, 255, 0, .no, .all⟩,
  ⟨0x9000, 1, 3, 1, .u 1, 11, .rw, .none, 0, 1, 0, .yes, .all⟩,
  ⟨0x9000, 1, 4, 1, .u 1, 0, .ro, .none, 0, 255, 0, .no, .all⟩,
  ⟨0x9001, 1, 1, 1, .u 2, 10, .rw, .none, 0, 511, 0, .no, .all⟩,
  ⟨0x9001, 1, 2, 1, .u 2, 0, .ro, .none, 0, 65535, 0, .no, .all⟩,
  ⟨0x9001, 1, 3, 1, .u 2, 0, .ro, .none, 0, 65535, 0, .no, .all⟩,
  ⟨0x9001, 1, 4, 1, .u 2, 11, .rw, .none, 0, 511, 0, .yes, .all⟩,
  ⟨0x9001, 1, 5, 1, .u 2, 0, .ro, .none, 0, 65535, 0, .no, .all⟩,
  ⟨0x9001, 1, 6, 1, .u 2, 0, .ro, .none, 0, 65535, 0, .no, .all⟩,
  ⟨0x9001, 1, 7, 1, .u 2, 0, .ro, .none, 0, 65535, 0, .no, .all⟩,
  ⟨0x9002, 1, 1, 1, .u 4, 8, .counter, .none, 0, 4294967295, 0, .no, .all⟩,
  ⟨0x9002, 1, 2, 1, .u 2, 0, .ro, .none, 0, 65535, 0, .no, .all⟩,
  ⟨0x9002, 1, 3, 1, .u 4, 8, .counter, .none, 0, 4294967295, 0, .no, .all⟩,
  ⟨0x9002, 1, 4, 1, .u 2, 0, .ro, .none, 0, 65535, 0, .no, .all⟩,
  ⟨0x9002, 1, 5, 1, .u 4, 8, .counter, .none, 0, 4294967295, 0, .no, .all⟩,
  ⟨0x9002, 1, 6, 1, .u 4, 8, .counter, .none, 0, 4294967295, 0, .no, .all⟩,
  ⟨0x9002, 1, 7, 1, .u 4, 8, .counter, .none, 0, 4294967295, 0, .no, .all⟩,
  ⟨0x9002, 1, 8, 1, .u 4, 8, .counter, .none, 0, 4294967295, 0, .no, .all⟩,
  ⟨0x9002, 1, 9, 1, .u 4, 0, .ro, .none, 0, 4294967295, 0, .no, .all⟩,
  ⟨0x9002, 1, 10, 1, .u 4, 0, .ro, .none, 0, 4294967295, 0, .no, .all⟩,
  ⟨0x9003, 1, 1, 1, .u 4, 11, .rw, .none, 0, 4294967295, 0, .no, .all⟩,
  ⟨0x9003, 1, 2, 1, .u 4, 11, .rw, .none, 0, 4294967295, 0, .no, .all⟩,
  ⟨0x9003, 1, 3, 1, .bool, 11, .rw, .none, 0, 1, 0, .no, .all⟩,
  ⟨0x9003, 1, 4, 1, .u 1, 11, .rw, .none, 0, 1, 1, .yes, .all⟩,
  ⟨0x9003, 1, 5, 1, .u 1, 0, .ro, .none, 0, 255, 0, .no, .all⟩,
  ⟨0x9003, 1, 6, 1, .bool, 0, .ro, .none, 0, 1, 0, .no, .all⟩,
  ⟨0x9004, 1, 1, 1, .u 1, 0, .ro, .none, 0, 255, 0, .no, .all⟩,
  ⟨0x9004, 1, 2, 1, .u 4, 8, .counter, .none, 0, 4294967295, 0, .no, .all⟩,
  ⟨0x9004, 1, 3, 1, .u 4, 8, .counter, .none, 0, 4294967295, 0, .no, .all⟩,
  ⟨0x9004, 1, 4, 1, .u 2, 11, .rw, .none, 10, 10000, 100, .yes, .all⟩,
  ⟨0x9010, 1, 1, 1, .u 4, 8, .w1c, .none, 0, 4294967295, 2147483648, .no, .all⟩,
  ⟨0x9010, 1, 2, 1, .oct 24, 8, .w1c, .none, 0, 0, 0, .no, .all⟩]

/-- Rows of the tables at 0xB000 to 0xB040. -/
def objRowsBa : List ObjRow := [
  ⟨0xB000, 1, 1, 1, .u 1, 0, .ro, .none, 0, 255, 0, .no, .all⟩,
  ⟨0xB000, 1, 2, 1, .bool, 11, .rw, .none, 0, 1, 1, .yes, .all⟩,
  ⟨0xB001, 1, 1, 1, .oct 128, 11, .rw, .none, 0, 0, 0, .yes, .all⟩,
  ⟨0xB002, 1, 1, 1, .oct 8, 11, .rw, .none, 0, 0, 255, .no, .all⟩,
  ⟨0xB002, 1, 2, 1, .bool, 11, .wo, .none, 0, 1, 0, .no, .all⟩,
  ⟨0xB002, 1, 3, 1, .u 1, 0, .ro, .none, 0, 255, 0, .no, .all⟩,
  ⟨0xB003, 1, 1, 1, .u 4, 0, .ro, .none, 0, 4294967295, 0, .no, .all⟩,
  ⟨0xB010, 1, 1, 32, .i 2, 11, .rw, .none, -4096, 4095, 0, .yes, .input⟩,
  ⟨0xB011, 1, 1, 32, .u 2, 11, .rw, .none, 29491, 36044, 32768, .yes, .input⟩,
  ⟨0xB012, 1, 1, 16, .u 2, 11, .rw, .none, 1, 65535, 100, .yes, .group⟩,
  ⟨0xB020, 1, 1, 1, .oct 192, 0, .ro, .none, 0, 0, 0, .no, .all⟩,
  ⟨0xB021, 1, 1, 1, .oct 192, 0, .ro, .none, 0, 0, 0, .no, .all⟩,
  ⟨0xB022, 1, 1, 1, .u 4, 11, .w1c, .none, 0, 4294967295, 0, .no, .all⟩,
  ⟨0xB023, 1, 1, 1, .u 2, 0, .ro, .none, 0, 65535, 2048, .no, .all⟩,
  ⟨0xB023, 1, 2, 1, .u 1, 8, .rw, .none, 4, 64, 16, .yes, .all⟩,
  ⟨0xB040, 1, 1, 1, .u 8, 8, .counter, .none, 0, 18446744073709551615, 0, .no, .all⟩,
  ⟨0xB040, 1, 2, 1, .u 4, 8, .counter, .none, 0, 4294967295, 0, .no, .all⟩,
  ⟨0xB040, 1, 3, 1, .u 4, 8, .counter, .none, 0, 4294967295, 0, .no, .all⟩,
  ⟨0xB040, 1, 4, 1, .u 4, 8, .counter, .none, 0, 4294967295, 0, .no, .all⟩,
  ⟨0xB040, 1, 5, 1, .u 4, 8, .counter, .none, 0, 4294967295, 0, .no, .all⟩,
  ⟨0xB040, 1, 6, 1, .u 4, 8, .counter, .none, 0, 4294967295, 0, .no, .all⟩,
  ⟨0xB040, 1, 7, 1, .u 4, 8, .counter, .none, 0, 4294967295, 0, .no, .all⟩,
  ⟨0xB040, 1, 8, 1, .u 4, 8, .counter, .none, 0, 4294967295, 0, .no, .all⟩,
  ⟨0xB040, 1, 9, 1, .u 4, 8, .counter, .none, 0, 4294967295, 0, .no, .all⟩,
  ⟨0xB040, 1, 10, 1, .u 4, 8, .counter, .none, 0, 4294967295, 0, .no, .all⟩]

/-- Rows of the tables at 0xC000 to 0xC030. -/
def objRowsCa : List ObjRow := [
  ⟨0xC000, 1, 1, 1, .u 2, 11, .rw, .none, 0, 65535, 65535, .yes, .all⟩,
  ⟨0xC000, 1, 2, 1, .oct 16, 11, .rw, .none, 0, 0, 1, .yes, .all⟩,
  ⟨0xC000, 1, 3, 1, .u 2, 11, .rw, .none, 0, 65535, 0, .yes, .all⟩,
  ⟨0xC000, 1, 4, 1, .u 1, 11, .rw, .none, 1, 3, 3, .yes, .all⟩,
  ⟨0xC000, 1, 5, 1, .u 2, 11, .rw, .none, 1, 60000, 1000, .yes, .all⟩,
  ⟨0xC000, 1, 6, 1, .u 2, 11, .rw, .none, 0, 65535, 0, .no, .all⟩,
  ⟨0xC000, 1, 7, 1, .u 4, 11, .rw, .none, 0, 4294967295, 2097232, .yes, .all⟩,
  ⟨0xC001, 1, 1, 1, .u 1, 0, .ro, .none, 0, 255, 3, .no, .all⟩,
  ⟨0xC010, 16, 1, 1, .u 1, 0, .ro, .none, 0, 255, 0, .no, .lane⟩,
  ⟨0xC010, 16, 2, 1, .u 1, 0, .ro, .none, 0, 255, 0, .no, .lane⟩,
  ⟨0xC010, 16, 3, 1, .u 1, 0, .ro, .none, 1, 16, 1, .no, .lane⟩,
  ⟨0xC010, 16, 4, 1, .u 4, 0, .ro, .none, 0, 4294967295, 0, .no, .lane⟩,
  ⟨0xC010, 16, 5, 1, .u 2, 0, .ro, .none, 0, 65535, 0, .no, .lane⟩,
  ⟨0xC010, 16, 6, 1, .u 2, 0, .ro, .none, 0, 65535, 0, .no, .lane⟩,
  ⟨0xC010, 16, 7, 1, .oct 3, 0, .ro, .none, 0, 0, 0, .no, .lane⟩,
  ⟨0xC010, 16, 8, 1, .u 1, 0, .ro, .none, 0, 255, 0, .no, .lane⟩,
  ⟨0xC010, 16, 9, 1, .u 4, 8, .counter, .none, 0, 4294967295, 0, .no, .lane⟩,
  ⟨0xC010, 16, 10, 1, .u 4, 8, .counter, .none, 0, 4294967295, 0, .no, .lane⟩,
  ⟨0xC010, 16, 11, 1, .u 4, 8, .counter, .none, 0, 4294967295, 0, .no, .lane⟩,
  ⟨0xC010, 16, 12, 1, .u 4, 8, .counter, .none, 0, 4294967295, 0, .no, .lane⟩,
  ⟨0xC010, 16, 13, 1, .u 1, 0, .ro, .none, 0, 255, 0, .no, .lane⟩,
  ⟨0xC020, 16, 1, 1, .u 1, 0, .ro, .none, 0, 255, 0, .no, .lane⟩,
  ⟨0xC020, 16, 2, 1, .u 1, 0, .ro, .none, 0, 255, 0, .no, .lane⟩,
  ⟨0xC020, 16, 3, 1, .u 4, 8, .counter, .none, 0, 4294967295, 0, .no, .lane⟩,
  ⟨0xC020, 16, 4, 1, .u 8, 8, .counter, .none, 0, 18446744073709551615, 0, .no, .lane⟩,
  ⟨0xC020, 16, 5, 1, .u 4, 8, .counter, .none, 0, 4294967295, 0, .no, .lane⟩,
  ⟨0xC020, 16, 6, 1, .u 8, 8, .counter, .none, 0, 18446744073709551615, 0, .no, .lane⟩,
  ⟨0xC020, 16, 7, 1, .u 4, 8, .counter, .none, 0, 4294967295, 0, .no, .lane⟩,
  ⟨0xC020, 16, 8, 1, .u 4, 8, .counter, .none, 0, 4294967295, 0, .no, .lane⟩,
  ⟨0xC030, 1, 1, 1, .u 1, 11, .rw, .emOff, 0, 255, 0, .yes, .all⟩,
  ⟨0xC030, 1, 2, 1, .u 2, 11, .rw, .none, 0, 65535, 0, .yes, .all⟩,
  ⟨0xC030, 1, 3, 1, .u 1, 11, .rw, .none, 1, 8, 1, .yes, .all⟩,
  ⟨0xC030, 1, 4, 1, .oct 16, 11, .rw, .none, 0, 0, 1, .yes, .all⟩,
  ⟨0xC030, 1, 5, 1, .u 1, 0, .ro, .none, 0, 7, 0, .no, .all⟩,
  ⟨0xC030, 1, 6, 1, .i 4, 0, .ro, .none, -2147483648, 2147483647, 0, .no, .all⟩,
  ⟨0xC030, 1, 7, 1, .u 4, 0, .ro, .none, 0, 4294967295, 0, .no, .all⟩,
  ⟨0xC030, 1, 8, 1, .i 4, 11, .rw, .none, -100000, 100000, 0, .yes, .all⟩,
  ⟨0xC030, 1, 9, 1, .u 4, 8, .counter, .none, 0, 4294967295, 0, .no, .all⟩,
  ⟨0xC030, 1, 10, 1, .u 4, 8, .counter, .none, 0, 4294967295, 0, .no, .all⟩]

/-- Rows of the tables at 0xD000 to 0xD031. -/
def objRowsDa : List ObjRow := [
  ⟨0xD000, 1, 1, 1, .u 1, 11, .rw, .none, 0, 3, 3, .yes, .all⟩,
  ⟨0xD000, 1, 2, 1, .u 1, 0, .ro, .none, 0, 255, 0, .no, .all⟩,
  ⟨0xD000, 1, 3, 1, .u 1, 0, .ro, .none, 0, 255, 0, .no, .all⟩,
  ⟨0xD000, 1, 4, 1, .u 1, 11, .rw, .none, 0, 2, 0, .yes, .all⟩,
  ⟨0xD000, 1, 5, 1, .u 1, 0, .ro, .none, 0, 255, 0, .no, .all⟩,
  ⟨0xD000, 1, 6, 1, .u 8, 8, .counter, .none, 0, 18446744073709551615, 0, .no, .all⟩,
  ⟨0xD000, 1, 7, 1, .u 4, 8, .counter, .none, 0, 4294967295, 0, .no, .all⟩,
  ⟨0xD000, 1, 8, 1, .u 4, 8, .counter, .none, 0, 4294967295, 0, .no, .all⟩,
  ⟨0xD000, 1, 9, 1, .u 4, 8, .counter, .none, 0, 4294967295, 0, .no, .all⟩,
  ⟨0xD001, 1, 1, 1, .u 4, 11, .rw, .none, 0, 4294967295, 3232235620, .yes, .all⟩,
  ⟨0xD001, 1, 2, 1, .u 4, 11, .rw, .none, 0, 4294967295, 4294967040, .yes, .all⟩,
  ⟨0xD001, 1, 3, 1, .u 4, 11, .rw, .none, 0, 4294967295, 0, .yes, .all⟩,
  ⟨0xD001, 1, 4, 1, .oct 6, 0, .ro, .none, 0, 0, 0, .no, .all⟩,
  ⟨0xD010, 1, 1, 1, .u 4, 11, .rw, .none, 1, 4294967295, 1210, .yes, .all⟩,
  ⟨0xD010, 1, 2, 1, .bool, 11, .rw, .none, 0, 1, 1, .yes, .all⟩,
  ⟨0xD010, 1, 3, 1, .u 4, 8, .counter, .none, 0, 4294967295, 0, .no, .all⟩,
  ⟨0xD011, 1, 1, 1, .u 4, 11, .rw, .none, 0, 4294967295, 1211, .yes, .all⟩,
  ⟨0xD011, 1, 2, 1, .u 2, 11, .rw, .none, 100, 10000, 1000, .yes, .all⟩,
  ⟨0xD011, 1, 3, 1, .u 4, 11, .rw, .none, 0, 4294967295, 4026471425, .yes, .all⟩,
  ⟨0xD012, 1, 1, 1, .u 4, 11, .rw, .none, 0, 4294967295, 0, .yes, .all⟩,
  ⟨0xD012, 1, 2, 1, .u 2, 11, .rw, .none, 0, 1428, 0, .yes, .all⟩,
  ⟨0xD012, 1, 3, 1, .u 2, 11, .rw, .none, 0, 65535, 65535, .yes, .all⟩,
  ⟨0xD012, 1, 4, 1, .u 1, 11, .rw, .none, 0, 1, 0, .yes, .all⟩,
  ⟨0xD012, 1, 5, 1, .u 4, 11, .rw, .none, 0, 4294967295, 4026471426, .yes, .all⟩,
  ⟨0xD012, 1, 6, 1, .u 4, 8, .counter, .none, 0, 4294967295, 0, .no, .all⟩,
  ⟨0xD012, 1, 7, 1, .u 4, 8, .counter, .none, 0, 4294967295, 0, .no, .all⟩,
  ⟨0xD020, 1, 1, 1, .dom 768, 0, .ro, .none, 0, 0, 0, .no, .all⟩,
  ⟨0xD020, 1, 2, 1, .u 2, 11, .rw, .none, 1, 3600, 10, .yes, .all⟩,
  ⟨0xD020, 1, 3, 1, .u 4, 8, .counter, .none, 0, 4294967295, 0, .no, .all⟩,
  ⟨0xD030, 1, 1, 1, .u 8, 0, .ro, .none, 0, 18446744073709551615, 0, .no, .all⟩,
  ⟨0xD030, 1, 2, 1, .oct 16, 0, .ro, .none, 0, 0, 0, .no, .all⟩,
  ⟨0xD030, 1, 3, 1, .u 1, 0, .ro, .none, 0, 255, 0, .no, .all⟩,
  ⟨0xD030, 1, 4, 1, .i 4, 0, .ro, .none, -2147483648, 2147483647, 0, .no, .all⟩,
  ⟨0xD030, 1, 5, 1, .i 4, 0, .ro, .none, -2147483648, 2147483647, 0, .no, .all⟩,
  ⟨0xD031, 1, 1, 1, .u 1, 11, .rw, .none, 0, 3, 0, .yes, .all⟩,
  ⟨0xD031, 1, 2, 1, .u 4, 11, .rw, .none, 10, 1000000, 1000, .yes, .all⟩,
  ⟨0xD031, 1, 3, 1, .i 2, 11, .rw, .none, -32768, 32767, 37, .yes, .all⟩,
  ⟨0xD031, 1, 4, 1, .u 4, 8, .counter, .none, 0, 4294967295, 0, .no, .all⟩,
  ⟨0xD031, 1, 5, 1, .u 8, 0, .ro, .none, 0, 18446744073709551615, 0, .no, .all⟩,
  ⟨0xD031, 1, 6, 1, .bool, 0, .ro, .none, 0, 1, 0, .no, .all⟩]

/-- Rows of the tables at 0xD032 to 0xD033. -/
def objRowsDb : List ObjRow := [
  ⟨0xD032, 1, 1, 1, .u 1, 11, .rw, .none, 0, 127, 0, .yes, .all⟩,
  ⟨0xD032, 1, 2, 1, .oct 8, 0, .ro, .none, 0, 0, 0, .no, .all⟩,
  ⟨0xD032, 1, 3, 1, .u 4, 0, .ro, .none, 0, 4294967295, 0, .no, .all⟩,
  ⟨0xD032, 1, 4, 1, .u 4, 0, .ro, .none, 0, 4294967295, 0, .no, .all⟩,
  ⟨0xD032, 1, 5, 1, .u 1, 0, .ro, .none, 0, 255, 0, .no, .all⟩,
  ⟨0xD033, 1, 1, 1, .u 8, 11, .rw, .none, 0, 18446744073709551615, 0, .no, .all⟩,
  ⟨0xD033, 1, 2, 1, .u 4, 8, .counter, .none, 0, 4294967295, 0, .no, .all⟩,
  ⟨0xD033, 1, 3, 1, .bool, 0, .ro, .none, 0, 1, 1, .no, .all⟩]

/-- All rows. -/
def objRows : List ObjRow :=
  objRows30a ++
  objRows31a ++
  objRows32a ++
  objRows32b ++
  objRows33a ++
  objRows40a ++
  objRows40b ++
  objRows50a ++
  objRows50b ++
  objRows1a ++
  objRows1b ++
  objRows2a ++
  objRows2b ++
  objRows6a ++
  objRows6b ++
  objRows7a ++
  objRows8a ++
  objRows8b ++
  objRows9a ++
  objRowsBa ++
  objRowsCa ++
  objRowsDa ++
  objRowsDb

/-- The row that describes an index and subindex. -/
def objRow (ix sub : Nat) : Option ObjRow :=
  objRows.find? fun r => r.ix ≤ ix && ix < r.ix + r.nIx && r.sub ≤ sub && sub < r.sub + r.nSub

/-- Whether the index is defined. -/
def objIndex (ix : Nat) : Bool := objRows.any fun r => r.ix ≤ ix && ix < r.ix + r.nIx

/-- The highest subindex in use (subindex 00 of every index, R395). -/
def objTop (ix : Nat) : Nat :=
  objRows.foldl (fun m r => if r.ix ≤ ix && ix < r.ix + r.nIx then max m (r.sub + r.nSub - 1) else m) 0

/-- The bytes of a value of the type. -/
def ObjTy.size : ObjTy → Nat
  | .u k => k
  | .i k => k
  | .bool => 1
  | .real => 4
  | .str => 255
  | .oct n => n
  | .dom n => n

end Sys2Proof.Machine
end

