-- ==== Sys2Proof/Machine/Ops.lean ====
section
/-! DEFINITION. The named operations over the state: tables, the object store, counters, the QDR memory, the domains and
the variant, device time. -/

namespace Sys2Proof.Machine

/-! ### Tables -/

/-- The entry of a key. -/
def tget {α : Type} (t : Tbl α) (k : Nat) : Option α :=
  match t with
  | [] => none
  | (j, v) :: r => if j = k then some v else tget r k

/-- The entry of a key, or a default. -/
def tgetD {α : Type} (t : Tbl α) (k : Nat) (d : α) : α := (tget t k).getD d

/-- A table with the entry of a key set; the keys stay rising. -/
def tset {α : Type} (t : Tbl α) (k : Nat) (v : α) : Tbl α :=
  match t with
  | [] => [(k, v)]
  | (j, w) :: r => if k < j then (k, v) :: (j, w) :: r else if k = j then (k, v) :: r else (j, w) :: tset r k v

/-- A table without the entry of a key. -/
def tdel {α : Type} (t : Tbl α) (k : Nat) : Tbl α := t.filter fun p => p.1 != k

/-- A table with the entry of a key changed; an absent entry starts from the default. -/
def tupd {α : Type} (t : Tbl α) (k : Nat) (d : α) (f : α → α) : Tbl α := tset t k (f (tgetD t k d))

/-- The sum of the values whose keys satisfy a test. -/
def tsum (t : Tbl Nat) (p : Nat → Bool) : Nat := t.foldl (fun a e => if p e.1 then a + e.2 else a) 0

/-! ### The variant (R4 to R12) -/

/-- Camera and Confluence present. -/
def hasCam (s : State) : Bool := s.fuses.variant == .fc || s.fuses.variant == .c

/-- Safety island present. -/
def hasSafe (s : State) : Bool := s.fuses.variant != .c

/-- The small variant, LVR-2560-F. -/
def isSmall (s : State) : Bool := s.fuses.variant == .lf

/-- The number of return channels. -/
def nChan (s : State) : Nat := if isSmall s then 256 else 512

/-- The number of emitter channels. -/
def nEmit (s : State) : Nat := if isSmall s then 32 else 64

/-- The number of emitter banks. -/
def nBank (s : State) : Nat := if isSmall s then 4 else 8

/-- The number of lanes. -/
def nLane (s : State) : Nat := if isSmall s then 8 else 16

/-- The variant code of R11. -/
def variantCode (s : State) : Nat :=
  match s.fuses.variant with
  | .fc => 1
  | .f => 2
  | .c => 3
  | .lf => 4

/-- The FEATURE register (R11). -/
def feature (s : State) : Nat :=
  variantCode s * 2 ^ 24 + (if s.fuses.screenA then 1 else 2) * 2 ^ 22 + b2n (hasSafe s) * 2 ^ 21 +
    b2n (hasCam s) * 2 ^ 20 + (if isSmall s then 3 else 15) * 2 ^ 16 + (2 ^ nBank s - 1) * 2 ^ 8 +
    (2 ^ (nChan s / 64) - 1)

/-- Whether the row's unit is present for this index and subindex (R7, R10, R369; R454 for the converter's inputs). -/
def objPresent (s : State) (r : ObjRow) (ix sub : Nat) : Bool :=
  match r.unit with
  | .all => true
  | .cam => hasCam s
  | .safe => hasSafe s
  | .quad => ix - r.ix < nChan s / 64
  | .bank => sub - r.sub < nBank s
  | .group => sub - r.sub < nEmit s / 4
  | .lane => ix - r.ix < nLane s
  | .input => !(isSmall s && (4 ≤ sub - r.sub && sub - r.sub < 8))

/-! ### The object store -/

/-- The neighbours of a channel in the default map of R67, in ascending order. -/
def defaultNeighbours (c : Nat) : List Nat :=
  let i := c % 64
  let row := i / 8
  let col := i % 8
  (List.range 64).filterMap fun j =>
    let dr := if j / 8 ≤ row then row - j / 8 else j / 8 - row
    let dc := if j % 8 ≤ col then col - j % 8 else j % 8 - col
    if j ≠ i && dr ≤ 1 && dc ≤ 1 then some (c / 64 * 64 + j) else none

/-- The default neighbour map (R67): eight U16 per channel, unused entries 0xFFFF. -/
def defaultMap (s : State) : Bytes :=
  (List.range 512).flatMap fun c =>
    let ns := if c < nChan s then defaultNeighbours c else []
    ((ns ++ List.replicate 8 0xFFFF).take 8).flatMap (leBytes 2)

/-- The default regular sequence of the converter (R460): entries 0–7 convert EM_VCHG, entry 8 the NTC (input 9). -/
def defaultSequence (s : State) : Bytes :=
  ((List.range 8).flatMap fun b =>
    [BitVec.ofNat 8 b, 0, if b < nBank s then 0x40 else 0, 0]) ++ [9, 0, 0x46, 0] ++ zeros 92

/-- The detector type 0x3010+n:01 of a quadrant. -/
def detType (s : State) (ix : Nat) : Nat :=
  match tget s.od (ix * 256 + 1) with
  | some (.num v) => v.toNat
  | _ => 0

/-- The default of a byte-string object. -/
def byteDefault (s : State) (r : ObjRow) (ix : Nat) : Bytes :=
  match r.ty with
  | .oct n =>
    if r.ix = 0x3010 then (List.range 64).flatMap fun i =>
      leBytes 2 (Config.walkDefault (detType s ix) i).toNat
    else if r.ix = 0x6002 && r.sub = 3 then [0, 16, 0, 16, 0, 16]
    else if r.ix = 0x6002 && r.sub = 4 then
      (List.range 9).flatMap (fun i => leBytes 2 (if i % 4 = 0 then 4096 else 0)) ++ zeros 12
    else if r.ix = 0xB001 then defaultSequence s
    else List.replicate n (BitVec.ofInt 8 r.dflt)
  | .dom _ =>
    if r.ix = 0x3048 then defaultMap s
    else if r.ix = 0x6004 then
      (List.range 3).flatMap fun _ => (List.range 1024).flatMap fun i => leBytes 2 (64 * i)
    else []
  | _ => []

/-- The default of a numeric object: the table's, but where the table gives one per axis, camera or detector type. -/
def numDefault (s : State) (r : ObjRow) (ix : Nat) : Int :=
  if r.ix = 0x3010 && r.sub = 3 then (detType s ix : Nat)
  else if r.ix = 0x5010 && r.sub = 0x0C then (if ix = 0x5010 then -31000 else -5500)
  else if r.ix = 0x5010 && r.sub = 0x0D then (if ix = 0x5010 then 31000 else 5500)
  else if r.ix = 0x3210 && r.sub = 2 then (s.fuses.dither.toNat : Nat)
  else if r.ix = 0x6010 && r.sub = 1 then ((ix - 0x6010) * 0x02000000 : Nat)
  else r.dflt

/-- The default of an object (R19). -/
def odDefault (s : State) (ix sub : Nat) : Val :=
  match objRow ix sub with
  | none => .num 0
  | some r =>
    match r.ty with
    | .oct _ => .bytes (byteDefault s r ix)
    | .dom _ => .bytes (byteDefault s r ix)
    | .str => .bytes []
    | _ => .num (numDefault s r ix)

/-- The key of an object in the store. -/
def odKey (ix sub : Nat) : Nat := ix * 256 + sub

/-- The value of a stored object. -/
def odGet (s : State) (ix sub : Nat) : Val := (tget s.od (odKey ix sub)).getD (odDefault s ix sub)

/-- A numeric object as an integer. -/
def odI (s : State) (ix sub : Nat) : Int :=
  match odGet s ix sub with
  | .num v => v
  | .bytes _ => 0

/-- A numeric object as a natural number. -/
def odN (s : State) (ix sub : Nat) : Nat := (odI s ix sub).toNat

/-- A numeric object as a flag. -/
def odB (s : State) (ix sub : Nat) : Bool := odN s ix sub != 0

/-- A byte-string object. -/
def odBytes (s : State) (ix sub : Nat) : Bytes :=
  match odGet s ix sub with
  | .num _ => []
  | .bytes b => b

/-- The state with an object's value. -/
def odSet (s : State) (ix sub : Nat) (v : Val) : State := { s with od := tset s.od (odKey ix sub) v }

/-- The state with a numeric object's value. -/
def odSetN (s : State) (ix sub : Nat) (n : Nat) : State := odSet s ix sub (.num n)

/-- The state with a numeric object's value. -/
def odSetI (s : State) (ix sub : Nat) (n : Int) : State := odSet s ix sub (.num n)

/-- The state with every object of an index at its default. -/
def odReset (s : State) (ix : Nat) : State := { s with od := s.od.filter fun p => p.1 / 256 != ix }

/-- The width in bits of a numeric object. -/
def odWidth (ix sub : Nat) : Nat :=
  match objRow ix sub with
  | none => 32
  | some r => 8 * r.ty.size

/-- A counter incremented by `k`, saturating at its maximum. -/
def bumpBy (s : State) (ix sub k : Nat) : State := odSetN s ix sub (satN (odWidth ix sub) (odN s ix sub + k))

/-- A counter incremented. -/
def bump (s : State) (ix sub : Nat) : State := bumpBy s ix sub 1

/-- A per-channel counter of `base + n : s` incremented by `k` (R77, R120). -/
def bumpChan (s : State) (base c k : Nat) : State := bumpBy s (base + c / 64 % 8) (c % 64 + 1) k

/-- A per-channel value of `base + n : s`. -/
def odChan (s : State) (base c : Nat) : Int := odI s (base + c / 64 % 8) (c % 64 + 1)

/-! ### Outcomes -/

/-- The outcome of a command whose effect on the state is `s'`: the queue of waiting commands and the fuses are no
command's to change (R11), and neither is the QDR memory here. -/
def outcome (s s' : State) : Host.Outcome State Fault Refusal :=
  .next { s' with fuses := s.fuses, pending := s.pending, qdr := s.qdr }

/-- The outcome of a command that writes the QDR memory: the queue and the fuses are kept. -/
def outcomeMem (s s' : State) : Host.Outcome State Fault Refusal :=
  .next { s' with fuses := s.fuses, pending := s.pending }

/-- The outcome of a command by which the QDR memory may lose its contents, and does not change otherwise: MEM loses its
supply (R427); the queue and the fuses are kept. -/
def outcomeLost (s s' : State) : Host.Outcome State Fault Refusal :=
  .next { s' with fuses := s.fuses, pending := s.pending, qdr := if s'.qdr.isEmpty then [] else s.qdr }

/-! ### What leaves the block, free values -/

/-- The state with one more thing sent. -/
def send (s : State) (o : Out) : State := { s with out := o :: s.out }

/-- The state with several things sent, the first of the list first. -/
def sendAll (s : State) (l : List Out) : State := { s with out := l.reverse ++ s.out }

/-- t+10.0 µs of the tick: the listen window is over (R26). -/
def endListen (s : State) : State := { s with tick := { s.tick with listenOver := true } }

/-- A free value and the state that has taken it (assumption 5). -/
def takeFree (s : State) : Nat × State := (Config.freeNat s.free, { s with free := s.free + 1 })

/-! ### Domains (R379, R427) -/

/-- The bit of a domain in a vote map (R379); AON is not voted on. -/
def domBit : Dom → Nat
  | .aon => 9
  | .core => 0
  | .rx => 1
  | .emit => 2
  | .servo => 3
  | .cam => 4
  | .lanes => 5
  | .host => 6
  | .mem => 7
  | .safe => 8

/-- Whether a domain is powered, retention and idle included. -/
def domUp (s : State) (d : Dom) : Bool := s.pwr.on.getLsbD (domBit d)

/-- Whether a domain is powered, has finished its start-up, and is neither in retention nor idle. -/
def domOn (s : State) (d : Dom) : Bool :=
  (s.pwr.on &&& ~~~ s.pwr.starting &&& ~~~ s.pwr.idle).getLsbD (domBit d)

/-- Whether the firmware's controllers run: CORE is on and the device has started. -/
def running (s : State) : Bool := s.boot.phase == .firmware && domOn s .core

/-- Whether requests are served: by the firmware, or by the boot ROM in recovery mode (R480). -/
def serving (s : State) : Bool := running s || s.boot.phase == .recovery

/-- An entry that stops the producers for CAM, MEM, LANES and HOST is running: to DOZE or below (R434). -/
def entryStops (s : State) : Bool :=
  match s.pwr.entry with
  | some e => e.dest != .quiet && e.dest != .run
  | none => false

/-! ### Time (R418, R419) -/

/-- The device time in ns. -/
def devTime (s : State) : Nat := s.time.c / 2 ^ 32

/-- Elapsed ticks of 12.8 µs since a tick number. -/
def since (s : State) (t : Nat) : Nat := s.tick.num - t

/-- Milliseconds in ticks, rounded up: an interval of `ms` has passed after this many ticks. -/
def msTicks (ms : Nat) : Nat := ceilDiv (ms * 10000) 128

/-- The tick number of a moment in microseconds of elapsed ticks. -/
def tickUs (n : Nat) : Nat := n * 128 / 10

/-! ### QDR memory (R49) -/

/-- The byte at an address; a byte that nothing has written reads 0 (assumption 8). -/
def memGet (m : List Host.Cell) (a : Nat) : Byte :=
  match m with
  | [] => 0
  | (b, v) :: r => if b = a then v else if a < b then 0 else memGet r a

/-- The memory with one byte written, in canonical form: addresses rise and no entry is 0. -/
def memSet (m : List Host.Cell) (a : Nat) (v : Byte) : List Host.Cell :=
  match m with
  | [] => if v = 0 then [] else [(a, v)]
  | (b, w) :: r =>
    if a < b then (if v = 0 then (b, w) :: r else (a, v) :: (b, w) :: r)
    else if a = b then (if v = 0 then r else (a, v) :: r)
    else (b, w) :: memSet r a v

/-- The memory with bytes written from an address on. -/
def memWrite (m : List Host.Cell) (a : Nat) (bs : Bytes) : List Host.Cell :=
  match bs with
  | [] => m
  | b :: r => memWrite (memSet m a b) (a + 1) r

/-- The canonical form of the memory. -/
def memWf (m : List Host.Cell) : Bool :=
  match m with
  | [] => true
  | [(_, v)] => v != 0
  | (a, v) :: (b, w) :: r => v != 0 && a < b && memWf ((b, w) :: r)

/-- Bytes read from the QDR memory. -/
def qdrRead (s : State) (a k : Nat) : Bytes := (List.range k).map fun i => memGet s.qdr (a + i)

/-- Bytes written to the QDR memory. -/
def qdrWrite (s : State) (a : Nat) (bs : Bytes) : State := { s with qdr := memWrite s.qdr a bs }

end Sys2Proof.Machine
end

