-- ==== Sys2Proof/Machine/Flags.lean ====
section
/-! DEFINITION. Status bits, interrupts, the access-fault log, the emission inhibits, the island's causes and the fault
manager: what an event raises beside its own effect. -/

namespace Sys2Proof.Machine

/-! ### Interrupts (R380, R381) -/

/-- The asserted MSI-X vectors: RING_INT in [47:32], INT_STATUS in [20:0], each with its enable bits. -/
def asserted (s : State) : BitVec 64 :=
  ((s.host.ringInt &&& s.host.ringEnable).zeroExtend 64 <<< 32) |||
    (s.host.intStatus &&& s.host.intEnable).zeroExtend 64

/-- One message of a vector: pending while masked, else sent while the link carries it. -/
def sendVec (s : State) (v : Nat) : State :=
  if s.host.vecMask.getLsbD v || s.host.funMask then
    { s with host := { s.host with pba := s.host.pba ||| (1#64 <<< v) } }
  else if s.host.linkUp && !s.host.d3 then send s (.msix v) else s

/-- A message for each vector of a set, in ascending order. -/
def sendVecs (s : State) (m : BitVec 64) : State :=
  ((List.range 64).filter fun v => m.getLsbD v).foldl sendVec s

/-- Status and enable bits changed: each vector that becomes asserted sends a message. -/
def withHostBits (s : State) (f : HostSt → HostSt) : State :=
  let s' := { s with host := f s.host }
  sendVecs s' (asserted s' &&& ~~~ asserted s)

/-- Bit `b` of INT_STATUS set, whatever the enable bits hold. -/
def setInt (s : State) (b : Nat) : State :=
  withHostBits s fun h => { h with intStatus := h.intStatus ||| (1#21 <<< b) }

/-- Bit `r` of RING_INT set. -/
def setRingInt (s : State) (r : Nat) : State :=
  withHostBits s fun h => { h with ringInt := h.ringInt ||| (1#16 <<< r) }

/-! ### The access-fault log (R393, R394) -/

/-- An access entered in the log; a full log counts it as lost; ACCESS_FAULT is set in either case. -/
def logAccess (s : State) (addr client type : Nat) (write : Bool) : State :=
  let room := s.host.log.length < 32
  setInt { s with host := { s.host with
    log := if room then s.host.log ++ [⟨addr, client, type, write, s.tick.num⟩] else s.host.log
    lost := if room then s.host.lost else satN 16 (s.host.lost + 1) } } 2

/-! ### Emission state and inhibits (R207, R208, R209) -/

/-- "Emission off" (R207): OFF or HALTED. -/
def emissionOff (s : State) : Bool := s.emit.state == .off || s.emit.state == .halted

/-- Emission on: FADE_IN, ON or FADE_OUT. -/
def emissionOn (s : State) : Bool := !emissionOff s

/-- The inhibit causes that latch (R208): all but RX_CAL and POWER. -/
def inhibitLatches (b : Nat) : Bool := b != 3 && b != 9

/-- A bank without fade level and set-point (EM_VSET at code 0); its settling restarts where the set-point steps. -/
def bankZero (settle : Nat) (b : Bank) : Bank :=
  { b with
    phi := 0, phi0 := 0, target := 0, step := 0, steps := 0, capped := false
    now := {}, next := {}, settle := if b.now.uv = 0 then b.settle else settle }

/-- All banks to code 0. -/
def banksZero (s : State) : State :=
  { s with emit := { s.emit with banks := s.emit.banks.map fun p => (p.1, bankZero (odN s 0x4007 2) p.2) } }

/-- The AON record of the last emission (R195): the RTC seconds now. -/
def stopRecord (s : State) : State := { s with pwr := { s.pwr with stopRec := some (odN s 0x9003 1) } }

/-- A shot whose second pulse has not left EMIT loses it (R202, R209). -/
def cutSecond (x : Shot) : Shot := if x.secondOut then x else { x with second := 0 }

/-- Entry into HALTED (R207, R209): the state itself gates first edges and probes; a second edge that has not left is
suppressed. -/
def halt (s : State) (b : Nat) : State :=
  let s := banksZero { s with emit := { s.emit with
    state := .halted, enable := false, request := none, shots := s.emit.shots.map fun p => (p.1, cutSecond p.2) } }
  let s := odSetN (bump s 0x4000 7) 0x4000 8 b
  setInt (stopRecord s) 3

/-- An inhibit cause holds: if it was not active it becomes active, latches where it latches, and halts emission. -/
def inhibit (s : State) (b : Nat) : State :=
  if s.emit.active.getLsbD b then s
  else
    let m := 1#12 <<< b
    halt { s with emit := { s.emit with
      active := s.emit.active ||| m
      latched := if inhibitLatches b then s.emit.latched ||| m else s.emit.latched } } b

/-- The condition of an inhibit cause has gone. -/
def inhibitClear (s : State) (b : Nat) : State :=
  { s with emit := { s.emit with active := s.emit.active &&& ~~~ (1#12 <<< b) } }

/-- An inhibit cause follows its condition. -/
def inhibitSet (s : State) (b : Nat) (v : Bool) : State := if v then inhibit s b else inhibitClear s b

/-! ### The island's causes (R303, R313, R314) and the fault manager (R327) -/

/-- "A safety configuration is active" (R303): the island is in SAFE or OPERATE. -/
def cfgActive (s : State) : Bool := hasSafe s && (s.isl.st == .safe || s.isl.st == .operate)

/-- The causes marked "inhibit" (R313). -/
def islInhibits : BitVec 17 := 0x0FF80#17

/-- The causes that latch (R313). -/
def islLatching : BitVec 17 := 0x07FF4#17

/-- The causes that lead to LOCKOUT (R303). -/
def islLockouts : BitVec 17 := 0x07000#17

/-- The function group of a cause (R313). -/
def islGroup (b : Nat) : Option FGroup :=
  match b with
  | 2 => some .detection
  | 3 => some .input
  | 4 => some .output
  | 5 => some .comm
  | 6 => some .beam
  | 7 => some .platform
  | 8 => some .platform
  | 9 => some .platform
  | 10 => some .platform
  | 14 => some .platform
  | _ => none

/-- The inhibit cause SAFETY follows the island's request (R313). -/
def islInhibit (s : State) : State :=
  inhibitSet s 8 (hasSafe s && (s.isl.active ||| s.isl.latched) &&& islInhibits != 0)

/-- An output commanded (R314, R315). -/
def ossdSet (o : Ossd) (t : Nat) (v : Bool) : Ossd :=
  if o.on = v then o else { o with on := v, inPulse := false, changed := t, mism := 0, good := 0 }

/-- The level an output's pin is driven to: on, and low for the width of a test pulse (R315). -/
def driven (o : Ossd) : Bool := o.on && !o.inPulse

/-- Both outputs commanded. -/
def islOutputs (s : State) (v : Bool) : State :=
  let s' := { s with isl := { s.isl with
    outA := ossdSet s.isl.outA s.tick.num v
    outB := ossdSet s.isl.outB s.tick.num v } }
  let s' := if driven s.isl.outA = driven s'.isl.outA then s' else send s' (.pin "OSSD_A" v)
  if driven s.isl.outB = driven s'.isl.outB then s' else send s' (.pin "OSSD_B" v)

/-- The island enters a state; INT_STATUS bit 4 reports a change (R380). -/
def islEnter (s : State) (st : IslState) : State :=
  if s.isl.st = st then s else setInt { s with isl := { s.isl with st := st } } 4

/-- Whether a latched cause of a group is still held. -/
def groupLatched (s : State) (g : FGroup) : Bool :=
  (List.range 17).any fun b => s.isl.latched.getLsbD b && islGroup b == some g

/-- The groups whose faults are recovered and whose latched causes are not cleared yet (R327). -/
def heldNow (s : State) : List FGroup := s.fm.held.filter (groupLatched s)

/-- A cause becomes active (R313, R314, R303): outputs off and SAFE from OPERATE, LOCKOUT for the causes that lead there,
and the inhibit request. The causes that only an AON power-on clears are latched in AON; in SERVICE a LOCKSTEP leaves the
state as it is (DEDUCED, assumption 81). -/
def islCause (s : State) (b : Nat) : State :=
  if !hasSafe s then s
  else
    let m := 1#17 <<< b
    let s := { s with fm := { s.fm with held := heldNow s }, isl := { s.isl with
      active := s.isl.active ||| m
      latched := s.isl.latched ||| (m &&& islLatching)
      lockout := s.isl.lockout ||| (m &&& islLockouts) } }
    let lock := (m &&& islLockouts) != 0 && (s.isl.st != .service || b == 12)
    let s :=
      if lock then islEnter (islOutputs s false) .lockout
      else if s.isl.st = .operate then
        islEnter (islOutputs s false) .safe
      else s
    islInhibit s

/-- Whether a fault of a group is in recovery (R327). -/
def inRecovery (s : State) (g : FGroup) : Bool :=
  s.fm.running == some g || s.fm.queue.contains g || (s.fm.held.contains g && groupLatched s g)

/-- A fault of a group escalates (R327). -/
def escalate (s : State) (g : FGroup) : State :=
  islCause { bump s 0x8001 7 with fm := { s.fm with esc := g :: s.fm.esc.filter (· != g) } } 11

/-- A fault notified to the fault manager (R327): FAULT is set, its recovery runs or is queued behind the running one, and
a further fault of a group in recovery, or a ninth queued recovery, raises ESCALATION. A fault that escalates with its group
has its own recovery too (DEDUCED, assumption 34: ESCALATION waits until every fault of the group has recovered). -/
def reportFault (s : State) (g : FGroup) : State :=
  let s := setInt s 17
  let idle := s.fm.running.isNone
  let full := !idle && decide (8 ≤ s.fm.queue.length)
  let s := if inRecovery s g || full then escalate s g else s
  if idle then { s with fm := { s.fm with running := some g } }
  else if full then s
  else bump { s with fm := { s.fm with queue := s.fm.queue ++ [g] } } 0x8001 8

/-- A fault with its cause and its notification, the cause active already or not (R313, R327). -/
def islFault (s : State) (b : Nat) : State :=
  if !hasSafe s then s
  else
    let s := islCause s b
    match islGroup b with
    | some g => reportFault s g
    | none => s

/-- A cause that follows one condition: its fault when the condition comes, nothing new while it lasts. -/
def islRaise (s : State) (b : Nat) : State := if s.isl.active.getLsbD b then s else islFault s b

/-- The condition of a cause has gone; a latched cause stays latched (R313). -/
def islClear (s : State) (b : Nat) : State :=
  islInhibit { s with isl := { s.isl with active := s.isl.active &&& ~~~ (1#17 <<< b) } }

end Sys2Proof.Machine
end

