-- ==== Sys2Proof/Machine/Operands.lean ====
section
/-! DEFINITION. The forms in which values reach the block: ODX messages and their answers (R400, R406, R409), object
values and their types (R395), and the checks of a write in their order (R408). -/

namespace Sys2Proof.Machine

/-! ### Abort codes (R409) -/

/-- SESSION_UNKNOWN. -/
def abSession : Nat := 0x05030001
/-- VERSION_UNSUPPORTED. -/
def abVersion : Nat := 0x05030002
/-- NO_SESSION. -/
def abNoSession : Nat := 0x05030003
/-- MESSAGE_INVALID. -/
def abMessage : Nat := 0x05030004
/-- SEGMENT_SEQUENCE. -/
def abSegSeq : Nat := 0x05040001
/-- SEGMENT_CRC. -/
def abSegCrc : Nat := 0x05040002
/-- READ_ONLY. -/
def abReadOnly : Nat := 0x06010002
/-- AUTH_FAILED. -/
def abAuth : Nat := 0x06010004
/-- NO_OBJECT. -/
def abNoObject : Nat := 0x06020000
/-- TYPE_LENGTH. -/
def abLength : Nat := 0x06070010
/-- NO_SUBINDEX. -/
def abNoSub : Nat := 0x06090011
/-- VALUE_RANGE. -/
def abRange : Nat := 0x06090030
/-- ABSENT_IN_VARIANT. -/
def abAbsent : Nat := 0x06090031
/-- BUSY. -/
def abBusy : Nat := 0x08000001
/-- STATE_REFUSED. -/
def abState : Nat := 0x08000020
/-- LOOP_CLOSED. -/
def abLoop : Nat := 0x08000021
/-- SEALED. -/
def abSealed : Nat := 0x08000022
/-- REFUSED_AT_ADMISSION. -/
def abAdmission : Nat := 0x08000023
/-- UNPOWERED. -/
def abUnpowered : Nat := 0x08000024
/-- STORE_FAILED. -/
def abStore : Nat := 0x08000025

/-! ### Sessions -/

/-- The session of a request: open, and of the request's own kind of transport (R402). -/
def sessionOf (s : State) (r : Req) : Option Session :=
  s.odx.sessions.find? fun x => x.number == r.session.toNat && (x.via == .mailbox) == (r.via == .mailbox)

/-- The state with a session changed. -/
def updSession (s : State) (n : Nat) (f : Session → Session) : State :=
  { s with odx := { s.odx with sessions := s.odx.sessions.map fun x => if x.number = n then f x else x } }

/-- The bit of a role in an access column (R397). -/
def roleBit : Role → Nat
  | .host => 1
  | .net => 2
  | .safeCfg => 4
  | .service => 8

/-- The code of a role (0x1F20:04). -/
def roleCode : Role → Nat
  | .host => 0
  | .net => 1
  | .safeCfg => 2
  | .service => 3

/-! ### Answers -/

/-- An ODX message (R400). -/
def odxMessage (ver cmd flags session tag ix sub : Nat) (payload : Bytes) : Bytes :=
  leBytes 1 ver ++ leBytes 1 cmd ++ leBytes 1 flags ++ [0] ++ leBytes 4 session ++ leBytes 2 tag ++
    leBytes 2 payload.length ++ leBytes 2 ix ++ leBytes 1 sub ++ [0] ++ payload

/-- The mailbox takes a complete response (R383 step 4). -/
def mailboxTake (s : State) (msg : Bytes) : State :=
  let m := s.host.mbox
  if m.state = .busy then
    setInt { s with host := { s.host with mbox := { m with
      state := .done, status := 0, valid := true, resp := splice m.resp 0 msg, respLen := msg.length } } } 0
  else s

/-- The telegram Mp that answers a message request (R414): the ODX ComId, the caller's session, the URIs exchanged,
topography counters 0 (PRESUMED, assumption 86: the header of IEC 61375-2-3). -/
def mdReply (s : State) (call : MdCall) (d : Bytes) : Bytes :=
  let h := zeros 4 ++ [1, 0, 0x4D, 0x70] ++ beBytes 4 (odN s 0xD010 1) ++ zeros 8 ++ beBytes 4 d.length ++ zeros 4 ++
    beBytes 16 call.session.toNat ++ zeros 4 ++ beBytes 32 call.dest.toNat ++ beBytes 32 call.source.toNat
  h ++ leBytes 4 (crc32 h).toNat ++ d

/-- The datagram that carries an answer of the network (R414): an Mp, or the form "ODX2"; it returns to the address and port
that the request came from. -/
def carry (s : State) (r : Req) (msg : Bytes) : State :=
  match r.via with
  | .mailbox => s
  | .trdp ip port call => send s (.datagram ip port.toNat (mdReply s call msg))
  | .udp ip port => send s (.datagram ip port.toNat ([0x4F, 0x44, 0x58, 0x32] ++ msg))

/-- An answer leaves the block: into the mailbox, or to the network with the session's cache (R406). -/
def answer (s : State) (r : Req) (msg : Bytes) : State :=
  let s := carry (send s (.response r msg)) r msg
  if r.via = .mailbox then mailboxTake s msg
  else updSession s r.session.toNat fun x => { x with lastTag := some r.tag, cached := msg }

/-- The VER byte of a session's answers. -/
def verOf (s : State) (r : Req) : Nat := 0x20 + ((sessionOf s r).map (·.version)).getD 0

/-- A positive answer (RESP). -/
def respond (s : State) (r : Req) (cmd ix sub : Nat) (payload : Bytes) : State :=
  answer s r (odxMessage (verOf s r) cmd 1 r.session.toNat r.tag.toNat ix sub payload)

/-- An abort answer (RESP and ABORT). -/
def respondAbort (s : State) (r : Req) (cmd ix sub code : Nat) : State :=
  answer s r (odxMessage (verOf s r) cmd 3 r.session.toNat r.tag.toNat ix sub (leBytes 4 code))

/-- The time of the latest request of a session, for the idle timeout (R404). -/
def touch (s : State) (r : Req) : State := updSession s r.session.toNat fun x => { x with lastReq := s.tick.num }

/-- The writes during which further requests are taken (R405). -/
def LongKind.concurrent : LongKind → Bool
  | .plan => true
  | .storeCfg => true
  | .pairCfg => true
  | .deleteCfg => true
  | _ => false

/-- The service controller takes requests: it runs, and every request it has taken is answered but for those of R405. -/
def taking (s : State) : Bool := serving s && s.odx.longs.all fun l => l.kind.concurrent

/-- A request of the network waits in its queue (R405): the service controller does not take one now, others wait already, or
it is the mailbox's turn. -/
def netWaits (s : State) (r : Req) : Bool :=
  r.via != .mailbox && serving s && s.boot.phase != .recovery &&
    (!taking s || !s.odx.netQ.isEmpty || (s.host.mbox.state == .queued && s.odx.turnMbx))

/-- A request joins the network queue; it has arrived in its session (R404). -/
def netQueue (s : State) (r : Req) (msg : Bytes) : State :=
  let s := if (sessionOf s r).isSome then touch s r else s
  { s with odx := { s.odx with netQ := s.odx.netQ ++ [(r.via, msg)] } }

/-- A request of the network is taken: the mailbox is next, where it holds one too (R405). -/
def netTurn (s : State) (r : Req) : State :=
  if r.via = .mailbox then s else { s with odx := { s.odx with turnMbx := s.host.mbox.state == .queued } }

/-- A request of an open session is taken: the turn passes on, and the idle timeout runs anew. -/
def taken (s : State) (r : Req) : State := touch (netTurn s r) r

/-- A request of an open session, with its payload and its SEG flag: on the network it waits until it is taken (R405); unknown
sessions abort; a repeated tag of the network is answered from the cache (R402, R406). The boot ROM does not serve the
network (R480). -/
def withSession (s : State) (r : Req) (cmd ix sub : Nat) (p : Bytes) (seg : Bool) (k : State → Session → State) : State :=
  if netWaits s r then
    netQueue s r (odxMessage (verOf s r) cmd (if seg then 4 else 0) r.session.toNat r.tag.toNat ix sub p)
  else if !taking s || (s.boot.phase = .recovery && r.via ≠ .mailbox) then s
  else match sessionOf s r with
  | none => respondAbort (netTurn s r) r cmd ix sub abSession
  | some x =>
    let s := taken s r
    if r.via ≠ .mailbox && x.lastTag == some r.tag then carry (send s (.response r x.cached)) r x.cached
    else k s x

/-! ### Values (R395) -/

/-- The length of a value fits the type. -/
def lengthOk (t : ObjTy) (n : Nat) : Bool :=
  match t with
  | .u k => n == k
  | .i k => n == k
  | .bool => n == 1
  | .real => n == 4
  | .str => 1 ≤ n && n ≤ 255
  | .oct k => n == k
  | .dom k => n ≤ k

/-- The length of a value fits the object (R395): some DOMAINs fix it, or a part of it. -/
def lengthFits (r : ObjRow) (sub n : Nat) : Bool :=
  if r.ix = 0x3048 then n == 8192
  else if r.ix = 0x6004 && sub ≤ 2 then n == 6144
  else if r.ix = 0x6002 && sub = 2 then n % 4 == 0 && lengthOk r.ty n
  else if r.ix = 0x1F50 && sub = 1 then 4097 ≤ n && lengthOk r.ty n
  else lengthOk r.ty n

/-- The value that bytes of the right length spell. -/
def decodeVal (t : ObjTy) (bs : Bytes) : Val :=
  match t with
  | .i k => .num (toSigned (8 * k) (leNat bs))
  | .u _ => .num (leNat bs)
  | .bool => .num (leNat bs)
  | .real => .num (leNat bs)
  | _ => .bytes bs

/-- The bytes of a value. -/
def encodeVal (t : ObjTy) (v : Val) : Bytes :=
  match v with
  | .bytes b => b
  | .num n =>
    match t with
    | .i k => leBytes k (toBits (8 * k) n)
    | .u k => leBytes k n.toNat
    | .bool => leBytes 1 n.toNat
    | .real => leBytes 4 n.toNat
    | _ => []

/-- The value lies in the row's range. A counter takes 0 only (R397). -/
def rangeOk (r : ObjRow) (v : Val) : Bool :=
  match v with
  | .bytes _ => true
  | .num n =>
    match r.ty with
    | .real =>
      match f32Val n.toNat with
      | none => false
      | some q => (r.lo : Rat) ≤ q && q ≤ (r.hi : Rat)
    | _ => if r.kind = .counter then n == 0 else r.lo ≤ n && n ≤ r.hi

/-- A number in a value. -/
def Val.int : Val → Int
  | .num n => n
  | .bytes _ => 0

/-- A natural number in a value. -/
def valN (v : Val) : Nat := v.int.toNat

/-- The bytes in a value. -/
def valBytes : Val → Bytes
  | .num _ => []
  | .bytes b => b

/-! ### The checks of a write (R408) -/

/-- The row of an index and subindex; subindex 00 is the highest subindex in use, read-only (R395). -/
def objRow0 (ix sub : Nat) : Option ObjRow :=
  if sub = 0 then
    (objRows.find? fun r => r.ix ≤ ix && ix < r.ix + r.nIx).map fun r =>
      { r with sub := 0, nSub := 1, ty := .u 1, wr := 0, kind := .ro, cond := .none, dflt := 0, pers := .no,
               unit := if r.unit = .bank || r.unit = .group || r.unit = .input then .all else r.unit }
  else objRow ix sub

/-- What a write came to: in effect, in effect once its answer has been sent, taken and answered later (R405), or
aborted. -/
inductive Verdict where
  | done (s : State)
  | answered (s : State) (after : State → State)
  | later (s : State)
  | abort (code : Nat) (s : State)

/-- What an object's chapter adds to the table: a rule on the value (step 7), the power of what the write acts on
(step 9), a condition of the operating state or of admission with its counters (steps 10 and 11), and the effect. -/
structure WriteHook where
  range : Val → Bool := fun _ => true
  powered : Bool := true
  gate : State → Val → Option (Nat × State) := fun _ _ => none
  run : State → Val → Verdict

/-- The axis of an axis object: 0x5010+a, 0x5020+a; the objects of input 2 follow V (R262). -/
def axisOf (s : State) (ix : Nat) : AxisSt := if ix = 0x5010 || ix = 0x5020 then s.servo.h else s.servo.v

/-- R251: the axis is in OFF or OPEN and no CLOSE is pending. -/
def loopFree (a : AxisSt) : Bool := (a.st == .off || a.st == .opened) && a.cmd != some 1

/-- Step 10 of R408 for the conditions of the access column. -/
def condCheck (s : State) (r : ObjRow) (ix : Nat) : Option (Nat × State) :=
  match r.cond with
  | .emOff => if emissionOff s then none else some (abState, s)
  | .emOffSealed => if emissionOff s then none else some (abState, s)
  | .loopOpen =>
    if r.ix = 0x5010 && r.sub = 3 then
      if (axisOf s ix).st = .opened then none else some (abLoop, s)
    else if loopFree (axisOf s ix) then none else some (abLoop, bump s 0x5070 4)
  | .stopped => if odN s ix 1 = 0 then none else some (abState, s)
  | .portOff => if ((tget s.cams (ix % 4)).getD {}).st = .off then none else some (abState, s)
  | .acqIdle => if s.acq.st = .idle || s.acq.st = .done then none else some (abState, s)
  | _ => none

/-- Whether a long write, or another session's segmented write, of the object is in progress (R405, R407). -/
def writeBusy (s : State) (n : Nat) (ix sub : Nat) : Bool :=
  (s.odx.longs.any fun l => l.index == ix && l.sub == sub) ||
    s.odx.sessions.any fun x => x.number != n &&
      match x.xfer with
      | some f => f.index == ix && f.sub == sub
      | none => false

/-- Whether an index is defined; the recovery server knows three (R480). -/
def indexServed (s : State) (ix : Nat) : Bool :=
  objIndex ix && (s.boot.phase != .recovery || ix == 0x1F10 || ix == 0x1F40 || ix == 0x1F50)

/-- Steps 1 to 5 of R408: an abort code, or the row of the object. -/
def writeGrant (s : State) (x : Session) (ix sub : Nat) : Except Nat ObjRow :=
  if !indexServed s ix then .error abNoObject
  else match objRow0 ix sub with
  | none => .error abNoSub
  | some r =>
    if !objPresent s r ix sub then .error abAbsent
    else if 0x8000 ≤ ix && ix < 0x9000 && s.isl.st != .service then .error abSealed
    else if r.wr &&& roleBit x.role = 0 then .error abReadOnly
    else if writeBusy s x.number ix sub then .error abBusy
    else .ok r

/-- Steps 1 to 10 of R408 before the hook's own gate, for a value of `n` bytes: an abort code and the state with its
counters, or the value. -/
def writeChecksOf (s : State) (x : Session) (ix sub n : Nat) (dec : ObjTy → Val) (h : State → WriteHook) :
    Except (Nat × State) Val :=
  match writeGrant s x ix sub with
  | .error c => .error (c, s)
  | .ok r =>
    if !lengthFits r sub n then .error (abLength, s)
    else
      let v := dec r.ty
      if !(rangeOk r v && (h s).range v) then .error (abRange, s)
      else if (r.cond = .sealed || r.cond = .emOffSealed) && cfgActive s then .error (abSealed, s)
      else if (0x8000 ≤ ix && ix < 0x9000 && !domOn s .safe) || !(h s).powered then .error (abUnpowered, s)
      else match condCheck s r ix with
      | some e => .error e
      | none =>
        match (h s).gate s v with
        | some e => .error e
        | none => .ok v

/-- The checks of a write of bytes. -/
def writeChecks (s : State) (x : Session) (ix sub : Nat) (data : Bytes) (h : State → WriteHook) :
    Except (Nat × State) Val := writeChecksOf s x ix sub data.length (fun t => decodeVal t data) h

/-- A write as a whole: the checks, the effect, the answer. -/
def writeObject (s : State) (r : Req) (x : Session) (cmd ix sub : Nat) (data : Bytes) (h : State → WriteHook) : State :=
  match writeChecks s x ix sub data h with
  | .error (c, s) => respondAbort s r cmd ix sub c
  | .ok v =>
    match (h s).run s v with
    | .done s => respond s r cmd ix sub []
    | .answered s f => f (respond s r cmd ix sub [])
    | .later s => s
    | .abort c s => respondAbort s r cmd ix sub c

/-- The command code of WRITE (R401). -/
def cmdWrite : Nat := 4

/-- A WRITE request of one object, with its session (R402 to R408). -/
def requestWrite (s : State) (r : Req) (ix sub : Nat) (data : Bytes) (h : State → WriteHook) : State :=
  withSession s r cmdWrite ix sub data false fun s x => writeObject s r x cmdWrite ix sub data h

/-- The effect of a plain setting: the value is kept. -/
def keep (ix sub : Nat) (s : State) (v : Val) : Verdict := .done (odSet s ix sub v)

/-- The hook of a plain setting: the other subindices of the object keep their values (for 0x3108:06: assumption 71). -/
def plainHook (ix sub : Nat) (_ : State) : WriteHook := { run := keep ix sub }

/-- Whether a write that programs the QSPI NOR is turned away: a quiesce that runs issues no new command to it (R448, R449;
assumption 50). -/
def norGate (s : State) (_ : Val) : Option (Nat × State) := if s.pwr.pfState = 1 then some (abStore, s) else none

/-- The answer to a long write: the waiting request is removed and answered (R405), or its answer is
discarded (R374). -/
def longAnswer (s : State) (k : LongKind) (code : Nat) : State :=
  match s.odx.longs.find? fun l => l.kind == k with
  | none => s
  | some l =>
    let s := { s with odx := { s.odx with longs := s.odx.longs.filter fun m => m.kind != k } }
    if l.drop then s
    else if code = 0 then respond s l.req l.cmd.toNat l.index l.sub [] else respondAbort s l.req l.cmd.toNat l.index l.sub code

/-- The persistent copy in force: the valid one with the higher store count, with its code. -/
def storeInForce (s : State) : Option (StoreCopy × Nat) :=
  match s.odx.copyA, s.odx.copyB with
  | some a, some b => if a.count < b.count then some (b, 2) else some (a, 1)
  | some a, none => some (a, 1)
  | none, some b => some (b, 2)
  | none, none => none

/-- The persisted value of an object: the stored one, else its default (R19, R398). -/
def persisted (s : State) (ix sub : Nat) : Val :=
  match storeInForce s with
  | some (c, _) => (tget c.vals (odKey ix sub)).getD (odDefault s ix sub)
  | none => odDefault s ix sub

/-- The object takes its persisted value, as at a start that the rules say reads the persisted one (R261, R299).
DEDUCED (assumption 80): the object itself then shows that value. -/
def usePersisted (s : State) (ix sub : Nat) : State := odSet s ix sub (persisted s ix sub)

/-- The mean err of the follower's last 16 pairs, in UI (R365). -/
def meanErr (f : FollowSt) : Rat :=
  if f.errs.isEmpty then 0 else f.errs.foldl (· + ·) 0 / ((f.errs.length : Nat) : Rat)

/-- UI as picoseconds: 1 UI = 1,000/28 ps. -/
def uiPs (q : Rat) : Int := roundQ (q * 1000 / 28)

/-! ### The counter C within a tick (R418) -/

/-- The span of C, 2^60 ns, in units of 2^−32 ns. -/
def timeSpan : Nat := 2 ^ 92

/-- By how much C advances in a time of 0.1 ns units of REF at a rate correction in ppb, in units of 2^−32 ns. -/
def timeGain (t : Nat) (rho : Int) : Nat := (fdiv (((t * 2 ^ 32 : Nat) : Int) * (1000000000 + rho)) 10000000000).toNat

/-- By how much C advances in REF cycles of 6.4 ns at a rate correction in ppb, in units of 2^−32 ns. -/
def timeAdvance (cycles : Nat) (rho : Int) : Nat := timeGain (cycles * 64) rho

/-- By how much C has advanced since t+0 at a moment of the tick, in 0.1 ns of REF: each part of the tick at its own rate. -/
def timeRun (t : TimeSt) (m : Nat) : Nat := t.adv + timeGain (m - t.part * 64) t.rho

/-- C at a moment of this tick, 0.1 ns of REF after t+0, in ns. -/
def timeWhen (s : State) (m : Nat) : Nat := (s.time.c + timeRun s.time m) % timeSpan / 2 ^ 32

/-- C at a REF cycle of this tick, in ns. -/
def timeAt (s : State) (cycle : Nat) : Nat := timeWhen s (cycle * 64)

/-- A rate correction that stands from a REF cycle of the tick on; what has passed keeps its rate. -/
def setRate (t : TimeSt) (cycle : Nat) (rho : Int) : TimeSt :=
  { t with adv := timeRun t (cycle * 64), part := max t.part cycle, rho := rho }

end Sys2Proof.Machine
end

