-- ==== Sys2Proof/Machine/Weir.lean ====
section
/-! DEFINITION. Weir (R191 to R196): the cells, their sliding sums, the charges and the hold-off; and the energy model of
the emitters (R203). -/

namespace Sys2Proof.Machine

/-! ### The energy model (R203) -/

/-- An energy class: reference voltage in mV, width code, energy in nJ, charge in pC. -/
structure EClass where
  v : Nat
  w : Nat
  e : Nat
  q : Nat

/-- The objects of the energy model, the probe model and the cells: writes of them act from the next tick, and on the next
admission (R196, R227); and the limits ω_max and α_max as admission takes them (R251). -/
def modelKey (k : Nat) : Bool :=
  let ix := k / 256
  ix == 0x4010 || (0x4020 ≤ ix && ix ≤ 0x4026) || (ix == 0x4011 && k % 256 ≤ 4) ||
    ((ix == 0x5010 || ix == 0x5011) && (k % 256 == 9 || k % 256 == 0x0A))

/-- What those objects hold now. -/
def modelObjects (s : State) : Tbl Val := s.od.filter fun p => modelKey p.1

/-- The state as the energy model in force has its objects. -/
def modelView (s : State) : State := { s with od := s.emit.model }

/-- The energy class `k` (0x4010); the other fields of an undefined class have no effect (R203). -/
def eclass (s : State) (k : Nat) : EClass :=
  let b := odBytes (modelView s) 0x4010 (k + 1)
  if fieldN b 0 2 = 0 then ⟨0, 0, 0, 0⟩ else ⟨fieldN b 0 2, fieldN b 2 1, fieldN b 4 4, fieldN b 8 4⟩

/-- The model energy of a class at a bank set-point, in units of 1/256 nJ, rounded half up (R193, R203). -/
def modelCharge (c : EClass) (sp : SetPoint) : Nat :=
  if c.v = 0 then 0 else (roundQ (256 * ((c.e : Nat) : Rat) * sp.v2 / ((c.v * c.v : Nat) : Rat))).toNat

/-- The model pulse charge of a class at a bank set-point, in pC. -/
def modelPulse (c : EClass) (sp : SetPoint) : Rat :=
  if c.v = 0 then 0 else ((c.q * sp.uv : Nat) : Rat) / ((c.v * 1000 : Nat) : Rat)

/-- An emitter's direction offset (0x4026), in 0.001°. -/
def emOffset (s : State) (e : Nat) : Int × Int :=
  let b := odBytes (modelView s) 0x4026 1
  (fieldI b (4 * e) 2, fieldI b (4 * e + 2) 2)

/-! ### Cells -/

/-- The index of a direction along one axis of the grid, clamped. -/
def cellIndex (q : Rat) (origin : Int) (step n : Nat) : Nat :=
  (clampI 0 ((n - 1 : Nat) : Int) (((q - ((origin : Int) : Rat)) / ((step : Nat) : Rat)).floor)).toNat

/-- The cell of a direction in 0.001° (R191). -/
def cellOf (s : State) (h v : Rat) : Nat :=
  let m := modelView s
  64 * cellIndex v (odI m 0x4025 3) (odN m 0x4025 4) 16 + cellIndex h (odI m 0x4025 1) (odN m 0x4025 2) 64

/-- The limits of a cell in nJ (R191, R196). -/
def cellLimits (s : State) (x : Nat) : List Nat :=
  let m := modelView s
  let k := ((odBytes m 0x4024 1)[x]?.getD 0).toNat % 4
  [odN m (0x4020 + k) 1, odN m (0x4020 + k) 2, odN m (0x4020 + k) 3]

/-- The keys of window `j` that a shot of tick `n` falls among: the last one and how many (R192). -/
def windowKeys (j n : Nat) : Nat × Nat :=
  match j with
  | 0 => (n, 79)
  | 1 => (n / 64, 124)
  | _ => (n / 1024, 764)

/-- Whether a key lies in window `j` of tick `n`. -/
def inWindow (j n k : Nat) : Bool := k ≤ (windowKeys j n).1 && (windowKeys j n).1 < k + (windowKeys j n).2

/-- The table of window `j`. -/
def Cell.win (c : Cell) : Nat → Tbl Nat
  | 0 => c.w1
  | 1 => c.w2
  | _ => c.w3

/-- A cell. -/
def getCell (s : State) (x : Nat) : Cell := tgetD s.weir.cells x {}

/-- The sum of window `j` of a cell in tick `n` (R192). -/
def cellSum (s : State) (x j n : Nat) : Nat := tsum ((getCell s x).win j) (inWindow j n)

/-- The charges of the shots already planned for a cell in window `j` of tick `n` (R194). -/
def plannedSum (s : State) (x j n : Nat) : Nat :=
  s.weir.planned.foldl (fun a p => if p.cell = x && inWindow j n (windowKeys j p.tick).1 then a + p.charge else a) 0

/-- Weir's own veto after a start with preloaded buckets (R195). -/
def weirHeld (s : State) (n : Nat) : Bool :=
  match s.weir.hold with
  | some t => n < t + 782336
  | none => false

/-- Whether a charge of a tick stays within the limits of its cell (R194): the held sums, with the planned charges for the
pre-check. -/
def weirAllows (s : State) (pre : Bool) (x n charge : Nat) : Bool :=
  !weirHeld s n &&
    ((cellLimits s x).zipIdx.all fun l =>
      l.1 != 0 && cellSum s x l.2 n + (if pre then plannedSum s x l.2 n else 0) + charge ≤ 256 * l.1)

/-- A table with a charge added to a key, and without the keys that have left the window. -/
def addCharge (t : Tbl Nat) (k span charge : Nat) : Tbl Nat :=
  tupd (t.filter fun p => k < p.1 + span) k 0 (· + charge)

/-- A charge of a tick enters the sums of its cell (R193). -/
def weirCharge (s : State) (x n charge : Nat) : State :=
  let c := getCell s x
  let c' : Cell := {
    w1 := addCharge c.w1 n 79 charge
    w2 := addCharge c.w2 (n / 64) 124 charge
    w3 := addCharge c.w3 (n / 1024) 764 charge }
  { s with weir := { s.weir with cells := tset s.weir.cells x c' } }

/-- A start of Weir (R195): the sums start at zero if the AON record shows emission off for at least 10 s by the RTC; else
the newest W2 and W3 buckets hold the limits. -/
def weirStart (s : State) : State :=
  let n := s.tick.num
  let off : Bool := match s.pwr.stopRec with
    | some t => decide (t + 10 ≤ odN s 0x9003 1)
    | none => false
  if off then { s with weir := {} }
  else
    let cell (x : Nat) : Cell :=
      { w2 := [(n / 64, 256 * (cellLimits s x).getD 1 0)], w3 := [(n / 1024, 256 * (cellLimits s x).getD 2 0)] }
    { s with weir := { cells := (List.range 1024).map fun x => (x, cell x), hold := some n } }

/-- WEIR_HOLD_OFF_END (R195): both preloaded buckets have slid out. -/
def execWeirHoldOffEnd (s : State) : Host.Outcome State Fault Refusal :=
  outcome s <| if weirHeld s s.tick.num then s else { s with weir := { s.weir with hold := none } }

/-- The remaining hold-off in ms, rounded up (0x4028:04). -/
def holdOffMs (s : State) : Nat :=
  match s.weir.hold with
  | some t => ceilDiv ((t + 782336 - s.tick.num) * 128) 10000
  | none => 0

/-- The cell levels (0x4027:01): the held sums rounded half up to nJ. -/
def cellLevels (s : State) : Bytes :=
  (List.range 1024).flatMap fun x => (List.range 3).flatMap fun j =>
    leBytes 4 (satN 32 (roundDivN (cellSum s x j s.tick.num) 256))

/-- The planned charges that a test on tick and emitter releases (R194). -/
def weirRelease (s : State) (p : Planned → Bool) : State :=
  { s with weir := { s.weir with planned := s.weir.planned.filter fun q => !p q } }

/-- A value between 0 and 3 in each byte of the limit-set map (R197). -/
def limitMapHook (_ : State) : WriteHook where
  range v := (valBytes v).all fun b => b.toNat ≤ 3
  run s v := keep 0x4024 1 s v

/-- Writes of 0x4010 (R203): a defined class has a width of 4 to 80; the reserved byte reads zero (R18). -/
def eclassHook (sub : Nat) (_ : State) : WriteHook where
  range v :=
    let b := valBytes v
    fieldN b 0 2 == 0 || (4 ≤ fieldN b 2 1 && fieldN b 2 1 ≤ 80)
  run s v := keep 0x4010 sub s (.bytes ((valBytes v).set 3 0))

end Sys2Proof.Machine
end

