-- ==== Sys2Proof/Machine/Plan.lean ====
section
/-! DEFINITION. Scan plans: the image (R159 to R162) and its checks at admission (R181 to R187, R194). -/

namespace Sys2Proof.Machine

/-- A refusal at admission (R181): reason code, item type and index, axis or window, the values compared. Where a check
compares no two numbers both values are 0 (assumption 12). -/
structure AdmFail where
  code  : Nat
  item  : Nat := 0
  index : Nat := 0
  sub   : Nat := 0
  value : Nat := 0
  limit : Nat := 0

/-- The first failure of a list of checks. -/
def firstFail (l : List (Option AdmFail)) : Option AdmFail := l.findSome? id

/-- A check that fails with a result. -/
def failIf (b : Bool) (f : AdmFail) : Option AdmFail := if b then some f else none

/-! ### The image -/

/-- The sections of an image: offset and size of columns, regions, fovea rules, zones, map, outputs (R159). -/
def planSections (b : Bytes) : List (Nat × Nat) :=
  [(fieldN b 12 4, 16 * fieldN b 6 2), (fieldN b 16 4, 32 * fieldN b 5 1), (fieldN b 20 4, 24 * fieldN b 8 1),
   (fieldN b 24 4, 4 * fieldN b 9 1), (fieldN b 28 4, 512), (fieldN b 32 4, 72 * fieldN b 11 1)]

/-- Two spans that share a byte; a span of length 0 overlaps nothing. -/
def spansMeet (a b : Nat × Nat) : Bool := a.2 != 0 && b.2 != 0 && a.1 < b.1 + b.2 && b.1 < a.1 + a.2

/-- The header and the sections keep R159. -/
def planHeaderOk (b : Bytes) : Bool :=
  let len := b.length
  let ss := planSections b
  44 ≤ len && len ≤ 131072 && fieldN b 0 4 == 0x3150564C && fieldN b 36 4 == len &&
    crc32 (b.take (len - 4)) == BitVec.ofNat 32 (fieldN b (len - 4) 4) &&
    1 ≤ fieldN b 4 1 && 1 ≤ fieldN b 5 1 && fieldN b 5 1 ≤ 16 && 1 ≤ fieldN b 6 2 && fieldN b 6 2 ≤ 4096 &&
    fieldN b 8 1 ≤ 4 && fieldN b 9 1 ≤ 16 && fieldN b 10 1 ≤ 3 && fieldN b 11 1 ≤ 8 &&
    (ss.all fun x => 40 ≤ x.1 && x.1 + x.2 ≤ len - 4) &&
    ss.zipIdx.all fun x => (ss.drop (x.2 + 1)).all fun y => !spansMeet x.1 y

/-- A column entry (R160). -/
def decodeColumn (b : Bytes) (o : Nat) : Column :=
  { angH := fieldI b o 4, angV := fieldI b (o + 4) 4, zmask := fieldN b (o + 8) 2, region := fieldN b (o + 10) 1
    cflags := fieldN b (o + 11) 1, banks := fieldN b (o + 12) 1 }

/-- A region entry (R161). -/
def decodeRegion (b : Bytes) (o : Nat) : Region :=
  { s := fieldN b o 1, wpol := fieldN b (o + 1) 1, nwmax := fieldN b (o + 2) 1, lmax := fieldN b (o + 3) 1
    lmin := fieldN b (o + 4) 1, lfix := fieldN b (o + 5) 1, sfix := fieldN b (o + 6) 2, dither := fieldN b (o + 8) 1
    two := fieldN b (o + 9) 1, early := fieldN b (o + 10) 1, ksig := fieldN b (o + 11) 1, grad := fieldN b (o + 12) 1
    hmin := fieldN b (o + 14) 2, eclass := (List.range 8).map fun i => fieldN b (o + 16 + i) 1 }

/-- A fovea rule (R162). -/
def decodeFov (b : Bytes) (o : Nat) : FovRule :=
  { mode := fieldN b o 1, cls := fieldN b (o + 1) 1, fmin := fieldN b (o + 2) 1, lfov := fieldN b (o + 3) 1
    c0 := fieldI b (o + 4) 4, gain := fieldI b (o + 8) 4, hw := fieldI b (o + 12) 4
    elLo := fieldI b (o + 16) 2, elHi := fieldI b (o + 18) 2 }

/-- A zone entry (R162). -/
def decodeZone (b : Bytes) (o : Nat) : ZoneEntry :=
  { zone := fieldN b o 1, flags := fieldN b (o + 1) 1, revisit := fieldN b (o + 2) 2 }

/-- An output entry (R162). -/
def decodeOut (b : Bytes) (o : Nat) : OutEntry :=
  { otype := fieldN b o 1, sinkk := fieldN b (o + 1) 1, sinki := fieldN b (o + 2) 1, oflags := fieldN b (o + 3) 1
    ecap := fieldN b (o + 4) 1, cmask := BitVec.ofNat 512 (fieldN b (o + 8) 64) }

/-- The offsets of the entries of section `i`, of `n` bytes each. -/
def entryOffsets (b : Bytes) (i n : Nat) : List Nat :=
  let x := (planSections b).getD i (0, 0)
  (List.range (x.2 / n)).map fun k => x.1 + n * k

/-- The plan that an image with a good header spells. -/
def decodePlan (b : Bytes) : Plan :=
  { raw := b, id := fieldN b 4 1, axsrc := fieldN b 10 1
    cols := (entryOffsets b 0 16).map (decodeColumn b)
    regs := (entryOffsets b 1 32).map (decodeRegion b)
    fovs := (entryOffsets b 2 24).map (decodeFov b)
    zones := (entryOffsets b 3 4).map (decodeZone b)
    map := (slice b (fieldN b 28 4) 512).map (·.toNat)
    outs := (entryOffsets b 5 72).map (decodeOut b) }

/-- All bytes of a field are 0. -/
def zeroField (b : Bytes) (o k : Nat) : Bool := (slice b o k).all (· == 0)

/-- The region of a column. -/
def colRegion (p : Plan) (c : Column) : Region := p.regs.getD c.region (decodeRegion [] 0)

/-- A plan has fovea rules and a FOVEA_OK column. -/
def planFovea (p : Plan) : Bool := !p.fovs.isEmpty && p.cols.any fun c => c.cflags.testBit 0

/-- A number in an inclusive range. -/
def within (lo hi n : Nat) : Bool := lo ≤ n && n ≤ hi

/-- A class number that names a defined class (R203). -/
def classDefined (s : State) (k : Nat) : Bool := k ≤ 15 && (eclass s k).v != 0

/-- The present banks whose class a region names: some column of the region fires them (R203). -/
def namedBanks (s : State) (p : Plan) (r : Nat) : List Nat :=
  (List.range (nBank s)).filter fun b => p.cols.any fun c => c.region == r && c.banks.testBit b

/-- A column entry keeps FORMAT. -/
def columnOk (p : Plan) (o : Nat) : Bool :=
  let c := decodeColumn p.raw o
  c.region < p.regs.length && c.cflags ≤ 1 && zeroField p.raw (o + 13) 3

/-- A region entry keeps FORMAT. -/
def regionOk (s : State) (p : Plan) (r o : Nat) : Bool :=
  let x := decodeRegion p.raw o
  within 1 64 x.s && x.wpol ≤ 3 && within 1 2 x.nwmax && within 1 16 x.lmax && within 1 16 x.lmin && within 1 16 x.lfix &&
    x.dither ≤ 3 && x.two ≤ 2 && x.early ≤ 1 && within 4 40 x.ksig && zeroField p.raw (o + 13) 1 &&
    zeroField p.raw (o + 24) 8 && (namedBanks s p r).all fun b => classDefined s (x.eclass.getD b 0)

/-- A fovea rule keeps FORMAT. -/
def fovOk (s : State) (p : Plan) (o : Nat) : Bool :=
  let f := decodeFov p.raw o
  f.mode ≤ 1 && classDefined s f.cls && within 1 63 f.fmin && within 1 16 f.lfov && zeroField p.raw (o + 20) 4

/-- A zone entry keeps FORMAT. -/
def zoneOk (p : Plan) (o : Nat) : Bool :=
  let z := decodeZone p.raw o
  z.zone ≤ 15 && z.flags ≤ 1 && 1 ≤ z.revisit

/-- An output entry keeps FORMAT. -/
def outOk (p : Plan) (o : Nat) : Bool :=
  let x := decodeOut p.raw o
  within 1 3 x.otype && x.sinkk ≤ 1 && x.oflags ≤ (if x.otype = 1 then 1 else 0) &&
    (if x.otype = 3 then within 1 96 x.ecap else x.ecap == 0) && zeroField p.raw (o + 5) 3

/-- The entries of a section that break FORMAT: the first one. -/
def sectionFail (p : Plan) (sec size item : Nat) (ok : Nat → Nat → Bool) : Option AdmFail :=
  ((entryOffsets p.raw sec size).zipIdx.find? fun x => !ok x.2 x.1).map fun x => { code := 2, item := item, index := x.2 }

/-- FORMAT of the entries, in ascending order of item type (R181). -/
def formatFail (s : State) (p : Plan) : Option AdmFail :=
  firstFail [
    sectionFail p 0 16 2 fun _ o => columnOk p o,
    sectionFail p 1 32 3 (regionOk s p),
    sectionFail p 2 24 4 fun _ o => fovOk s p o,
    sectionFail p 3 4 5 fun _ o => zoneOk p o,
    (p.map.zipIdx.find? fun x => 64 ≤ x.1 && x.1 != 0xFF).map fun x => { code := 2, item := 6, index := x.2 },
    sectionFail p 5 72 7 fun _ o => outOk p o]

/-! ### Participation, windows and rates -/

/-- The plan that a new one replaces: one that is due to take effect, else the running one; one that would take effect
later is superseded (R188). -/
def planInForce (s : State) : Option Plan :=
  match s.plan.switching with
  | some (t, p) => if t ≤ s.tick.num then some p else s.plan.running
  | none => s.plan.running

/-- A channel present and enabled by its mask (R78). -/
def chanEnabled (s : State) (c : Nat) : Bool := c < nChan s && (odN s (0x3010 + c / 64) 8).testBit (c % 64)

/-- A channel takes part in a column by the plan alone: mapped to an emitter of a bank that the column fires (R165). -/
def chanInColumn (s : State) (p : Plan) (col : Column) (c : Nat) : Bool :=
  let e := p.map.getD c 0xFF
  e != 0xFF && e < nEmit s && col.banks.testBit (e / 8) && chanEnabled s c

/-- The larger of two window configurations (bins, windows) by HIST cycles. -/
def passCycles (w : Nat × Nat) : Nat := 368 + w.1 / 2 + 16 * w.2

/-- The window configurations that a column can give a channel (R182). -/
def colWindows (p : Plan) (col : Column) : List (Nat × Nat) :=
  let r := colRegion p col
  let fix := (128 * r.lfix, 1)
  let pre := (r.nwmax * 128 * r.lmax, r.nwmax)
  (match r.wpol with
    | 0 => [(0, 0)]
    | 1 => [fix]
    | 2 => [pre]
    | _ => [fix, pre]) ++
    (if col.cflags.testBit 0 && !p.fovs.isEmpty then [(128 * p.fovs.foldl (fun m f => max m f.lfov) 0, 1)] else [])

/-- The largest configuration of a channel; none for a channel in no column (R182). -/
def chanWindow (s : State) (p : Plan) (c : Nat) : Option (Nat × Nat) :=
  let l := (p.cols.filter fun col => chanInColumn s p col c).flatMap (colWindows p)
  l.foldl (fun m w => match m with
    | none => some w
    | some x => if passCycles x < passCycles w then some w else some x) none

/-- HIST cycles of a channel under a plan (R108). -/
def chanCycles (s : State) (p : Plan) (c : Nat) : Nat := ((chanWindow s p c).map passCycles).getD 0

/-- The frame time in ticks (R163). -/
def frameTicks (p : Plan) : Nat := p.cols.foldl (fun a c => a + (colRegion p c).s) 0

/-- The first ticks of the columns, from the frame start. -/
def colStarts (p : Plan) : List Nat :=
  (p.cols.foldl (fun a c => (a.1 + (colRegion p c).s, a.1 :: a.2)) (0, ([] : List Nat))).2.reverse

/-- The worst-case stack rate of a channel per second (R185). -/
def stackRate (s : State) (p : Plan) (c : Nat) : Rat :=
  let n := p.cols.foldl (fun a col =>
    if chanInColumn s p col c then a + (if col.cflags.testBit 0 && !p.fovs.isEmpty then 2 else 1) else a) 0
  if frameTicks p = 0 then 0 else ((n * 10000000 : Nat) : Rat) / ((frameTicks p * 128 : Nat) : Rat)

/-- The load of an output entry in bytes per second (R185): records, histogram taps, event taps. -/
def outLoad (s : State) (p : Plan) (o : OutEntry) : Rat :=
  ((List.range (nChan s)).filter fun c => o.cmask.getLsbD c).foldl (fun a c =>
    a + match o.otype with
      | 1 => 128 * stackRate s p c
      | 2 => ((5824 + 8 * ((chanWindow s p c).map (·.1)).getD 0 : Nat) : Rat) * stackRate s p c
      | _ => ((4 * o.ecap * 1000000 : Nat) : Rat)) 0

/-! ### The camera configuration's loads (R297) -/

/-- Frames per second of a camera's configured maximum. -/
def camRate (s : State) (k : Nat) : Rat := ((odN s (0x6000 + k) 0x0A : Nat) : Rat) / 100

/-- Pixels of a configured frame. -/
def camPixels (s : State) (k : Nat) : Nat := odN s (0x6000 + k) 6 * odN s (0x6000 + k) 7

/-- Bytes per pixel at a tap point. -/
def tapBytes (t : Nat) : Nat :=
  match t with
  | 1 => 2
  | 4 => 3
  | _ => 6

/-- Bytes per pixel in the frame store. -/
def storePixel (s : State) (k : Nat) : Nat := if odN s (0x6010 + k) 3 = 0 then 4 else 2

/-- The load of the camera outputs that go to a sink (1 ring, 2 link) of an index. -/
def camSinkLoad (s : State) (sink idx : Nat) : Rat :=
  if !hasCam s then 0
  else (List.range 2).foldl (fun a k =>
    let img := if odN s (0x6006 + k) 1 = sink && odN s (0x6006 + k) 2 = idx then camPixels s k * 3 + 32 else 0
    let tap := if odN s (0x6006 + k) 4 = sink && odN s (0x6006 + k) 5 = idx && odN s (0x6006 + k) 3 != 0 then
      camPixels s k * tapBytes (odN s (0x6006 + k) 3) + 32 else 0
    a + ((img + tap : Nat) : Rat) * camRate s k) 0

/-- The load of the frame stores. -/
def camStoreLoad (s : State) : Rat :=
  if !hasCam s then 0
  else (List.range 2).foldl (fun a k => a + ((camPixels s k * storePixel s k : Nat) : Rat) * camRate s k) 0

/-! ### The checks (R181) -/

/-- The number of lanes of a link by the grouping object; 0 where no link of that number exists. -/
def groupLanes (s : State) (j : Nat) : Nat := if j < nLane s then ((odBytes s 0xC000 2)[j]?.getD 0).toNat else 0

/-- A link that an output may name: it starts at its number, and all its lanes are enabled (R353, R369; assumption 13). -/
def linkNamed (s : State) (j : Nat) : Bool :=
  groupLanes s j != 0 && (List.range (groupLanes s j)).all fun i => (odN s 0xC000 1).testBit (j + i)

/-- VARIANT: columns, then map entries, then outputs. -/
def variantFail (s : State) (p : Plan) : Option AdmFail :=
  firstFail [
    (p.cols.zipIdx.find? fun x => 2 ^ nBank s ≤ x.1.banks).map fun x => { code := 4, item := 2, index := x.2 },
    (p.map.zipIdx.find? fun x => x.1 != 0xFF && (nChan s ≤ x.2 || nEmit s ≤ x.1)).map
      fun x => { code := 4, item := 6, index := x.2 },
    (p.outs.zipIdx.find? fun x =>
      (if x.1.sinkk = 0 then 16 ≤ x.1.sinki else !linkNamed s x.1.sinki) ||
      (x.1.oflags.testBit 0 && !hasCam s) || 2 ^ nChan s ≤ x.1.cmask.toNat).map
      fun x => { code := 4, item := 7, index := x.2 }]

/-- ZONE: by zone number (R181, R320). -/
def zoneFail (s : State) (p : Plan) : Option AdmFail :=
  (List.range 16).findSome? fun z =>
    let es := p.zones.filter (·.zone == z)
    let need := cfgActive s && (odN s (0x8200 + z) 1).testBit 0
    firstFail [
      failIf (!hasSafe s && es.any (·.flags.testBit 0)) { code := 5, item := 5, index := z },
      (es.find? fun e => e.flags.testBit 0 && 1562 < e.revisit).map
        fun e => { code := 5, item := 5, index := z, value := e.revisit, limit := 1562 },
      failIf (need && (es.isEmpty || es.any fun e => !e.flags.testBit 0)) { code := 5, item := 5, index := z },
      if need then (es.find? fun e => odN s (0x8200 + z) 4 < e.revisit).map
        fun e => { code := 5, item := 5, index := z, value := e.revisit, limit := odN s (0x8200 + z) 4 } else none]

/-- WINDOW. -/
def windowFail (p : Plan) : Option AdmFail :=
  p.regs.zipIdx.findSome? fun x =>
    let r := x.1
    firstFail [
      failIf (16 < r.nwmax * r.lmax) { code := 6, item := 3, index := x.2, value := r.nwmax * r.lmax, limit := 16 },
      failIf (r.lmax < r.lmin) { code := 6, item := 3, index := x.2, value := r.lmin, limit := r.lmax },
      failIf (40960 < r.sfix + 128 * r.lfix)
        { code := 6, item := 3, index := x.2, value := r.sfix + 128 * r.lfix, limit := 40960 }]

/-- HIST (R108, R109). -/
def histFail (s : State) (p : Plan) : Option AdmFail :=
  (List.range (nChan s / 8)).findSome? fun g =>
    let n := (List.range 8).foldl (fun a i =>
      let c := 8 * g + i
      a + max (chanCycles s p c) (((planInForce s).map fun q => chanCycles s q c).getD 0)) 0
    failIf (9728 < n) { code := 7, item := 8, index := g, value := n, limit := 9728 }

/-- The set-point of an axis at a column's first tick, in servo units. -/
def colAngle (a : Nat) (c : Column) : Int := 10 * (if a = 0 then c.angH else c.angV)

/-- The step per tick within each column, in servo units (R164). -/
def colSteps (p : Plan) (a : Nat) : List Rat :=
  let n := p.cols.length
  p.cols.zipIdx.map fun x =>
    (((colAngle a (p.cols.getD ((x.2 + 1) % n) x.1) - colAngle a x.1 : Int)) : Rat) / (((colRegion p x.1).s : Nat) : Rat)

/-- A magnitude. -/
def ratAbs (q : Rat) : Rat := if q < 0 then -q else q

/-- A magnitude in servo units, rounded up, for a report. -/
def magUp (q : Rat) : Nat := (ratAbs q).ceil.toNat

/-- The last set-point of each column of the running plan that follows the plan on an axis, and the step before it. -/
def boundaryEnds (s : State) (a : Nat) : List (Rat × Rat) :=
  match planInForce s with
  | none => []
  | some q =>
    if q.axsrc.testBit a then []
    else
      let st := colSteps q a
      let n := q.cols.length
      q.cols.zipIdx.map fun x =>
        let d := st.getD x.2 0
        let k := (colRegion q x.1).s
        (((colAngle a x.1 : Int) : Rat) + d * ((k - 1 : Nat) : Rat), if k = 1 then st.getD ((x.2 + n - 1) % n) 0 else d)

/-- The limits of R183 on an axis, per tick and per tick squared, in servo units: those of the admission's start (R251). -/
def slewLimits (s : State) (a : Nat) : Rat × Rat :=
  let w := (f32Val (odN (modelView s) (0x5010 + a) 9)).getD 0
  let x := (f32Val (odN (modelView s) (0x5010 + a) 0x0A)).getD 0
  (w * 128 / 1000, x * 16384 / 10000000000)

/-- SERVO_SLEW and SERVO_ACCEL of one column and axis (R183): within the frame, with its wrap, and from each column
boundary of the running plan to column 0. -/
def servoFail (s : State) (p : Plan) (accel : Bool) (k a : Nat) : Option AdmFail :=
  if p.axsrc.testBit a then none
  else
    let st := colSteps p a
    let n := p.cols.length
    let d := st.getD k 0
    let t0 : Rat := ((colAngle a (p.cols.getD 0 (decodeColumn [] 0)) : Int) : Rat)
    let ends := if k = 0 then boundaryEnds s a else []
    let vals := if accel then
        (d - st.getD ((k + n - 1) % n) 0) :: ends.flatMap fun e => [t0 - e.1 - e.2, st.getD 0 0 - (t0 - e.1)]
      else d :: ends.map fun e => t0 - e.1
    let lim := if accel then (slewLimits s a).2 else (slewLimits s a).1
    (vals.find? fun v => lim < ratAbs v).map fun v =>
      { code := if accel then 9 else 8, item := 2, index := k, sub := a, value := magUp v, limit := lim.floor.toNat }

/-- All columns and axes in order. -/
def servoFails (s : State) (p : Plan) (accel : Bool) : Option AdmFail :=
  (List.range p.cols.length).findSome? fun k => firstFail [servoFail s p accel k 0, servoFail s p accel k 1]

/-- The commit ticks, from the frame start, of the columns that cover a zone (R184). -/
def zoneCommits (p : Plan) (z : Nat) : List Nat :=
  (p.cols.zip (colStarts p)).filterMap fun x =>
    if x.1.zmask.testBit z then some (x.2 + (colRegion p x.1).s + 1) else none

/-- The largest gap between consecutive commit ticks of a cyclic frame. -/
def cyclicGap (l : List Nat) (t : Nat) : Nat :=
  ((l.zip (l.drop 1 ++ (l.take 1).map (· + t))).map fun x => x.2 - x.1).foldl max 0

/-- How many ticks before `b` the commit tick `c` lies, of a cyclic frame of `t` ticks: 1 to `t`. -/
def ticksBefore (t b c : Nat) : Nat :=
  let d := (b + 2 * t - c) % t
  if d = 0 then t else d

/-- The largest gap in ticks from the last covering commit of the running plan before a column boundary of it to that
boundary. -/
def boundaryGap (q : Plan) (z : Nat) : Option Nat :=
  let t := frameTicks q
  let l := zoneCommits q z
  if l.isEmpty then none
  else some (((colStarts q).map fun b => (l.map (ticksBefore t b)).foldl min t).foldl max 0)

/-- REVISIT (R184). A zone that no column covers has no finite interval. -/
def revisitFail (s : State) (p : Plan) : Option AdmFail :=
  (List.range 16).findSome? fun z =>
    (p.zones.filter (·.zone == z)).findSome? fun e =>
      let l := zoneCommits p z
      let fail (v : Nat) : Option AdmFail :=
        failIf (e.revisit < v) { code := 10, item := 5, index := z, value := v, limit := e.revisit }
      if l.isEmpty then fail (2 ^ 64 - 1)
      else
        firstFail [fail (cyclicGap l (frameTicks p)),
          ((planInForce s).bind fun q => boundaryGap q z).bind fun g => fail (g + l.headD 0)]

/-- The voltage top of a bank (R194, "Checking a plan against the cells"), in mV. -/
def bankTop (s : State) (p : Plan) (b : Nat) : Nat :=
  p.regs.zipIdx.foldl (fun m x =>
    if (namedBanks s p x.2).contains b then
      max m (min (eclass s (x.1.eclass.getD b 0)).v (odN s 0x4005 (9 + b)))
    else m) 0

/-- The worst-case charge of a shot of a bank in a column, in 1/256 nJ. -/
def worstCharge (s : State) (p : Plan) (top : Nat) (c : Column) (b : Nat) : Nat :=
  let sp : SetPoint := { v2 := ((top * top : Nat) : Rat), uv := 0 }
  let own := modelCharge (eclass s ((colRegion p c).eclass.getD b 0)) sp
  if c.cflags.testBit 0 then p.fovs.foldl (fun m f => max m (modelCharge (eclass s f.cls) sp)) own else own

/-- The indices along one axis of the cells that a tick of a column reaches for an emitter: one, or on an external axis all
in the range of travel. -/
def reach (s : State) (p : Plan) (k i e a : Nat) : List Nat :=
  let n := if a = 0 then 64 else 16
  let o := if a = 0 then (emOffset s e).1 else (emOffset s e).2
  let ix (q : Rat) : Nat := cellIndex (q + (o : Rat)) (odI (modelView s) 0x4025 (2 * a + 1)) (odN (modelView s) 0x4025 (2 * a + 2)) n
  if p.axsrc.testBit a then
    let lo := ix ((odI s (0x5010 + a) 0x0C : Int) : Rat)
    let hi := ix ((odI s (0x5010 + a) 0x0D : Int) : Rat)
    (List.range n).filter fun x => lo ≤ x && x ≤ hi
  else
    let c := p.cols.getD k (decodeColumn [] 0)
    [ix ((((colAngle a c : Int) : Rat) + (colSteps p a).getD k 0 * ((i : Nat) : Rat)) / 10)]

/-- The worst-case charges of a plan for a cell: (tick of the frame, charge). -/
def cellCharges (s : State) (p : Plan) (x : Nat) : List (Nat × Nat) :=
  (p.cols.zip (colStarts p)).zipIdx.flatMap fun ck =>
    (List.range (colRegion p ck.1.1).s).flatMap fun i =>
      ((List.range (nEmit s)).filter fun e => ck.1.1.banks.testBit (e / 8)).filterMap fun e =>
        if (reach s p ck.2 i e 0).contains (x % 64) && (reach s p ck.2 i e 1).contains (x / 64) then
          some (ck.1.2 + i, worstCharge s p (bankTop s p (e / 8)) ck.1.1 (e / 8))
        else none

/-- The largest sum over any span of `w` ticks of a cyclic frame of `t` ticks. -/
def worstSpan (l : List (Nat × Nat)) (t w : Nat) : Nat :=
  let total := l.foldl (fun a x => a + x.2) 0
  let r := w % t
  w / t * total + (l.map fun x =>
    l.foldl (fun a y => if (y.1 + t - x.1) % t < r then a + y.2 else a) 0).foldl max 0

/-- EMISSION (R194): each cell and window against the limit times the headroom. -/
def emissionFail (s : State) (p : Plan) : Option AdmFail :=
  (List.range 1024).findSome? fun x =>
    let l := cellCharges s p x
    if l.isEmpty then none
    else ((cellLimits s x).zip [79, 7936, 782336]).zipIdx.findSome? fun w =>
      let n := worstSpan l (frameTicks p) w.1.2
      let h := odN s 0x2104 3
      failIf (w.1.1 == 0 || 256 * w.1.1 * h < 100 * n)
        { code := 11, item := 9, index := x, sub := w.2 + 1, value := roundDivN n 256, limit := w.1.1 * h / 100 }

/-- The PCIe limit 0x2104:01 in MB/s, from the trained link (R185). -/
def pcieLimit (s : State) : Nat :=
  (match s.host.speed with
    | 1 => 187
    | 2 => 375
    | 3 => 750
    | 4 => 1500
    | _ => 0) * s.host.width

/-- The load of a sink in bytes per second: the plan's outputs and the cameras'. -/
def sinkLoad (s : State) (p : Plan) (sink idx : Nat) : Rat :=
  (p.outs.filter fun o => o.sinkk == sink && o.sinki == idx).foldl (fun a o => a + outLoad s p o) 0 +
    camSinkLoad s (sink + 1) idx

/-- PCIE (R185). -/
def pcieFail (s : State) (p : Plan) : Option AdmFail :=
  (List.range 16).findSome? fun r =>
    let q := sinkLoad s p 0 r
    failIf ((((pcieLimit s * 1000000 : Nat) : Rat)) < q)
      { code := 12, item := 11, index := r, value := (q / 1000000).ceil.toNat, limit := pcieLimit s }

/-- LANE (R186), in Mbit/s. -/
def laneFail (s : State) (p : Plan) : Option AdmFail :=
  (List.range 16).findSome? fun j =>
    let q := 8 * sinkLoad s p 1 j
    failIf ((((50000 * groupLanes s j * 1000000 : Nat) : Rat)) < q)
      { code := 13, item := 10, index := j, value := (q / 1000000).ceil.toNat, limit := 50000 * groupLanes s j }

/-- QDR (R187). -/
def qdrFail (s : State) (p : Plan) : Option AdmFail :=
  let rec' := if hasCam s then (List.range (nChan s)).foldl (fun a c => a + 32 * stackRate s p c) 0 else 0
  let q : Rat := rec' + camStoreLoad s
  failIf ((((odN s 0x2104 2 * 1000000 : Nat) : Rat)) < q)
    { code := 14, value := (q / 1000000).ceil.toNat, limit := odN s 0x2104 2 }

/-- DUPLICATE_ID: the running or the pending plan has the id. -/
def duplicateFail (s : State) (p : Plan) : Option AdmFail :=
  let ids := [s.plan.running.map (·.id), s.plan.switching.map (·.2.id), s.plan.pending.map (·.1.id),
    s.plan.suspended.map (·.1.id)]
  failIf (ids.contains (some p.id)) { code := 3, item := 1 }

/-- The admission of an image (R181): the plan, or the first failure. -/
def admission (s : State) (b : Bytes) : Except AdmFail Plan :=
  if !planHeaderOk b then .error { code := 2, item := 1 }
  else
    let p := decodePlan b
    match firstFail [formatFail s p, duplicateFail s p, variantFail s p, zoneFail s p, windowFail p, histFail s p,
        servoFails s p false, servoFails s p true, revisitFail s p, emissionFail s p, pcieFail s p, laneFail s p,
        qdrFail s p] with
    | some f => .error f
    | none => .ok p

/-- The result objects 0x2101 of an admission or of a check of R297. -/
def reportAdmission (s : State) (f : AdmFail) (id : Nat) : State :=
  let s := odSetN (odSetN (odSetN s 0x2101 1 f.code) 0x2101 2 f.item) 0x2101 3 f.index
  odSetN (odSetN (odSetN (odSetN s 0x2101 4 f.sub) 0x2101 5 (satN 64 f.value)) 0x2101 6 (satN 64 f.limit)) 0x2101 7 id

/-- The checks of R297 and of 0xC000:02 on the running and the pending plan: PCIE, LANE and QDR. -/
def budgetFail (s : State) : Option (AdmFail × Nat) :=
  [s.plan.running, s.plan.switching.map (·.2), s.plan.pending.map (·.1)].findSome? fun o =>
    o.bind fun p => (firstFail [pcieFail s p, laneFail s p, qdrFail s p]).map fun f => (f, p.id)

/-- The gate of a write of the lane mask or the grouping (R369): refused at admission where the running or the pending
plan would fail VARIANT or LANE. -/
def laneGate (sub : Nat) (s : State) (v : Val) : Option (Nat × State) :=
  let t := odSet s 0xC000 sub v
  let fail := [s.plan.running, s.plan.switching.map (·.2), s.plan.pending.map (·.1)].findSome? fun o =>
    o.bind fun p => (firstFail [variantFail t p, laneFail t p]).map fun f => (f, p.id)
  fail.map fun f => (abAdmission, reportAdmission s f.1 f.2)

/-- The gate of a write whose new value is checked against the budget (R297): refused at admission, with 0x2101. -/
def budgetGate (ix sub : Nat) (s : State) (v : Val) : Option (Nat × State) :=
  (budgetFail (odSet s ix sub v)).map fun f => (abAdmission, reportAdmission s f.1 f.2)

end Sys2Proof.Machine
end

