-- ==== Sys2Proof/Machine/Dither.lean ====
section
/-! DEFINITION. The dither generator (R148 to R150, R368). -/

namespace Sys2Proof.Machine

/-- One step of the shift register with polynomial x^31 + x^28 + 1. -/
def lfsrStep (x : BitVec 31) : BitVec 31 :=
  (x <<< 1) ||| BitVec.ofNat 31 (b2n (x.getLsbD 30 ^^ x.getLsbD 27))

/-- `k` steps. -/
def lfsrSteps : Nat → BitVec 31 → BitVec 31
  | 0, x => x
  | k + 1, x => lfsrSteps k (lfsrStep x)

/-- `k` draws of eight steps each: their codes, and the state after them. The eight new bits of a draw are the low bits
of the state, the first of them as bit 7. -/
def lfsrDraws : Nat → BitVec 31 → List Nat × BitVec 31
  | 0, x => ([], x)
  | k + 1, x =>
    let y := lfsrSteps 8 x
    let r := lfsrDraws k y
    (y.toNat % 256 :: r.1, r.2)

/-- A linear map on states, by its columns. -/
def lfsrApply (m : List (BitVec 31)) (x : BitVec 31) : BitVec 31 :=
  (m.zipIdx.foldl (fun a p => if x.getLsbD p.2 then a ^^^ p.1 else a) 0)

/-- `k` doublings of a map applied where the bits of `n` say. -/
def lfsrPow : Nat → Nat → List (BitVec 31) → BitVec 31 → BitVec 31
  | 0, _, _, x => x
  | k + 1, n, m, x => lfsrPow k (n / 2) (m.map (lfsrApply m)) (if n % 2 = 1 then lfsrApply m x else x)

/-- The state that a seed gives before the draws of tick `n`: 512 steps per tick from the seed (R148). -/
def lfsrAt (seed : BitVec 31) (n : Nat) : BitVec 31 :=
  let tickMap := (List.range 31).map fun i => lfsrSteps 512 (1#31 <<< i)
  lfsrPow 64 n tickMap seed

/-- The codes of a tick with a mask, and the state after its draws. -/
def ditherCodes (x : BitVec 31) (mask : Nat) : List Nat × BitVec 31 :=
  let r := lfsrDraws 64 x
  (r.1.map (· ^^^ mask), r.2)

/-- The dither settings that the objects hold. -/
def ditherObjects (s : State) : DitherSet where
  mode := odN s 0x3210 1
  seed := BitVec.ofNat 31 (odN s 0x3210 2)
  mask := odN s 0x3210 3
  two := odB s 0x3210 5
  gap := odN s 0x3210 6

/-- The tick whose codes were drawn last: the second from now, and tick 1 before the first strobe (R148). -/
def drawnTick (s : State) : Nat := if s.tick.started then s.tick.num + 2 else 1

/-- The generator takes the state that its own seed gives for the second tick from now, with the own mask (R368). -/
def reseed (s : State) : State :=
  let r := ditherCodes (lfsrAt s.rx.dith.seed (drawnTick s)) s.rx.dith.mask
  { s with rx := { s.rx with
    codes2 := r.1, lfsr := r.2, partner := false, mask := s.rx.dith.mask, adopt := [] } }

/-- The draws before tick 0: the codes of ticks 0 and 1 from the seed, to be shifted by the first strobe (R148). -/
def ditherInit (s : State) : State :=
  let d := ditherObjects s
  let a := ditherCodes d.seed d.mask
  let b := ditherCodes a.2 d.mask
  { s with rx := { s.rx with
    codes0 := [], codes1 := a.1, codes2 := b.1, lfsr := b.2, partner := false, mask := d.mask, adopt := [], dith := d } }

/-- The dither settings written take effect at t+0 (R156): the draws of this tick, for the tick after the next, are the
first of a new seed or mask (assumption 73). -/
def ditherTake (s : State) : State :=
  let d := ditherObjects s
  let s' := { s with rx := { s.rx with dith := d } }
  if s.rx.partner || (d.seed == s.rx.dith.seed && d.mask == s.rx.dith.mask) then s'
  else { s' with rx := { s'.rx with lfsr := lfsrAt d.seed (s.tick.num + 2), mask := d.mask } }

/-- The codes of a tick move up, and those of the tick after the next are drawn from a state. -/
def ditherShift (s : State) (x : BitVec 31) (mask : Nat) : State :=
  let r := ditherCodes x mask
  { s with rx := { s.rx with codes0 := s.rx.codes1, codes1 := s.rx.codes2, codes2 := r.1, lfsr := r.2, mask := mask } }

/-- The draws of a tick, for the tick after the next; a state of the leader for that tick is adopted, or compared
(R368). -/
def ditherDraw (s : State) : State :=
  let n := s.tick.num + 2
  let later := s.rx.adopt.filter fun p => n < p.1
  match tget s.rx.adopt n with
  | some st =>
    let s' := if !s.rx.partner then bump s 0xC030 9 else if st = s.rx.lfsr then s else bump s 0xC030 0x0A
    ditherShift { s' with rx := { s'.rx with partner := true, adopt := later } } st s.rx.dmask
  | none => ditherShift { s with rx := { s.rx with adopt := later } } s.rx.lfsr s.rx.mask

/-- The dither offset of an emitter in ns, from the codes of a tick (R149). -/
def ditherOffset (mode : Nat) (codes : List Nat) (e : Nat) : Nat :=
  match mode with
  | 0 => 0
  | 1 => codes.getD 0 0
  | _ => codes.getD e 0

/-- Writes of the seed and the mask (R150): refused while a lane partner gives the state. -/
def ditherHook (sub : Nat) (_ : State) : WriteHook where
  gate s _ := if s.rx.partner && odN s 0x2000 1 = 2 then some (abState, s) else none
  run := keep 0x3210 sub

end Sys2Proof.Machine
end

