-- ==== Sys2Proof/Machine/Servo.lean ====
section
/-! DEFINITION. Beam steering (R228 to R262): decimators, external sources, the loops, their commands, losses and the
trace buffer. -/

namespace Sys2Proof.Machine

/-! ### Decimators (R230 to R236) -/

/-- One bit through N integrators: each adds the one before, newest value. -/
def cicInt : Int → List Int → List Int
  | _, [] => []
  | x, a :: r => (a + x) :: cicInt (a + x) r

/-- The 256 bits of one tick through the integrators, first bit first; a 1 counts +1, a 0 counts −1. -/
def cicTick (st : List Int) (w : BitVec 256) : List Int :=
  (List.range 256).foldl (fun a i => cicInt (if w.getLsbD i then 1 else -1) a) st

/-- The last integrator's value at the tick boundaries, oldest first, from a start at zero. -/
def cicOuts (n : Nat) (ticks : List (BitVec 256)) : List Int :=
  (ticks.foldl (fun (a : List Int × List Int) w =>
    let st := cicTick a.1 w
    (st, a.2 ++ [st.getLastD 0])) (List.replicate n 0, List.replicate n 0)).2

/-- `N` combs: the `N`-fold difference of the newest value. -/
def cicComb : Nat → List Int → Int
  | 0, l => l.getLastD 0
  | k + 1, l => cicComb k ((l.drop 1).zipWith (· - ·) l)

/-- The sample value of R231 from the bits of the last `N` ticks, newest first. -/
def cicSample (n : Nat) (hist : List (BitVec 256)) : Int :=
  let raw := cicComb n (cicOuts n (hist.take n).reverse)
  min (2 ^ 23 - 1) (fdiv raw (2 ^ (8 * n - 23)))

/-- A sample word (R232). -/
def sampleWord (invalid new : Bool) (input tick : Nat) (x : Int) : BitVec 32 :=
  BitVec.ofNat 32 (b2n invalid * 2 ^ 31 + b2n new * 2 ^ 30 + input % 4 * 2 ^ 28 + tick % 16 * 2 ^ 24 + toBits 24 x)

/-- The value of a sample word. -/
def wordValue (w : BitVec 32) : Int := toSigned 24 w.toNat

/-- A sample word is a new, settled measurement. -/
def wordValid (w : BitVec 32) : Bool := w.getLsbD 30 && !w.getLsbD 31

/-- The order of a decimator. -/
def decOrder (s : State) (d : Nat) : Nat := odN s (0x5040 + d) 2

/-- Single-cycle-settling mode (R234). -/
def decScs (s : State) (d : Nat) : Bool := odN s (0x5040 + d) 3 == 1

/-- The input a decimator starts on (R235). -/
def decInput (s : State) (d : Nat) : Nat :=
  if d = 2 then (if odN s 0x5042 4 = 1 then 3 else 2) else d

/-- The other input of decimator 2 in alternation. -/
def otherInput (i : Nat) : Nat := if i = 2 then 3 else 2

/-- A decimator's sample at a latch, with the bits its input gave since the latch before (R231, R233 to R235). -/
def decSample (s : State) (d : Nat) (x : Decim) (w : BitVec 256) : Decim :=
  let n := decOrder s d
  let alt := d == 2 && odN s 0x5042 4 == 2
  let hist := (w :: x.hist).take 5
  if decScs s d then
    if x.phase + 1 = n then
      { x with
        word := sampleWord false true x.input s.tick.num (cicSample n hist), hist := [], phase := 0
        input := if alt then otherInput x.input else x.input }
    else { x with word := x.word &&& ~~~ (1#32 <<< 30), hist := hist, phase := x.phase + 1 }
  else
    let c := x.count + 1
    let x := { x with
      word := sampleWord (c < n) true x.input s.tick.num (cicSample n hist), hist := hist, count := c
      dwell := x.dwell + 1 }
    if alt && x.dwell ≥ odN s 0x5042 5 then
      { x with input := otherInput x.input, dwell := 0, count := 0 }
    else x

/-- A decimator's change at a latch: a start, or a new gain on the input being read (R230, R233, R234). -/
def decChange (s : State) (d : Nat) (x : Decim) : Decim :=
  if x.starting then
    { x with on := true, starting := false, hist := [], count := 0, phase := 0, dwell := 0, input := decInput s d }
  else if x.on && s.servo.gainNew.getLsbD x.input then
    if decScs s d then { x with hist := [], phase := 0 } else { x with count := 0 }
  else x

/-- A decimator at the latch: the sample of the state before a change, then the change. -/
def decLatch (s : State) (sdm : List (BitVec 256)) (d : Nat) : Decim :=
  let x := tgetD s.servo.dec d {}
  let x := if x.on then decSample s d x (sdm.getD x.input 0) else x
  decChange s d x

/-- The word of a decimator. -/
def decWord (s : State) (d : Nat) : BitVec 32 := (tgetD s.servo.dec d {}).word

/-- A stopped decimator: its word keeps its content with INVALID = 1 and NEW = 0 (R236). -/
def decStop (x : Decim) : Decim :=
  { x with on := false, starting := false, hist := [], word := (x.word ||| (1#32 <<< 31)) &&& ~~~ (1#32 <<< 30) }

/-! ### External sources (R241, R242) -/

/-- A value held in −1 to +1. -/
def clampU (q : Rat) : Rat := if q < -1 then -1 else if 1 < q then 1 else q

/-- A valid update of a source. -/
def extUpdate (s : State) (u : Rat) : ExtIn := { u := u, tick := s.tick.num, late := false }

/-- The analogue source's update from a valid input-3 sample; a sample at ±(2^23 − 1) is out of range. -/
def anaUpdate (s : State) : ExtIn :=
  let w := decWord s 2
  let x := wordValue w
  if wordValid w && w.toNat / 2 ^ 28 % 4 = 3 && x < 2 ^ 23 - 1 && -(2 ^ 23 - 1) < x then
    extUpdate s (clampU (((x - odI s 0x5048 8 : Int) : Rat) / ((odI s 0x5048 9 : Int) : Rat)))
  else s.servo.ana

/-- The curve input (R242). -/
def curveInput (s : State) : Rat :=
  match odN s 0x5000 1 with
  | 1 => s.servo.ana.u
  | 2 => s.servo.pulse.u
  | _ => 0

/-- SP_PULSE mode 1 (R241): high time and period in 50 ns. -/
def spPeriod (s : State) (high period : Nat) : State :=
  if domOn s .servo && odN s 0x5050 1 = 1 && period ≠ 0 && 20000000 ≤ period * odN s 0x5050 3 &&
      period * odN s 0x5050 2 ≤ 20000000 then
    { s with servo := { s.servo with pulse := extUpdate s (2 * ((high : Nat) : Rat) / ((period : Nat) : Rat) - 1) } }
  else s

/-- SP_PULSE mode 2 (R241): the pulses of a gate of G ticks. -/
def spGate (s : State) (count : Nat) : State :=
  if domOn s .servo && odN s 0x5050 1 = 2 && count ≠ 0 then
    let f : Rat := ((count * 10000000 : Nat) : Rat) / ((odN s 0x5050 4 * 128 : Nat) : Rat)
    { s with servo := { s.servo with
      pulse := extUpdate s (clampU ((f - ((odN s 0x5050 5 : Nat) : Rat)) / ((odN s 0x5050 6 : Nat) : Rat))) } }
  else s

/-- Whether an axis follows an external source (0 analogue, 1 SP_PULSE). -/
def axisUses (s : State) (ix : Nat) (a : AxisSt) (src : Nat) : Bool := a.kind == 2 && odN s ix 6 == src

/-- Whether a source is in use, by an axis or as the curve input. -/
def sourceUsed (s : State) (src : Nat) : Bool :=
  axisUses s 0x5010 s.servo.h src || axisUses s 0x5011 s.servo.v src || odN s 0x5000 1 == src + 1

/-- A source without a valid update for the source timeout (R241). -/
def sourceLate (s : State) (src : Nat) (x : ExtIn) : Bool :=
  sourceUsed s src && !x.late && msTicks (odN s 0x5000 4) ≤ since s x.tick

/-- SOURCE_TIMEOUT (R241): each expired source in use holds its value, and the expiry is counted. -/
def sourceTimeout (s : State) : State :=
  let s := if sourceLate s 0 s.servo.ana then
      bump { s with servo := { s.servo with ana := { s.servo.ana with late := true } } } 0x5070 7 else s
  if sourceLate s 1 s.servo.pulse then
    bump { s with servo := { s.servo with pulse := { s.servo.pulse with late := true } } } 0x5070 7
  else s

/-! ### Set-points (R237 to R240) -/

/-- The plan column that a tick belongs to. -/
def columnAt (s : State) (n : Nat) : Option ColRun :=
  s.plan.cols.find? fun c => c.first ≤ n && n < c.first + c.s

/-- θ(n) of R164 for an axis, in servo units. -/
def planAngle (s : State) (a : Axis) (n : Nat) : Option Int :=
  (columnAt s n).bind fun c => (c.angles[n - c.first]?).map fun p => match a with
    | .h => p.1
    | .v => p.2

/-- The index 0x5010+a of an axis. -/
def axisIx : Axis → Nat
  | .h => 0x5010
  | .v => 0x5011

/-- The bit of an axis in AXSRC. -/
def axisBit : Axis → Nat
  | .h => 0
  | .v => 1

/-- An axis. -/
def getAxis (s : State) : Axis → AxisSt
  | .h => s.servo.h
  | .v => s.servo.v

/-- The state with an axis. -/
def setAxis (s : State) (a : Axis) (x : AxisSt) : State :=
  match a with
  | .h => { s with servo := { s.servo with h := x } }
  | .v => { s with servo := { s.servo with v := x } }

/-- The source set-point of R238 and its kind: 0 manual, 1 plan, 2 external. -/
def sourceSet (s : State) (a : Axis) : Int × Nat :=
  let ix := axisIx a
  match columnAt s s.tick.num, planAngle s a s.tick.num with
  | some c, some th =>
    if s.plan.running.isNone then (10 * odI s ix 0x13, 0)
    else if c.axsrc.testBit (axisBit a) then
      let u := if odN s ix 6 = 0 then s.servo.ana.u else s.servo.pulse.u
      (roundQ (10 * (((odI s ix 7 : Int) : Rat) + u * ((odI s ix 8 : Int) : Rat))), 2)
    else (th, 1)
  | _, _ => (10 * odI s ix 0x13, 0)

/-- A limit of an axis held as REAL32. -/
def realObj (s : State) (ix sub : Nat) : Rat := (f32Val (odN s ix sub)).getD 0

/-- The step bounds W and A of R239, in servo units. -/
def stepBounds (s : State) (ix : Nat) : Int × Int :=
  ((realObj s ix 9 * (128 / 1000)).floor, (realObj s ix 0x0A * (16384 / 10000000000)).floor)

/-- The limiter of R239: the step `s` from the effective set-points before. -/
def limiterStep (w a src th1 th2 : Int) : Int :=
  let r := src - th1
  let v0 := th1 - th2
  if iabs r ≤ w ∧ iabs (r - v0) ≤ a then r
  else
    let vb := Int.sign r * min w (isqrt (2 * a * iabs r).toNat : Nat)
    min (max (min (max vb (v0 - a)) (v0 + a)) (-w)) w

/-! ### The compensator (R243 to R245) -/

/-- A signed 32-bit coefficient of a byte-string object. -/
def coef (bs : Bytes) (i : Nat) : Int := fieldI bs (4 * i) 4

/-- The accumulator held in ±(2^63 − 1). -/
def satAcc (x : Int) : Int := clampI (-(2 ^ 63 - 1)) (2 ^ 63 - 1) x

/-- A notch biquad (R245): its output and its new histories. -/
def notchRun (bs : Bytes) (n : Notch) (x : Int) : Int × Notch :=
  let y := clampI (-(2 ^ 31)) (2 ^ 31 - 1) (roundDiv (coef bs 0 * x + coef bs 1 * n.x1 + coef bs 2 * n.x2 -
    coef bs 3 * n.y1 - coef bs 4 * n.y2) (2 ^ 28))
  (y, { x1 := x, x2 := n.x1, y1 := y, y2 := n.y1 })

/-- The feed-forward term (R243): plan set-points only, 0 during a capture. -/
def feedForward (s : State) (a : Axis) (x : AxisSt) : Int :=
  if x.kind = 1 && !x.capture then
    match planAngle s a s.tick.num, planAngle s a (s.tick.num + 1), planAngle s a (s.tick.num + 2) with
    | some t0, some t1, some t2 => roundDiv (odI s (axisIx a) 0x10 * (t2 - 2 * t1 + t0)) (2 ^ 16)
    | _, _, _ => 0
  else 0

/-- One run of the compensator from the effective set-point and the position: the drive code of the next tick. -/
def compensate (s : State) (a : Axis) (x : AxisSt) : AxisSt :=
  let ix := 0x5020 + axisBit a
  let bs := odBytes s ix (if odN s ix 2 = 0 then 3 else 4)
  let e := x.th1 - x.pos
  let three := odN s ix 1 = 1
  let raw := coef bs 0 * e + coef bs 1 * x.e1 + coef bs 2 * x.e2 - coef bs 4 * x.v1 - coef bs 5 * x.v2 +
    (if three then coef bs 3 * x.e3 - coef bs 6 * x.v3 else 0)
  let acc := satAcc raw
  let vRaw := roundDiv acc (2 ^ 28)
  let cl : Int := odI s ix 8
  let v := clampI (-cl) cl vRaw
  let en := odN s ix 7
  let (y1, n1) := if en.testBit 0 then notchRun (odBytes s ix 5) x.notch1 v else (v, x.notch1)
  let (y2, n2) := if en.testBit 1 then notchRun (odBytes s ix 6) x.notch2 y1 else (y1, x.notch2)
  let uff := feedForward s a x
  let d := roundDiv (256 * x.u0 + y2 + uff) 256
  let lim : Int := odI s ix 9
  { x with
    err := e, e1 := e, e2 := x.e1, e3 := x.e2, v1 := v, v2 := x.v1, v3 := x.v2
    vRaw := vRaw, y1 := y1, y2 := y2, uff := uff, notch1 := n1, notch2 := n2
    want := clampI (-lim) lim d
    satInt := x.satInt || v ≠ vRaw || raw ≠ acc
    satDrv := x.satDrv || clampI (-lim) lim d ≠ d }

/-! ### Loop states (R246 to R257) -/

/-- The number of steps of a park ramp (R248). -/
def rampSteps (s : State) (ix : Nat) : Nat := roundDivN (odN s ix 5 * 78125) 1000

/-- An axis starts a park ramp from a drive code. -/
def startPark (s : State) (a : Axis) (x : AxisSt) (d0 : Int) (loss : Bool) : AxisSt :=
  { x with
    st := .parking, satInt := false, satDrv := false, capture := false
    ramp := some ⟨d0, odI s (axisIx a) 4, 0, rampSteps s (axisIx a), loss⟩ }

/-- A position lies in the calibrated band in force, compared in servo units (R253). -/
def inBand (x : AxisSt) (p : Int) : Bool := 10 * x.band.1 ≤ p && p ≤ 10 * x.band.2

/-- The spread of a list. -/
def spread (l : List Int) : Int :=
  match l with
  | [] => 0
  | x :: r => r.foldl max x - r.foldl min x

/-- The position of the second V sensor (R255). -/
def secondPos (s : State) : Int := fdiv ((wordValue (decWord s 2) - odI s 0x5048 6) * odI s 0x5048 7) (2 ^ 16)

/-- A new valid sample of the second V sensor with the check in use. -/
def crossDue (s : State) (a : Axis) : Bool :=
  a == .v && odN s 0x5048 5 == 1 && odN s 0x5048 0x0A != 0 &&
    wordValid (decWord s 2) && (decWord s 2).toNat / 2 ^ 28 % 4 == 2

/-- The latch's part for an axis whatever its state: the sample, the position, the source (R237, R238, R257). -/
def axisSense (s : State) (a : Axis) (x : AxisSt) : AxisSt :=
  let ix := axisIx a
  let w := decWord s (axisBit a)
  let (src, kind) := sourceSet s a
  let x := { x with src := src, limit := false, track := false, band := (odI s ix 0x0C, odI s ix 0x0D) }
  let x := if kind ≠ x.kind then
      { x with kind := kind, capture := x.capture || x.st == .closed, eqRun := if x.st = .closed then 0 else x.eqRun }
    else x
  if wordValid w then
    let p := fdiv ((wordValue w - odI s ix 0x11) * odI s ix 0x12) (2 ^ 16)
    { x with x := wordValue w, pos := p, posSeen := true, invalid := false
             inRun := if inBand x p then min 16 (x.inRun + 1) else 0 }
  else if w.getLsbD 30 then { x with invalid := true, inRun := 0 }
  else x

/-- The loss watches of an axis in CLOSED (R253 to R255): their runs, and the cause of a loss. -/
def axisWatch (s : State) (a : Axis) (x : AxisSt) : AxisSt × Option Nat :=
  let ix := axisIx a
  let x := { x with
    outRun := if inBand x x.pos then 0 else min 2 (x.outRun + 1)
    freeze := ((fdiv x.x 256, x.drive) :: x.freeze).take 64
    crossRun := if crossDue s a then
        (if 10 * odI s 0x5048 0x0A < iabs (x.pos - secondPos s) then min 2 (x.crossRun + 1) else 0)
      else x.crossRun }
  let frozen := x.freeze.length = 64 ∧ spread (x.freeze.map (·.1)) < 2 ∧ odI s ix 0x0E < spread (x.freeze.map (·.2))
  (x, if x.outRun = 2 then some 1 else if frozen then some 2 else if x.crossRun = 2 then some 3 else none)

/-- The loop of an axis in CLOSED: limiter, capture, compensator, tracking (R239, R240, R243, R252). -/
def axisLoop (s : State) (a : Axis) (x : AxisSt) : AxisSt :=
  let (w, ac) := stepBounds s (axisIx a)
  let r := x.src - x.th1
  let st := if x.kind = 1 && !x.capture then r else limiterStep w ac x.src x.th1 x.th2
  let x := { x with th1 := x.th1 + st, th2 := x.th1, limit := st ≠ r }
  let x := if x.capture then
      let run := if x.th1 = x.src then x.eqRun + 1 else 0
      { x with eqRun := run, capture := run < 2 }
    else x
  let x := compensate s a x
  { x with track := 10 * odI s (axisIx a) 0x0B < iabs x.err }

/-- A bumpless close (R250). -/
def axisClose (s : State) (a : Axis) (x : AxisSt) : AxisSt :=
  { x with
    st := .closed, u0 := odI s (axisIx a) 3, e1 := 0, e2 := 0, e3 := 0, v1 := 0, v2 := 0, v3 := 0
    notch1 := {}, notch2 := {}, th1 := x.pos, th2 := x.pos, capture := true, eqRun := 0
    outRun := 0, crossRun := 0, freeze := [] }

/-- An axis outside CLOSED: θ_eff equals the position (R239), and the error is 0 (R243). -/
def axisFollow (x : AxisSt) : AxisSt := { x with th2 := x.pos, th1 := x.pos, err := 0, capture := false }

/-- The hold drive becomes a drive code. -/
def holdDrive (s : State) (a : Axis) (d : Int) : State := odSetI s (axisIx a) 3 d

/-- The power state leaves RUN, an entry stops the axes, or a quiesce runs: CLOSED axes park (R246, R434, R448). -/
def parksNow (s : State) : Bool := s.pwr.entry.isSome || s.pwr.pfState == 1

/-- The states of R246 at a latch, for one axis; a loss waits for its own event (R256). -/
def axisLatch (s : State) (a : Axis) : State :=
  let ix := axisIx a
  let x0 := axisSense s a (getAxis s a)
  let cmd := x0.cmd
  let clr := x0.clear
  let x := { x0 with cmd := none, clear := false }
  match x.st with
  | .off =>
    if wordValid (decWord s (axisBit a)) && s.servo.pwmCal then
      setAxis s a (axisFollow (startPark s a x 0 false))
    else setAxis s a (axisFollow x)
  | .closed =>
    let (x, loss) := axisWatch s a x
    match loss with
    | some c => setAxis s a { axisFollow x with lossDue := some c }
    | none =>
      if cmd = some 0 then
        setAxis (holdDrive s a x.drive) a
          (axisFollow { x with st := .opened, satInt := false, satDrv := false })
      else if cmd = some 2 || parksNow s then setAxis s a (axisFollow (startPark s a x x.drive false))
      else
        let x' := axisLoop s a x
        setAxis (if x'.limit then bump s 0x5070 5 else s) a x'
  | .opened =>
    if cmd = some 1 then
      let x' := axisLoop s a (axisClose s a x)
      setAxis (if x'.limit then bump s 0x5070 5 else s) a x'
    else if cmd = some 2 then setAxis s a (axisFollow (startPark s a x (odI s ix 3) false))
    else setAxis s a (axisFollow x)
  | .parking =>
    match x.ramp with
    | some r =>
      if r.n ≤ r.i then
        if r.loss then setAxis s a (axisFollow { x with st := .loss })
        else setAxis (holdDrive s a r.dp) a (axisFollow { x with st := .opened, ramp := none })
      else setAxis s a (axisFollow x)
    | none => setAxis s a (axisFollow x)
  | .loss =>
    if clr then
      setAxis (holdDrive s a (odI s ix 4)) a
        (axisFollow { x with st := .opened, ramp := none, lossRange := false, lossFreeze := false, cross := false })
    else setAxis s a (axisFollow x)

/-- Whether an axis still holds the inhibit SERVO (R257). -/
def axisLost (x : AxisSt) : Bool :=
  x.lossDue.isSome || x.st == .loss || (x.st == .parking && (x.ramp.map (·.loss)).getD false)

/-- The gate of R252 for one axis. -/
def axisGate (x : AxisSt) : Bool := x.st == .closed && x.lossDue.isNone && !x.capture && !x.track

/-! ### The trace buffer (R259) -/

/-- The status word of R260. -/
def axisStatus (s : State) (a : Axis) : Nat :=
  let x := getAxis s a
  let inv := (axisUses s (axisIx a) x 0 && s.servo.ana.late) || (axisUses s (axisIx a) x 1 && s.servo.pulse.late)
  b2n x.satInt + 2 * b2n x.satDrv + 4 * b2n x.limit + 8 * b2n x.track + 16 * b2n x.capture + 32 * b2n inv +
    64 * b2n x.lossRange + 128 * b2n x.lossFreeze + 256 * b2n x.cross

/-- The drive code written to the shadow, and whether the legs are then idle (R228, R229, R246, R248). -/
def axisDrive (s : State) (a : Axis) (x : AxisSt) : AxisSt :=
  match x.st with
  | .off => { x with shadow := 0, idleNext := true }
  | .opened => { x with shadow := odI s (axisIx a) 3, idleNext := false }
  | .closed => { x with shadow := x.want, idleNext := false }
  | .parking =>
    match x.ramp with
    | some r =>
      let i := min r.n (r.i + 1)
      { x with ramp := some { r with i := i }, shadow := r.d0 + roundDiv ((r.dp - r.d0) * i) r.n, idleNext := false }
    | none => { x with idleNext := false }
  | .loss => { x with shadow := ((x.ramp.map (·.dp)).getD x.shadow), idleNext := false }

/-- An axis after a loss: it stores the cause and parks (R246, R256). -/
def lossPark (s : State) (a : Axis) (x : AxisSt) (c : Nat) : AxisSt :=
  startPark s a { x with
    lossDue := none, cause := c, gate := false
    lossRange := x.lossRange || c == 1, lossFreeze := x.lossFreeze || c == 2, cross := x.cross || c == 3 } x.drive true

/-- An axis as it stands at t+10.8 µs: a loss that the latch decided has acted. -/
def traceAxis (s : State) (a : Axis) : AxisSt :=
  let x := getAxis s a
  match x.lossDue with
  | some c => lossPark s a x c
  | none => x

/-- The value of a node of an axis. -/
def axisNode (s : State) (a : Axis) (k : Nat) : Int :=
  let x := traceAxis s a
  match k with
  | 0 => wordValue (decWord s (axisBit a))
  | 1 => x.pos
  | 2 => x.src
  | 3 => x.th1
  | 4 => x.err
  | 5 => x.v1
  | 6 => x.y1
  | 7 => x.y2
  | 8 => x.uff
  | 9 => (axisDrive s a x).shadow
  | 10 => (axisStatus (setAxis s a x) a : Nat)
  | 11 => x.vRaw
  | _ => 0

/-- The value of a trace node (R259). -/
def traceNode (s : State) (code : Nat) : Int :=
  if code < 12 then axisNode s .h code
  else if 16 ≤ code ∧ code < 28 then axisNode s .v (code - 16)
  else if code = 32 then wordValue (decWord s 2)
  else if code = 33 then roundQ (curveInput s * 2 ^ 30)
  else 0

/-- A trigger condition occurs: the first one after arming counts. -/
def traceTrigger (s : State) (code : Nat) : State :=
  let t := s.servo.trace
  if t.st = .armed && odN s 0x5060 2 = code then
    let p := odN s 0x5060 3
    { s with servo := { s.servo with trace := { t with
      st := .recording, recs := t.recs.take p, held := min p t.recs.length, left := 4096 - p, tick := s.tick.num } } }
  else s

/-- The record of a tick, written at t+10.8 µs. -/
def traceRecord (s : State) : State :=
  let t := s.servo.trace
  let r := (odBytes s 0x5060 1).map fun b => traceNode s b.toNat
  match t.st with
  | .armed => { s with servo := { s.servo with trace := { t with recs := (r :: t.recs).take 4096 } } }
  | .recording =>
    if t.left = 0 then s
    else { s with servo := { s.servo with trace := { t with recs := r :: t.recs, left := t.left - 1 } } }
  | _ => s

/-- The trace data in DONE (R259): by tick, the eight nodes in order; records that an early trigger left out stand
before them with what the buffer held (assumption 9). -/
def traceData (s : State) : Bytes :=
  if s.servo.trace.st = .done then
    let d := s.servo.trace.recs.reverse.flatMap fun r => r.flatMap fun v => leBytes 4 (toBits 32 v)
    (List.range (131072 - d.length)).map Config.traceStale ++ d
  else []

/-! ### The latch -/

/-- The servo's part of the latch at t+10.0 µs (R258): decimators, axes H then V, the gate, SERVO's end, the trace. -/
def servoLatch (s : State) (sdm : List (BitVec 256)) : State :=
  if !domOn s .servo then s
  else
    let dec := [(0, decLatch s sdm 0), (1, decLatch s sdm 1), (2, decLatch s sdm 2)]
    let s := { s with servo := { s.servo with dec := dec, gainNew := 0 } }
    let h0 := s.servo.h
    let v0 := s.servo.v
    let s := axisLatch (axisLatch s .h) .v
    let s := { s with servo := { s.servo with
      h := { s.servo.h with gate := axisGate s.servo.h }
      v := { s.servo.v with gate := axisGate s.servo.v }
      ana := anaUpdate s } }
    let h := s.servo.h
    let v := s.servo.v
    let s := if h.lossDue.isSome || v.lossDue.isSome then traceTrigger s 1 else s
    let s := if (h.st = .closed && h0.st ≠ .closed) || (v.st = .closed && v0.st ≠ .closed) then traceTrigger s 2 else s
    let s := if (h.satInt && !h0.satInt) || (v.satInt && !v0.satInt) then traceTrigger s 3 else s
    let s := if (h.track && !h0.track) || (v.track && !v0.track) then traceTrigger s 4 else s
    let s := if axisLost h || axisLost v then s else islClear (inhibitClear s 4) 6
    traceRecord s

/-- DRIVE_VALUE_WRITE (R228). -/
def execDriveValueWrite (s : State) : Host.Outcome State Fault Refusal :=
  outcome s <| if domOn s .servo then
    { s with servo := { s.servo with h := axisDrive s .h s.servo.h, v := axisDrive s .v s.servo.v } }
  else s

/-- The drive codes of the shadow come into force at t+0 (R228), unless the tick before overran (R27). -/
def driveTake (s : State) (apply : Bool) : State :=
  if !apply then s
  else { s with servo := { s.servo with
    h := { s.servo.h with drive := s.servo.h.shadow, idle := s.servo.h.idleNext }
    v := { s.servo.v with drive := s.servo.v.shadow, idle := s.servo.v.idleNext } } }

/-- FEEDBACK_LOSS (R256): the loss that the latest latch decided opens the axis, raises SERVO and starts a park ramp. -/
def feedbackLoss (s : State) (a : Axis) : State :=
  let x := getAxis s a
  match x.lossDue with
  | none => s
  | some c =>
    let s := setAxis s a (lossPark s a x c)
    let s := if c = 2 then bump s 0x5070 2 else bump s 0x5070 1
    let s := setInt (inhibit s 4) 8
    let s := if cfgActive s then islCause s 6 else s
    reportFault s .beam

/-- FEEDBACK_LOSS. -/
def execFeedbackLoss (a : Axis) (s : State) : Host.Outcome State Fault Refusal := outcome s (feedbackLoss s a)

/-! ### Loop commands (R247, R249, R257) -/

/-- The conditions on which CLOSE is refused (R249), the domain apart. -/
def closeRefused (s : State) (a : Axis) : Bool :=
  let x := getAxis s a
  let d := tgetD s.servo.dec (axisBit a) {}
  x.st != .opened || !d.on || decScs s (axisBit a) || d.word.getLsbD 31 || !x.posSeen ||
    !inBand x x.pos

/-- The loop command 0x5010+a:01. A CLOSE with the SERVO domain off is refused as UNPOWERED and counted. -/
def loopHook (a : Axis) (_ : State) : WriteHook where
  gate s v :=
    if valN v = 1 then
      if !domUp s .servo then some (abUnpowered, bump s 0x5070 3)
      else if closeRefused s a then some (abState, bump s 0x5070 3) else none
    else none
  run s v :=
    let s := odSet s (axisIx a) 1 v
    .done (setAxis s a { getAxis s a with cmd := some (valN v) })

/-- The fault clear 0x5010+a:0F (R257). -/
def faultClearHook (a : Axis) (_ : State) : WriteHook where
  gate s v :=
    let x := getAxis s a
    if valN v = 1 && !(x.st == .loss && x.inRun == 16) then some (abState, s) else none
  run s v := .done (if valN v = 1 then setAxis s a { getAxis s a with clear := true } else s)

/-- LOOP_COMMAND_OPEN (R247). -/
def execLoopCommandOpen (r : Req) (a : Axis) (s : State) : Host.Outcome State Fault Refusal :=
  outcome s (requestWrite s r (axisIx a) 1 [0] (loopHook a))

/-- LOOP_COMMAND_CLOSE (R249). -/
def execLoopCommandClose (r : Req) (a : Axis) (s : State) : Host.Outcome State Fault Refusal :=
  outcome s (requestWrite s r (axisIx a) 1 [1] (loopHook a))

/-- LOOP_COMMAND_PARK (R247). -/
def execLoopCommandPark (r : Req) (a : Axis) (s : State) : Host.Outcome State Fault Refusal :=
  outcome s (requestWrite s r (axisIx a) 1 [2] (loopHook a))

/-- SERVO_FAULT_CLEAR (R257). -/
def execServoFaultClear (r : Req) (a : Axis) (s : State) : Host.Outcome State Fault Refusal :=
  outcome s (requestWrite s r (axisIx a) 0x0F [1] (faultClearHook a))

/-! ### Decimator settings (R230, R236) -/

/-- An axis decimator whose axis is neither in OFF nor in OPEN. -/
def decLocked (s : State) (d : Nat) : Bool :=
  let free (x : AxisSt) : Bool := x.st == .off || x.st == .opened
  (d == 0 && !free s.servo.h) || (d == 1 && !free s.servo.v)

/-- The run setting 0x5040+d:01 (R236). An axis decimator does not start in SCS mode while its axis is in PARKING or LOSS
(R234; assumption 78). -/
def decRunHook (d : Nat) (_ : State) : WriteHook where
  gate s v :=
    let scsStart := valN v = 1 && !(tgetD s.servo.dec d {}).on && decScs s d
    if (valN v = 0 || scsStart) && decLocked s d then some (abLoop, s) else none
  run s v :=
    let x := tgetD s.servo.dec d {}
    let x := if valN v = 0 then decStop x else if x.on || !domOn s .servo then x else { x with starting := true }
    .done (odSet { s with servo := { s.servo with dec := tset s.servo.dec d x } } (0x5040 + d % 3) 1 v)

/-- The dwell 0x5042:05: at least N + 1. -/
def dwellHook (s : State) : WriteHook where
  range v := decOrder s 2 + 1 ≤ valN v
  run s v := keep 0x5042 5 s v

/-- A modulator gain 0x5048:01–04 (R230). -/
def gainHook (i : Nat) (_ : State) : WriteHook where
  gate s _ := if decLocked s i then some (abLoop, s) else none
  run s v :=
    let s' := odSet s 0x5048 (i % 4 + 1) v
    .done (if odN s 0x5048 (i + 1) = valN v then s'
      else { s' with servo := { s'.servo with gainNew := s'.servo.gainNew ||| (1#4 <<< i) } })

/-- The maximum frequency 0x5050:03: at least f_min. -/
def fmaxHook (s : State) : WriteHook where
  range v := odN s 0x5050 2 ≤ valN v
  run s v := keep 0x5050 3 s v

/-- DECIMATOR_START (R236). -/
def execDecimatorStart (r : Req) (d : Fin 3) (s : State) : Host.Outcome State Fault Refusal :=
  outcome s (requestWrite s r (0x5040 + d.val) 1 [1] (decRunHook d.val))

/-- DECIMATOR_STOP (R236). -/
def execDecimatorStop (r : Req) (d : Fin 3) (s : State) : Host.Outcome State Fault Refusal :=
  outcome s (requestWrite s r (0x5040 + d.val) 1 [0] (decRunHook d.val))

/-- SP_PULSE_PERIOD (R241). -/
def execSpPulsePeriod (high period : Nat) (s : State) : Host.Outcome State Fault Refusal :=
  outcome s (spPeriod s high period)

/-- COUNT_GATE (R241). -/
def execCountGate (count : Nat) (s : State) : Host.Outcome State Fault Refusal := outcome s (spGate s count)

/-- SOURCE_TIMEOUT (R241). -/
def execSourceTimeout (s : State) : Host.Outcome State Fault Refusal := outcome s (sourceTimeout s)

/-! ### Trace commands -/

/-- The trace command 0x5060:04: 0 stop, 1 arm, 2 manual trigger. A stop leaves DONE as it is. -/
def traceCommand (s : State) (c : Nat) : State :=
  let t := s.servo.trace
  match c with
  | 0 => if t.st = .done then s else { s with servo := { s.servo with trace := { t with st := .idle } } }
  | 1 => { s with servo := { s.servo with trace := { st := .armed } } }
  | _ => traceTrigger s 0

/-- The hook of 0x5060:04. -/
def traceHook (_ : State) : WriteHook where
  run s v := .done (traceCommand s (valN v))

/-- A node code of R259. -/
def isNode (k : Nat) : Bool := k < 12 || (16 ≤ k && k < 28) || k == 32 || k == 33 || k == 0xFF

/-- Node selection, trigger and pre-trigger ticks: nodes and trigger in IDLE or DONE only (R259). -/
def traceSetHook (sub : Nat) (_ : State) : WriteHook where
  range v := sub != 1 || (valBytes v).all fun b => isNode b.toNat
  gate s _ :=
    if sub ≠ 3 && !(s.servo.trace.st == .idle || s.servo.trace.st == .done) then some (abState, s) else none
  run s v := keep 0x5060 sub s v

/-- TRACE_ARM (R259). -/
def execTraceArm (r : Req) (s : State) : Host.Outcome State Fault Refusal :=
  outcome s (requestWrite s r 0x5060 4 [1] traceHook)

/-- TRACE_MANUAL_TRIGGER (R259). -/
def execTraceManualTrigger (r : Req) (s : State) : Host.Outcome State Fault Refusal :=
  outcome s (requestWrite s r 0x5060 4 [2] traceHook)

/-- TRACE_STOP (R259). -/
def execTraceStop (r : Req) (s : State) : Host.Outcome State Fault Refusal :=
  outcome s (requestWrite s r 0x5060 4 [0] traceHook)

/-- TRACE_DONE (R259): the recording has taken its last tick. -/
def execTraceDone (s : State) : Host.Outcome State Fault Refusal :=
  outcome s <| if s.servo.trace.st = .recording && s.servo.trace.left = 0 then
    setInt { s with servo := { s.servo with trace := { s.servo.trace with st := .done } } } 16
  else s

/-! ### Power (R229, R261) -/

/-- The SERVO domain has started: PWM calibrated, modulators running, decimators started as their settings say. -/
def servoStart (s : State) : State :=
  let s := (List.range 3).foldl (fun s d =>
    let s := usePersisted s (0x5040 + d % 3) 1
    if odN s (0x5040 + d % 3) 1 = 1 then usePersisted (usePersisted s (0x5040 + d % 3) 2) (0x5040 + d % 3) 3 else s) s
  let dec := (List.range 3).map fun d =>
    let x := tgetD s.servo.dec d {}
    (d, if odN s (0x5040 + d) 1 = 1 then { x with starting := true, on := false } else x)
  { s with servo := { s.servo with dec := dec, pwmCal := true, gainNew := 0 } }

/-- The SERVO domain is off: axes OFF, drives idle, sample words kept with INVALID = 1 (R246, R262). -/
def servoOff (s : State) : State :=
  let off (x : AxisSt) : AxisSt := { cause := x.cause }
  let s := islClear (inhibitClear s 4) 6
  { s with servo := { s.servo with
    h := off s.servo.h, v := off s.servo.v, pwmCal := false
    dec := s.servo.dec.map fun p => (p.1, decStop p.2) } }

/-! ### Reading (R262) -/

/-- The code of an axis state. -/
def axisCode : AxisState → Nat
  | .off => 0
  | .opened => 1
  | .closed => 2
  | .parking => 3
  | .loss => 4

/-- The code of the trace state. -/
def traceCode : TraceState → Nat
  | .idle => 0
  | .armed => 1
  | .recording => 2
  | .done => 3

/-- The servo's objects that are no plain settings. Status objects read 0 while the domain is off. -/
def readServo (s : State) (ix sub : Nat) : Option Val :=
  if ix = 0x5030 || ix = 0x5031 then
    let a : Axis := if ix = 0x5030 then .h else .v
    let x := getAxis s a
    if !domOn s .servo then some (.num 0)
    else match sub with
    | 1 => some (.num (fdiv x.pos 10))
    | 2 => some (.num (fdiv x.th1 10))
    | 3 => some (.num x.err)
    | 4 => some (.num x.drive)
    | 5 => some (.num (axisStatus s a : Nat))
    | 6 => some (.num x.cause)
    | 7 => some (.num (axisCode x.st : Nat))
    | _ => none
  else if ix = 0x5000 && sub = 2 then some (.num (if domOn s .servo then (f32Of (curveInput s) : Nat) else 0))
  else if 0x5040 ≤ ix && ix ≤ 0x5042 && sub = 6 then some (.num ((decWord s (ix - 0x5040)).toNat : Nat))
  else if ix = 0x5050 && sub = 7 then some (.num (if domOn s .servo then (f32Of s.servo.pulse.u : Nat) else 0))
  else if ix = 0x5060 then
    match sub with
    | 5 => some (.num (traceCode s.servo.trace.st : Nat))
    | 6 => some (.bytes (traceData s))
    | 7 => some (.num s.servo.trace.tick)
    | 8 => some (.num s.servo.trace.held)
    | _ => none
  else none

/-- The hooks of the servo's objects. -/
def hookServo (ix sub : Nat) : Option (State → WriteHook) :=
  if ix = 0x5010 || ix = 0x5011 then
    let a : Axis := if ix = 0x5010 then .h else .v
    if sub = 1 then some (loopHook a) else if sub = 0x0F then some (faultClearHook a) else none
  else if 0x5040 ≤ ix && ix ≤ 0x5042 then
    if sub = 1 then some (decRunHook (ix - 0x5040))
    else if sub = 5 then some dwellHook
    else none
  else if ix = 0x5048 && 1 ≤ sub && sub ≤ 4 then some (gainHook (sub - 1))
  else if ix = 0x5050 && sub = 3 then some fmaxHook
  else if ix = 0x5060 then if sub = 4 then some traceHook else if sub ≤ 3 then some (traceSetHook sub) else none
  else none

end Sys2Proof.Machine
end

