-- ==== Sys2Proof/Machine/Headwater.lean ====
section
/-! DEFINITION. Headwater (R163 to R174): the sequence of columns, the windows, freed shots; the pre-check of Weir (R194);
and the commands on plans (R180 to R190). -/

namespace Sys2Proof.Machine

/-! ### Emitters and voltages (R203, R204, R210, R211) -/

/-- A bank. -/
def getBank (s : State) (b : Nat) : Bank := tgetD s.emit.banks b {}

/-- The state with a bank. -/
def setBank (s : State) (b : Nat) (x : Bank) : State := { s with emit := { s.emit with banks := tset s.emit.banks b x } }

/-- An emitter's diagnosis. -/
def getEmitter (s : State) (e : Nat) : Emitter := tgetD s.emit.emitters e {}

/-- The state with an emitter's diagnosis. -/
def setEmitter (s : State) (e : Nat) (x : Emitter) : State :=
  { s with emit := { s.emit with emitters := tset s.emit.emitters e x } }

/-- A bank is BANK_OFF. -/
def bankOff (x : Bank) : Bool := x.st == .overVoltage || x.st == .short || x.st == .stuckOn

/-- An emitter may fire (R210). -/
def emAllowed (s : State) (e : Nat) : Bool :=
  let d := (getEmitter s e).diag
  e < nEmit s && (odN s 0x4004 3).testBit e && (d == .ok || d == .weak || d == .untested) && !bankOff (getBank s (e / 8))

/-- The running plan at tick `u`, none from a stop on. -/
def planStopped (s : State) (u : Nat) : Option Plan :=
  match s.plan.stopAt with
  | some t => if t ≤ u then none else s.plan.running
  | none => s.plan.running

/-- The plan whose columns hold tick `u`, as far as it is decided. -/
def planAt (s : State) (u : Nat) : Option Plan :=
  match s.plan.switching with
  | some (t, p) => if t ≤ u then some p else planStopped s u
  | none => planStopped s u

/-- The energy top M_b of a bank under a plan, in nJ (R204). -/
def energyTop (s : State) (o : Option Plan) (b : Nat) : Nat :=
  match o with
  | none => 0
  | some p =>
    let named := p.regs.zipIdx.filter fun x => (namedBanks s p x.2).contains b
    if named.isEmpty then 0
    else
      let top := named.foldl (fun m x => max m (eclass s (x.1.eclass.getD b 0)).e) 0
      if planFovea p then p.fovs.foldl (fun m f => max m (eclass s f.cls).e) top else top

/-- The derate scale D of a level (R221). -/
def derateScale (d : Nat) : Rat := ((4 - d : Nat) : Rat) / 4

/-- The set-point of a bank for shots of a column: V_b of R204 from the class of the column's region and the fade level. -/
def bankSetPoint (s : State) (top b k : Nat) (phi : Rat) : SetPoint :=
  if top = 0 then {}
  else
    let c := eclass s k
    let vmax := odN s 0x4005 (9 + b)
    let q : Rat := ((c.v * c.v : Nat) : Rat) * phi / ((top : Nat) : Rat)
    let v2 := if ((vmax * vmax : Nat) : Rat) < q then ((vmax * vmax : Nat) : Rat) else q
    { v2 := v2, uv := isqrtRound (v2.num.toNat * 1000000) v2.den }

/-- The fade level of a bank after `j` further shadow loads, as projected now (R211, R213). -/
def phiAhead (s : State) (top : Nat) (x : Bank) (j : Nat) : Rat :=
  let phi := if x.steps = 0 then x.phi
    else x.phi0 + (x.target - x.phi0) * ((min x.steps (x.step + j) : Nat) : Rat) / ((x.steps : Nat) : Rat)
  let cap := ((top : Nat) : Rat) * derateScale s.emit.derate
  if x.capped && cap < phi then cap else phi

/-! ### Directions and seeds (R164, R166, R167) -/

/-- The direction of a column at `i` ticks after its first tick, in 0.001° (R164). -/
def colDir (c : ColRun) (i : Rat) : Rat × Rat :=
  let f := i / ((c.s : Nat) : Rat)
  ((((c.h0 : Int) : Rat) + ((c.h1 - c.h0 : Int) : Rat) * f) / 10, (((c.v0 : Int) : Rat) + ((c.v1 - c.v0 : Int) : Rat) * f) / 10)

/-- The direction of an emitter in a column. -/
def emDir (s : State) (c : ColRun) (e : Nat) (i : Rat) : Rat × Rat :=
  let d := colDir c i
  let o := emOffset s e
  (d.1 + ((o.1 : Int) : Rat), d.2 + ((o.2 : Int) : Rat))

/-- Vehicle speed and its uncertainty as Headwater uses them, in m/s (R170). -/
def speedUsed (s : State) : Rat × Rat :=
  if s.plan.stale then (0, realObj s 0x2110 4) else (realObj s 0x2110 1, realObj s 0x2110 2)

/-- An echo that may seed a window (R166). -/
def seedable (s : State) (x : Echo) : Bool :=
  x.cls != 3 && !x.none && !(x.cls == 1 && x.range ≤ 4000 * odN s 0x3200 2)

/-- A seed before another: higher confidence, then lower range. -/
def seedBefore (a b : Seed) : Bool := b.conf < a.conf || (a.conf == b.conf && a.range ≤ b.range)

/-- Insertion into a ranked list. -/
def insertSeed (x : Seed) : List Seed → List Seed
  | [] => [x]
  | y :: r => if seedBefore y x then y :: insertSeed x r else x :: y :: r

/-- The seeds of a channel for a stack that starts in tick `t` (R166): the first `n`. -/
def seedsFor (s : State) (c t n : Nat) : List Seed :=
  match (tgetD s.rx.chans c {}).seed with
  | none => []
  | some r =>
    if r.close + odN s 0x2112 3 < t then []
    else
      let l := (r.echoes.filter (seedable s)).map fun x =>
        { range := x.range, sigma := if x.coarse then 693 else x.sigma, conf := x.conf, close := r.close
          dirH := r.dirH, dirV := r.dirV : Seed }
      (l.foldl (fun a x => insertSeed x a) []).take n

/-- The predicted window of a seed: start and length (R167). -/
def predictWindow (s : State) (c : ColRun) (e : Nat) (x : Seed) : Nat × Nat :=
  let r := c.region
  let half : Rat := ((c.s : Nat) : Rat) / 2
  let dt : Rat := (((c.first : Nat) : Rat) + half - ((x.close : Nat) : Rat)) * (128 / 10000000)
  let d := emDir s c e half
  let sp := c.speed
  let rs : Rat := ((x.range : Nat) : Rat) / 4000
  let rp := rs - sp.1 * dt * fxRat (fxMul (cosMdeg d.1) (cosMdeg d.2))
  let da := angleBetween x.dirH x.dirV d.1 d.2
  let h := max (((r.hmin : Nat) : Rat) / 4000)
    (((r.ksig * x.sigma : Nat) : Rat) / 16000 + sp.2 * dt + ((r.grad : Nat) : Rat) / 16 * rs * da)
  let l := 128 * (2 * h / (374740 / 10000000 * 128)).ceil.toNat
  let l := min (max l (128 * r.lmin)) (128 * r.lmax)
  ((clampI 0 ((40960 - l : Nat) : Int) (roundQ (rp / (374740 / 10000000)) - ((l / 2 : Nat) : Int))).toNat, l)

/-- The windows of the seeds, the one of higher confidence first (R168). -/
def mergeWindows (lmax : Nat) (l : List (Nat × Nat)) : Windows :=
  match l with
  | [] => {}
  | [a] => { s0 := a.1, l0 := a.2 }
  | a :: b :: _ =>
    let x := if a.1 ≤ b.1 then a else b
    let y := if a.1 ≤ b.1 then b else a
    if y.1 < x.1 + x.2 then
      let len := ceilDiv (max (x.1 + x.2) (y.1 + y.2) - x.1) 128 * 128
      if 128 * lmax < len then { s0 := a.1, l0 := a.2 } else { s0 := min x.1 (40960 - len), l0 := len }
    else { s0 := x.1, l0 := x.2, s1 := y.1, l1 := y.2 }

/-- The windows of a channel's stack (R169). -/
def stackWindows (s : State) (c : ColRun) (x : ChanPlan) : Windows :=
  let r := c.region
  let fix : Windows := { s0 := r.sfix, l0 := 128 * r.lfix }
  let pre := mergeWindows r.lmax (x.seeds.map (predictWindow s c x.e))
  match r.wpol with
  | 0 => {}
  | 1 => fix
  | 2 => pre
  | _ => if x.seeds.isEmpty then fix else pre

/-- A column with its windows placed. -/
def placeWindows (s : State) (c : ColRun) : ColRun :=
  { c with chans := c.chans.map fun p => (p.1, { p.2 with win := stackWindows s c p.2 }) }

/-! ### Planning of columns (R163, R165, R169) -/

/-- A channel in RUN or DEGRADED. -/
def chanLive (s : State) (c : Nat) : Bool :=
  let st := (tgetD s.rx.chans c {}).st
  st == .run || st == .degraded

/-- The set-points of an axis at a column's first tick and at the next column's; the latched position for an external
axis (R164). -/
def axisEnds (s : State) (p : Plan) (a : Axis) (c n : Column) : Int × Int :=
  if p.axsrc.testBit (axisBit a) then ((getAxis s a).pos, (getAxis s a).pos)
  else (colAngle (axisBit a) c, colAngle (axisBit a) n)

/-- A column planned in its tick t−4; "emission enabled" (R165) is 0x4000:01 = 1 (assumption 16). -/
def planColumn (s : State) (cur : Cursor) : ColRun :=
  let p := cur.plan
  let c := p.cols.getD cur.k (decodeColumn [] 0)
  let n := p.cols.getD ((cur.k + 1) % p.cols.length) c
  let r := colRegion p c
  let h := axisEnds s p .h c n
  let v := axisEnds s p .v c n
  let part := if s.emit.enable then
      (List.range (nChan s)).filter fun ch =>
        chanInColumn s p c ch && chanLive s ch && emAllowed s (p.map.getD ch 0xFF)
    else []
  placeWindows s {
    seq := s.plan.colSeq, planId := p.id, frame := cur.frame, k := cur.k, first := cur.start, s := r.s, region := r
    banks := c.banks, zmask := c.zmask, foveaOk := c.cflags.testBit 0, lastOfFrame := cur.k + 1 == p.cols.length
    fovs := p.fovs, outs := p.outs, axsrc := p.axsrc, enabled := s.emit.enable
    h0 := h.1, h1 := h.2, v0 := v.1, v1 := v.2
    chans := part.map fun ch =>
      (ch, { e := p.map.getD ch 0xFF, seeds := if r.wpol < 2 then [] else seedsFor s ch cur.start r.nwmax })
    curve := curveInput s, speed := speedUsed s
    version := odN s 0x1F12 2, laneVersion := odN s 0x1F12 3, cals := [odBytes s 0x6041 1, odBytes s 0x6042 1]
    dither := if r.dither = 3 then s.rx.dith.mode else r.dither
    twoPulse := if r.two = 2 then s.rx.dith.two else r.two == 1 }

/-- The last column of a frame is known: the frame's counts become final after its commit tick (R179). -/
def closeFrame (s : State) : State :=
  match s.plan.cols.getLast? with
  | none => s
  | some c => { s with plan := { s.plan with frames := s.plan.frames.map fun f =>
      if f.planId = c.planId && f.frame = c.frame && f.lastTick.isNone then
        { f with lastTick := some (c.first + c.s + 1) }
      else f } }

/-- One column planned; the cursor moves on. -/
def planNext (s : State) (cur : Cursor) : State :=
  let c := planColumn s cur
  let n := cur.plan.cols.length
  let known := s.plan.frames.any fun f => f.planId == c.planId && f.frame == c.frame && f.lastTick.isNone
  let frames := if known then s.plan.frames else s.plan.frames ++ [{ planId := c.planId, frame := c.frame }]
  let s := { s with plan := { s.plan with
    cols := s.plan.cols ++ [c], colSeq := (s.plan.colSeq + 1) % 65536, frames := frames
    cursor := some { cur with
      k := (cur.k + 1) % n, start := cur.start + c.s, frame := if cur.k + 1 = n then cur.frame + 1 else cur.frame } } }
  if c.lastOfFrame then closeFrame s else s

/-- The planning step of a tick (R31, R188, R189): at a column boundary four ticks ahead a stop or a switch is taken,
else the next column is planned; with no plan a pending plan starts. Where a stop and a plan accepted since wait for the
same boundary the stop is taken, and the plan starts a tick later (assumption 20). -/
def planStep (s : State) : State :=
  let n := s.tick.num
  let t := n + 4
  let start (s : State) (p : Plan) : State :=
    let s := closeFrame s
    planNext { s with plan := { s.plan with
      pending := none, switching := some (t, p), before := (s.plan.cursor, s.plan.colSeq) } }
      { plan := p, k := 0, start := t, frame := 0 }
  match s.plan.cursor with
  | none =>
    match s.plan.pending with
    | some (p, a) => if a < n then start s p else s
    | none => s
  | some cur =>
    if cur.start ≠ t then s
    else if (s.plan.stopReq.map fun r => decide (r < n)).getD false then
      let s := closeFrame s
      { s with plan := { s.plan with cursor := none, stopReq := none, stopAt := some t } }
    else match s.plan.pending with
      | some (p, a) => if a < n then start s p else planNext s cur
      | none => planNext s cur

/-- The state with a column changed. -/
def updCol (s : State) (seq : Nat) (f : ColRun → ColRun) : State :=
  { s with plan := { s.plan with cols := s.plan.cols.map fun c => if c.seq = seq then f c else c } }

/-- The emitters that a column fires: those that some channel of it names (R165). -/
def colEmitters (c : ColRun) : List Nat := (List.range 64).filter fun e => c.chans.any fun p => p.2.e == e

/-- The class of the shots of a bank in a column. -/
def colClass (c : ColRun) (b : Nat) : Nat := c.region.eclass.getD b 0

/-- Whether an emitter's planned shot of a tick is withheld or freed. -/
def isCut (t : Tbl Nat) (e u : Nat) : Bool :=
  match tget t e with
  | some n => n ≤ u
  | none => false

/-- An emitter's shots of a column are withheld from a tick on, and their planned charges released. -/
def cutFrom (s : State) (seq e u : Nat) : State :=
  weirRelease (updCol s seq fun c => { c with cut := if isCut c.cut e u then c.cut else tset c.cut e u })
    fun p => p.e == e && u ≤ p.tick && ((s.plan.cols.find? fun c => c.seq == seq).map fun c =>
      decide (p.tick < c.first + c.s)).getD false

/-- The pre-check of one shot (R194): every planned shot is tested and a veto counts; one that the column withholds
already plans no charge. -/
def preCheckShot (s : State) (seq : Nat) (c : ColRun) (i e : Nat) : State :=
  let u := c.first + i
  let cut := ((s.plan.cols.find? fun x => x.seq == seq).map (·.cut)).getD []
  let b := e / 8
  let top := energyTop s (planAt s u) b
  let phi := phiAhead s top (getBank s b) (u - s.tick.num - 1)
  let q := modelCharge (eclass s (colClass c b)) (bankSetPoint s top b (colClass c b) phi)
  let d := emDir s c e ((i : Nat) : Rat)
  let x := cellOf s d.1 d.2
  if weirAllows s true x u q then
    if isCut cut e u then s
    else { s with weir := { s.weir with planned := s.weir.planned ++ [{ tick := u, e := e, cell := x, charge := q }] } }
  else cutFrom (bump s 0x4028 1) seq e u

/-- The pre-check of a column in its tick t−3, tick by tick, emitters in order. -/
def preCheck (s : State) (c : ColRun) : State :=
  (List.range c.s).foldl (fun s i => (colEmitters c).foldl (fun s e => preCheckShot s c.seq c i e) s) s

/-- The set-points of a column in servo units, fixed in its tick t−2 (R164). -/
def fixAngles (c : ColRun) : ColRun :=
  { c with angles := (List.range c.s).map fun i =>
      let d := colDir c ((i : Nat) : Rat)
      (roundQ (10 * d.1), roundQ (10 * d.2)) }

/-- The frames whose last commit tick has ended: their counts are copied to the last-frame objects (R179). -/
def frameEnds (s : State) : State :=
  let n := s.tick.num
  let past (f : FrameCount) : Bool := (f.lastTick.map fun t => decide (t < n)).getD false
  let s := (s.plan.frames.filter past).foldl (fun s f =>
    odSetN (odSetN (odSetN s 0x2120 6 f.commits) 0x2120 7 f.discards) 0x2120 8 f.frame) s
  { s with plan := { s.plan with frames := s.plan.frames.filter fun f => !past f } }

/-- Columns with stacks due that are left without a record are counted (R30, R165). -/
def countEmpty (s : State) (l : List ColRun) : State :=
  l.foldl (fun s c => if c.enabled && !c.anyRecord then bump s 0x2000 0x0C else s) s

/-- Columns whose commit tick has ended leave. -/
def columnEnds (s : State) : State :=
  let n := s.tick.num
  let past (c : ColRun) : Bool := c.first + c.s + 2 ≤ n
  let s := countEmpty s (s.plan.cols.filter past)
  { s with plan := { s.plan with cols := s.plan.cols.filter fun c => !past c } }

/-- An entry of the column log, the newest (R268). -/
def logColumn (s : State) (c : ColRun) : State :=
  let v (u : Nat) : Int := roundDiv (tgetD c.theta u (0, 0)).2 10
  let e := leBytes 2 c.seq ++ leBytes 1 c.planId ++ leBytes 1 c.s ++ leBytes 4 c.first ++ leBytes 8 (tgetD c.tdev c.first 0) ++
    leBytes 4 (toBits 32 (v c.first)) ++ leBytes 4 (toBits 32 (v (c.first + c.s - 1)))
  let k := match s.points.logAt with
    | some k => (k + 1) % 4096
    | none => 0
  { s with points := { s.points with log := tset s.points.log k e, logAt := some k } }

/-- The device time at t+0 of a tick is latched for the records of its column (R266); a column of one tick gets its log
entry then, since its T_COL is not known before. -/
def columnTime (s : State) : State :=
  let n := s.tick.num
  match columnAt s n with
  | none => s
  | some c =>
    let s := updCol s c.seq fun c => { c with tdev := tset c.tdev n s.time.tDev }
    match columnAt s n with
    | some c => if c.s = 1 then logColumn s c else s
    | none => s

/-- The latch of tick n fixes the effective set-points for the shots of tick n + 1 (R267), and the log entry of a column whose
last tick that is (R268). -/
def columnLatch (s : State) : State :=
  let u := s.tick.num + 1
  match columnAt s u with
  | none => s
  | some c =>
    let s := updCol s c.seq fun c => { c with theta := tset c.theta u (s.servo.h.th1, s.servo.v.th1) }
    match columnAt s u with
    | some c => if c.s ≠ 1 && u + 1 = c.first + c.s then logColumn s c else s
    | none => s

/-- The plan stages of a tick, at its t+0: planning of t+4, pre-check of t+3, set-points of t+2 (R28, R194, R164). -/
def planTick (s : State) : State :=
  let n := s.tick.num
  let s := columnEnds (frameEnds s)
  let s := planStep s
  let s := (s.plan.cols.filter fun (c : ColRun) => c.first == n + 3).foldl preCheck s
  let s := { s with plan := { s.plan with
    cols := s.plan.cols.map fun (c : ColRun) => if c.first = n + 2 then fixAngles c else c } }
  let s := columnTime s
  match s.plan.cols.find? fun (c : ColRun) => c.first == n with
  | some c => { s with plan := { s.plan with curSeq := c.seq, frame := c.frame } }
  | none => s

/-- A column planned after its tick t−4 goes through the stages that have passed. -/
def lateStages (s : State) (t : Nat) : State :=
  let s := if t ≤ s.tick.num + 3 then (s.plan.cols.filter fun (c : ColRun) => c.first == t).foldl preCheck s else s
  { s with plan := { s.plan with
    cols := s.plan.cols.map fun (c : ColRun) => if c.first = t && t ≤ s.tick.num + 2 then fixAngles c else c } }

/-- A plan whose switch has been taken back plans the columns that are due, at most `k` of them (assumption 20). -/
def catchUp : Nat → State → State
  | 0, s => s
  | k + 1, s =>
    match s.plan.cursor with
    | some cur => if cur.start ≤ s.tick.num + 4 then catchUp k (lateStages (planNext s cur) cur.start) else s
    | none => s

/-- The frame counts without those of a plan that never runs; the frame that the plan before it is in goes on. -/
def reopenFrames (l : List FrameCount) (id : Nat) (o : Option Cursor) : List FrameCount :=
  (l.filter fun f => f.planId != id).map fun f =>
    match o with
    | some cur => if f.planId = cur.plan.id && f.frame = cur.frame && cur.k ≠ 0 then { f with lastTick := none } else f
    | none => f

/-- A pending plan whose switch is decided but has not taken effect is superseded or discarded: it never runs (R188, R189).
What was planned for it is dropped, and the plan before it goes on. -/
def takeBack (s : State) : State :=
  match s.plan.switching with
  | none => s
  | some (t, p) =>
    if t ≤ s.tick.num then s
    else
      let s := bump s 0x2102 7
      catchUp 4 { s with
        plan := { s.plan with
          switching := none, cursor := s.plan.before.1, colSeq := s.plan.before.2
          cols := s.plan.cols.filter fun c => c.first < t, frames := reopenFrames s.plan.frames p.id s.plan.before.1 }
        weir := { s.weir with planned := s.weir.planned.filter fun q => q.tick < t }
        emit := { s.emit with shadow := if t = s.tick.num + 1 then [] else s.emit.shadow } }

/-- The pending plan is superseded or discarded, whether its switch is decided or not; it is counted. -/
def dropPending (s : State) : State :=
  let s := if s.plan.pending.isSome then bump s 0x2102 7 else s
  takeBack { s with plan := { s.plan with pending := none } }

/-- A column with the latched position for its external axes; its windows follow. -/
def externalEnds (s : State) (c : ColRun) : ColRun :=
  let h := if c.axsrc.testBit 0 then (s.servo.h.pos, s.servo.h.pos) else (c.h0, c.h1)
  let v := if c.axsrc.testBit 1 then (s.servo.v.pos, s.servo.v.pos) else (c.v0, c.v1)
  placeWindows s { c with h0 := h.1, h1 := h.2, v0 := v.1, v1 := v.2 }

/-- The latch of the planning tick gives the position of an external axis (R164). -/
def planLatch (s : State) : State :=
  let f (c : ColRun) : ColRun := if c.first = s.tick.num + 4 && c.axsrc != 0 then externalEnds s c else c
  { s with plan := { s.plan with cols := s.plan.cols.map f } }

/-! ### Freed shots (R172 to R174) -/

/-- A direction lies inside a fovea rule (R173). -/
def inFovea (c : ColRun) (f : FovRule) (h v : Rat) : Bool :=
  let centre : Rat := ((f.c0 : Int) : Rat) + (if f.mode = 1 then ((f.gain : Int) : Rat) * c.curve else 0)
  ratAbs (h - centre) ≤ ((f.hw : Int) : Rat) && ((f.elLo : Int) : Rat) ≤ v && v ≤ ((f.elHi : Int) : Rat)

/-- The fovea window of a closed stack (R174). -/
def foveaWindow (x : Half) (lfov : Nat) : Windows :=
  let g := if x.peak0 < x.peak1 then x.win.s1 + (x.peakBin1 - x.win.l0) else x.win.s0 + x.peakBin0
  let l := 128 * lfov
  { s0 := (clampI 0 ((40960 - l : Nat) : Int) ((g : Int) - ((l / 2 : Nat) : Int))).toNat, l0 := l }

/-- A channel's stack of the column has closed early. -/
def closedEarly (s : State) (c : ColRun) (ch : Nat) : Bool :=
  let x := tgetD s.rx.chans ch {}
  x.pair == .idle && x.held.early && x.held.colSeq == c.seq && x.held.planId == c.planId

/-- The freed shots of one emitter, decided in the bookkeeping interval of the early close (R172): the lowest rule that
contains the direction applies, and where it fails FMIN the shots are withheld (assumption 89). A veto of the pre-check stays
(R194). -/
def freeEmitter (s : State) (c : ColRun) (e : Nat) : State :=
  let n := s.tick.num
  let chs := (c.chans.filter fun p => p.2.e == e).map (·.1)
  let left := c.first + c.s - (n + 1)
  if chs.isEmpty || !chs.all (closedEarly s c) || c.freed.getLsbD e || isCut c.cut e (n + 1) || left = 0 then s
  else
    let s := updCol (cutFrom s c.seq e (n + 1)) c.seq fun d => { d with
      freed := d.freed ||| (1#64 <<< e)
      foveaCut := match tget c.cut e with
        | some u => tset d.foveaCut e u
        | none => d.foveaCut }
    let d := emDir s c e ((n + 1 - c.first : Nat) : Rat)
    let rule := if c.foveaOk then c.fovs.find? (fun f => inFovea c f d.1 d.2) else none
    match rule with
    | some f =>
      if f.fmin ≤ left then
        let wins := (chs.filter (chanLive s)).map fun ch => (ch, foveaWindow (tgetD s.rx.chans ch {}).held f.lfov)
        updCol s c.seq fun c => { c with fovea := tset c.fovea e { cls := f.cls, first := n + 1, wins := wins } }
      else bumpBy s 0x2120 0x0A left
    | none => bumpBy s 0x2120 0x0A left

/-- Headwater's decision on freed shots in this tick. -/
def freeShots (s : State) : State :=
  match columnAt s s.tick.num with
  | none => s
  | some c => (colEmitters c).foldl (fun s e => freeEmitter s c e) s

/-- The planned shot of an emitter in a tick of a column: its energy class, and whether it is a fovea shot. -/
def plannedShot (c : ColRun) (e u : Nat) : Option (Nat × Bool) :=
  match tget c.fovea e with
  | some f => if f.first ≤ u && !isCut c.foveaCut e u then some (f.cls, true) else none
  | none => if c.chans.any (fun p => p.2.e == e) && !isCut c.cut e u then some (colClass c (e / 8), false) else none

/-! ### Commands on plans (R180, R188, R189) -/

/-- An admission starts (R180). -/
def startAdmission (s : State) (b : Bytes) (r : Option Req) (check : Bool) : State :=
  { s with plan := { s.plan with admission := some {
    image := b, req := r, start := s.tick.num, check := check, model := modelObjects s } } }

/-- Writes of 0x2100:01 (R180). -/
def planHook (r : Req) (_ : State) : WriteHook where
  run s v :=
    let b := valBytes v
    if s.plan.admission.isSome then
      .abort abAdmission (bump (reportAdmission (odSetN s 0x2101 8 0) { code := 1 } (fieldN b 4 1)) 0x2102 6)
    else .later { startAdmission s b (some r) (odN s 0x2100 2 = 1) with
      odx := { s.odx with longs := s.odx.longs ++ [
        { kind := .plan, req := r, index := 0x2100, sub := 1, cmd := BitVec.ofNat 8 cmdWrite }] } }

/-- PLAN_WRITE (R180): a write of 0x2100:01. -/
def execPlanWrite (r : Req) (plan : Bytes) (s : State) : Host.Outcome State Fault Refusal :=
  outcome s (requestWrite s r 0x2100 1 plan (planHook r))

/-- A start-up plan that waited for a running admission enters admission (R190). -/
def startUpNext (s : State) : State :=
  if s.odx.startDue && (s.rx.cal = .done || s.rx.cal = .faults) then
    startAdmission { s with odx := { s.odx with startDue := false } } s.odx.startUp none false
  else s

/-- ADMISSION_END (R180, R181, R188): the result, the answer, and an accepted plan becomes pending. -/
def admissionEnd (s : State) : State :=
  match s.plan.admission with
  | none => s
  | some a =>
    let s := { s with plan := { s.plan with admission := none } }
    let s := odSetN s 0x2101 8 (tickUs (since s a.start))
    let s := setInt s 5
    match admission { s with emit := { s.emit with model := a.model } } a.image with
    | .error f =>
      let s := bump (reportAdmission s f (fieldN a.image 4 1)) 0x2102 6
      startUpNext (if a.req.isSome then longAnswer s .plan abAdmission else s)
    | .ok p =>
      let s := bump (reportAdmission s { code := 0 } p.id) 0x2102 5
      let s := if a.check then s
        else
          let s := dropPending s
          { s with plan := { s.plan with pending := some (p, s.tick.num) } }
      startUpNext (if a.req.isSome then longAnswer s .plan 0 else s)

/-- ADMISSION_END. -/
def execAdmissionEnd (s : State) : Host.Outcome State Fault Refusal := outcome s (admissionEnd s)

/-- PLAN_SWITCH (R31, R188): the plan takes effect at its first column; with 0x2100:03 its store as start-up plan
begins. -/
def planSwitch (s : State) : State :=
  match s.plan.switching with
  | some (t, p) =>
    if t ≤ s.tick.num then
      let s := if odB s 0x2100 3 && s.pwr.pfState != 1 then { s with odx := { s.odx with planStore := some p.raw } } else s
      setInt { s with plan := { s.plan with
        running := some p, switching := none, stopAt := s.plan.stopAt.filter fun u => decide (t < u) } } 6
    else s
  | none => s

/-- PLAN_SWITCH. -/
def execPlanSwitch (s : State) : Host.Outcome State Fault Refusal := outcome s (planSwitch s)

/-- Writes of 0x2100:04 (R189). -/
def stopHook (_ : State) : WriteHook where
  run s v :=
    if valN v = 0 then .done s
    else
      let s := dropPending s
      .done { s with plan := { s.plan with stopReq := if s.plan.cursor.isSome then some s.tick.num else none } }

/-- STOP_RUNNING_PLAN (R189). -/
def execStopRunningPlan (r : Req) (s : State) : Host.Outcome State Fault Refusal :=
  outcome s (requestWrite s r 0x2100 4 [1] stopHook)

/-- PLAN_STOP_EFFECT (R189): at the stop boundary no plan runs; the axes then take the manual set-point (R238). -/
def execPlanStopEffect (s : State) : Host.Outcome State Fault Refusal :=
  outcome s <| match s.plan.stopAt with
  | some t =>
    if t ≤ s.tick.num then setInt { s with plan := { s.plan with running := none, stopAt := none } } 6 else s
  | none => s

/-- Writes of speed and uncertainty (R170, R198): the timeout restarts. -/
def speedHook (sub : Nat) (_ : State) : WriteHook where
  run s v :=
    let s := odSet s 0x2110 (sub % 4) v
    .done { s with plan := { s.plan with stale := false, speedTick := some s.tick.num } }

/-- VEHICLE_SPEED_WRITE (R198). -/
def execVehicleSpeedWrite (r : Req) (sub : Fin 2) (bits : BitVec 32) (s : State) : Host.Outcome State Fault Refusal :=
  outcome s (requestWrite s r 0x2110 (sub.val + 1) (leBytes 4 bits.toNat) (speedHook (sub.val + 1)))

/-- SPEED_TIMEOUT (R170): the value is older than the timeout. -/
def execSpeedTimeout (s : State) : Host.Outcome State Fault Refusal :=
  outcome s <| match s.plan.speedTick with
  | some t =>
    if odN s 0x2110 3 * 10000 < since s t * 128 then { s with plan := { s.plan with stale := true } } else s
  | none => s

/-- DOZE suspends the plan: planned columns are dropped, without records (R438, R30). -/
def planSuspend (s : State) : State :=
  let s := countEmpty (closeFrame s) s.plan.cols
  let p := match s.plan.cursor with
    | some cur => some (cur.plan, (((s.plan.cols.filter fun c => c.first ≤ s.tick.num).getLast?).map fun c =>
        c.frame + 1).getD cur.frame)
    | none => s.plan.suspended
  { s with
    plan := { s.plan with cursor := none, cols := [], suspended := p }
    weir := { s.weir with planned := [] } }

/-- The suspended plan restarts with column 0 at tick a + 5 (R438). -/
def planResume (s : State) : State :=
  match s.plan.suspended with
  | some (p, f) => { s with plan := { s.plan with
      suspended := none, cursor := some { plan := p, k := 0, start := s.tick.num + 5, frame := f } } }
  | none => s

/-- The plan objects that are no plain settings. -/
def readPlan (s : State) (ix sub : Nat) : Option Val :=
  let num (n : Nat) : Option Val := some (.num n)
  let id (o : Option Plan) : Option Val := num ((o.map (·.id)).getD 0)
  match ix, sub with
  | 0x2100, 1 => some (.bytes ((s.plan.running.map (·.raw)).getD []))
  | 0x2100, 4 => num 0
  | 0x2102, 1 => id s.plan.running
  | 0x2102, 2 => id ((s.plan.pending.map (·.1)).orElse fun _ => s.plan.switching.map (·.2))
  | 0x2102, 3 => num (if s.plan.running.isSome then s.plan.frame else 0)
  | 0x2102, 4 => num s.plan.curSeq
  | 0x2104, 1 => num (pcieLimit s)
  | 0x2110, 5 => num (b2n s.plan.stale)
  | 0x4027, 1 => some (.bytes (cellLevels s))
  | 0x4028, 4 => num (holdOffMs s)
  | _, _ => none

/-- The write rules of the plan and Weir objects. -/
def hookPlan (r : Req) (ix sub : Nat) : Option (State → WriteHook) :=
  match ix, sub with
  | 0x2100, 1 => some (planHook r)
  | 0x2100, 4 => some stopHook
  | 0x2110, 1 => some (speedHook 1)
  | 0x2110, 2 => some (speedHook 2)
  | 0x4024, 1 => some limitMapHook
  | _, _ => if ix = 0x4010 then some (eclassHook sub) else none

end Sys2Proof.Machine
end

