-- ==== Sys2Proof/Machine/Hk.lean ====
section
/-! DEFINITION. The housekeeping converter (R453 to R470): its requests, its order of conversions, its results. A
conversion starts as soon as the converter is free; CONVERSION_COMPLETE ends the one under way. -/

namespace Sys2Proof.Machine

/-! ### Entries and requests -/

/-- The sequence in force. -/
def hkSeq (s : State) : Bytes := s.hk.seq.getD (defaultSequence s)

/-- Byte `i` of entry `k`. -/
def seqByte (b : Bytes) (k i : Nat) : Nat := (b[4 * k + i]?.getD 0).toNat

/-- Entry `k` is due in tick `n` (R460). -/
def entryDue (b : Bytes) (k n : Nat) : Bool :=
  (seqByte b k 2).testBit 6 && n % 2 ^ (seqByte b k 2 % 8) == seqByte b k 3

/-- The due entries of a tick in ascending order. -/
def dueEntries (b : Bytes) (n : Nat) : List Nat := (List.range 32).filter fun k => entryDue b k n

/-- An input present in the variant, and a mux select of input 8 (R454). -/
def inputPresent (s : State) (i m : Nat) : Bool :=
  i < 32 && m < 16 && !(isSmall s && ((4 ≤ i && i < 8) || (i == 8 && 8 ≤ m)))

/-- A conversion with the corrections in force as it starts (R455). -/
def withTrim (s : State) (c : Conv) : Conv :=
  { c with ofs := odI s 0xB010 (c.input + 1), gain := odI s 0xB011 (c.input + 1) }

/-- A conversion starts; the guard owed to it comes first (R457). -/
def hkBegin (s : State) (level entry input mux : Nat) : State :=
  let h := s.hk
  let g := h.guardOwed && odB s 0xB000 2
  { s with hk := { h with
    cur := some (withTrim s { level := level, entry := entry, input := input, mux := mux, guard := g })
    guardOwed := false, noGuard := h.noGuard || (h.guardOwed && !g) } }

/-- The next conversion of a free converter (R458 to R462): level 2, then the first level-1 group, then level 0. -/
def hkNext (s : State) : State :=
  let s := { s with hk := { s.hk with cur := none } }
  if s.hk.st != .run then s
  else match s.hk.level2 with
  | some i => hkBegin { s with hk := { s.hk with level2 := none } } 2 0 i 0
  | none =>
    match s.hk.groups with
    | g :: r =>
      let x := g.items.getD g.pos (0, 0)
      let s := if g.again then bump s 0xB040 4 else s
      let g : HkGroup := { g with started := true, again := false }
      hkBegin { s with hk := { s.hk with groups := g :: r } } 1 g.pos x.1 x.2
    | [] =>
      match s.hk.due with
      | k :: r =>
        let b := hkSeq s
        hkBegin { s with hk := { s.hk with due := r } } 0 k (seqByte b k 0) (seqByte b k 1)
      | [] => s

/-- The running conversion is aborted (R458): a level-0 entry waits again; a guard stays owed, unless a level-2 request
aborts it (R457). -/
def hkAbort (s : State) (level : Nat) : State :=
  match s.hk.cur with
  | none => s
  | some c =>
    let h := s.hk
    let h := { h with
      cur := none
      due := if c.level = 0 then c.entry :: h.due else h.due
      guardOwed := c.guard && level == 1
      noGuard := h.noGuard || (c.guard && level == 2) }
    bump { s with hk := h } 0xB040 2

/-- The emitter drive's queue is full: it holds four groups (R463). -/
def probeQueueFull (s : State) : Bool := 4 ≤ (s.hk.groups.filter fun g => !g.host).length

/-- A level-1 group is requested (R458, R461). -/
def hkGroup (s : State) (host : Bool) (items : List (Nat × Nat)) : State :=
  let g : HkGroup := { host := host, items := items }
  let s := { s with hk := { s.hk with groups := s.hk.groups ++ [g] } }
  match s.hk.cur with
  | none => hkNext s
  | some c => if c.level = 0 then hkNext (hkAbort s 1) else s

/-- A level-2 conversion is requested (R458, R462, R463). -/
def hkCheck (s : State) (input : Nat) : State :=
  if s.hk.level2.isSome then bump s 0xB040 8
  else
    let t := { s with hk := { s.hk with level2 := some input } }
    match s.hk.cur with
    | none => hkNext t
    | some c =>
      if c.level = 2 then t
      else
        let t := hkAbort t 2
        match t.hk.groups with
        | g :: r =>
          if c.level = 1 then
            hkNext { t with hk := { t.hk with groups := { g with pos := 0, again := true } :: r } }
          else hkNext t
        | [] => hkNext t

/-! ### Results -/

/-- The corrected code of a conversion (R455, R456). -/
def hkCode (c : Conv) (raw : Nat) (oor : Bool) : Nat :=
  if oor then (if raw < 2048 then 0 else 0xFFF)
  else (clampI 0 4095 (roundDiv ((16 * (raw : Int) - c.ofs) * c.gain) (2 ^ 19))).toNat

/-- A slot word (R464). -/
def slotWord (n : Nat) (noGuard oor : Bool) (code : Nat) : Nat :=
  (n % 256) * 2 ^ 24 + b2n noGuard * 2 ^ 17 + b2n oor * 2 ^ 16 + code

/-- A result enters the data register (R465, R466). -/
def dataResult (s : State) (level input mux code : Nat) (oor noGuard : Bool) : State :=
  let valid := s.hk.data.getLsbD 31
  let w := 2 ^ 31 + b2n (valid || s.hk.data.getLsbD 30) * 2 ^ 30 + level * 2 ^ 28 + b2n oor * 2 ^ 27 +
    b2n noGuard * 2 ^ 26 + input * 2 ^ 21 + (if input = 8 then mux else 0) * 2 ^ 17 + s.tick.num % 16 * 2 ^ 12 + code
  let s := if valid then bump s 0xB040 5 else s
  { s with hk := { s.hk with data := BitVec.ofNat 32 w } }

/-- What the emitter drive takes from a result: an NTC reading or a probe's peak, with its code. -/
inductive HkUse where
  | none
  | ntc (code : Nat) (oor : Bool)
  | peak (mux code : Nat) (oor : Bool)

/-- The outcome of a converter check (R468). -/
def checkResult (s : State) (input code : Nat) (oor : Bool) : State :=
  let expect := if input = 25 then odN s 0xB023 1 else 0
  let tol := if input = 25 then odN s 0xB023 2 else 8
  let bad := oor || expect + tol < code || code + tol < expect
  let h := s.hk
  if bad then
    let f := tgetD h.fails input 0 + 1
    let s := bump { s with hk := { h with fails := tset h.fails input f, passes := tset h.passes input 0 } } 0xB040 9
    if 2 ≤ f && !h.fault then reportFault { s with hk := { s.hk with fault := true } } .platform else s
  else
    let p := tset h.passes input (tgetD h.passes input 0 + 1)
    let clear := 4 ≤ tgetD p 25 0 && 4 ≤ tgetD p 26 0
    { s with hk := { h with
      fails := tset h.fails input 0, passes := p, fault := h.fault && !clear } }

/-- The supply VAON measured by input 18, 2.5 times the converter's mV, lies in its window of 3.0 to 3.6 V (R432, R454). -/
def vaonWindow (code : Nat) (oor : Bool) : Bool := !oor && 3000 * 8190 ≤ code * 9000 && code * 9000 ≤ 3600 * 8190

/-- A result is written to its slot, the counters, the flags and the data register. -/
def hkResult (s : State) (c : Conv) (raw : Nat) (oor : Bool) : State × HkUse :=
  let code := hkCode c raw oor
  let h := s.hk
  let w := slotWord s.tick.num h.noGuard oor code
  let slots := tset h.slots c.input w
  let h := { h with
    slots := if c.input = 8 then tset slots (32 + c.mux) w else slots
    lastMux := if c.input = 8 then c.mux else h.lastMux
    own := tset h.own c.input s.tick.num }
  let s' := bump { s with acq := { s.acq with adc := s.acq.adc ||| (1#32 <<< c.input) }, hk := { h with
    noGuard := false, guardOwed := oor, oor := if oor then h.oor ||| (1#32 <<< c.input) else h.oor } } 0xB040 1
  let s' := if oor then bump s' 0xB040 0x0A else s'
  let s' := if c.input = 18 then { s' with pwr := { s'.pwr with vaonOk := vaonWindow code oor } } else s'
  match c.level with
  | 0 =>
    let s' := if (seqByte (hkSeq s) c.entry 2).testBit 7 then
        dataResult s' 0 c.input c.mux code oor s.hk.noGuard else s'
    (s', if c.entry = 8 then .ntc code oor else .none)
  | 1 =>
    match s'.hk.groups with
    | g :: r =>
      let g' : HkGroup := { g with pos := g.pos + 1 }
      let s' := { s' with hk := { s'.hk with groups := if g'.pos < g.items.length then g' :: r else r } }
      if g.host then (dataResult s' 1 c.input c.mux code oor s.hk.noGuard, .none)
      else (s', .peak c.mux code oor)
    | [] => (s', .none)
  | _ => (checkResult s' c.input code oor, .none)

/-- The conversion under way ends (R455 to R462). A guard has no result and no flags of its own (assumption 88); one out of
range owes a further guard, or with GUARD = 0 the NOGUARD of the next result (R457). -/
def hkComplete (s : State) (raw : Nat) (oor : Bool) : State × HkUse :=
  match s.hk.cur with
  | none => (s, .none)
  | some c =>
    if c.guard then
      let s := bump s 0xB040 6
      let again := odB s 0xB000 2
      ({ s with hk := { s.hk with
        cur := some (withTrim s { c with guard := oor && again }), noGuard := s.hk.noGuard || (oor && !again) } }, .none)
    else
      let r := hkResult s c raw oor
      (hkNext r.1, r.2)

/-- The code in a slot. -/
def slotCode (s : State) (i : Nat) : Nat := tgetD s.hk.slots i 0 % 4096

/-- The corrected reading of a slot in mV. -/
def slotMv (s : State) (i : Nat) : Rat := ((slotCode s i * 1800 : Nat) : Rat) / 4095

/-- The inverse of the absolute temperature of an NTC code, in 1/K (R221); none for the codes without a value (R223). -/
def ntcInverse (s : State) (code : Nat) : Option Rat :=
  if code = 0 || 4095 ≤ code then none
  else
    let r : Rat := ((odN s 0x4015 8 * code : Nat) : Rat) / ((4095 - code : Nat) : Rat)
    let ln := fxRat (fxLn (r / ((odN s 0x4015 6 : Nat) : Rat)))
    some (100 / 29815 + ln / ((odN s 0x4015 7 : Nat) : Rat))

/-- A temperature in 10^−6 °C from its inverse. -/
def ntcTemp (inv : Rat) : Int := roundQ ((1 / inv - 27315 / 100) * 1000000)

/-- The engineering value of a slot (R454); 0 before its first result. -/
def hkValue (s : State) (w : Nat) : Int :=
  let v := slotMv s w
  if (tget s.hk.slots w).isNone then 0
  else if w < 8 then roundQ (v * ((odN s 0x4006 (w + 1) : Nat) : Rat) / 100)
  else if w = 8 || 32 ≤ w then
    let mux := if w = 8 then s.hk.lastMux else w - 32
    roundQ (v * ((odN s 0xB012 (mux + 1) : Nat) : Rat) / 100)
  else if w = 9 then
    match ntcInverse s (slotCode s 9) with
    | none => 0
    | some inv => roundDiv (if inv = 0 then ((Config.freeNat s.free : Nat) : Int) else ntcTemp inv) 100000
  else if w = 17 then roundQ (2 * v)
  else if w = 18 then roundQ (5 * v / 2)
  else if 19 ≤ w && w ≤ 24 then roundQ (10 * (v - 500) / 2)
  else roundQ v

/-! ### The tick, power -/

/-- The converter at t+0 (R459, R460, R469): entries of the tick before that have not started are missed; the due entries
of this tick wait, and a free converter starts. -/
def hkTick (s : State) : State :=
  match s.hk.st with
  | .off => s
  | .cal =>
    if 16 ≤ since s s.hk.calFrom then
      let s := { s with hk := { s.hk with st := .run, seq := some (odBytes s 0xB001 1) } }
      hkNext { s with hk := { s.hk with due := dueEntries (hkSeq s) s.tick.num } }
    else s
  | .run =>
    let s := if s.hk.due.isEmpty then s else bumpBy s 0xB040 3 s.hk.due.length
    let s := { s with hk := { s.hk with seq := some (odBytes s 0xB001 1) } }
    let s := { s with hk := { s.hk with due := dueEntries (hkSeq s) s.tick.num } }
    if s.hk.cur.isNone then hkNext s else s

/-- Power-up of the CORE domain (R469): the persisted corrections, calibration, every slot and the data register 0. Where
CORE was `retained` (DOZE) the checks and ADC_FAULT go on, since only passing checks clear it (R468). -/
def hkStart (s : State) (retained : Bool) : State :=
  let s := (List.finRange 32).foldl (fun s i => usePersisted (usePersisted s 0xB010 (i.val + 1)) 0xB011 (i.val + 1)) s
  let h : HkSt := { st := .cal, calFrom := s.tick.num, oor := s.hk.oor }
  { s with hk := if retained then
      { h with fails := s.hk.fails, passes := s.hk.passes, fault := s.hk.fault, checked := s.hk.checked }
    else h }

/-- The converter stops (R469); slots keep their values, and the peaks that were awaited are lost (R467). -/
def hkStop (s : State) : State :=
  { s with
    hk := { s.hk with st := .off, cur := none, due := [], groups := [], level2 := none }
    emit := { s.emit with awaiting := [] } }

/-- The host's group (0xB002:01): the entries before the first input 0xFF. -/
def hostItems (s : State) : List (Nat × Nat) :=
  let b := odBytes s 0xB002 1
  ((List.range 4).map fun i => ((b[2 * i]?.getD 0).toNat, (b[2 * i + 1]?.getD 0).toNat)).takeWhile fun x => x.1 != 0xFF

/-- The host's group waits or runs. -/
def hostGroupBusy (s : State) : Bool := s.hk.groups.any (·.host)

/-- Writes of 0xB002:02 (R463, R470). -/
def hostTriggerHook (s : State) : WriteHook where
  range v := valN v == 0 || !(hostItems s).isEmpty
  gate s v := if valN v = 1 && hostGroupBusy s then some (abState, bump s 0xB040 7) else none
  run s v := .done (if valN v = 1 then hkGroup s true (hostItems s) else s)

/-- HOST_GROUP_TRIGGER (R463). -/
def execHostGroupTrigger (r : Req) (s : State) : Host.Outcome State Fault Refusal :=
  outcome s (requestWrite s r 0xB002 2 [1] hostTriggerHook)

/-- A check of an input is due (R468): in a tick whose number is a multiple of 256, of the other input than the one
before. -/
def checkDue (s : State) (i : Nat) : Bool :=
  (i == 25 || i == 26) && s.tick.num % 256 == 0 && s.hk.checked.all fun x => x.1 != i && x.2 != s.tick.num

/-- CONVERTER_CHECK (R468): a level-2 conversion of a check input, while the converter runs. -/
def execConverterCheck (input : Fin 32) (s : State) : Host.Outcome State Fault Refusal :=
  outcome s <| if s.hk.st = .run && checkDue s input.val then
    let t := hkCheck s input.val
    { t with hk := { t.hk with checked := some (input.val, s.tick.num) } }
  else s

/-- The data register as read, and the register after the read (R465, R466). -/
def readHkData (s : State) : BitVec 32 × State :=
  (s.hk.data, { s with hk := { s.hk with data := s.hk.data &&& 0x3FFFFFFF#32 } })

/-- What a read of an object changes: the data register's VALID and OVR (R465, R466, R470); the moment of a read of the device
time is a free value, drawn anew for the next (R425). -/
def afterRead (s : State) (ix sub : Nat) : State :=
  if ix = 0xB003 && sub = 1 then (readHkData s).2
  else if ix = 0xD030 && sub = 1 then { s with free := s.free + 1 }
  else s

/-- HK_DATA_REGISTER_READ (R465). -/
def execHkDataRegisterRead (s : State) : Host.Outcome State Fault Refusal :=
  outcome s (let r := readHkData s; send r.2 (.readData (leBytes 4 r.1.toNat)))

/-- Writes of the host group (R470). -/
def hostGroupHook (s : State) : WriteHook where
  range v :=
    let b := valBytes v
    (List.range 4).all fun i =>
      let x := (b[2 * i]?.getD 0).toNat
      let m := (b[2 * i + 1]?.getD 0).toNat
      x == 0xFF || (inputPresent s x m && (x == 8 || m == 0))
  gate s _ := if hostGroupBusy s then some (abState, s) else none
  run s v := keep 0xB002 1 s v

/-- A written sequence with the device's own entries 0 to 8 (R460). -/
def withSystem (s : State) (b : Bytes) : Bytes := (defaultSequence s).take 36 ++ b.drop 36

/-- Writes of the regular sequence (R460). -/
def sequenceHook (s : State) : WriteHook where
  range v :=
    let b := withSystem s (valBytes v)
    ((List.range 32).all fun k => k < 9 || (inputPresent s (seqByte b k 0) (seqByte b k 1) &&
      seqByte b k 2 % 8 ≤ 6 && seqByte b k 3 < 2 ^ (seqByte b k 2 % 8))) &&
    (List.range 64).all fun n => (dueEntries b n).length ≤ 20
  run s v := .done (odSet s 0xB001 1 (.bytes (withSystem s (valBytes v))))

/-- Writes of the out-of-range flags: 1 clears (R456). -/
def oorHook (_ : State) : WriteHook where
  run s v := .done { s with hk := { s.hk with oor := s.hk.oor &&& ~~~ (BitVec.ofNat 32 (valN v)) } }

/-- The converter's objects that are no plain settings. -/
def readHk (s : State) (ix sub : Nat) : Option Val :=
  match ix, sub with
  | 0xB000, 1 => some (.num (if s.hk.fault && s.hk.st != .off then 3 else match s.hk.st with
      | .off => 0
      | .cal => 1
      | .run => 2))
  | 0xB002, 2 => some (.num 0)
  | 0xB002, 3 => some (.num (match s.hk.groups.find? (·.host) with
      | none => 0
      | some g => if g.started then 2 else 1))
  | 0xB003, 1 => some (.num s.hk.data.toNat)
  | 0xB020, 1 => some (.bytes ((List.range 48).flatMap fun w => leBytes 4 (tgetD s.hk.slots w 0)))
  | 0xB021, 1 => some (.bytes ((List.range 48).flatMap fun w => leBytes 4 (toBits 32 (hkValue s w))))
  | 0xB022, 1 => some (.num s.hk.oor.toNat)
  | _, _ => none

/-- The write rules of the converter's objects. -/
def hookHk (ix sub : Nat) : Option (State → WriteHook) :=
  match ix, sub with
  | 0xB001, 1 => some sequenceHook
  | 0xB002, 1 => some hostGroupHook
  | 0xB002, 2 => some hostTriggerHook
  | 0xB022, 1 => some oorHook
  | _, _ => none

end Sys2Proof.Machine
end

