-- ==== Sys2Proof/Machine/Emitter.lean ====
section
/-! DEFINITION. The emitter drive (R199 to R227): fades and set-points, the final veto, shots and probes, charge sensing,
diagnosis and heat. -/

namespace Sys2Proof.Machine

/-! ### Fades (R207, R211 to R213) -/

/-- The length of a fade in ticks. -/
def fadeTicks (s : State) : Nat := roundDivN (odN s 0x4000 6 * 78125) 1000

/-- One step of a running fade. -/
def fadeStep (cap : Rat) (x : Bank) : Bank :=
  if x.steps = 0 then x
  else
    let i := x.step + 1
    let phi := x.phi0 + (x.target - x.phi0) * ((i : Nat) : Rat) / ((x.steps : Nat) : Rat)
    let phi := if x.capped && cap < phi then cap else phi
    if i = x.steps then { x with phi := phi, step := 0, steps := 0 } else { x with phi := phi, step := i }

/-- A fade towards a target starts or restarts; its first step falls in the same shadow load. -/
def fadeStart (n : Nat) (target : Rat) (x : Bank) : Bank :=
  let x := { x with phi0 := x.phi, target := target, step := 0, capped := false }
  if x.phi = target then { x with steps := 0 } else fadeStep 0 { x with steps := n }

/-- The fade of one bank in a shadow load: the due step, a derate to a lower energy at once, a new target. M_b is that of the
plan of the tick after the next, for whose shots the step counts (assumption 90). -/
def bankFade (s : State) (lower restart : Bool) (b : Nat) (x : Bank) : Bank :=
  let top : Rat := ((energyTop s (planAt s (s.tick.num + 2)) b : Nat) : Rat)
  let cap := top * derateScale s.emit.derate
  let x := fadeStep cap x
  let x := if lower && cap < x.phi then { x with phi := cap } else x
  let x := if lower && s.emit.state = .fadeOut then { x with capped := true } else x
  let target := if s.emit.state = .fadeIn || s.emit.state = .on then cap else 0
  if target = x.target && !restart then x else fadeStart (fadeTicks s) target x

/-- The transition of R207 that a command or the end of all causes makes, and whether it starts a fade. An enable waits
until the EMIT domain is up, since emission is OFF throughout its start-up (R225; assumption 76). -/
def emitRequest (s : State) : State × Bool :=
  let e := s.emit
  let go (st : EmState) : State × Bool := ({ s with emit := { e with state := st, request := none } }, true)
  match e.state, e.request with
  | .off, some true => if domOn s .emit then go .fadeIn else (s, false)
  | .fadeOut, some true => go .fadeIn
  | .fadeIn, some false => go .fadeOut
  | .on, some false => go .fadeOut
  | .halted, _ =>
    if e.active = 0 && e.latched = 0 then ({ s with emit := { e with state := .off, request := none } }, false)
    else ({ s with emit := { e with request := none } }, false)
  | _, _ => ({ s with emit := { e with request := none } }, false)

/-- The banks of the variant. -/
def bankList (s : State) : List Nat := List.range (nBank s)

/-- The fades of a shadow load and the transitions that they complete. -/
def emitFades (s : State) : State :=
  let r := emitRequest s
  let s := r.1
  let lower := s.emit.derate < s.emit.derateNext
  let s := { s with emit := { s.emit with derate := s.emit.derateNext } }
  let s := (bankList s).foldl (fun t b => setBank t b (bankFade s lower r.2 b (getBank s b))) s
  let done := (bankList s).all fun b => (getBank s b).steps = 0
  match s.emit.state with
  | .fadeIn => if done then { s with emit := { s.emit with state := .on } } else s
  | .fadeOut =>
    if done then stopRecord (banksZero { s with emit := { s.emit with state := .off } }) else s
  | _ => s

/-- The set-points for the shots of the tick after the next (R205). -/
def emitSetPoints (s : State) : State :=
  let u := s.tick.num + 2
  (bankList s).foldl (fun t b =>
    let x := getBank s b
    let sp := match columnAt s u with
      | some c =>
        if bankOff x || emissionOff s then {} else bankSetPoint s (energyTop s (planAt s u) b) b (colClass c b) x.phi
      | none => {}
    setBank t b { x with next := sp }) s

/-! ### The final veto (R194, R210, R252) -/

/-- The gate of R252 at the latest latch. -/
def servoGate (s : State) : Bool := s.servo.h.gate && s.servo.v.gate

/-- Trigger width of a class in 250 ps, and whether two pulses would need it cut (R200, R201). -/
def pulseWidth (s : State) (b k : Nat) (two : Bool) : Nat × Bool :=
  let w := if ((odBytes s 0x4004 2)[b]?.getD 0) = 0 then (eclass s k).w else 8
  let lim := 4 * (s.rx.dith.gap - 4)
  if two && lim < w then (lim, true) else (w, false)

/-- An emitter's later shots of a column are withheld from a tick on. -/
def withhold (s : State) (c : ColRun) (e u : Nat) (fovea : Bool) : State :=
  if fovea then updCol s c.seq fun c => { c with foveaCut := tset c.foveaCut e u } else cutFrom s c.seq e u

/-- The gate of R252 has withheld a shot of an emitter, whose later shots of the column it then withholds too. -/
def markGated (s : State) (seq e : Nat) : State := updCol s seq fun c => { c with gated := c.gated ||| (1#64 <<< e) }

/-- The final veto of one emitter for the shot of the next tick; the flag says that the gate of R252 withheld it. -/
def vetoShot (s : State) (c : ColRun) (e : Nat) : State × Bool :=
  let u := s.tick.num + 1
  match plannedShot c e u with
  | none => (s, !servoGate s && c.gated.getLsbD e)
  | some (k, fovea) =>
    let s := weirRelease s fun p => p.e == e && p.tick == u
    let b := e / 8
    let sp := (getBank s b).now
    let q := modelCharge (eclass s k) sp
    let d := emDir s c e ((u - c.first : Nat) : Rat)
    let x := cellOf s d.1 d.2
    if emissionOff s || !domOn s .emit || !emAllowed s e then (withhold s c e u fovea, false)
    else if !servoGate s then (markGated (withhold s c e u fovea) c.seq e, true)
    else if !weirAllows s false x u q then (withhold (bump s 0x4028 2) c e u fovea, false)
    else
      let w := pulseWidth s b k c.twoPulse
      let s := if w.2 then bump (weirCharge s x u q) 0x4016 5 else weirCharge s x u q
      let launch := 16 * ditherOffset c.dither s.rx.codes1 e + ((odBytes s 0x4004 1)[e]?.getD 0).toNat
      let shot : Shot := {
        cls := k, launch := launch, width := w.1, second := if c.twoPulse then s.rx.dith.gap else 0
        cell := x, energy := q, charge := modelPulse (eclass s k) sp }
      ({ s with emit := { s.emit with shadow := tset s.emit.shadow e shot } }, false)

/-- The shots of the next tick, emitters in order; whether the gate withheld one. -/
def vetoShots (s : State) : State × Bool :=
  let s := { s with emit := { s.emit with shadow := [] } }
  match columnAt s (s.tick.num + 1) with
  | none => (s, false)
  | some c => (List.range (nEmit s)).foldl (fun r e => let t := vetoShot r.1 c e; (t.1, r.2 || t.2)) (s, false)

/-! ### Probes (R219) -/

/-- The set-point of a bank allows a probe. -/
def probeVoltage (s : State) (b : Nat) : Bool := 100 * odN (modelView s) 0x4011 1 ≤ (getBank s b).now.uv

/-- An emitter is due for a probe. -/
def probeDue (s : State) (e : Nat) : Bool := odN s 0x4011 5 ≤ since s (getEmitter s e).lastProbe

/-- The result of an emitter's latest probe is still awaited. -/
def probeAwaited (s : State) (e : Nat) : Bool := ((tget s.emit.awaiting (e / 4)).map fun p => p.e == e).getD false

/-- The emitter of a group that a probe is for: a scheduled one first, else the lowest-numbered due one, of those that may
fire. -/
def probeCandidate (s : State) (j : Nat) : Option Nat :=
  let l := ((List.range 4).map (4 * j + ·)).filter fun e => emAllowed s e && !probeAwaited s e
  (l.find? fun e => (getEmitter s e).scheduled).orElse fun _ => l.find? (probeDue s)

/-- The charge of a probe at the bank's set-point, in 1/256 nJ. -/
def probeCharge (s : State) (sp : SetPoint) : Nat :=
  let v := odN (modelView s) 0x4011 1
  (roundQ (256 * ((odN (modelView s) 0x4011 2 : Nat) : Rat) * sp.v2 / ((v * v : Nat) : Rat))).toNat

/-- Probe selection of one group in a shadow load; the flag says that the gate withheld a due probe. -/
def selectProbe (s : State) (j : Nat) : State × Bool :=
  match probeCandidate s j with
  | none => (s, false)
  | some e =>
    if !odB s 0x4011 6 || !domOn s .emit || !probeVoltage s (e / 8) then (s, false)
    else if !servoGate s then (s, true)
    else
      let u := s.tick.num + 1
      let sp := (getBank s (e / 8)).now
      let v : Rat := ((odN (modelView s) 0x4011 1 * 1000 : Nat) : Rat)
      let r : Rat := ((sp.uv : Nat) : Rat) / v
      let q := probeCharge s sp
      let d := ((columnAt s u).map fun c => emDir s c e ((u - c.first : Nat) : Rat)).getD (0, 0)
      let x := cellOf s d.1 d.2
      if !weirAllows s false x u q then (bump s 0x4028 2, false)
      else
        let p : Probe := { e := e, tick := s.tick.num, cell := x, energy := q, charge := ((odN (modelView s) 0x4011 3 : Nat) : Rat) * r
                           peak := ((odN (modelView s) 0x4011 4 : Nat) : Rat) * r }
        let s := weirCharge s x u q
        ({ s with emit := { s.emit with probes := s.emit.probes ++ [p] } }, false)

/-- Emitters that have stayed due for longer than two intervals of ticks with emission on are counted once (R219). -/
def probeOverdue (s : State) : State :=
  if emissionOff s then s
  else (List.range (nEmit s)).foldl (fun s e =>
    let x := getEmitter s e
    if !probeDue s e || probeAwaited s e then s
    else
      let s := setEmitter s e { x with dueFor := x.dueFor + 1, overdue := x.overdue || 2 * odN s 0x4011 5 ≤ x.dueFor }
      if !x.overdue && 2 * odN s 0x4011 5 ≤ x.dueFor then bump s 0x4016 3 else s) s

/-- The emitter drive's part of the shadow load (R224). -/
def emitShadow (s : State) : State :=
  let s := emitSetPoints (emitFades s)
  let r := vetoShots s
  let s := { r.1 with emit := { r.1.emit with probes := [] } }
  let p := (List.range (nEmit s / 4)).foldl (fun r j => let t := selectProbe r.1 j; (t.1, r.2 || t.2)) (s, false)
  let s := probeOverdue p.1
  if (r.2 || p.2) && emissionOn s then bump s 0x5070 6 else s

/-- Whether a set-point step suspends the comparison (R206): more than 1 % of the set-point before it (assumption 90), or to
or from code 0. -/
def bigStep (a b : SetPoint) : Bool :=
  (a.uv == 0) != (b.uv == 0) || a.uv < 100 * (max a.uv b.uv - min a.uv b.uv)

/-- The emitter drive at t+0: schedule and set-points of the shadow take effect (R205, R224). -/
def emitTick (s : State) (apply : Bool) : State :=
  let n := odN s 0x4007 2
  let f (x : Bank) : Bank :=
    if apply then { x with shotSp := x.now, now := x.next, settle := if bigStep x.now x.next then n else x.settle }
    else { x with shotSp := x.now }
  { s with emit := { s.emit with
    banks := s.emit.banks.map fun p => (p.1, f p.2)
    shots := if apply then s.emit.shadow else [], shadow := [], probes := [], model := modelObjects s } }

/-! ### Shots and probes in the tick -/

/-- Whether the triggers are gated: emission off, an inhibit, or the EMIT domain not up (R199, R209). -/
def trigGated (s : State) : Bool := emissionOff s || s.emit.active != 0 || !domOn s .emit

/-- A second pulse's edge leaves EMIT (R201, R202): that of a shot that has fired, unless an inhibit came before it. -/
def secondEdge (s : State) (e : Nat) : State :=
  match tget s.emit.shots e with
  | some x =>
    if !x.fired || x.second = 0 || trigGated s then s
    else { s with emit := { s.emit with shots := tset s.emit.shots e { x with secondOut := true } } }
  | none => s

/-- A trigger edge leaves EMIT (R202, R209): none does while the triggers are gated. -/
def launchShot (s : State) (e : Nat) : State × Bool :=
  match tget s.emit.shots e with
  | some x =>
    if x.fired || trigGated s then (s, false)
    else (bump { s with emit := { s.emit with shots := tset s.emit.shots e { x with fired := true } } } 0x4016 1, true)
  | none => (s, false)

/-- A group of peak holds is submitted to the converter; one that its queue does not take is lost, and so are its results
(R463, R467). -/
def submitPeaks (s : State) (g : List (Nat × Nat)) : State :=
  if g.isEmpty then s
  else if s.hk.st != .run || probeQueueFull s then
    { s with emit := { s.emit with awaiting := g.foldl (fun t x => tdel t x.2) s.emit.awaiting } }
  else hkGroup s false g

/-- PROBE_PULSE (R219): the selected probes fire, and their peak holds are requested for conversion in groups of up to four
mux selects. An emitter stays due until its result comes (R467). -/
def probePulse (s : State) : State :=
  let ps := s.emit.probes
  if ps.isEmpty || s.emit.active ≠ 0 || !domOn s .emit then { s with emit := { s.emit with probes := [] } }
  else
    let s := bumpBy { s with emit := { s.emit with
      probes := [], probed := ps
      awaiting := ps.foldl (fun t p => tset t (p.e / 4) p) s.emit.awaiting } } 0x4016 2 ps.length
    let items := ps.map fun p => (8, p.e / 4)
    [0, 1, 2, 3].foldl (fun s i => submitPeaks s ((items.drop (4 * i)).take 4)) s

/-- PROBE_PULSE. -/
def execProbePulse (s : State) : Host.Outcome State Fault Refusal := outcome s (probePulse s)

/-! ### Diagnosis (R216 to R220) -/

/-- A bank goes BANK_OFF: its set-point to code 0 at once, which is a step where it was not 0 (R206). -/
def bankDisable (s : State) (b : Nat) (st : BankState) : State :=
  let x := getBank s b
  setBank s b { x with
    st := st, now := {}, next := {}, settle := if x.now.uv = 0 then x.settle else odN s 0x4007 2 }

/-- A state that is reported as a fault. -/
def diagBad (d : Diag) : Bool := d == .weak || d == .opened || d == .short || d == .stuckOn

/-- A state that holds until SERVICE clears it. -/
def diagHeld (d : Diag) : Bool := d == .opened || d == .short || d == .stuckOn

/-- An emitter enters a diagnosis state (R220). -/
def setDiag (s : State) (e : Nat) (d : Diag) : State :=
  let x := getEmitter s e
  if diagHeld x.diag || x.diag = d then s
  else
    let s := setEmitter s e { x with diag := d }
    let s := if d = .short then bankDisable s (e / 8) .short else s
    if diagBad d then reportFault (bump s 0x4016 9) .beam else s

/-- The state that a ratio decides, against the percentages o, w and s. -/
def diagOf (s : State) (r : Rat) : Diag :=
  let p := 100 * r
  if p < ((odN s 0x4012 1 : Nat) : Rat) then .opened
  else if p < ((odN s 0x4012 2 : Nat) : Rat) then .weak
  else if p ≤ ((odN s 0x4012 3 : Nat) : Rat) then .ok
  else .short

/-- A group's diagnosis. -/
def getGroup (s : State) (j : Nat) : Group := tgetD s.emit.groups j {}

/-- The state with a group's diagnosis. -/
def setGroup (s : State) (j : Nat) (x : Group) : State := { s with emit := { s.emit with groups := tset s.emit.groups j x } }

/-- The pivots and the solution of a symmetric system by elimination without exchange: rows with their right-hand side.
None where a pivot falls below the bound. -/
def solveAux : Nat → Rat → List (List Rat × Rat) → Option (List Rat)
  | 0, _, _ => some []
  | k + 1, lim, rows =>
    match rows with
    | [] => some []
    | (r, b) :: rest =>
      match r with
      | [] => some []
      | p :: ps =>
        if p < lim || p ≤ 0 then none
        else
          let next := rest.map fun x =>
            let f := (x.1.headD 0) / p
            ((x.1.drop 1).zipWith (fun a c => a - f * c) ps, x.2 - f * b)
          (solveAux k lim next).map fun sol =>
            let t := (ps.zipWith (· * ·) sol).foldl (· + ·) 0
            (b - t) / p :: sol

/-- The ratios of the emitters fired in a window (R216); none where the pivot test fails. -/
def windowSolve (x : Group) : Option (List (Nat × Rat)) :=
  let es := (List.range 4).filter fun i => x.fired.getLsbD i
  let at' (i j : Nat) : Rat := x.a.getD (4 * i + j) 0
  let top := es.foldl (fun m i => max m (at' i i)) 0
  (solveAux 4 (top / 64) (es.map fun i => (es.map (at' i), x.bv.getD i 0))).map fun sol => es.zip sol

/-- DIAGNOSIS_WINDOW (R216, R217): the window of a group is evaluated and restarts empty. A window whose fired emitters have
model charge 0 gives no finding, and a ratio outside what 0x4013:02 holds is held at its bound (assumption 90). -/
def diagnosisWindow (s : State) (j : Nat) : State :=
  let x := getGroup s j
  if x.ticks < 1024 || nEmit s / 4 ≤ j then s
  else
    let s := setGroup s j { quietRun := x.quietRun, below := x.below, stuck := x.stuck }
    let es := (List.range 4).filter fun i => x.fired.getLsbD i
    match windowSolve x with
    | some l => l.foldl (fun s p =>
        let e := 4 * j + p.1
        setDiag (setEmitter s e { getEmitter s e with ratio := satN 16 (roundQ (1024 * p.2)).toNat }) e (diagOf s p.2)) s
    | none =>
      let sq := (List.range 4).foldl (fun a i => a + x.bv.getD (4 + i) 0) 0
      let n : Rat := ((es.length : Nat) : Rat)
      let w : Rat := ((odN s 0x4012 2 : Nat) : Rat) / 100
      let h : Rat := ((odN s 0x4012 3 : Nat) : Rat) / 100
      if es.isEmpty || sq = 0 then s
      else
        let rho := x.sumQ / sq
        if rho < 1 - (1 - w) / n then
          es.foldl (fun s i => setEmitter s (4 * j + i) { getEmitter s (4 * j + i) with scheduled := true }) (bump s 0x4016 4)
        else if 1 + (h - 1) / n < rho then es.foldl (fun s i => setDiag s (4 * j + i) .short) (bump s 0x4016 4)
        else s

/-- DIAGNOSIS_WINDOW. -/
def execDiagnosisWindow (g : Fin 16) (s : State) : Host.Outcome State Fault Refusal := outcome s (diagnosisWindow s g.val)

/-- STUCK_ON (R218): two consecutive quiet integrals above the threshold. -/
def stuckOn (s : State) (j : Nat) : State :=
  let x := getGroup s j
  if x.quietRun < 2 || x.stuck || nEmit s / 4 ≤ j then s
  else
    let s := setGroup s j { x with stuck := true, below := 0 }
    let s := (List.range 4).foldl (fun s i =>
      let e := 4 * j + i
      if (getEmitter s e).diag = .stuckOn then s
      else reportFault (bump (setEmitter s e { getEmitter s e with diag := .stuckOn }) 0x4016 9) .beam) s
    inhibit (bankDisable s (j / 2) .stuckOn) 7

/-- STUCK_ON. -/
def execStuckOn (g : Fin 16) (s : State) : Host.Outcome State Fault Refusal := outcome s (stuckOn s g.val)

/-- STUCK_ON_CLEAR (R218): 64 consecutive quiet ticks; the cause ends with the last group. -/
def stuckOnClear (s : State) (j : Nat) : State :=
  let x := getGroup s j
  if x.stuck && 64 ≤ x.below then
    let s := setGroup s j { x with stuck := false }
    if s.emit.groups.any fun p => p.2.stuck then s else inhibitClear s 7
  else s

/-- STUCK_ON_CLEAR. -/
def execStuckOnClear (g : Fin 16) (s : State) : Host.Outcome State Fault Refusal := outcome s (stuckOnClear s g.val)

/-- Writes of 0x4013:03 (R220): the emitters return to UNTESTED and their banks to service. -/
def diagClearHook (_ : State) : WriteHook where
  run s v := .done <| (List.range (nEmit s)).foldl (fun s e =>
    if (valN v).testBit e then
      let s := setEmitter s e { getEmitter s e with diag := .untested }
      setBank s (e / 8) { getBank s (e / 8) with st := .ok }
    else s) s

/-- DIAGNOSIS_CLEAR (R220). -/
def execDiagnosisClear (r : Req) (mask : BitVec 64) (s : State) : Host.Outcome State Fault Refusal :=
  outcome s (requestWrite s r 0x4013 3 (leBytes 8 mask.toNat) diagClearHook)

/-! ### The latch at t+10.0 µs (R193, R205, R206, R214 to R218) -/

/-- The bank's slot is read back where its conversion ended in this tick, and compared while the EMIT domain is on and no
ADC_FAULT holds (R206, R467, R468). -/
def bankCompare (s : State) (b : Nat) : State :=
  let x := getBank s b
  let y := { x with settle := x.settle - 1 }
  if tget s.hk.own b != some s.tick.num then setBank s b y
  else
    let mv := (hkValue s b).toNat
    let y := { y with readback := mv }
    if x.settle ≠ 0 || !domOn s .emit || s.hk.fault then setBank s b y
    else
      let x := y
      let uv := x.now.uv
      let tooHigh : Bool := if uv = 0 then odN s 0x4005 (9 + b) < 20 * mv
        else uv * (100 + odN s 0x4007 1) < 100000 * mv
      let under : Bool := uv ≠ 0 && 100000 * mv < uv * (100 - odN s 0x4007 1)
      if tooHigh || under then
        setBank s b (if x.locked then x else { x with run := x.run + 1, overSeen := x.overSeen || tooHigh })
      else setBank s b { x with run := 0, overSeen := false, locked := false }

/-- BANK_VOLTAGE_FAULT (R206). A bank in UNDER stays so until a diagnosis clear or a power-up of EMIT (assumption 24). -/
def bankVoltageFault (s : State) (b : Nat) : State :=
  let x := getBank s b
  if x.run < 64 || x.locked || nBank s ≤ b then s
  else
    let s := bump (setBank s b { x with run := 0, overSeen := false, locked := true }) 0x4016 8
    if x.overSeen then bankDisable s b .overVoltage
    else if bankOff x then s else setBank s b { getBank s b with st := .under }

/-- BANK_VOLTAGE_FAULT. -/
def execBankVoltageFault (b : Fin 8) (s : State) : Host.Outcome State Fault Refusal := outcome s (bankVoltageFault s b.val)

/-- What was fired into an emitter's integral: charge in pC, energy in 1/256 nJ, cell; shots of this tick, and probes of the
end of the tick before. -/
def firedInto (s : State) : List (Nat × Rat × Nat × Nat) :=
  ((s.emit.shots.filter fun p => p.2.fired).map fun p => (p.1, p.2.charge, p.2.energy, p.2.cell)) ++
    s.emit.probed.map fun p => (p.e, p.charge, p.energy, p.cell)

/-- The reservoir correction of a group in pC (R205). -/
def reservoirCharge (s : State) (j : Nat) : Rat :=
  let x := getBank s (j / 2)
  ((odN s 0x4005 (0x11 + j) : Nat) : Rat) * (((x.now.uv : Int) - (x.shotSp.uv : Int) : Int) : Rat) / 1000

/-- The corrected tick integral of a group in pC. -/
def groupCharge (s : State) (x : LatchInputs) (j : Nat) : Rat := ((x.charge.getD j 0 : Nat) : Rat) - reservoirCharge s j

/-- Measured excess of a bank (R193, R215): the excess charge as energy, shared among the cells of its shots. -/
def bankExcess (s : State) (x : LatchInputs) (b : Nat) : State :=
  let l := (firedInto s).filter fun p => p.1 / 8 == b
  let q := l.foldl (fun a p => a + p.2.1) 0
  let e : Rat := (((l.foldl (fun a p => a + p.2.2.1) 0 : Nat)) : Rat)
  let m := groupCharge s x (2 * b) + groupCharge s x (2 * b + 1)
  if q ≤ 0 || e = 0 || m ≤ q then s
  else
    let ex := (m - q) * e / q
    bump (l.foldl (fun s p =>
      weirCharge s p.2.2.2 s.tick.num (roundQ (ex * ((p.2.2.1 : Nat) : Rat) / e)).toNat) s) 0x4028 3

/-- A group's window and its quiet run in a latch (R216, R218). The second half of `bv` sums the model charges. A tick whose
correction of R205 applies is left out of the runs and breaks none (assumption 90). -/
def groupLatch (s : State) (x : LatchInputs) (j : Nat) : State :=
  let g := getGroup s j
  let fired := (firedInto s).filter fun p => p.1 / 4 == j
  let qe (i : Nat) : Rat := fired.foldl (fun a p => if p.1 % 4 = i then a + p.2.1 else a) 0
  let qn := groupCharge s x j
  let g := if fired.isEmpty || 1024 ≤ g.ticks then g
    else { g with
      ticks := g.ticks + 1, sumQ := g.sumQ + qn
      a := (List.range 16).map fun m => g.a.getD m 0 + qe (m / 4) * qe (m % 4)
      bv := (List.range 8).map fun m => g.bv.getD m 0 + (if m < 4 then qe m * qn else qe (m - 4))
      fired := fired.foldl (fun m p => m ||| (1#4 <<< (p.1 % 4))) g.fired }
  let quiet := x.quiet.getD j 0
  let lim := odN s 0x4012 4
  let g := if reservoirCharge s j ≠ 0 then g
    else { g with quietRun := if lim < quiet then g.quietRun + 1 else 0
                  below := if quiet < lim then g.below + 1 else 0 }
  setGroup s j g

/-- The emitter drive's part of the latch. -/
def emitLatch (s : State) (x : LatchInputs) : State :=
  let s := (bankList s).foldl (fun s b => bankCompare (bankExcess s x b) b) s
  let s := (List.range (nEmit s / 4)).foldl (fun s j => groupLatch s x j) s
  { s with emit := { s.emit with probed := [] } }

/-- POSITION_SAMPLE_LATCH (R258): the servo's latch, the position of external axes for Headwater, Weir's measured charge,
the bank-voltage comparison. -/
def execPositionSampleLatch (x : LatchInputs) (s : State) : Host.Outcome State Fault Refusal :=
  outcome s (emitLatch (columnLatch (planLatch (servoLatch (endListen s) x.sdm))) x)

/-! ### Heat (R221 to R223) -/

/-- The mean of the readings held, in 10^−6 °C, rounded. -/
def meanTemp (s : State) : Int := roundDiv (s.emit.ntc.foldl (· + ·) 0) (max 1 s.emit.ntc.length)

/-- The derate level after a mean temperature, from the level before (R221). -/
def derateLevel (s : State) (d : Nat) (t : Int) : Nat :=
  let at' (k : Nat) : Int := 100000 * (odI s 0x4015 1 + ((k - 1 : Nat) : Int) * odI s 0x4015 2)
  let h : Int := 100000 * odI s 0x4015 3
  let up := (List.range 4).foldl (fun m k => if k ≠ 0 && at' k ≤ t then max m k else m) d
  if up ≠ d then up
  else [3, 2, 1].foldl (fun m k => if m = k && t < at' k - h then k - 1 else m) d

/-- A valid reading (R221, R222, R223); a change of the derate level or of cause THERMAL sets THERMAL (R380). -/
def ntcValid (s : State) (t : Int) : State :=
  let e := s.emit
  let s := { s with emit := { e with ntc := (t :: e.ntc).take 4, validRun := e.validRun + 1, badRun := 0 } }
  let s := if s.emit.ntcFault && 4 ≤ s.emit.validRun then
      inhibitClear { s with emit := { s.emit with ntcFault := false } } 6 else s
  let m := meanTemp s
  let d := derateLevel s e.derateNext m
  let s := if e.derateNext < d then bump s 0x4016 6 else s
  let s := if e.derateNext ≠ d then setInt { s with emit := { s.emit with derateNext := d } } 12 else s
  if !s.emit.thermal && 100000 * odI s 0x4015 4 ≤ m then
    setInt (inhibit (bump { s with emit := { s.emit with thermal := true } } 0x4016 7) 5) 12
  else if s.emit.thermal && m < 100000 * odI s 0x4015 5 then
    setInt (inhibitClear { s with emit := { s.emit with thermal := false } } 5) 12
  else s

/-- An invalid reading (R223). -/
def ntcInvalid (s : State) : State :=
  let s := { s with emit := { s.emit with validRun := 0, badRun := s.emit.badRun + 1 } }
  if 4 ≤ s.emit.badRun && !s.emit.ntcFault then inhibit { s with emit := { s.emit with ntcFault := true } } 6 else s

/-- A reading of the NTC; where the formula divides by zero the temperature is a free value (assumption 77). -/
def ntcReading (s : State) (code : Nat) (oor : Bool) : State :=
  if oor || s.hk.fault then ntcInvalid s
  else match ntcInverse s code with
  | none => ntcInvalid s
  | some inv =>
    if inv = 0 then
      let f := takeFree s
      ntcValid f.2 ((f.1 : Nat) : Int)
    else ntcValid s (ntcTemp inv)

/-- A probe has its result: the next interval runs from its tick (R219). -/
def probeDone (s : State) (p : Probe) : State :=
  setEmitter s p.e { getEmitter s p.e with scheduled := false, lastProbe := p.tick, dueFor := 0, overdue := false }

/-- A probe's peak reading (R219, R220). With a model of 0 the ratio is open: a free value decides (assumption 14). -/
def probePeak (s : State) (j code : Nat) : State :=
  match tget s.emit.awaiting j with
  | none => s
  | some p =>
    let s := probeDone { s with emit := { s.emit with awaiting := tdel s.emit.awaiting j } } p
    let i : Rat := ((code * 1800 * odN s 0xB012 (j + 1) : Nat) : Rat) / 409500
    if p.peak = 0 then
      let f := takeFree s
      setDiag f.2 p.e (diagOf f.2 (((f.1 : Nat) : Rat) / 100))
    else setDiag s p.e (diagOf s (i / p.peak))

/-- CONVERSION_COMPLETE (R455 to R468): the result, and what the emitter drive takes from it. -/
def execConversionComplete (raw : Fin 4096) (oor : Bool) (s : State) : Host.Outcome State Fault Refusal :=
  let r := hkComplete s raw.val oor
  outcome s <| match r.2 with
    | .none => r.1
    | .ntc code o => ntcReading r.1 code o
    | .peak j code _ => probePeak r.1 j code

/-! ### Commands (R207, R208) -/

/-- Writes of 0x4000:01 (R207). -/
def enableHook (_ : State) : WriteHook where
  gate s v :=
    if valN v = 1 && (s.emit.state = .halted || (s.emit.state = .off && s.emit.active ≠ 0)) then some (abState, s)
    else none
  run s v :=
    let b := valN v == 1
    if b && (s.emit.state == .fadeIn || s.emit.state == .on) || !b && (s.emit.state == .off || s.emit.state == .halted) then
      .done { s with emit := { s.emit with enable := b, request := none } }
    else .done { s with emit := { s.emit with enable := b, request := some b } }

/-- EMISSION_ENABLE (R207). -/
def execEmissionEnable (r : Req) (s : State) : Host.Outcome State Fault Refusal :=
  outcome s (requestWrite s r 0x4000 1 [1] enableHook)

/-- EMISSION_DISABLE (R207). -/
def execEmissionDisable (r : Req) (s : State) : Host.Outcome State Fault Refusal :=
  outcome s (requestWrite s r 0x4000 1 [0] enableHook)

/-- Writes of 0x4000:03 (R208): every latched cause that is no longer active is cleared. With the pin attended it clears
the stuck latch and the island's cause as well (R474). -/
def ackHook (_ : State) : WriteHook where
  run s v := .done (if valN v = 1 then
    let s := { s with emit := { s.emit with latched := s.emit.latched &&& s.emit.active } }
    if s.boot.stuck && !s.boot.ignored then islClear { s with boot := { s.boot with stuck := false } } 15 else s
  else s)

/-- FAULT_ACKNOWLEDGE (R208). -/
def execFaultAcknowledge (r : Req) (s : State) : Host.Outcome State Fault Refusal :=
  outcome s (requestWrite s r 0x4000 3 [1] ackHook)

/-! ### Power (R225) -/

/-- Power-up of the EMIT domain: banks OK at code 0, every present emitter UNTESTED. -/
def emitStart (s : State) : State :=
  let s := { s with emit := { s.emit with
    banks := (List.range (nBank s)).map fun b => (b, {})
    emitters := (List.range (nEmit s)).map fun e => (e, { lastProbe := s.tick.num })
    groups := (s.emit.groups.filter fun p => p.2.stuck).map fun p => (p.1, { stuck := true })
    shots := [], shadow := [], probes := [], probed := [], awaiting := [] } }
  weirStart s

/-- The bank check at the end of the start-up: a bank that reads 5 % of its maximum or more is BANK_OFF. -/
def emitStarted (s : State) : State :=
  (bankList s).foldl (fun s b =>
    if odN s 0x4005 (9 + b) ≤ 20 * (hkValue s b).toNat then
      let s := bankDisable s b .overVoltage
      bump (setBank s b { getBank s b with run := 0, overSeen := false, locked := true }) 0x4016 8
    else s) s

/-- The EMIT domain is off: triggers idle, set-points at code 0, emission OFF until it is enabled again (R199, R225). -/
def emitOffPower (s : State) : State :=
  let s := banksZero (if emissionOn s then stopRecord s else s)
  { s with emit := { s.emit with
    state := if emissionOn s then .off else s.emit.state, enable := false, request := none
    shots := [], shadow := [], probes := [], probed := [], awaiting := [] } }

/-! ### Objects -/

/-- The code of an emission state. -/
def emCode : EmState → Nat
  | .off => 0
  | .fadeIn => 1
  | .on => 2
  | .fadeOut => 3
  | .halted => 4

/-- The code of a bank state. -/
def bankCode : BankState → Nat
  | .ok => 0
  | .under => 1
  | .overVoltage => 2
  | .short => 3
  | .stuckOn => 4

/-- The code of a diagnosis state. -/
def diagCode : Diag → Nat
  | .untested => 0
  | .ok => 1
  | .weak => 2
  | .opened => 3
  | .short => 4
  | .stuckOn => 5

/-- The emitter objects that are no plain settings. -/
def readEmit (s : State) (ix sub : Nat) : Option Val :=
  let num (n : Nat) : Option Val := some (.num n)
  match ix, sub with
  | 0x4000, 1 => num (b2n s.emit.enable)
  | 0x4000, 2 => num (emCode s.emit.state)
  | 0x4000, 3 => num 0
  | 0x4000, 4 => num s.emit.active.toNat
  | 0x4000, 5 => num s.emit.latched.toNat
  | 0x4004, 3 => num (odN s 0x4004 3 % 2 ^ nEmit s)
  | 0x4013, 1 => some (.bytes ((List.range 64).flatMap fun e => leBytes 1 (diagCode (getEmitter s e).diag)))
  | 0x4013, 2 => some (.bytes ((List.range 64).flatMap fun e => leBytes 2 (getEmitter s e).ratio))
  | 0x4013, 3 => num 0
  | 0x4014, 1 => some (.bytes ((List.range 8).flatMap fun b => leBytes 1 (bankCode (getBank s b).st)))
  | 0x4015, 9 => some (.num (if s.emit.ntc.isEmpty then 0 else roundDiv (meanTemp s) 100000))
  | 0x4015, 0x0A => num s.emit.derateNext
  | _, _ =>
    if ix = 0x4001 then some (.num (roundQ (getBank s (sub - 1)).phi))
    else if ix = 0x4002 then num (roundDivN (getBank s (sub - 1)).now.uv 1000)
    else if ix = 0x4003 then num (getBank s (sub - 1)).readback
    else none

/-- A byte array whose entries beyond those present read zero and ignore writes (R226): `n` bytes are present. -/
def arrayHook (ix sub : Nat) (n : State → Nat) (ok : Nat → Bool) (s : State) : WriteHook where
  range v := ((valBytes v).take (n s)).all fun b => ok b.toNat
  run s v :=
    let b := valBytes v
    .done (odSet s ix sub (.bytes (b.take (n s) ++ zeros (b.length - n s))))

/-- The relations of R222 among 0x4015:01 to 05 with one of them replaced. -/
def thermalOk (s : State) (sub : Nat) (v : Int) : Bool :=
  let g (k : Nat) : Int := if k = sub then v else odI s 0x4015 k
  g 1 + 2 * g 2 + g 3 < g 4 && g 5 < g 4

/-- The write rules of the emitter objects. -/
def hookEmit (ix sub : Nat) : Option (State → WriteHook) :=
  match ix, sub with
  | 0x4000, 1 => some enableHook
  | 0x4000, 3 => some ackHook
  | 0x4004, 1 => some (arrayHook 0x4004 1 nEmit fun n => n ≤ 15)
  | 0x4004, 2 => some (arrayHook 0x4004 2 nBank fun n => n ≤ 1)
  | 0x4026, 1 => some (arrayHook 0x4026 1 (fun s => 4 * nEmit s) fun _ => true)
  | 0x4013, 3 => some diagClearHook
  | 0x4012, 2 => some fun s => { range := fun v => odN s 0x4012 1 + 5 ≤ valN v, run := keep 0x4012 2 }
  | _, _ =>
    if ix = 0x4015 && 1 ≤ sub && sub ≤ 5 then
      some fun s => { range := fun v => thermalOk s sub v.int, run := keep 0x4015 sub }
    else none

end Sys2Proof.Machine
end

