-- ==== Sys2Proof/Machine/RingOps.lean ====
section
/-! DEFINITION. The push rings (R388 to R392): staging, publishing, signalling and losses. -/

namespace Sys2Proof.Machine

/-- Whether a link carries writes to host memory: up and in D0, with Bus Master Enable (R371, R391). -/
def hostReady (s : State) : Bool := s.host.linkUp && s.host.bme && !s.host.d3

/-- A ring. -/
def getRing (s : State) (r : Nat) : Ring := tgetD s.host.rings r {}

/-- The state with a ring. -/
def setRing (s : State) (r : Nat) (x : Ring) : State := { s with host := { s.host with rings := tset s.host.rings r x } }

/-- The bytes of a ring entry: the ring word, the unit word and the words (R390). -/
def entryLen (u : OutUnit) : Nat := 8 * (2 + u.words.length)

/-- The bytes of an entry in order. -/
def entryBytes (u : OutUnit) : Bytes :=
  leBytes 8 u.stream ++ leBytes 8 u.word.toNat ++ u.words.flatMap fun w => leBytes 8 w.toNat

/-- The size of a ring in bytes. -/
def ringBytes (x : Ring) : Nat := 2 ^ x.size

/-- The free space of a ring (R391). -/
def ringFree (x : Ring) : Nat :=
  ringBytes x - ((x.head + ringBytes x - x.tail % ringBytes x) % ringBytes x) - 8

/-- The bytes staged. -/
def stagedBytes (x : Ring) : Nat := x.staged.foldl (fun a u => a + entryLen u) 0

/-- The bytes of the whole entries staged that pull reads have not consumed (AVAIL). -/
def ringAvail (x : Ring) : Nat := stagedBytes x - x.pulled

/-- CONTENT of a unit (R361). -/
def unitContent (u : OutUnit) : Nat := u.word.toNat / 256 % 256

/-- The frame of a line unit. Two frames of a camera are two frames, whatever FRAME_NO they carry. -/
def unitFrame (u : OutUnit) : Nat := u.frame

/-- A unit that is an image line or a raw tap line. -/
def isLine (u : OutUnit) : Bool := unitContent u == 4 || unitContent u == 6

/-- A unit dropped on a ring: counted, and with a line the rest of its frame is cut (R391). -/
def ringDrop (x : Ring) (u : OutUnit) : Ring :=
  { x with
    dropUnits := satN 32 (x.dropUnits + 1), dropRecords := satN 32 (x.dropRecords + u.records)
    cut := if isLine u && !x.cut.contains (u.stream, unitFrame u) then
        (u.stream, unitFrame u) :: x.cut.filter (·.1 != u.stream) else x.cut }

/-- Bytes published or staged count towards the signal; RING_INT is set when due (R390). -/
def ringSignal (s : State) (r k : Nat) : State :=
  let x := getRing s r
  let n := x.sinceInt + k
  if x.intBytes ≤ n then
    setRingInt (setRing s r { x with sinceInt := 0, unsignalled := none }) r
  else setRing s r { x with sinceInt := n, unsignalled := some (x.unsignalled.getD s.tick.num) }

/-- A unit enters a ring's staging, or is dropped whole (R391). -/
def stageRing (s : State) (r : Nat) (u : OutUnit) : State :=
  let x := getRing s r
  let len := entryLen u
  if !x.enable || entryStops s || ringBytes x - 8 < len || 262144 < stagedBytes x + len ||
      (isLine u && x.cut.contains (u.stream, unitFrame u)) then
    setRing s r (ringDrop x u)
  else
    let s := setRing s r { x with staged := x.staged ++ [u] }
    if x.pull then ringSignal s r len else s

/-- The posted writes of an entry at an offset: one, or two where it passes the ring's end. -/
def entryWrites (s : State) (x : Ring) (bs : Bytes) : State :=
  let room := ringBytes x - x.head
  if bs.length ≤ room then send s (.hostWrite (x.base + BitVec.ofNat 64 x.head) bs)
  else send (send s (.hostWrite (x.base + BitVec.ofNat 64 x.head) (bs.take room))) (.hostWrite x.base (bs.drop room))

/-- RING_ENTRY_PUBLISH (R390): the oldest staged unit of a push ring that fits is written; without a link that carries
writes it is dropped. -/
def publish (s : State) (r : Nat) : State :=
  let x := getRing s r
  match x.staged with
  | [] => s
  | u :: rest =>
    if x.pull || !x.enable then s
    else if !hostReady s then setRing s r (ringDrop { x with staged := rest } u)
    else if ringFree x < entryLen u then s
    else
      let s := entryWrites s x (entryBytes u)
      let head := (x.head + entryLen u) % ringBytes x
      let s := setRing s r { x with staged := rest, head := head }
      let s := if x.hwb then send s (.hostWrite x.hwbAddr (leBytes 8 head)) else s
      ringSignal s r (entryLen u)

/-- RING_SIGNAL_TIMER (R390): INT_USEC has elapsed since the first entry not yet signalled. -/
def ringTimer (s : State) (r : Nat) : State :=
  let x := getRing s r
  match x.unsignalled with
  | some t =>
    if x.intUsec ≠ 0 && x.intUsec * 10 ≤ since s t * 128 then
      setRingInt (setRing s r { x with sinceInt := 0, unsignalled := none }) r
    else s
  | none => s

/-- ENABLE from 0 to 1 (R389): HEAD and TAIL start at 0, the counters stay. -/
def enableRing (s : State) (r : Nat) : State :=
  let x := getRing s r
  if x.enable then s
  else setRing s r { x with enable := true, head := 0, tail := 0, staged := [], pulled := 0, sinceInt := 0, unsignalled := none }

/-- ENABLE from 1 to 0 (R389): the staged units are dropped and counted. -/
def disableRing (s : State) (r : Nat) : State :=
  let x := getRing s r
  if !x.enable then s
  else
    let y := x.staged.foldl ringDrop { x with staged := [], pulled := 0 }
    setRing s r { y with enable := false }

/-- A TAIL write is accepted (R389): enabled push mode, a multiple of 8, in the cyclic interval from TAIL to HEAD. -/
def tailOk (x : Ring) (v : Nat) : Bool :=
  x.enable && !x.pull && v % 8 == 0 && v < ringBytes x &&
    (v + ringBytes x - x.tail) % ringBytes x ≤ (x.head + ringBytes x - x.tail) % ringBytes x

/-- TAIL_WRITE (R389). -/
def writeTail (s : State) (r v : Nat) : State :=
  let x := getRing s r
  if tailOk x v then setRing s r { x with tail := v }
  else logAccess (setInt (setRing s r { x with tailErr := true }) 1) (0x414 + 0x40 * r) 1 7 true

/-- The bytes at the front of the staging, and the staging without them (R392). -/
def pullBytes : Nat → List OutUnit → Nat → Nat → Bytes × List OutUnit × Nat
  | 0, l, p, _ => ([], l, p)
  | f + 1, l, p, k =>
    match l with
    | [] => ([], [], 0)
    | u :: rest =>
      let left := entryLen u - p
      if k < left then (((entryBytes u).drop p).take k, l, p + k)
      else
        let r := pullBytes f rest 0 (k - left)
        ((entryBytes u).drop p ++ r.1, r.2)

end Sys2Proof.Machine
end

