-- ==== Sys2Proof/Machine/TickSync.lean ====
section
/-! DEFINITION. The tick sources and their state machine (R35 to R39), and SHOT_SYNC_OUT. -/

namespace Sys2Proof.Machine

/-- The tick source 0x2000:01. -/
def tickSource (s : State) : Nat := odN s 0x2000 1

/-- The synchronisation enters a state; INT_STATUS bit 11 reports a change (R380). -/
def syncEnter (s : State) (x : TickSync) : State :=
  if s.tick.sync = x then s else setInt { s with tick := { s.tick with sync := x } } 11

/-- The distance of two phases of 2,000 REF cycles. -/
def phaseDist (a b : Nat) : Nat := min ((a + 2000 - b % 2000) % 2000) ((b + 2000 - a % 2000) % 2000)

/-- The stretch conditions of R37: emission off, both servo loops open. -/
def stretchOk (s : State) : Bool := emissionOff s && s.servo.h.st != .closed && s.servo.v.st != .closed

/-- The REF cycles by which t+0 must move: for source 1 from the latest valid edge and the offset (R36), for source 2
from the latest err (R366). -/
def stretchCycles (s : State) : Nat :=
  if tickSource s = 2 then ((-(roundQ (s.lane.follow.err / (896 / 5)))) % 2000).toNat
  else ((s.tick.chain.getD 0) + odN s 0x2000 2) % 2000

/-- Alignment reached: LOCKED with the phase of the latest valid edge held. SYNC_LOST ends with it, at the held phase as R38
says and at another phase too (assumption 69). -/
def lockNow (s : State) : State :=
  let t := s.tick
  syncEnter { s with
    tick := { t with
      held := t.chain, missRow := 0, syncLost := false, phaseMoved := false, valid := 0, chain := none }
    lane := { s.lane with follow := { s.lane.follow with corr := none } } } .locked

/-- Whether the chain stands at the held phase (±1 REF cycle), judged by its latest edge (assumption 69). -/
def atHeld (s : State) : Bool :=
  if tickSource s = 2 then let e := s.lane.follow.err; -(896 / 5) ≤ e && e ≤ 896 / 5
  else match s.tick.chain, s.tick.held with
    | some p, some h => phaseDist p h ≤ 1
    | _, _ => false

/-- Eight valid edges: LOCKED at once where nothing needs to move, else the stretch waits (R37, R38). -/
def eighthEdge (s : State) : State :=
  if s.tick.valid < 8 then s
  else match s.tick.sync with
  | .acquire => if stretchCycles s = 0 then lockNow s else s
  | .holdover =>
    if atHeld s then lockNow s
    else
      let s := { s with tick := { s.tick with phaseMoved := true } }
      if stretchCycles s = 0 then lockNow s else s
  | _ => s

/-- A missed edge is counted, and in LOCKED it counts towards the limit (R38). -/
def missEdge (s : State) : State :=
  match s.tick.sync with
  | .free => s
  | .locked =>
    let s := bump s 0x2000 7
    let m := s.tick.missRow + 1
    let s := { s with tick := { s.tick with missRow := m } }
    if odN s 0x2000 4 ≤ m then
      syncEnter { s with tick := { s.tick with syncLost := true, valid := 0, chain := none, missRow := 0 } } .holdover
    else s
  | _ => bump { s with tick := { s.tick with valid := 0, chain := none } } 0x2000 7

/-- An edge at a phase, judged valid or not against its prediction; an invalid one starts a new chain (R35). -/
def edgeAt (s : State) (p : Nat) (valid : Bool) : State :=
  match s.tick.sync with
  | .free => s
  | .locked =>
    if valid then { s with tick := { s.tick with held := some p, missRow := 0 } } else missEdge s
  | _ =>
    if s.tick.chain.isNone then eighthEdge { s with tick := { s.tick with chain := some p, valid := 1 } }
    else if valid then eighthEdge { s with tick := { s.tick with chain := some p, valid := s.tick.valid + 1 } }
    else
      let s := missEdge s
      { s with tick := { s.tick with chain := some p, valid := 1 } }

/-- Whether a SHOT_SYNC_IN edge lies within ±1 REF cycle of its predicted position (R35). -/
def edgePredicted (s : State) (p : Nat) : Bool :=
  let h := if s.tick.sync = .locked then s.tick.held else s.tick.chain
  match h with
  | some q => phaseDist p q ≤ 1
  | none => false

/-- SHOT_SYNC_EDGE (R35): an edge of source 1, rising or falling, at a REF cycle of the tick; only the selected edge
0x2000:03 is sampled. -/
def execShotSyncEdge (x : SyncEdge) (s : State) : Host.Outcome State Fault Refusal :=
  outcome s <| if tickSource s = 1 && domOn s .core && odN s 0x2000 3 == b2n (!x.rising) then
    edgeAt s x.ref.val (edgePredicted s x.ref.val)
  else s

/-- Whether a position is predicted at all: in LOCKED, or while a chain runs; a lane partner's marker pair is due in
every tick (R35, R365). -/
def edgeDue (s : State) : Bool :=
  s.tick.sync == .locked || (s.tick.sync != .free && (s.tick.chain.isSome || tickSource s == 2))

/-- MISSED_EDGE (R38). -/
def execMissedEdge (s : State) : Host.Outcome State Fault Refusal :=
  outcome s (if edgeDue s && domOn s .core then missEdge s else s)

/-- TICK_STRETCH (R37, R38): one bookkeeping interval is stretched once the conditions are met. The errs of the pairs before
it no longer say where t+0 lies; the residual starts anew, as the example of R368 shows. -/
def tickStretch (s : State) : State :=
  let d := stretchCycles s
  if 8 ≤ s.tick.valid && stretchOk s && d ≠ 0 &&
      (s.tick.sync = .acquire || (s.tick.sync = .holdover && s.tick.phaseMoved)) then
    let s := bump s 0x2000 8
    let c := s.tick.chain.map fun p => (p + 2000 - d) % 2000
    lockNow { s with
      tick := { s.tick with chain := c, stretched := d }
      lane := { s.lane with follow := { s.lane.follow with errs := [], late := none } } }
  else s

/-- TICK_STRETCH. -/
def execTickStretch (s : State) : Host.Outcome State Fault Refusal := outcome s (tickStretch s)

/-- The tick synchronisation starts anew (R38, R39); no stretch waits then, so PHASE_MOVED ends (assumption 69). -/
def syncRestart (s : State) (x : TickSync) : State :=
  syncEnter { s with tick := { s.tick with
    valid := 0, chain := none, missRow := 0, phaseMoved := false } } x

/-- Writes of the tick source (R38, R368); SYNC_LOST belonged to the source left (assumption 69). -/
def sourceHook (_ : State) : WriteHook where
  run s v :=
    let old := tickSource s
    let s := odSet s 0x2000 1 v
    if valN v = old then .done s
    else
      let s := reseed s
      .done (syncRestart { s with
        tick := { s.tick with held := none, syncLost := false }
        lane := { s.lane with follow := {} } } (if valN v = 0 then .free else .acquire))

/-- Writes of the tick link (R39, R367): with the lane partner as source the synchronisation starts anew on that link. -/
def tickLinkHook (s : State) : WriteHook where
  range v := valN v < nLane s
  run s v :=
    let s := odSet s 0xC030 1 v
    .done (if tickSource s = 2 then
        syncRestart { s with tick := { s.tick with held := none }, lane := { s.lane with follow := {} } } .acquire
      else s)

/-- Writes of the offset and the edge (R39). -/
def syncSetHook (sub : Nat) (_ : State) : WriteHook where
  run s v :=
    let s := odSet s 0x2000 sub v
    .done (if tickSource s = 1 then syncRestart s .acquire else s)

/-- SHOT_SYNC_OUT_PULSE: the REF count reaches the offset in force after t+0; the pulse starts there, while enabled. -/
def execShotSyncOutPulse (s : State) : Host.Outcome State Fault Refusal :=
  outcome s <| if odB s 0x2000 9 && domOn s .core && !s.tick.syncOut then
    send { s with tick := { s.tick with syncOut := true } } (.syncPulse s.tick.syncOutOfs)
  else s

/-- SHOT_SYNC_OUT_PULSE_END: the pulse ends after 8 REF cycles. -/
def execShotSyncOutPulseEnd (s : State) : Host.Outcome State Fault Refusal :=
  outcome s <| if s.tick.syncOut then
    send { s with tick := { s.tick with syncOut := false } } (.pin "SHOT_SYNC_OUT" false)
  else s

/-- The code of the tick sync state (0x2000:05). -/
def syncCode : TickSync → Nat
  | .free => 0
  | .acquire => 1
  | .locked => 2
  | .holdover => 3

end Sys2Proof.Machine
end

