-- ==== Sys2Proof/Machine/Lanes.lean ====
section
/-! DEFINITION. Noloa Link lanes (R347 to R370): training, links and their streams, tick markers, shared dither. -/

namespace Sys2Proof.Machine

/-! ### Links (R353) -/

/-- The width of the link that starts at a lane, 0 inside another link. -/
def linkWidth (s : State) (j : Nat) : Nat := ((odBytes s 0xC000 2)[j]?.getD 0).toNat

/-- The link that a lane belongs to: the nearest link start at or below it. -/
def linkOf (s : State) (l : Nat) : Nat :=
  ((List.range (l + 1)).reverse.find? fun j => linkWidth s j ≠ 0).getD l

/-- The lanes of a link. -/
def linkLanes (s : State) (j : Nat) : List Nat := (List.range (linkWidth s j)).map (j + ·)

/-- A lane. -/
def getLane (s : State) (l : Nat) : LaneSt := tgetD s.lane.lanes l {}

/-- A link. -/
def getLink (s : State) (j : Nat) : LinkSt := tgetD s.lane.links j {}

/-- The state with a lane. -/
def setLane (s : State) (l : Nat) (x : LaneSt) : State := { s with lane := { s.lane with lanes := tset s.lane.lanes l x } }

/-- The state with a link. -/
def setLink (s : State) (j : Nat) (x : LinkSt) : State := { s with lane := { s.lane with links := tset s.lane.links j x } }

/-- Lanes changed one by one. -/
def mapLanes (s : State) (ls : List Nat) (f : LaneSt → LaneSt) : State :=
  ls.foldl (fun s l => setLane s l (f (getLane s l))) s

/-- The link state 0xC020+j:01: 0 NONE, 1 DOWN, 2 DATA, 3 IDLE. -/
def linkState (s : State) (j : Nat) : Nat :=
  let ls := linkLanes s j
  if ls.isEmpty then 0
  else if ls.all fun l => (getLane s l).st == .data then 2
  else if ls.all fun l => (getLane s l).st == .idle then 3
  else 1

/-- A lane event: INT_STATUS bit 10 reports any change of a link state (R380). -/
def laneEvent (s s' : State) : State :=
  if (List.range 16).any fun j => linkState s j != linkState s' j then setInt s' 10 else s'

/-- A lane enters a state. -/
def laneEnter (s : State) (x : LaneSt) (st : LaneState) : LaneSt := { x with st := st, since := s.tick.num }

/-- Milliseconds (times 1,000) have passed since a tick. -/
def usSince (s : State) (t us : Nat) : Bool := us * 10 ≤ since s t * 128

/-! ### Drops (R362, R363) -/

/-- A unit dropped on a link: counted, and with a line the rest of its frame is cut, once. -/
def laneDrop (s : State) (j : Nat) (u : OutUnit) : State :=
  let s := bumpBy (bump s (0xC020 + j % 16) 3) (0xC020 + j % 16) 4 u.records
  let x := getLink s j
  if isLine u && !x.cut.contains (u.stream, unitFrame u) then
    bump (setLink s j { x with cut := (u.stream, unitFrame u) :: x.cut.filter (·.1 != u.stream) }) (0xC020 + j % 16) 5
  else s

/-- The bytes of a unit on a link: the unit word and its words. -/
def unitBytes (u : OutUnit) : Nat := 8 * (1 + u.words.length)

/-- The bytes that a stream holds. -/
def streamBytes (x : LinkSt) (t : Nat) : Nat := (tgetD x.queues t []).foldl (fun a u => a + unitBytes u) 0

/-- The bytes that a link holds. -/
def linkBytes (x : LinkSt) : Nat := x.queues.foldl (fun a q => a + streamBytes x q.1) 0

/-- The words that a stream has left to send. -/
def streamLeft (x : LinkSt) (t : Nat) : Nat :=
  (tgetD x.queues t []).foldl (fun a u => a + 1 + u.words.length) 0 - tgetD x.sent t 0

/-- The streams of a link that hold a full segment and no credit are noted for this tick (R364). -/
def noteStalls (s : State) (j : Nat) : State :=
  let x := getLink s j
  let now := (List.range 31).filter fun t =>
    x.version = 2 && tgetD x.credits t 0 = 0 && 63 * linkWidth s j ≤ streamLeft x t && streamLeft x t ≠ 0
  let new := now.filter fun t => !x.stalls.contains t
  if linkState s j ≠ 2 || new.isEmpty then s else setLink s j { x with stalls := x.stalls ++ new }

/-- A unit enters a link's transmit buffer, or is dropped whole (R362, R363). -/
def stageLane (s : State) (j : Nat) (u : OutUnit) : State :=
  let x := getLink s j
  if linkState s j ≠ 2 || entryStops s || 262144 < streamBytes x u.stream + unitBytes u || 1048576 < linkBytes x + unitBytes u ||
      (isLine u && x.cut.contains (u.stream, unitFrame u)) then
    laneDrop s j u
  else noteStalls (setLink s j { x with queues := tset x.queues u.stream (tgetD x.queues u.stream [] ++ [u]) }) j

/-- The output router (R32): a unit to the sink that an output or a camera names: 0 a ring, 1 a link. -/
def route (s : State) (lane : Bool) (i : Nat) (u : OutUnit) : State :=
  if lane then stageLane s i u else stageRing s i u

/-- A unit word (R361). -/
def unitWord (tick nwords content version : Nat) : BitVec 64 :=
  BitVec.ofNat 64 (tick % 2 ^ 32 * 2 ^ 32 + nwords % 2 ^ 16 * 2 ^ 16 + content * 2 ^ 8 + version)

/-- 64-bit words of a byte string, padded with zeros. -/
def toWords : Nat → Bytes → List (BitVec 64)
  | 0, _ => []
  | f + 1, bs => if bs.isEmpty then [] else BitVec.ofNat 64 (leNat (bs.take 8)) :: toWords f (bs.drop 8)

/-- The words of a byte string. -/
def wordsOf (bs : Bytes) : List (BitVec 64) := toWords (bs.length / 8 + 1) bs

/-! ### Training (R356 to R358) -/

/-- A unit that the loss of its link cuts off is dropped, and with a line the queued rest of its frame (R362, R363). -/
def cutOff (s : State) (j t : Nat) : State :=
  let x := getLink s j
  match tgetD x.queues t [] with
  | u :: rest =>
    if tgetD x.sent t 0 = 0 then s
    else
      let same (v : OutUnit) : Bool := isLine u && isLine v && unitFrame v == unitFrame u
      let s := (u :: rest.filter same).foldl (fun s v => laneDrop s j v) s
      let y := getLink s j
      setLink s j { y with queues := tset y.queues t (rest.filter fun v => !same v) }
  | [] => s

/-- "Fail" of R356: every lane of the link to ABSENT, with the reason; a lane that is DISABLED stays so. What the loss cuts
off is dropped. -/
def linkFail (s : State) (j reason : Nat) : State :=
  let s := (linkLanes s j).foldl (fun s l =>
    let x := getLane s l
    if x.st = .disabled then s
    else bump (setLane s l { laneEnter s x .absent with
        k := x.k + 1, reason := reason, capsRun := 0, ready := false, eyeOk := false, answer := false })
      (0xC010 + l % 16) 0x0C) s
  let s := (getLink s j).sent.foldl (fun s q => cutOff s j q.1) s
  let y := getLink s j
  setLink s j { y with
    sent := [], credits := [], version := 0, leader := false, follower := false, rxTick := none, cwm := 0, cwmDue := 0 }

/-- The probe period in seconds (R358). -/
def probePeriod (k : Nat) : Nat := if k = 0 then 1 else min (2 ^ (k - 1)) 16

/-- The PROBE block of a lane (R352). -/
def probeBlock (s : State) (l : Nat) : BitVec 64 :=
  let j := linkOf s l
  BitVec.ofNat 64 (0x55 + (l - j) * 2 ^ 8 + Nat.log2 (linkWidth s j) * 2 ^ 12 +
    (odN s 0xC000 4 % 4) * 2 ^ 16 + s.fuses.serial.toNat % 2 ^ 32 * 2 ^ 32)

/-- A lane that searches: SEARCHING or ABSENT. -/
def laneSeeks (x : LaneSt) : Bool := x.st == .searching || x.st == .absent

/-- An own probe burst: 4,096 PROBE blocks. -/
def probeSend (s : State) (l : Nat) : State :=
  send (setLane s l { getLane s l with probed := some s.tick.num }) (.lane l (List.replicate 4096 (probeBlock s l)))

/-- An own burst may still run: it lasts 4.9 µs, and the tick in which it began is not over (assumption 83). -/
def bursting (s : State) (l : Nat) : Bool := (getLane s l).probed == some s.tick.num

/-- PROBE_BURST (R358): at the probe period, or at once after the lane was enabled. -/
def execProbeBurst (l : Fin 16) (s : State) : Host.Outcome State Fault Refusal :=
  let x := getLane s l.val
  let due := match x.probed with
    | none => true
    | some t => usSince s t (probePeriod x.k * 1000000)
  outcome s (if laneSeeks x && due then probeSend s l.val else s)

/-- A partner's probe: the own burst, unless one runs; equalisation starts when it ends (R356, R358). -/
def partnerProbe (s : State) (l : Nat) (w : BitVec 64) : State :=
  if laneSeeks (getLane s l) && w.toNat % 256 = 0x55 then
    let s := if bursting s l then s else probeSend s l
    setLane s l { getLane s l with partner := w.toNat / 2 ^ 32, answer := true }
  else s

/-- PARTNER_PROBE_RECEIVED (R356). -/
def execPartnerProbeReceived (l : Fin 16) (w : BitVec 64) (s : State) : Host.Outcome State Fault Refusal :=
  outcome s (partnerProbe s l.val w)

/-- A tap after a request (0 hold, 1 increment, 2 decrement), held in I8. -/
def tapStep (t : Int) (r : Nat) : Int :=
  clampI (-128) 127 (if r = 1 then t + 1 else if r = 2 then t - 1 else t)

/-- The status of a request: 0 not updated, 1 updated, 2 at minimum, 3 at maximum. -/
def tapStatus (t : Int) (r : Nat) : Nat :=
  if r = 0 || r = 3 then 0
  else if tapStep t r = t then (if r = 1 then 3 else 2)
  else 1

/-- The TRAIN block that a lane sends in EQ (R352): its requests and preset, the status of the three coefficients, its
precoding request, and RX_READY. -/
def trainBlock (s : State) (l : Nat) : BitVec 64 :=
  let x := getLane s l
  BitVec.ofNat 64 (0x66 + (x.req.getD 0 0) * 2 ^ 8 + (x.req.getD 1 0) * 2 ^ 10 + (x.req.getD 2 0) * 2 ^ 12 +
    x.preset * 2 ^ 14 + (x.stat.getD 0 0) * 2 ^ 16 + (x.stat.getD 1 0) * 2 ^ 18 + (x.stat.getD 2 0) * 2 ^ 20 +
    b2n ((odN s 0xC000 3).testBit l) * 2 ^ 22 + b2n x.eyeOk * 2 ^ 23)

/-- The partner's requests act on the taps (R352). Each acts once: a status that stands is returned until the request ends. -/
def takeRequests (x : LaneSt) (rs : List Nat) (preset : Nat) : LaneSt :=
  if preset ≠ 0 then
    if x.stat.all (· == 0) then
      { x with taps := (List.range 3).map fun i => (Config.tapPreset preset i).toInt, stat := [1, 1, 1] }
    else x
  else
    { x with
      taps := (x.taps.zip (rs.zip x.stat)).map fun p => if p.2.2 = 0 then tapStep p.1 p.2.1 else p.1
      stat := (x.taps.zip (rs.zip x.stat)).map fun p =>
        if p.2.2 = 0 then tapStatus p.1 p.2.1 else if p.2.1 = 0 then 0 else p.2.2 }

/-- The own requests after the status that the partner returns (R352): one is held until its status comes, and then ended;
while the receiver adapts, the next is free (assumption 83). -/
def nextRequests (x : LaneSt) (st : List Nat) (n : Nat) : LaneSt :=
  let idle := !x.eyeOk && x.preset = 0
  { x with
    req := (x.req.zip st).zipIdx.map fun p =>
      if p.1.1 ≠ 0 then (if p.1.2 = 0 then p.1.1 else 0)
      else if p.1.2 = 0 && idle then Config.tapRequest n p.2 % 3 else 0
    preset := if x.preset ≠ 0 then (if st.any (· == 0) then x.preset else 0)
      else if idle && x.req.all (· == 0) && st.all (· == 0) then Config.tapRequest n 3 % 4 else 0 }

/-- Equalisation starts (R356): no tap has been asked for, and the first TRAIN block goes out. -/
def eqStart (s : State) (l : Nat) : State :=
  let x := getLane s l
  let x := nextRequests { laneEnter s x .eq with
    ready := false, eyeOk := false, answer := false, req := [0, 0, 0], preset := 0, stat := [0, 0, 0] } [0, 0, 0] s.free
  let s := setLane { s with free := s.free + 1 } l x
  send s (.lane l [trainBlock s l])

/-- TRAIN_REQUEST (R352, R356, R359): tap requests and presets in EQ with their status, PRECODE_REQ and RX_READY; in
DATA a block with IDLE takes the lane into idle. -/
def trainRequest (s : State) (l : Nat) (w : BitVec 64) : State :=
  let n := w.toNat
  let x := getLane s l
  if n % 256 ≠ 0x66 then s
  else if x.st = .eq then
    let x := takeRequests x [n / 2 ^ 8 % 4, n / 2 ^ 10 % 4, n / 2 ^ 12 % 4] (n / 2 ^ 14 % 4)
    let x := nextRequests x [n / 2 ^ 16 % 4, n / 2 ^ 18 % 4, n / 2 ^ 20 % 4] s.free
    let s := setLane { s with free := s.free + 1 } l { x with preReq := n.testBit 22, ready := n.testBit 23 }
    send s (.lane l [trainBlock s l])
  else if x.st = .data && n.testBit 24 then
    let j := linkOf s l
    setLink (setLane s l (laneEnter s x .idle)) j { getLink s j with idleFrom := s.tick.num }
  else s

/-- TRAIN_REQUEST. -/
def execTrainRequest (l : Fin 16) (w : BitVec 64) (s : State) : Host.Outcome State Fault Refusal :=
  outcome s (laneEvent s (trainRequest s l.val w))

/-- A lane that sends codewords: in FEC alignment and after it (R350). -/
def laneCoded (x : LaneSt) : Bool := x.st == .fecAlign || x.st == .deskew || x.st == .caps || x.st == .data

/-- What the eye monitor shows in EQ (R356): with the eye of 0xC000:07 RX_READY is declared, and with the partner's the
precoding per PRECODE_REQ is in force and the transmitter switches to FEC. -/
def eqComplete (s : State) (l : Nat) (eyeH eyeW : BitVec 16) : State :=
  let x := getLane s l
  let th := odN s 0xC000 7
  if x.st ≠ .eq then s
  else
    let ok := decide (th % 2 ^ 16 ≤ eyeH.toNat) && decide (th / 2 ^ 16 ≤ eyeW.toNat)
    let x := { x with eyeH := eyeH.toNat, eyeW := eyeW.toNat, eyeOk := ok }
    let s := setLane s l x
    let s := send s (.lane l [trainBlock s l])
    if ok && x.ready then
      let j := linkOf s l
      let y := getLink s j
      let first := (linkLanes s j).all fun i => !laneCoded (getLane s i)
      let s := if first then setLink s j { y with cwm := 0, cwmDue := 0 } else s
      setLane s l { laneEnter s x .fecAlign with
        precode := b2n x.preReq + 2 * b2n ((odN s 0xC000 3).testBit l) }
    else s

/-- EQ_COMPLETE. -/
def execEqComplete (l : Fin 16) (eyeH eyeW : BitVec 16) (s : State) : Host.Outcome State Fault Refusal :=
  outcome s (laneEvent s (eqComplete s l.val eyeH eyeW))

/-- FEC_ALIGN_COMPLETE (R356). -/
def execFecAlignComplete (l : Fin 16) (s : State) : Host.Outcome State Fault Refusal :=
  let x := getLane s l.val
  outcome s (if x.st = .fecAlign then laneEvent s (setLane s l.val (laneEnter s x .deskew)) else s)

/-- The CAPS block a lane sends (R352, R357). -/
def capsBlock (s : State) (l : Nat) (ack : Bool) : BitVec 64 :=
  let j := linkOf s l
  let lead := (odN s 0xC030 2).testBit j
  let follow := tickSource s = 2 && odN s 0xC030 1 = j
  BitVec.ofNat 64 (0x78 + (odN s 0xC000 4 &&& 3) * 2 ^ 8 + linkWidth s j * 2 ^ 10 + (l - j) * 2 ^ 15 +
    b2n lead * 2 ^ 19 + b2n follow * 2 ^ 20 + b2n ack * 2 ^ 21 + s.fuses.serial.toNat % 2 ^ 32 * 2 ^ 32)

/-- DESKEW_COMPLETE (R355, R356): all lanes in DESKEW; a skew above 64 UI fails the link with reason 4. -/
def deskew (s : State) (j : Nat) (skews : List Nat) : State :=
  let ls := linkLanes s j
  if !ls.isEmpty && (ls.all fun l => (getLane s l).st == .deskew) && skews.length = ls.length then
    let lo := skews.foldl min (skews.headD 0)
    if skews.any fun k => 64 < k - lo then linkFail s j 4
    else (ls.zip skews).foldl (fun s p =>
      send (setLane s p.1 { laneEnter s (getLane s p.1) .caps with skew := p.2 - lo, capsRun := 0 })
        (.lane p.1 [capsBlock s p.1 false])) s
  else s

/-- DESKEW_COMPLETE. -/
def execDeskewComplete (j : Fin 16) (skews : List Nat) (s : State) : Host.Outcome State Fault Refusal :=
  outcome s (laneEvent s (deskew s j.val skews))

/-- What three identical partner CAPS lead to (R357): a failure reason, or 0. -/
def capsReason (s : State) (l : Nat) (w : BitVec 64) : Nat :=
  let n := w.toNat
  let j := linkOf s l
  if (odN s 0xC000 4 &&& 3) &&& (n / 2 ^ 8 % 4) = 0 then 6
  else if n / 2 ^ 10 % 32 ≠ linkWidth s j then 7
  else if n / 2 ^ 15 % 16 ≠ l - j then 8
  else if n.testBit 20 && tickSource s = 2 && odN s 0xC030 1 = j then 9
  else 0

/-- CAPS_RECEIVED (R356, R357): one partner CAPS block; the third identical one with ACK sets version and roles. -/
def capsReceived (s : State) (l : Nat) (w : BitVec 64) : State :=
  let x := getLane s l
  let j := linkOf s l
  let core := w &&& ~~~ (1#64 <<< 21)
  if x.st ≠ .caps || w.toNat % 256 ≠ 0x78 then s
  else
    let run := if core = x.caps then x.capsRun + 1 else 1
    let s := setLane s l { x with caps := core, capsRun := run, partner := w.toNat / 2 ^ 32 }
    if run < 3 then s
    else
      let r := capsReason s l w
      if r ≠ 0 then linkFail s j r
      else if !w.getLsbD 21 then send s (.lane l [capsBlock s l true])
      else
        let both := (odN s 0xC000 4 &&& 3) &&& (w.toNat / 2 ^ 8 % 4)
        let s := setLane s l { laneEnter s (getLane s l) .data with k := 0 }
        let y := getLink s j
        noteStalls (setLink (send s (.lane l [capsBlock s l true])) j { y with
          version := if both.testBit 1 then 2 else 1
          leader := w.getLsbD 19, follower := w.getLsbD 20, credits := [] }) j

/-- CAPS_RECEIVED. -/
def execCapsReceived (l : Fin 16) (w : BitVec 64) (s : State) : Host.Outcome State Fault Refusal :=
  outcome s (laneEvent s (capsReceived s l.val w))

/-- The time limit of a training step in µs, with its failure reason. -/
def stepLimit : LaneState → Option (Nat × Nat)
  | .eq => some (250000, 1)
  | .fecAlign => some (1000, 2)
  | .deskew => some (2000, 3)
  | .caps => some (10000, 5)
  | _ => none

/-- TRAINING_TIMEOUT (R356): in DESKEW counted from the first lane of the link to enter. -/
def trainingTimeout (s : State) (l : Nat) : State :=
  let x := getLane s l
  let j := linkOf s l
  match stepLimit x.st with
  | none => s
  | some (us, r) =>
    let from0 := if x.st = .deskew then
        (linkLanes s j).foldl (fun m i => if (getLane s i).st = .deskew then min m (getLane s i).since else m) x.since
      else x.since
    if usSince s from0 us then linkFail s j r else s

/-- TRAINING_TIMEOUT. -/
def execTrainingTimeout (l : Fin 16) (s : State) : Host.Outcome State Fault Refusal :=
  outcome s (laneEvent s (trainingTimeout s l.val))

/-- LINK_LOSS (R356): a lane in DATA fails its link with reason 10; a lost block lock is counted. -/
def execLinkLoss (l : Fin 16) (cause : LossCause) (s : State) : Host.Outcome State Fault Refusal :=
  outcome s <| if (getLane s l.val).st = .data then
      let s' := if cause = .blockLock then bump s (0xC010 + l.val % 16) 0x0B else s
      laneEvent s (linkFail s' (linkOf s l.val) 10)
    else s

/-! ### Electrical idle (R359) -/

/-- A TRAIN block with IDLE = 1. -/
def idleBlock : BitVec 64 := BitVec.ofNat 64 (0x66 + 2 ^ 24)

/-- A link's own idle entry: 16 TRAIN blocks per lane, then electrical idle. -/
def linkIdle (s : State) (j : Nat) : State :=
  let s := (linkLanes s j).foldl (fun s l =>
    send (setLane s l (laneEnter s (getLane s l) .idle)) (.lane l (List.replicate 16 idleBlock))) s
  setLink s j { getLink s j with idleFrom := s.tick.num }

/-- The device is in DOZE, or enters it. -/
def dozing (s : State) : Bool :=
  s.pwr.state == .doze || (s.pwr.entry.map fun e => e.dest == .doze).getD false

/-- IDLE_ENTRY (R359): in DATA, when the device enters DOZE or the link's bit of 0xC000:06 is set. -/
def execIdleEntry (j : Fin 16) (s : State) : Host.Outcome State Fault Refusal :=
  outcome s <| if linkState s j.val = 2 && (dozing s || (odN s 0xC000 6).testBit j.val) then
      laneEvent s (linkIdle s j.val)
    else s

/-- The codeword marker of a lane (R352). -/
def cwmBlock (index n : Nat) : BitVec 64 := BitVec.ofNat 64 (0x2D + index * 2 ^ 8 + n % 2 ^ 32 * 2 ^ 32)

/-- The message bits of 1,024 codewords but for the marker that opens them (R350). -/
def cwmPeriod : Nat := 1024 * 5140 - 66

/-- 1,024 UI of alternating outer levels (R359): Gray-mapped, the pairs 00 and 10 by turns; which comes first is free. -/
def exitBurst (n : Nat) : List (BitVec 64) :=
  List.replicate 32 (if Config.freeNat n % 2 = 0 then 0x4444444444444444#64 else 0x1111111111111111#64)

/-- The lanes of a link send the exit burst and the codeword that opens with a marker, as opener and as answer (R359). -/
def exitSend (s : State) (j : Nat) : State :=
  let x := getLink s j
  let s := sendAll s ((linkLanes s j).map fun l => .lane l (exitBurst s.free ++ [cwmBlock (l - j) x.cwm]))
  setLink { s with free := s.free + 1 } j { x with cwm := (x.cwm + 1) % 2 ^ 32, cwmDue := cwmPeriod }

/-- IDLE_EXIT (R359): the exit burst; DATA within the retention limit, else EQ with k unchanged. -/
def idleExit (s : State) (j : Nat) : State :=
  if linkState s j = 3 then
    let fast := since s (getLink s j).idleFrom * 128 ≤ odN s 0xC000 5 * 10000
    let s := exitSend s j
    let x := getLink s j
    if fast then
      noteStalls (setLink (mapLanes s (linkLanes s j) fun y => laneEnter s y .data) j { x with credits := [] }) j
    else
      setLink ((linkLanes s j).foldl eqStart s) j { x with credits := [], version := 0 }
  else s

/-- IDLE_EXIT. -/
def execIdleExit (j : Fin 16) (s : State) : Host.Outcome State Fault Refusal :=
  outcome s (laneEvent s (idleExit s j.val))

/-! ### Segments (R360 to R364) -/

/-- A stream may send: at version 1.1 it needs a credit (R364). -/
def streamMay (x : LinkSt) (t : Nat) : Bool := x.version != 2 || tgetD x.credits t 0 != 0

/-- The streams in round-robin order after the last one served. -/
def rrOrder (x : LinkSt) : List Nat := (List.range 31).map fun i => (x.rr + 1 + i) % 31

/-- The stream that gets a segment of `cap` words: the next with a full segment, else the next with data (R363). -/
def nextStream (x : LinkSt) (cap : Nat) : Option Nat :=
  match (rrOrder x).find? fun t => cap ≤ streamLeft x t && streamMay x t with
  | some t => some t
  | none => (rrOrder x).find? fun t => streamLeft x t ≠ 0 && streamMay x t

/-- The words of a unit, unit word first. -/
def unitAll (u : OutUnit) : List (BitVec 64) := u.word :: u.words

/-- `k` words taken from the units of a stream after `sent` words of the first: the words, the units left, the words of
the first of them that have been sent. -/
def takeWords : Nat → List OutUnit → Nat → Nat → List (BitVec 64) × List OutUnit × Nat
  | 0, q, sent, _ => ([], q, sent)
  | f + 1, q, sent, k =>
    match q with
    | [] => ([], [], 0)
    | u :: rest =>
      let ws := (unitAll u).drop sent
      if k < ws.length then (ws.take k, q, sent + k)
      else
        let r := takeWords f rest 0 (k - ws.length)
        (ws ++ r.1, r.2)

/-- A FRAME block (R352). -/
def frameBlock (stream vblk auxT aux : Nat) : BitVec 64 :=
  BitVec.ofNat 64 (0x4B + stream * 2 ^ 8 + vblk * 2 ^ 13 + auxT * 2 ^ 28 + aux % 2 ^ 32 * 2 ^ 32)

/-- The place in its tick of a FRAME block whose sync header begins `ofs` UI after t+0 (R360): its count since t+0, or what
its time says where the link was silent since then. A superframe of 64 blocks takes at most 2,271 UI: 65 blocks of 66 bits
with a CWM among them, coded 544 for 514, at 2 bits a UI (R349 to R351). -/
def framePlace (x : LinkSt) (ofs : Nat) : Nat := max x.marks (ofs / 2271)

/-- The AUX item of the next FRAME block of a link in DATA (R360): TICK, TICKRX, DSTATE and DMASK open each tick. -/
def auxItem (s : State) (j : Nat) (x : LinkSt) (ofs : Nat) : Nat × Nat :=
  let lead := (odN s 0xC030 2).testBit j
  match framePlace x ofs with
  | 0 =>
    let slot := if lead then (s.lane.slots[j]?.getD 0).toNat % 8 else 0
    let n := if lead then Nat.log2 s.lane.group else 0
    (1, s.tick.num % 2 ^ 15 * 2 ^ 17 + slot * 2 ^ 14 + n * 2 ^ 12 + ofs)
  | 1 =>
    match x.rxTick with
    | some (t, r, _, _) => (2, t % 2 ^ 9 * 2 ^ 23 + r)
    | none => (0, 0)
  | 2 => if lead && x.version = 2 then (3, (lfsrSteps 512 s.rx.lfsr).toNat) else (0, 0)
  | 3 =>
    if lead && x.version = 2 then
      let own := s.rx.dith.mask
      (4, own * 2 ^ 8 + (own ^^^ (32 * ((s.lane.slots[j]?.getD 0).toNat % 8)) % 256))
    else (0, 0)
  | _ => (0, 0)

/-- What a lane of index `i` of a link of width `n` sends in a superframe (R351, R354): the FRAME block, with the AUX item on
the lowest lane and NONE on the others, and 63 data blocks: word w of the segment on lane w mod L. -/
def laneBlocks (free n i stream vblk auxT aux : Nat) (ws : List (BitVec 64)) : List (BitVec 64) :=
  (if i = 0 then frameBlock stream vblk auxT aux else frameBlock stream vblk 0 0) ::
    (List.range 63).map fun b => ws[b * n + i]?.getD (Config.fillWord free (b * n + i))

/-- A superframe leaves on the lanes of a link that send codewords, all at once (R351), behind the codeword marker where
one falls into its 64 blocks (R350). -/
def superframeSend (s : State) (j stream auxT aux : Nat) (ws : List (BitVec 64)) : State :=
  let x := getLink s j
  let mark := decide (x.cwmDue < 64 * 66)
  let ls := (linkLanes s j).filter fun l => laneCoded (getLane s l)
  let s := sendAll s (ls.map fun l => .lane l
    ((if mark then [cwmBlock (l - j) x.cwm] else []) ++
      laneBlocks s.free (linkWidth s j) (l - j) stream ws.length auxT aux ws))
  setLink { s with free := s.free + 1 } j { x with
    cwm := if mark then (x.cwm + 1) % 2 ^ 32 else x.cwm
    cwmDue := (if mark then x.cwmDue + cwmPeriod else x.cwmDue) - 64 * 66 }

/-- SUPERFRAME (R351, R363): the link's segment, with the FRAME block's AUX item; `ofs` is its place after t+0 in UI. From
FEC alignment to DATA the lanes send fill. -/
def superframe (s : State) (j ofs : Nat) : State :=
  let x := getLink s j
  let place := framePlace x ofs
  if linkState s j ≠ 2 then
    if (linkLanes s j).any fun l => laneCoded (getLane s l) then
      superframeSend (setLink s j { x with marks := place + 1 }) j 31 0 0 []
    else s
  else
    let cap := 63 * linkWidth s j
    let (auxT, aux) := auxItem s j x ofs
    let x := { x with
      marks := place + 1
      sentOfs := if place = 0 then (tset x.sentOfs s.tick.num ofs).drop ((tset x.sentOfs s.tick.num ofs).length - 16)
        else x.sentOfs }
    match nextStream x cap with
    | none => superframeSend (setLink s j x) j 31 auxT aux []
    | some t =>
      let q := tgetD x.queues t []
      let (ws, rest, sent) := takeWords (q.length + 1) q (tgetD x.sent t 0) cap
      let x := { x with
        rr := t, queues := tset x.queues t rest, sent := tset x.sent t sent
        credits := if x.version = 2 then tset x.credits t (tgetD x.credits t 0 - 1) else x.credits }
      noteStalls (superframeSend (setLink s j x) j t auxT aux ws) j

/-- SUPERFRAME. -/
def execSuperframe (j : Fin 16) (ofs : BitVec 12) (s : State) : Host.Outcome State Fault Refusal :=
  outcome s (superframe s j.val ofs.toNat)

/-- At t+0 the streams of the tick that ended with a full segment waiting and no credit are counted, and those that still
wait are noted for the new tick (R364). -/
def creditStalls (s : State) : State :=
  s.lane.links.foldl (fun s p =>
    if p.2.stalls.isEmpty then s
    else noteStalls (setLink (bumpBy s (0xC020 + p.1 % 16) 7 p.2.stalls.length) p.1 { p.2 with stalls := [] }) p.1) s

/-- CREDIT (R364). -/
def execCreditItem (j : Fin 16) (aux : BitVec 32) (s : State) : Host.Outcome State Fault Refusal :=
  let x := getLink s j.val
  let t := aux.toNat % 32
  outcome s <| if linkState s j.val = 2 && x.version = 2 then
      setLink s j.val { x with credits := tset x.credits t (tgetD x.credits t 0 + aux.toNat / 32 % 65536) }
    else s

/-- The decoder's counts of lanes that receive codewords (R350). -/
def codewordCounts (s : State) (fec : List CodewordCount) : State :=
  (fec.filter fun c => laneCoded (getLane s c.lane.val)).foldl (fun s c =>
    bumpBy (bumpBy s (0xC010 + c.lane.val % 16) 9 c.corrected) (0xC010 + c.lane.val % 16) 0x0A c.uncorrectable) s

/-- SEGMENT_RECEIVED (R361, R350): codeword counts, from FEC alignment on; in DATA a segment whose stream is not fill is
discarded and counted. -/
def execSegmentReceived (j : Fin 16) (stream : Fin 32) (fec : List CodewordCount) (s : State) :
    Host.Outcome State Fault Refusal :=
  let s' := codewordCounts s fec
  outcome s (if linkState s j.val ≠ 2 || stream.val = 31 then s' else bump s' (0xC020 + j.val % 16) 8)

/-! ### Tick markers (R365 to R368) -/

/-- UI per tick. -/
def uiTick : Rat := 358400

/-- One REF cycle in UI: 179.2. -/
def uiRef : Rat := 896 / 5

/-- A rational reduced into 0 to `m`. -/
def modQ (q m : Rat) : Rat := q - m * ((q / m).floor : Int)

/-- The phase target φ of the follower (R365). -/
def phaseTarget (f : FollowSt) : Rat := ((f.slot % f.group : Nat) : Rat) * uiTick / ((f.group : Nat) : Rat)

/-- The valid test of a marker (R365). -/
def markerValid (s : State) (err : Rat) : Bool :=
  let near (a : Rat) : Bool := -uiRef ≤ err - a && err - a ≤ uiRef
  if s.tick.sync = .locked then near 0
  else match s.lane.follow.chain with
    | some a => near a
    | none => false

/-- A pair decides the tick: err, the path delay and the judgement (R365); a second pair of the tick gives its err and delay
only. Where it is valid in LOCKED, it says which ticks correspond (R368). -/
def pairUse (s : State) (r : PairRes) : State :=
  let f := s.lane.follow
  let ok := markerValid s r.err
  let decided := f.pair == some s.tick.num
  let f := { f with
    errs := (r.err :: f.errs).take 16, delay := r.delay, err := r.err, pair := some s.tick.num, late := none
    corr := if ok && s.tick.sync = .locked then some (r.lead, r.own) else none
    chain := some r.err }
  let s := { s with lane := { s.lane with follow := f } }
  if decided then s else edgeAt s 0 ok

/-- A pair that came after t+10.0 µs decides the next tick. -/
def pairTake (s : State) : State :=
  match s.lane.follow.late with
  | some r => pairUse s r
  | none => s

/-- A TICKRX that names one of the own TICK items completes a pair with the latest partner TICK that no pair has used
(R365). The decision of a tick uses the pairs that came before its t+10.0 µs. -/
def markerPair (s : State) (j : Nat) (aux : Nat) : State :=
  let x := getLink s j
  let f := s.lane.follow
  let named := x.sentOfs.reverse.find? fun p => p.1 % 2 ^ 9 = aux / 2 ^ 23
  match x.rxTick, named with
  | some (lead, rxOfs, ofs, t), some (_, bTx) =>
    if f.used = some (lead, t) then s
    else
      let aTx : Rat := (ofs : Nat)
      let bRx : Rat := ((rxOfs : Nat) : Rat) / 16
      let aRx : Rat := ((aux % 2 ^ 23 : Nat) : Rat) / 16
      let d := modQ (((aRx - ((bTx : Nat) : Rat)) + (bRx - aTx)) / 2) (uiTick / 2)
      let c : Rat := ((odI s 0xC030 8 : Int) : Rat) * 28 / 1000
      let raw := aTx + d - bRx + c
      let e0 := modQ raw uiTick - phaseTarget f
      let err := e0 - uiTick * (roundQ (e0 / uiTick) : Int)
      let r : PairRes := { err := err, delay := d, lead := lead, own := ((t : Int) - (raw / uiTick).floor).toNat }
      let s := { s with lane := { s.lane with follow := { f with used := some (lead, t), late := some r } } }
      if s.tick.listenOver then s else pairUse s r
  | _, _ => s

/-- TICK_MARKER (R365): a TICK is captured with its arrival; a TICKRX completes a pair on the follower's tick link. -/
def tickMarker (s : State) (j : Nat) (m : MarkerItem) : State :=
  if linkState s j ≠ 2 then s
  else
    let n := m.aux.toNat
    let x := getLink s j
    let tickLink := tickSource s = 2 && odN s 0xC030 1 = j
    if m.rx then (if tickLink then markerPair s j n else s)
    else
      let s := setLink s j { x with rxTick := some (n / 2 ^ 17, m.rxOfs.toNat, n % 2 ^ 12, s.tick.num) }
      if tickLink then
        let plain := !x.leader && !x.follower
        { s with lane := { s.lane with follow := { s.lane.follow with
          slot := if plain then 0 else n / 2 ^ 14 % 8
          group := if plain then 1 else 2 ^ (n / 2 ^ 12 % 4) } } }
      else s

/-- TICK_MARKER. -/
def execTickMarker (j : Fin 16) (m : MarkerItem) (s : State) : Host.Outcome State Fault Refusal :=
  outcome s (tickMarker s j.val m)

/-- Whether dither is coordinated on a link: the follower's tick link in DATA at version 1.1 with a leader, locked. -/
def ditherLink (s : State) (j : Nat) : Bool :=
  tickSource s == 2 && odN s 0xC030 1 == j && linkState s j == 2 && (getLink s j).version == 2 &&
    (getLink s j).leader && s.tick.sync == .locked

/-- DSTATE (R368): the leader's state before the draws of its tick n + 4, for the own tick that corresponds to it. The
latest TICK gives n (15 bits); the latest valid pair, which may be of an earlier tick, says which ticks correspond. -/
def execDstateItem (j : Fin 16) (aux : BitVec 32) (s : State) : Host.Outcome State Fault Refusal :=
  outcome s <| match s.lane.follow.corr, (getLink s j.val).rxTick with
    | some (lead, own), some (n, _, _, _) =>
      let m := own + (n + 2 ^ 15 - lead) % 2 ^ 15
      if ditherLink s j.val then
        { s with rx := { s.rx with adopt := tset s.rx.adopt (m + 4) (BitVec.ofNat 31 (aux.toNat % 2 ^ 31)) } }
      else s
    | _, _ => s

/-- DMASK (R368): the family mask assigned to the receiver. -/
def execDmaskItem (j : Fin 16) (aux : BitVec 32) (s : State) : Host.Outcome State Fault Refusal :=
  outcome s <| if ditherLink s j.val then { s with rx := { s.rx with dmask := aux.toNat % 256 } } else s

/-! ### Power, settings and reading -/

/-- A lane that is enabled and present. -/
def laneEnabled (s : State) (l : Nat) : Bool := l < nLane s && (odN s 0xC000 1).testBit l

/-- The LANES domain has started: every enabled lane searches, with its first burst at once (R356). -/
def lanesStart (s : State) : State :=
  laneEvent s ((List.range (nLane s)).foldl (fun s l =>
    if laneEnabled s l && (getLane s l).st = .disabled then
      setLane s l { laneEnter s (getLane s l) .searching with k := 0, probed := none }
    else s) s)

/-- The units that a link holds are dropped (R363). -/
def linkEmpty (s : State) (j : Nat) : State :=
  (getLink s j).queues.foldl (fun s q => q.2.foldl (fun s u => laneDrop s j u) s) s

/-- A lane without its adaptation, in a state. -/
def laneFresh (s : State) (x : LaneSt) (st : LaneState) : LaneSt :=
  { laneEnter s x st with k := 0, probed := none, capsRun := 0, ready := false, eyeOk := false, answer := false }

/-- The LANES domain is off: every lane is disabled; the units that the links hold are dropped (R356, R363), and the frames
that were cut stay cut (R362). -/
def lanesOff (s : State) : State :=
  let s' := (List.range 16).foldl linkEmpty (creditStalls s)
  laneEvent s { s' with lane := { s'.lane with
    lanes := s'.lane.lanes.map fun p => (p.1, laneFresh s' p.2 .disabled)
    links := s'.lane.links.map fun p => (p.1, { cut := p.2.cut }) } }

/-- A lane's link has been regrouped. -/
def laneMoved (s s' : State) (l : Nat) : Bool :=
  linkOf s l != linkOf s' l || linkWidth s (linkOf s l) != linkWidth s' (linkOf s' l)

/-- A lane leaves its link: it is no longer enabled, or its link is regrouped. -/
def laneLeaves (s s' : State) (l : Nat) : Bool :=
  laneMoved s s' l || (!laneEnabled s' l && (getLane s l).st != .disabled)

/-- A link that a lane leaves starts anew: its units are dropped (R363), and nothing of the negotiation stays. -/
def linkReset (s : State) (j : Nat) : State :=
  let s := linkEmpty s j
  let x := getLink s j
  setLink s j { cut := x.cut, stalls := x.stalls }

/-- Lanes after a change of the enable mask or of the grouping (last row of R356): a lane no longer enabled is disabled,
an enabled lane of a regrouped link searches. -/
def lanesRegroup (s s' : State) : State :=
  let gone := (List.range (nLane s')).filter (laneLeaves s s')
  let t := (gone.map (linkOf s)).eraseDups.foldl linkReset s'
  laneEvent s ((List.range (nLane s')).foldl (fun t l =>
    let x := getLane t l
    if !laneEnabled t l then setLane t l (laneFresh t x .disabled)
    else if domOn t .lanes && (laneMoved s s' l || x.st = .disabled) then setLane t l (laneFresh t x .searching)
    else t) t)

/-- A grouping satisfies R353; widths of 16 are refused on the LVR-2560-F (R369). -/
def groupingOk (s : State) (bs : Bytes) : Bool :=
  let n := nLane s
  let w (l : Nat) : Nat := (bs[l]?.getD 0).toNat
  let starts := (List.range n).filter fun l => w l ≠ 0
  (starts.all fun l => (w l == 1 || w l == 2 || w l == 4 || w l == 8 || w l == 16) && l % w l == 0 && l + w l ≤ n) &&
    ((List.range n).all fun l => (starts.filter fun j => j ≤ l && l < j + w j).length == 1) &&
    (bs.drop n).all (fun b => n == 16 || b != 16)

/-- A lane at t+0: a burst that answers a partner's probe has ended, and equalisation starts; in DATA the eye monitor has
measured the eye of the tick (R370). -/
def laneTick (s : State) (l : Nat) : State :=
  let x := getLane s l
  if x.answer && laneSeeks x then eqStart s l
  else if x.st = .data then
    let e := Config.eyeReading s.free l
    setLane { s with free := s.free + 1 } l { x with eyeH := e.1.toNat, eyeW := e.2.toNat }
  else s

/-- The lanes at t+0: the slots and the group size in force follow their objects; a marker pair that came late decides. -/
def lanesTick (s : State) : State :=
  let s := pairTake (laneEvent s ((List.range (nLane s)).foldl laneTick (creditStalls s)))
  { s with lane := { s.lane with
    group := odN s 0xC030 3, slots := odBytes s 0xC030 4
    links := s.lane.links.map fun p => (p.1, { p.2 with marks := 0 }) } }

/-- Slots lie in 1–7. -/
def slotsHook (_ : State) : WriteHook where
  range v := (valBytes v).all fun b => 1 ≤ b.toNat && b.toNat ≤ 7
  run s v := keep 0xC030 4 s v

/-- The group size is 1, 2, 4 or 8. -/
def groupHook (_ : State) : WriteHook where
  range v := [1, 2, 4, 8].contains (valN v)
  run s v := keep 0xC030 3 s v

/-- The code of a lane state. -/
def laneCode : LaneState → Nat
  | .disabled => 0
  | .searching => 1
  | .absent => 2
  | .eq => 3
  | .fecAlign => 4
  | .deskew => 5
  | .caps => 6
  | .data => 7
  | .idle => 8

/-- The lanes' objects that are no plain settings. -/
def readLanes (s : State) (ix sub : Nat) : Option Val :=
  let num (n : Nat) : Option Val := some (.num n)
  if ix = 0xC000 && (sub = 1 || sub = 3 || sub = 6) then num (odN s ix sub % 2 ^ nLane s)
  else if ix = 0xC030 && sub = 2 then num (odN s ix sub % 2 ^ nLane s)
  else if 0xC010 ≤ ix && ix < 0xC020 then
    let x := getLane s (ix - 0xC010)
    match sub with
    | 1 => num (laneCode x.st)
    | 2 => num x.reason
    | 3 => num (probePeriod x.k)
    | 4 => num x.partner
    | 5 => num x.eyeH
    | 6 => num x.eyeW
    | 7 => some (.bytes (x.taps.map fun t => BitVec.ofInt 8 t))
    | 8 => num x.precode
    | 13 => num x.skew
    | _ => none
  else if 0xC020 ≤ ix && ix < 0xC030 then
    let j := ix - 0xC020
    if sub = 1 then num (linkState s j)
    else if linkWidth s j = 0 then num 0
    else if sub = 2 then num (getLink s j).version
    else none
  else if ix = 0xC030 then
    match sub with
    | 5 => num s.lane.follow.slot
    | 6 => some (.num (uiPs (meanErr s.lane.follow)))
    | 7 => some (.num (uiPs s.lane.follow.delay))
    | _ => none
  else if ix = 0x3210 && sub = 4 then num (b2n s.rx.partner)
  else none

end Sys2Proof.Machine
end

