-- ==== Sys2Proof/Machine/Hist.lean ====
section
/-! DEFINITION. The histogram engine (R80 to R121): assignment of events, the coincidence filter, quota and coalescing
buffer, stacks and their swaps, read passes, the raw taps of events and histograms, and the histogram window. -/

namespace Sys2Proof.Machine

/-- A return channel. -/
def getChan (s : State) (c : Nat) : Chan := tgetD s.rx.chans c {}

/-- The state with a return channel. -/
def setChan (s : State) (c : Nat) (x : Chan) : State := { s with rx := { s.rx with chans := tset s.rx.chans c x } }

/-- The state with a return channel changed. -/
def updChan (s : State) (c : Nat) (f : Chan → Chan) : State := setChan s c (f (getChan s c))

/-- The numbers of the channels that the state holds. -/
def chanList (s : State) : List Nat := s.rx.chans.map (·.1)

/-- A tick overrun (R27): counted, the shadow of the next tick is not applied, emission is inhibited, and the island is
informed while a safety configuration is active. -/
def tickOverrun (s : State) : State :=
  let s := bump { s with tick := { s.tick with overrun := true } } 0x2000 0x0B
  let s := inhibit s 0
  if cfgActive s then islRaise { s with isl := { s.isl with goodTicks := 0 } } 7 else s

/-! ### Windows and bins (R81, R85, R86) -/

/-- The windows that the engine takes from a descriptor, and whether it truncated them (R86). -/
def truncWindows (w : Windows) : Windows × Bool :=
  let l0 := if w.s0 + w.l0 ≤ 40960 then w.l0 else (40960 - w.s0) / 128 * 128
  if l0 = 0 then ({}, w.l0 != 0 || w.l1 != 0)
  else
    let s1 := if w.l1 = 0 then w.s1 else max w.s1 (w.s0 + l0)
    let m := min (40960 - s1) (2048 - l0)
    let l1 := if w.l1 ≤ m then w.l1 else m / 128 * 128
    let r : Windows := { s0 := w.s0, l0 := l0, s1 := if l1 = 0 then 0 else s1, l1 := l1 }
    (r, r != { w with s1 := if w.l1 = 0 then 0 else w.s1 })

/-- The window and memory bin of a fine grid index (R85). -/
def winOf (w : Windows) (g : Nat) : Option (Nat × Nat) :=
  if w.s0 ≤ g && g < w.s0 + w.l0 then some (0, g - w.s0)
  else if w.s1 ≤ g && g < w.s1 + w.l1 then some (1, w.l0 + (g - w.s1))
  else none

/-- The number of windows. -/
def winCount (w : Windows) : Nat := (if w.l0 = 0 then 0 else 1) + (if w.l1 = 0 then 0 else 1)

/-- The cost of a read pass in HIST cycles (R107). -/
def readCost (w : Windows) : Nat := 368 + (w.l0 + w.l1) / 2 + 16 * winCount w

/-! ### Stacks as planned (R96, R174) -/

/-- What a channel's stack in a tick is planned to be. -/
structure StackPlan where
  col   : ColRun
  e     : Nat
  first : Nat
  depth : Nat
  win   : Windows
  fovea : Bool

/-- The planned stack of a channel that a tick belongs to: the column's, or the fovea stack of its freed shots. -/
def stackAt (s : State) (c u : Nat) : Option StackPlan :=
  match columnAt s u with
  | none => none
  | some col =>
    match tget col.chans c with
    | none => none
    | some p =>
      let own : StackPlan := { col := col, e := p.e, first := col.first, depth := col.s, win := p.win, fovea := false }
      match tget col.fovea p.e with
      | none => some own
      | some f =>
        if u < f.first then some own
        else (tget f.wins c).map fun w =>
          { own with first := f.first, depth := col.first + col.s - f.first, win := w, fovea := true }

/-- The scheduled shot of a channel's stack in the current tick. -/
def chanShot (s : State) (c : Nat) : Option (StackPlan × Shot) :=
  (stackAt s c s.tick.num).bind fun p => (tget s.emit.shots p.e).map fun x => (p, x)

/-! ### Delivery of events (R25, R58, R83, R124) -/

/-- The half that a tick's events and marks belong to: the accumulating one, or after gate close the one just closed. -/
def Chan.onHalf (x : Chan) (f : Half → Half) : Chan :=
  if x.late then { x with held := f x.held } else { x with acc := f x.acc }

/-- That half. -/
def Chan.half (x : Chan) : Half := if x.late then x.held else x.acc

/-- The counters of an event that is delivered (0x3050, 0x3068). -/
def countMarks (s : State) (c : Nat) (v : Event) : State :=
  let s := if v.ovl then bumpChan s 0x3050 c 1 else s
  if v.wclamp then bumpChan s 0x3068 c 1 else s

/-- The events of this tick that the front end has delivered (R58, R329). -/
def countRate (v : Event) (x : Chan) : Chan :=
  { x with rate := (x.rate.1 + 1, x.rate.2.1 + b2n v.ht, x.rate.2.2 + b2n v.ovl) }

/-- An event of an unassigned channel: within the scout span from t+0 it is delivered (R58, R83). -/
def unassigned (s : State) (c : Nat) (v : Event) : State :=
  if v.time ≤ 327679 then countMarks (bumpChan (updChan s c (countRate v)) 0x3138 c 1) c v else s

/-- ECHO's tap on a delivered event: the outside-window count and the walk-clamp segments (R124, R136, R144). -/
def tapEvent (rt : Nat) (v : Event) (h : Half) : Half :=
  { h with
    offered := h.offered + 1
    eOut := if !v.blank && (winOf h.win (rt / 8)).isNone then h.eOut + 1 else h.eOut
    wclamp := if v.wclamp then h.wclamp ||| (1#160 <<< (rt / 2048)) else h.wclamp }

/-- An event of an assigned channel: within the scout span of its shot it is delivered (R25, R58). -/
def assignedEvent (s : State) (c : Nat) (v : Event) : State :=
  let x := getChan s c
  if v.time < x.lambda || 327679 < v.time - x.lambda then s
  else
    let y := (countRate v x).onHalf (tapEvent (v.time - x.lambda) v)
    countMarks (setChan s c { y with events := y.events ++ [v] }) c v

/-- Whether the channel's shot of this tick is still to be confirmed or denied (R83). -/
def shotPending (s : State) (c : Nat) : Bool :=
  !s.rx.slotDone && chanLive s c &&
    match chanShot s c with
    | some (p, x) => !x.fired && ((getChan s c).pair == .opened || p.first == s.tick.num)
    | none => false

/-- An event leaves the front end. -/
def deliver (s : State) (c : Nat) (v : Event) : State :=
  if (getChan s c).assigned then assignedEvent s c v
  else if shotPending s c then updChan s c fun x => { x with early := x.early ++ [v] }
  else unassigned s c v

/-! ### SHOT_LAUNCH (R83, R96, R202) -/

/-- The header of a stack that opens (R96). -/
def openHalf (p : StackPlan) (n : Nat) : Half :=
  let w := truncWindows p.win
  { colSeq := p.col.seq, planId := p.col.planId, fired := 1, planned := p.depth, winTrunc := w.2, win := w.1
    firstTick := n, closeTick := n, dithered := p.col.dither != 0, twoPulse := p.col.twoPulse
    earlyOk := p.col.region.early == 1 && !p.fovea, fovea := p.fovea }

/-- A channel's shot is confirmed: its stack opens or counts the shot, and the events held so far are assigned. -/
def confirmShot (s : State) (p : StackPlan) (launch c : Nat) : State :=
  let n := s.tick.num
  let x := getChan s c
  if !chanLive s c then s
  else if x.pair = .opened then
    let h : Half := { x.acc with
      fired := x.acc.fired + 1, closeTick := n
      thrChg := x.acc.thrChg || x.thrMark, lutChg := x.acc.lutChg || x.lutMark }
    let y : Chan := { x with
      acc := h, base := some h, assigned := true, lambda := 2 * launch, thrMark := false, lutMark := false, early := [] }
    x.early.foldl (fun s v => assignedEvent s c v) (setChan s c y)
  else if n = p.first then
    let h := openHalf p n
    let y : Chan := { x with
      pair := .opened, acc := h, base := some h, assigned := true, lambda := 2 * launch, thrMark := false, lutMark := false
      early := [] }
    let s := setChan s c y
    let s := if h.winTrunc then bump s 0x3108 4 else s
    let s := if p.fovea then bump s 0x2120 9 else s
    x.early.foldl (fun s v => assignedEvent s c v) s
  else s

/-- A trigger leaves EMIT and its shot is confirmed to the histogram engine. -/
def shotLaunch (s : State) (e : Nat) : State :=
  match columnAt s s.tick.num, tget s.emit.shots e with
  | some col, some x =>
    let r := launchShot s e
    if !r.2 then r.1
    else
      (col.chans.map (·.1)).foldl (fun s c =>
        match stackAt s c s.tick.num with
        | some p => if p.e = e then confirmShot s p x.launch c else s
        | none => s) r.1
  | _, _ => s

/-- SHOT_LAUNCH (R202, R83): the rising edge of a shot's trigger, or that of its second pulse. -/
def execShotLaunch (x : LaunchEdge) (s : State) : Host.Outcome State Fault Refusal :=
  outcome s (if x.second then secondEdge s x.e.val else shotLaunch s x.e.val)

/-! ### Binning (R81, R103, R116) -/

/-- A fine bin with one more event. -/
def addFine (r : Nat) (b : FineBin) : FineBin :=
  if b.n < 65535 then { n := b.n + 1, sr := b.sr + r, sq := b.sq + r * r } else b

/-- An event enters the histograms and the peak registers. -/
def binEvent (rt : Nat) (h : Half) : Half :=
  let h := { h with
    counted := h.counted + 1
    scout := tupd h.scout (rt / 128) 0 fun n => min (n + 1) 4095 }
  match winOf h.win (rt / 8) with
  | none => h
  | some (w, m) =>
    let b := addFine (rt % 8) (tgetD h.fine m {})
    let h := { h with fine := tset h.fine m b }
    if w = 0 then
      let up : Bool := h.peak0 < b.n || (h.peak0 == b.n && m < h.peakBin0)
      { h with inWin0 := h.inWin0 + 1, peak0 := if up then b.n else h.peak0, peakBin0 := if up then m else h.peakBin0 }
    else
      let up : Bool := h.peak1 < b.n || (h.peak1 == b.n && m < h.peakBin1)
      { h with inWin1 := h.inWin1 + 1, peak1 := if up then b.n else h.peak1, peakBin1 := if up then m else h.peakBin1 }

/-! ### The coincidence filter, the quota and the coalescing buffer (R87 to R94) -/

/-- The coincidence settings of a channel's quadrant in force: k, group size, window in 0.5 ns, bypass. -/
def coincOf (s : State) (c : Nat) : Nat × Nat × Nat × Bool := tgetD s.rx.coinc (c / 64) (1, 1, 2, true)

/-- The events of the channel's group within W of a time (R88). -/
def coincCount (s : State) (c t : Nat) : Nat :=
  let q := coincOf s c
  let group := (List.range q.2.1).map (q.2.1 * (c / q.2.1) + ·)
  group.foldl (fun a g =>
    let x := getChan s g
    if x.assigned && chanLive s g then
      a + (x.events.filter fun v => v.time ≤ t + 16 * q.2.2.1 && t ≤ v.time + 16 * q.2.2.1).length
    else a) 0

/-- The first waiting event of a time, decided. -/
def decideFirst (t : Nat) (pass : Bool) : List Event → List Event
  | [] => []
  | v :: r => if v.time = t && v.passed.isNone then { v with passed := some pass } :: r else v :: decideFirst t pass r

/-- An event that has passed filter and quota enters the coalescing buffer, which has drained one entry per cycle (R92);
whether it is binned. -/
def coalesce (s : State) (c rt cycle : Nat) : State × Bool :=
  let x := getChan s c
  let h := x.half
  let b := tgetD s.rx.bufs (c / 8) {}
  let rest := b.entries.drop (cycle - b.cycle)
  let k : CoEntry := { chan := c, bin := rt / 128, fine := (winOf h.win (rt / 8)).map (·.2) }
  let put (l : List CoEntry) : State :=
    let b' : CoBuf := { entries := l, cycle := max b.cycle cycle }
    { s with rx := { s.rx with bufs := tset s.rx.bufs (c / 8) b' } }
  if rest.contains k then (updChan (put rest) c fun x => x.onHalf (binEvent rt), true)
  else if rest.length < 64 then (updChan (put (rest ++ [k])) c fun x => x.onHalf (binEvent rt), true)
  else
    (bumpChan (updChan (put rest) c fun x => x.onHalf fun h =>
      { h with bufDrops := h.bufDrops + 1, bufDrop := true, rateLim := true }) 0x3130 c 1, false)

/-- The memory words that an accepted event reads had correctable errors, or one that is not (R111). -/
def accMemory (s : State) (c corrected : Nat) (bad : Bool) : State :=
  bumpBy (if bad then updChan s c fun x => x.onHalf fun h => { h with eccErr := true } else s) 0x3108 7 corrected

/-- The filter's decision on an event (R88 to R91); an event that is binned meets the memory errors of its words. -/
def coincidence (s : State) (c t cycle corrected : Nat) (bad : Bool) : State :=
  let x := getChan s c
  match x.events.find? fun v => v.time == t && v.passed.isNone with
  | none => s
  | some v =>
    if s.rx.settled || !x.assigned then s
    else
      let q := coincOf s c
      let ok := q.1 ≤ coincCount s c t || (q.2.2.2 && v.ht)
      let s := setChan s c { x with events := decideFirst t ok x.events }
      if !ok then
        bumpChan (updChan s c fun x => x.onHalf fun h => { h with rejects := h.rejects + 1 }) 0x3120 c 1
      else if 1050 ≤ x.accepted then
        bumpChan (updChan s c fun x => x.onHalf fun h =>
          { h with quotaDrop := h.quotaDrop + 1, rateLim := true }) 0x3128 c 1
      else
        let r := coalesce (updChan s c fun x => { x with accepted := x.accepted + 1 }) c (t - x.lambda) cycle
        if r.2 then accMemory r.1 c corrected bad else r.1

/-- COINCIDENCE_DECISION (R90). -/
def execCoincidenceDecision (c : Fin 512) (time : Nat) (x : FilterCycle) (s : State) : Host.Outcome State Fault Refusal :=
  outcome s (coincidence s c.val time x.cycle x.corrected x.bad)

/-! ### Overload marks (R65, R66, R67) -/

/-- The time of gate close in 1.953125 ps units. -/
def gateEnd : Int := 5376000

/-- The channels that list a channel in the neighbour map in force. -/
def listedBy (s : State) (c : Nat) : List Nat :=
  match s.rx.nmap with
  | some (.bytes b) =>
    (List.range (nChan s)).filter fun d => (List.range 8).any fun i => fieldN b (16 * d + 2 * i) 2 == c
  | _ => if c < nChan s then defaultNeighbours c else []

/-- The scout bins of an interval of tick time in the range time of a channel, rounded outward and clipped. -/
def markBins (lambda : Nat) (a b : Int) : BitVec 2560 :=
  let lo := max 0 (fdiv (a - 16 * (lambda : Int)) 2048)
  let hi := min 2559 (fdiv (b - 16 * (lambda : Int) + 2047) 2048 - 1)
  if lo ≤ hi then (BitVec.allOnes 2560 <<< lo.toNat) &&& (BitVec.allOnes 2560 >>> (2559 - hi.toNat)) else 0

/-- Whether a channel's events of this tick belong to a stack. -/
def markable (s : State) (c : Nat) : Bool := (getChan s c).assigned && chanLive s c

/-- An overload descriptor reaches the histogram engine (R66). -/
def markOverload (s : State) (c : Nat) : State :=
  match (getChan s c).blank with
  | none => s
  | some (a, b) =>
    let b := min b gateEnd
    let s := updChan s c fun x => { x with blank := none, blanked := x.blanked ++ [(a, b)] }
    let s := if markable s c then
        updChan s c fun x => x.onHalf fun h => { h with sat := h.sat ||| markBins x.lambda a b, overload := true }
      else s
    (listedBy s c).foldl (fun s d =>
      if markable s d then updChan s d fun x => x.onHalf fun h => { h with xt := h.xt ||| markBins x.lambda a b }
      else s) s

/-- BLANKING_INTERVAL_END (R66). -/
def execBlankingIntervalEnd (c : Fin 512) (s : State) : Host.Outcome State Fault Refusal := outcome s (markOverload s c.val)

/-! ### Swaps (R95 to R101) -/

/-- The largest load of a bank is kept (R110): the loads of the passes queued from one gate close to the next, noted as
they are queued (assumption 71). -/
def noteLoad (s : State) (g k : Nat) : State :=
  let s := { s with rx := { s.rx with load := tset s.rx.load g k } }
  if odN s 0x3108 5 < k then odSetN (odSetN s 0x3108 5 k) 0x3108 6 g else s

/-- The stacks with RATE_LIMITED are counted once the half has all its events (0x3118). -/
def countLimited (s : State) (c : Nat) (h : Half) : State := if h.rateLim then bumpChan s 0x3118 c 1 else s

/-- An open stack closes: the halves exchange their roles, the read pass is queued (R97). -/
def closeStack (s : State) (c : Nat) (cut early : Bool) : State :=
  let x := getChan s c
  let seq := (x.stackSeq + 1) % 65536
  let h : Half := { x.acc with stackSeq := seq, cutShort := cut, early := early }
  let y : Chan := { x with
    pair := .idle, acc := {}, held := h, stackSeq := seq, reading := true, toExtract := false
    due := h.closeTick + 1 }
  let s := bumpChan (setChan s c y) 0x3110 c 1
  let s := if early then bumpChan s 0x3140 c 1 else s
  let s := if cut then bumpChan s 0x3148 c 1 else s
  noteLoad s (c / 8) (tgetD s.rx.load (c / 8) 0 + readCost h.win)

/-- The open stack of a channel that has left RUN or DEGRADED closes at swap point B and is discarded (R99). -/
def closeGone (s : State) (c : Nat) : State :=
  let x := getChan s c
  let s := setChan s c { x with
    pair := .idle, acc := {}, base := none, gone := false, stackSeq := (x.stackSeq + 1) % 65536 }
  countLimited (bump (bumpChan s 0x3110 c 1) 0x3108 8) c x.acc

/-- A stack closes at swap point B: cut short, or discarded where its channel has left RUN or DEGRADED (R97, R99). -/
def closeB (s : State) (c : Nat) : State :=
  if (getChan s c).gone then closeGone s c else closeStack (countLimited s c (getChan s c).acc) c true false

/-- The events held for a channel's shot are unassigned (R83). -/
def dropEarly (s : State) (c : Nat) : State :=
  let x := getChan s c
  x.early.foldl (fun s v => unassigned s c v) (setChan s c { x with early := [] })

/-- A channel leaves RUN or DEGRADED: the events held for its shot are unassigned, and an open stack is discarded at swap
point B (R99). Events delivered before are still decided, so that the header of a stack that has closed counts them (R94). -/
def chanLeave (s : State) (c : Nat) (st : ChanState) : State :=
  updChan (dropEarly s c) c fun x => { x with
    st := st, gone := x.gone || x.pair == .opened, trail := none, blank := none, blanked := [], stuckRun := 0, stuckNow := false }

/-- GATE_CLOSE (R97, R76): running blanking intervals end, and stacks with all their shots swap at point A. -/
def gateClose (s : State) : State :=
  if !s.rx.gate then s
  else
    let s := (chanList s).foldl markOverload s
    let s := { s with rx := { s.rx with gate := false, load := [] } }
    (chanList s).foldl (fun s c =>
      let x := getChan s c
      if x.pair = .opened && x.assigned && !x.gone && x.acc.fired = x.acc.planned then
        updChan (closeStack s c false false) c fun y => { y with late := true, shown := some x.held }
      else s) s

/-- GATE_CLOSE. -/
def execGateClose (s : State) : Host.Outcome State Fault Refusal := outcome s (gateClose s)

/-- The early-termination test of one window (R153): peak, counted events and length; target in quarters. -/
def windowPasses (peak inWin l emin target : Nat) : Bool :=
  l = 0 ||
    (let d : Int := (peak : Int) * ((l - 1 : Nat) : Int) - ((inWin - peak : Nat) : Int)
     emin ≤ peak && ((target * target * peak * (l - 1) * (l - 1) : Nat) : Int) ≤ 16 * d * d)

/-- The early-termination test of an open stack (R153). -/
def earlyTest (s : State) (c : Nat) : Bool :=
  let x := getChan s c
  let h := x.acc
  x.pair == .opened && x.assigned && !x.gone && odB s 0x3200 0x0A && h.earlyOk && h.win.l0 != 0 &&
    odN s 0x3200 0x0C ≤ h.fired && h.fired < h.planned &&
    windowPasses h.peak0 h.inWin0 h.win.l0 (odN s (0x3208 + c / 64) 2) (odN s 0x3200 0x0B) &&
    windowPasses h.peak1 h.inWin1 h.win.l1 (odN s (0x3208 + c / 64) 2) (odN s 0x3200 0x0B)

/-- Insertion of an event by its time. -/
def insertEvent (v : Event) : List Event → List Event
  | [] => [v]
  | w :: r => if v.time < w.time then v :: w :: r else w :: insertEvent v r

/-- The event tap's word of an event (R361). -/
def tapWord (c : Nat) (v : Event) : Nat :=
  c * 2 ^ 23 + v.time * 16 + b2n v.ht * 8 + b2n v.ovl * 4 + b2n v.blank * 2 + b2n v.wclamp

/-- One output's event tap of a tick (R361, R186): the earliest events of each of its channels that passed the filter; the
rest are dropped and counted. -/
def eventTap (s : State) (i : Nat) (o : OutEntry) : State :=
  let cap := 128 * o.ecap / 10
  let lists := (chanList s).filterMap fun c =>
    let x := getChan s c
    if o.cmask.getLsbD c && x.assigned then
      some (c, (x.events.filter fun v => v.passed == some true).foldl (fun l v => insertEvent v l) [])
    else none
  let words := lists.flatMap fun p => (p.2.take cap).map (tapWord p.1)
  let lost := lists.foldl (fun a p => a + (p.2.length - cap)) 0
  let s := if o.sinkk = 1 && lost ≠ 0 then bumpBy s (0xC020 + o.sinki % 16) 6 lost else s
  if words.isEmpty then s
  else
    let ws := wordsOf (words.flatMap (leBytes 4))
    route s (o.sinkk == 1) o.sinki { stream := i, word := unitWord s.tick.num ws.length 3 1, words := ws }

/-- The event taps of the tick's column. -/
def eventTaps (s : State) : State :=
  match columnAt s s.tick.num with
  | none => s
  | some col => col.outs.zipIdx.foldl (fun s p => if p.1.otype = 3 then eventTap s p.2 p.1 else s) s

/-- EARLY_TERMINATION_TEST (R153, R97, R114): at t+10.60 µs every accepted event is written, halves closed at gate close
become visible, early closes swap, and Headwater decides on freed shots. -/
def earlyTermination (s : State) : State :=
  if s.rx.gate || s.rx.settled then s
  else
    let s := (chanList s).foldl markOverload s
    let s := eventTaps s
    let s := (chanList s).foldl (fun s c =>
      if (getChan s c).late then countLimited s c (getChan s c).held else s) s
    let s := { s with rx := { s.rx with
      settled := true, bufs := [], chans := s.rx.chans.map fun p => (p.1, { p.2 with late := false, shown := none }) } }
    let s := (chanList s).foldl (fun s c => if earlyTest s c then closeStack (countLimited s c (getChan s c).acc) c false true else s) s
    freeShots s

/-- EARLY_TERMINATION_TEST. -/
def execEarlyTerminationTest (s : State) : Host.Outcome State Fault Refusal := outcome s (earlyTermination s)

/-- SWAP_POINT_B_SLOT (R97): stacks whose shot was suppressed in the launch slot close; events held for a shot that has not
fired are unassigned. -/
def swapSlot (s : State) : State :=
  if s.rx.slotDone then s
  else
    let s := { s with rx := { s.rx with slotDone := true } }
    (chanList s).foldl (fun s c =>
      let x := getChan s c
      if x.assigned then s
      else
        let s := dropEarly s c
        if x.pair = .opened then closeB s c else s) s

/-- SWAP_POINT_B_SLOT. -/
def execSwapPointBSlot (s : State) : Host.Outcome State Fault Refusal := outcome s (swapSlot s)

/-- Whether the shadow holds the next shot of a channel's stack. -/
def nextShot (s : State) (c : Nat) : Bool :=
  !s.tick.overrun &&
    match stackAt s c (s.tick.num + 1) with
    | some p => (tget s.emit.shadow p.e).isSome
    | none => false

/-- SHADOW_FREEZE (R27, R97): an incomplete task is a tick overrun; stacks whose next shot is withheld close at point B. -/
def shadowFreeze (s : State) (late : Bool) : State :=
  let s := if late then tickOverrun s else s
  (chanList s).foldl (fun s c =>
    let x := getChan s c
    if x.pair = .opened && (x.gone || !nextShot s c) then closeB s c else s) s

/-- SHADOW_FREEZE. -/
def execShadowFreeze (late : Bool) (s : State) : Host.Outcome State Fault Refusal := outcome s (shadowFreeze s late)

/-! ### Read passes (R104, R106, R110, R111) -/

/-- A bin lies beyond its bound (R104). -/
def beyondBound (h : Half) : Bool :=
  h.scout.any (fun p => 2 * h.fired < p.2) || h.fine.any (fun p => h.fired < p.2.n)

/-- The stack header's words (R116). -/
def headerWords (h : Half) : List Nat :=
  let w1 := h.planId * 2 ^ 24 + h.fired * 2 ^ 17 + h.planned * 2 ^ 10 + b2n h.eccErr * 2 ^ 9 + b2n h.cntBound * 2 ^ 8 +
    b2n h.winTrunc * 2 ^ 7 + b2n h.lutChg * 2 ^ 6 + b2n h.thrChg * 2 ^ 5 + b2n h.overload * 2 ^ 4 + b2n h.cutShort * 2 ^ 3 +
    b2n h.early * 2 ^ 2 + b2n h.bufDrop * 2 + b2n h.rateLim
  [h.stackSeq * 2 ^ 16 + h.colSeq, w1, h.win.s0 * 2 ^ 16 + h.win.l0 / 128, h.win.s1 * 2 ^ 16 + h.win.l1 / 128,
   h.offered, h.rejects, h.quotaDrop, h.bufDrops, h.counted, h.inWin0, h.inWin1,
   h.peak0 * 2 ^ 16 + h.peakBin0, h.peak1 * 2 ^ 16 + h.peakBin1, h.firstTick % 2 ^ 32, h.closeTick % 2 ^ 32, 0]

/-- The header's bytes. -/
def headerBytes (h : Half) : Bytes := (headerWords h).flatMap (leBytes 4)

/-- A fine bin's word (R117). -/
def fineWord (b : FineBin) : Nat := b.n + b.sr * 2 ^ 16 + b.sq * 2 ^ 35

/-- The content of a histogram unit (R361): header, masks, scout words, fine words. -/
def histBytes (h : Half) : Bytes :=
  headerBytes h ++ leBytes 320 h.sat.toNat ++ leBytes 320 h.xt.toNat ++
    ((List.range 2560).flatMap fun b => leBytes 2 (tgetD h.scout b 0)) ++
    ((List.range (h.win.l0 + h.win.l1)).flatMap fun m => leBytes 8 (fineWord (tgetD h.fine m {})))

/-- The raw histogram taps of a stack as its read pass goes on (R106). -/
def histTaps (s : State) (c : Nat) (h : Half) : State :=
  match s.plan.cols.find? fun (x : ColRun) => x.seq == h.colSeq && x.planId == h.planId with
  | none => s
  | some col => col.outs.zipIdx.foldl (fun s p =>
      if p.1.otype = 2 && p.1.cmask.getLsbD c then
        let ws := wordsOf (histBytes h)
        route s (p.1.sinkk == 1) p.1.sinki { stream := p.2, word := unitWord h.closeTick ws.length 2 1, words := ws }
      else s) s

/-- The bins that a HIST probe takes (R331): scout counts or fine counts from its first bin on. -/
def probeBins (h : Half) (b n : Nat) : List Nat :=
  (List.range n).map fun i =>
    if b.testBit 15 then (tgetD h.fine (b % 4096 + i) {}).n else tgetD h.scout (b % 4096 + i) 0

/-- The acquisition engine's HIST probes take their blocks from a read pass (R331); the block before it stays as the
probe's entry p + 16, for the pass of a close may end before the row that takes the block of the close before (R329). -/
def histProbes (s : State) (c : Nat) (h : Half) : State :=
  let hdr := (headerWords h).getD 0 0 * 2 ^ 32 + (headerWords h).getD 1 0
  (List.range 16).foldl (fun s p =>
    if odN s (0x7010 + p) 1 = 1 && odN s (0x7010 + p) 2 = c then
      let v := (h.closeTick, hdr, probeBins h (odN s (0x7010 + p) 3) (odN s (0x7010 + p) 4))
      let kept := match tget s.acq.blocks p with
        | some b => tset s.acq.blocks (p + 16) b
        | none => s.acq.blocks
      { s with acq := { s.acq with blocks := tset kept p v } }
    else s) s

/-- READ_PASS_COMPLETE (R106, R104, R111): the half has been read with its corrected errors; an uncorrectable error or a bin
beyond its bound discards the stack. -/
def readPass (s : State) (c corrected : Nat) (bad : Bool) : State :=
  let x := getChan s c
  if !x.reading then s
  else
    let h : Half := { x.held with eccErr := x.held.eccErr || bad, cntBound := beyondBound x.held }
    let lost := h.eccErr || h.cntBound
    let s := setChan s c { x with held := h, reading := false, toExtract := !lost }
    let s := bumpBy s 0x3108 7 corrected
    let s := histProbes (histTaps s c h) c h
    if lost then reportFault (bump s 0x3108 8) .detection else s

/-- READ_PASS_COMPLETE. -/
def execReadPassComplete (c : Fin 512) (corrected : Nat) (bad : Bool) (s : State) : Host.Outcome State Fault Refusal :=
  outcome s (readPass s c.val corrected bad)

/-- READ_PASS_OVERRUN (R110): the pass is incomplete at t+10.4 µs of its extraction tick; no records, and a tick overrun. -/
def readOverrun (s : State) (c : Nat) : State :=
  let x := getChan s c
  if !x.reading || s.tick.num < x.due then s
  else tickOverrun (bump (setChan s c { x with reading := false, toExtract := false }) 0x3108 3)

/-- READ_PASS_OVERRUN. -/
def execReadPassOverrun (c : Fin 512) (s : State) : Host.Outcome State Fault Refusal := outcome s (readOverrun s c.val)

/-! ### The histogram window (R113, R114, R119) -/

/-- The half that the window shows. -/
def shownHalf (s : State) (c : Nat) : Half := let x := getChan s c; x.shown.getD x.held

/-- The byte at an offset of the window; addresses of absent quadrants read zero, and so do the bytes of the mask area
that no mask fills (assumption 71). -/
def histByte (s : State) (o : Nat) : Byte :=
  if o < 0x800000 then
    BitVec.ofNat 8 (fineWord (tgetD (shownHalf s (o / 0x4000)).fine (o % 0x4000 / 8) {}) >>> (8 * (o % 8)))
  else if o < 0xA80000 then
    let o := o - 0x800000
    BitVec.ofNat 8 (tgetD (shownHalf s (o / 0x1400)).scout (o % 0x1400 / 2) 0 >>> (8 * (o % 2)))
  else if o < 0xB00000 then
    let o := o - 0xA80000
    let h := shownHalf s (o / 0x400)
    let k := o % 0x400
    if k < 320 then BitVec.ofNat 8 (h.sat.toNat >>> (8 * k))
    else if 0x200 ≤ k && k < 0x200 + 320 then BitVec.ofNat 8 (h.xt.toNat >>> (8 * (k - 0x200)))
    else 0
  else if o < 0xB08000 then
    let o := o - 0xB00000
    (headerBytes (shownHalf s (o / 0x40)))[o % 0x40]?.getD 0
  else 0

/-- The window's mapped span. -/
def histMapped (o : Nat) : Bool := o < 0xB08000

/-! ### Objects (R120, R121) -/

/-- The coincidence settings that the objects hold. -/
def coincSet (s : State) (q : Nat) : Nat × Nat × Nat × Bool :=
  (odN s (0x3100 + q) 1, odN s (0x3100 + q) 2, odN s (0x3100 + q) 3, odB s (0x3100 + q) 4)

/-- The write rules of the histogram objects: k at most n, n a power of two (R87). -/
def hookHist (ix sub : Nat) : Option (State → WriteHook) :=
  if 0x3100 ≤ ix && ix < 0x3108 then
    match sub with
    | 1 => some fun s => { range := fun v => valN v ≤ odN s ix 2, run := keep ix 1 }
    | 2 => some fun s => { range := fun v => [1, 2, 4, 8].contains (valN v) && odN s ix 1 ≤ valN v, run := keep ix 2 }
    | _ => none
  else none

end Sys2Proof.Machine
end

