-- ==== Sys2Proof/Machine/FrontEnd.lean ====
section
/-! DEFINITION. The return front end (R51 to R79): time conversion and walk correction, overload and blanking, stuck inputs,
thresholds, calibration on the fly, the channel states and the full calibration. Times are in 1.953125 ps. -/

namespace Sys2Proof.Machine

/-- The settings that the objects of a quadrant hold (R79). -/
def quadSet (s : State) (q : Nat) : Quad where
  slope := odN s (0x3010 + q) 4 == 1
  ovlw := odN s (0x3010 + q) 5
  wmax := odN s (0x3010 + q) 6
  walk := odBytes s (0x3010 + q) 7

/-- The settings in force for a channel's quadrant. -/
def quadOf (s : State) (c : Nat) : Quad := (tget s.rx.quads (c / 64)).getD (quadSet s (c / 64))

/-! ### Time conversion (R57) -/

/-- A stamp of the interpolator: coarse count and calibrated phase. -/
def stamp (x : Chan) (e : Sample) : Int := ((256 * (e.t / 256) + x.lut.getD e.ph.val 0 : Nat) : Int)

/-- An edge with the channel's skew and trim, without walk. -/
def corrected (x : Chan) (e : Sample) : Int := stamp x e + x.skew + x.trim

/-- An entry of the walk table. -/
def walkEntry (q : Quad) (i : Nat) : Int := fieldI q.walk (2 * i) 2

/-- The WIDTH-mode correction of a width, and WCLAMP (R68). -/
def walkWidth (q : Quad) (w : Nat) (winv : Bool) : Int × Bool :=
  if winv || 256 * q.wmax < w then (walkEntry q q.wmax, true)
  else
    let i := w / 256
    if 63 ≤ i then (walkEntry q 63, false)
    else
      let a := walkEntry q i
      (roundDiv (256 * a + (walkEntry q (i + 1) - a) * ((w % 256 : Nat) : Int)) 256, false)

/-- The SLOPE-mode correction of an edge distance `d` between the two thresholds, and WCLAMP (R69). The magnitude is
compared with the bound before it is rounded (assumption 72). -/
def walkSlope (q : Quad) (low high : Nat) (d : Int) : Int × Bool :=
  let e := iabs (walkEntry q q.wmax)
  let k := high - low
  if e * (k : Int) < d * (low : Int) then (-e, true) else (roundDiv (-(d * (low : Int))) k, false)

/-- The walk correction of a pulse with the leading edge of the high discriminator (R68, R69). -/
def walkOf (s : State) (c : Nat) (lead : Int) (w : Nat) (winv : Bool) (h : Option Sample) : Int × Bool :=
  let x := getChan s c
  let q := quadOf s c
  match h with
  | some hp =>
    let d := corrected x hp - lead
    if q.slope && 32 ≤ d then walkSlope q x.lowEff x.highEff d else walkWidth q w winv
  | none => walkWidth q w winv

/-! ### The discriminators (R52, R53, R56) -/

/-- What the low discriminator makes of one stretch of activity: its edges, no trailing edge while it stays active, and
what the high discriminator saw of it: its first leading edge and its longest time active, in 1.953125 ps. -/
structure Hit where
  lead  : Sample
  trail : Option Sample
  high  : Option (Sample × Nat)
  deriving DecidableEq, Repr

/-- The stretches in which a discriminator with threshold `thr` is active (R56): from a level of at least 1 mV above it
until one of at least 1 mV below it. `run` is the leading edge of the running stretch. -/
def actives (thr : Int) : List Sample → Option Sample → List (Sample × Option Sample)
  | [], none => []
  | [], some a => [(a, none)]
  | x :: xs, none => if thr + 1 ≤ x.mv then actives thr xs (some x) else actives thr xs none
  | x :: xs, some a => if x.mv ≤ thr - 1 then (a, some x) :: actives thr xs none else actives thr xs (some a)

/-- When a stretch ends, at gate close at the latest. -/
def endOf (e : Option Sample) : Nat := min gateEnd.toNat ((e.map Sample.t).getD gateEnd.toNat)

/-- The hit of a stretch with these levels, lead first, and this trailing edge. -/
def hitOf (high : Nat) (lead : Sample) (w : List Sample) (trail : Option Sample) : Hit :=
  let hs := actives high ((lead :: w ++ trail.toList).filter fun x => x.t ≤ endOf trail) none
  { lead := lead, trail := trail
    high := hs.head?.map fun h => (h.1, hs.foldl (fun m h => max m (endOf h.2 - h.1.t)) 0) }

/-- A level after the polarity of a channel's quadrant (R52), the object as it is at the event (assumption 72). -/
def polar (s : State) (c : Nat) (mv : Int) : Int := if odN s (0x3010 + c / 64) 2 = 1 then -mv else mv

/-- The time constant of the baseline restorer in 1.953125 ps (R53), 0 while it is off: the setting that was in force at t+0
(R76). -/
def restoreTau (s : State) (c : Nat) : Nat :=
  match tgetD s.rx.restore (c / 64) 0 with
  | 1 => 25600
  | 2 => 256000
  | _ => 0

/-- The baseline estimate after the restorer has run for a time towards the baseline `b` (R53): what is left of the gap
lies between all of it and nothing (assumption 70). -/
def restored (tau run : Nat) (est b : Int) : Int :=
  if tau = 0 then 0
  else
    let g := est - b
    let r := Config.baselineLeft tau run g
    if 0 ≤ g then b + max 0 (min g r) else b + min 0 (max g r)

/-- One more run of the restorer, by time constant. -/
def addRun (tau run : Nat) : List (Nat × Nat) → List (Nat × Nat)
  | [] => [(tau, run)]
  | [p] => if p.1 = tau then [(tau, p.2 + run)] else [p, (tau, run)]
  | p :: q :: r => p :: addRun tau run (q :: r)

/-- A channel with its baseline estimate brought up to an instant of this tick, gate close at the latest. -/
def restoreTo (s : State) (c : Nat) (b : Int) (t : Nat) : Chan :=
  let x := getChan s c
  let t := min t gateEnd.toNat
  let runs := addRun (restoreTau s c) (t - x.estAt) x.estRuns
  { x with est := runs.foldl (fun e p => restored p.1 p.2 e (polar s c b)) x.est, estRuns := [], estAt := max t x.estAt }

/-- The restorer holds its estimate up to an instant. -/
def holdUntil (x : Chan) (t : Int) : Chan := { x with estAt := max x.estAt (min gateEnd t).toNat }

/-- A sample as the discriminators see it: polarity and baseline estimate taken. -/
def level (s : State) (c : Nat) (x : Sample) : Sample := { x with mv := polar s c x.mv - (getChan s c).est }

/-- No discriminator is active: the restorer runs from sample to sample (R53), up to the first that crosses the low
threshold, which comes with those after it. -/
def idleRun (c : Nat) (b : Int) : List Sample → State → State × Option (Sample × List Sample)
  | [], s => (s, none)
  | x :: xs, s =>
    let s := setChan s c (restoreTo s c b x.t)
    if ((getChan s c).lowEff : Int) + 1 ≤ (level s c x).mv then (s, some (level s c x, xs)) else idleRun c b xs s

/-- The low discriminator is active: the levels up to its trailing edge, that edge, and the samples after it. -/
def activeRun (s : State) (c : Nat) : List Sample → List Sample × Option Sample × List Sample
  | [] => ([], none, [])
  | x :: xs =>
    if (level s c x).mv ≤ ((getChan s c).lowEff : Int) - 1 then ([], some (level s c x), xs)
    else
      let r := activeRun s c xs
      (level s c x :: r.1, r.2)

/-- The next stretch of activity in a waveform over the baseline `b`, and the samples after it; the restorer has run up to
its lead. -/
def nextHit (s : State) (c : Nat) (b : Int) (w : List Sample) : State × Option (Hit × List Sample) :=
  match idleRun c b w s with
  | (s, none) => (s, none)
  | (s, some (lead, rest)) =>
    let r := activeRun s c rest
    (s, some (hitOf (getChan s c).highEff lead r.1 r.2.1, r.2.2))

/-! ### Events (R57 to R60, R64, R65) -/

/-- A blanking interval after an overload from `a` to `b` (R65): a running one is extended, one that has passed is ended. -/
def blankFrom (s : State) (c : Nat) (a b : Int) : State :=
  match (getChan s c).blank with
  | some (u, v) =>
    if u ≤ a && a < v then updChan s c fun x => { x with blank := some (u, max v b) }
    else updChan (markOverload s c) c fun x => { x with blank := some (a, b) }
  | none => updChan s c fun x => { x with blank := some (a, b) }

/-- Whether an edge lies inside a blanking interval of the tick, running or ended. -/
def inBlank (x : Chan) (a : Int) : Bool := (x.blank.toList ++ x.blanked).any fun p => p.1 ≤ a && a < p.2

/-- The trailing edge of a hit lies after gate close (R57, R58). -/
def Hit.open (h : Hit) : Bool :=
  match h.trail with
  | some t => gateEnd.toNat ≤ t.t
  | none => true

/-- The trailing edge's stamp, gate close for a hit that is active then. -/
def Hit.trailStamp (x : Chan) (h : Hit) : Int := if h.open then gateEnd else (h.trail.map (stamp x)).getD gateEnd

/-- A hit that is stamped: its event leaves the channel. With WINV the width runs to gate close as it stands, without skew
and trim; the blanking extension is taken as it is now (assumption 72). -/
def stampHit (s : State) (c : Nat) (p : Hit) : State :=
  let x := getChan s c
  let q := quadOf s c
  let lead := corrected x p.lead
  let trail := if p.open then gateEnd else p.trailStamp x + x.skew + x.trim
  let w := (max 0 (trail - lead)).toNat
  let walk := walkOf s c lead w p.open (p.high.map (·.1))
  let ovl := match p.high with
    | some h => 256 * q.ovlw < h.2
    | none => false
  let ext : Int := ((6144 + 2048 * odN s (0x3010 + c / 64) 9 : Nat) : Int)
  let hold := if p.open then gateEnd else min gateEnd (trail + ext)
  let s := updChan s c fun x => { x with trail := some (p.trailStamp x) }
  let s := if ovl then updChan (blankFrom s c lead hold) c fun x => holdUntil x hold else s
  let time := roundDiv (lead + walk.1) 16
  let v : Event := {
    time := time.toNat, width := min 511 (roundDivN w 64), ht := p.high.isSome, ovl := ovl
    blank := inBlank (getChan s c) lead, wclamp := walk.2, winv := p.open }
  if time < 0 then s else deliver s c v

/-- A channel fails: its discriminators are disabled and the fault manager is notified (R72, R327). -/
def chanFault (s : State) (c : Nat) : State := reportFault (chanLeave s c .fault) .detection

/-- A half without the events of the tick: the marks of overloads stay. -/
def dropEvents (b h : Half) : Half :=
  { b with
    sat := h.sat, xt := h.xt, overload := h.overload, eccErr := h.eccErr
    stackSeq := h.stackSeq, cutShort := h.cutShort, early := h.early }

/-- A channel without the events of the tick: in the half that accumulates, or in the one that closed in this tick as long
as its read pass is not complete. -/
def Chan.discard (x : Chan) : Chan :=
  match x.base with
  | none => x
  | some b =>
    if x.pair = .opened then { x with acc := dropEvents b x.acc }
    else if x.reading then { x with held := dropEvents b x.held }
    else x

/-- A stuck tick (R60, R72): the channel's events of the tick are discarded, and the tick counts as stuck, whenever in the
tick the stuck time passes. Events of a stack that has been read are with its records (assumption 72). -/
def stuckTick (s : State) (c : Nat) : State :=
  let x := getChan s c
  if !chanLive s c || x.stuckNow then s
  else
    let bufs := s.rx.bufs.map fun p => (p.1, { p.2 with entries := p.2.entries.filter fun k => k.chan != c })
    let s := { s with rx := { s.rx with bufs := bufs } }
    let s := setChan s c { x.discard with
      events := [], early := [], rate := (0, 0, 0), stuckNow := true, stuckRun := x.stuckRun + 1 }
    let s := bump s 0x3080 3
    if odN s 0x3000 8 ≤ x.stuckRun + 1 then chanFault s c else s

/-- The stuck time in ns (0x3000:07). -/
def stuckTime (s : State) : Nat := odN s 0x3000 7

/-- STUCK_TICK: the low discriminator of a channel has been active for `ns` without a break. -/
def execStuckTick (x : StuckInput) (s : State) : Host.Outcome State Fault Refusal :=
  outcome s (if stuckTime s < x.ns then stuckTick s x.c.val else s)

/-- How long a hit has been active: to its trailing edge, or at least to gate close. -/
def activeFor (h : Hit) : Nat := (h.trail.map Sample.t).getD gateEnd.toNat - h.lead.t

/-- A hit of a channel. A stretch longer than the stuck time makes the tick stuck (R60). A leading edge within 2.0 ns of
the latest trailing edge is not stamped; a pulse still active at re-arm is a dead-time loss (R59). The dead time runs from
stamped pulses only, and a pulse that is not stamped opens no blanking interval (assumption 72). -/
def frontEndHit (s : State) (c : Nat) (p : Hit) : State :=
  if !chanLive s c || (getChan s c).stuckNow then s
  else
    let s := updChan s c fun x => holdUntil x (endOf p.trail)
    if 512 * stuckTime s < activeFor p then stuckTick s c
    else if s.rx.settled || gateEnd.toNat ≤ p.lead.t then s
    else
      let x := getChan s c
      match x.trail with
      | some t =>
        if stamp x p.lead < t + 1024 then
          if t + 1024 < p.trailStamp x then bumpChan s 0x3058 c 1 else s
        else stampHit s c p
      | none => stampHit s c p

/-- The stretches of activity in a waveform, one after the other, at most `n` of them. -/
def runWave (c : Nat) (b : Int) : Nat → List Sample → State → State
  | 0, _, s => s
  | n + 1, w, s =>
    match nextHit s c b w with
    | (s, none) => s
    | (s, some (h, rest)) => runWave c b n rest (frontEndHit s c h)

/-- FRONT_END_EVENT: a return at a channel's input pair. -/
def frontEndEvent (s : State) (c : Nat) (p : Pulse) : State :=
  if !chanLive s c then s else runWave c p.base p.wave.length p.wave s

/-- FRONT_END_EVENT (R57). -/
def execFrontEndEvent (c : Fin 512) (p : Pulse) (s : State) : Host.Outcome State Fault Refusal :=
  outcome s (frontEndEvent s c.val p)

/-! ### Thresholds (R54, R55) -/

/-- Whether Eddy is enabled for a channel. -/
def eddyOn (s : State) (c : Nat) : Bool := (odN s (0x3220 + c / 64) 1).testBit (c % 64)

/-- Eddy's proposal for a channel, 0 while it is disabled (R54, R146). -/
def eddyProposal (s : State) (c : Nat) : Nat := if eddyOn s c then (getChan s c).le.toNat else 0

/-- The effective thresholds of a channel (R54). -/
def thresholds (s : State) (c : Nat) : Nat × Nat :=
  let low := min (max (odChan s 0x3020 c).toNat (eddyProposal s c)) 1007
  (low, min (max (odChan s 0x3028 c).toNat (low + 16)) 1023)

/-- The front end's part of the shadow load: thresholds and quadrant settings of the next tick (R54, R79). -/
def rxShadow (s : State) : State :=
  if !domOn s .rx then s
  else
    let s := { s with rx := { s.rx with quadsNext := (List.range (nChan s / 64)).map fun q => (q, quadSet s q) } }
    let raised := ((chanList s).filter fun c => (odChan s 0x3028 c).toNat < (thresholds s c).2).length
    let chans := s.rx.chans.map fun p =>
      let t := thresholds s p.1
      (p.1, { p.2 with lowNext := t.1, highNext := t.2 })
    let s := { s with rx := { s.rx with chans := chans } }
    if raised = 0 then s else bumpBy s 0x3080 1 raised

/-! ### The tick (R61, R62, R71, R78, R79, R121) -/

/-- A channel at t+0: the code density of a period that has ended, its new table, thresholds of the shadow, the trim. -/
def chanTick (s : State) (apply : Bool) (c : Nat) (x : Chan) : Chan :=
  let n := s.tick.num
  let x := if n % 256 = 0 then
      { x with
        density := if chanLive s c && x.calFrom + 256 ≤ n then some x.counts else none
        counts := List.replicate 16 0 }
    else x
  let x := match x.lutNew with
    | some (t, u) => if u ≤ n then { x with lut := t, lutNew := none, lutMark := x.lutMark || t != x.lut } else x
    | none => x
  let x := if apply then
      { x with
        lowEff := x.lowNext, highEff := x.highNext
        thrMark := x.thrMark || x.lowNext != x.lowEff || x.highNext != x.highEff }
    else x
  { x with
    trim := odChan s 0x3030 c, trail := none, blank := none, blanked := []
    estRuns := addRun (restoreTau s c) (gateEnd.toNat - x.estAt) x.estRuns, estAt := 0
    early := [], events := [], accepted := 0, assigned := false, rate := (0, 0, 0)
    base := none, late := false, shown := none, stuckRun := if x.stuckNow then x.stuckRun else 0, stuckNow := false }

/-- The enable masks that the objects hold. -/
def enableMasks (s : State) : BitVec 512 :=
  (List.range (nChan s / 64)).foldl (fun m q => m ||| (BitVec.ofNat 512 (odN s (0x3010 + q) 8) <<< (64 * q))) 0

/-- The front end and the histogram engine at t+0; `apply` is false after a tick overrun. -/
def rxTick (s : State) (apply : Bool) : State :=
  let n := s.tick.num
  let s := { s with rx := { s.rx with
    coinc := (List.range (nChan s / 64)).map fun q => (q, coincSet s q)
    nmap := tget s.od (odKey 0x3048 1), enabled := enableMasks s } }
  if !domOn s .rx then s
  else
    let s := (chanList s).foldl (fun s c =>
      if !s.rx.enabled.getLsbD c && (getChan s c).st != .off then chanLeave s c .off else s) s
    let quads := if apply && !s.rx.quadsNext.isEmpty then s.rx.quadsNext else s.rx.quads
    { s with rx := { s.rx with
      chans := s.rx.chans.map fun p => (p.1, chanTick s apply p.1 p.2)
      quads := quads, restore := (List.range (nChan s / 64)).map fun q => (q, odN s (0x3010 + q) 3), gate := true, settled := false, slotDone := false, bufs := []
      periodDue := if n % 256 = 0 then 256 ≤ n && s.rx.onFrom + 256 ≤ n else s.rx.periodDue } }

/-- CALIBRATION_HITS (R61): the hits of the tick add to the code density of their channels. -/
def calHits (s : State) (l : List CalHits) : State :=
  if !domOn s .rx then s
  else l.foldl (fun s h =>
    if (tget s.rx.chans h.c.val).isNone then s
    else updChan s h.c.val fun x => { x with
      counts := (List.range 16).map fun p => x.counts.getD p 0 + h.counts.getD p 0 }) s

/-- CALIBRATION_HITS. -/
def execCalibrationHits (h : List CalHits) (s : State) : Host.Outcome State Fault Refusal := outcome s (calHits s h)

/-- The table that code-density counts of `total` hits give, if they pass (R62). -/
def lutOf (counts : List Nat) (total : Nat) : Option (List Nat) :=
  let ok := counts.length = 16 && counts.all fun k => 8 * total ≤ 256 * k && 256 * k ≤ 24 * total
  if !ok then none
  else some ((List.range 16).map fun p =>
    roundDivN (256 * (2 * (counts.take p).foldl (· + ·) 0 + counts.getD p 0)) (2 * total))

/-- A channel's table of the period (R62, R63, R72). -/
def chanPeriod (s : State) (c : Nat) : State :=
  let x := getChan s c
  match x.density with
  | none => s
  | some d =>
    let s := setChan s c { x with density := none }
    let on := odB s 0x3000 4
    match lutOf d 32768 with
    | some t =>
      if !on then s
      else
        let far := (List.range 16).any fun p => 2 < iabs ((t.getD p 0 : Nat) - (x.lut.getD p 0 : Nat) : Int)
        let s := updChan s c fun x => { x with
          lutNew := some (t, s.tick.num + 1), failRun := 0, st := if x.st = .degraded then .run else x.st }
        if far then bump s 0x3080 2 else s
    | none =>
      let s := bumpChan s 0x3060 c 1
      if !on then s
      else
        let k := x.failRun + 1
        let s := updChan s c fun x => { x with failRun := k }
        if odN s 0x3000 9 ≤ k then chanFault s c else updChan s c fun x => { x with st := .degraded }

/-- The frequencies of the calibration oscillators (R511). -/
def oscFrequencies (s : State) (osc : List Nat) : State :=
  let f (q : Nat) : Nat := if q < nChan s / 64 then roundDivN (osc.getD q 0 * 78125) 256 else 0
  odSet (odSetN s 0x3000 6 (f 0)) 0x3080 4 (.bytes ((List.range 7).flatMap fun i => leBytes 4 (f (i + 1))))

/-- CALIBRATION_PERIOD_END (R62, R511): in the first tick after a period. -/
def periodEnd (s : State) (osc : List Nat) : State :=
  if !s.rx.periodDue then s
  else
    let s := oscFrequencies { s with rx := { s.rx with periodDue := false } } osc
    bump ((chanList s).foldl (fun s c => if chanLive s c then chanPeriod s c else s) s) 0x3000 5

/-- CALIBRATION_PERIOD_END. -/
def execCalibrationPeriodEnd (osc : List Nat) (s : State) : Host.Outcome State Fault Refusal := outcome s (periodEnd s osc)

/-! ### Full calibration (R75, R112, R147, R512) -/

/-- A channel joins a full calibration (R72). Its stack of this tick and the events delivered to it stay (R94, R97). -/
def joinCal (x : Chan) : Chan :=
  { x with st := .cal, lutNew := none, density := none, failRun := 0, stuckRun := 0, stuckNow := false
           blank := none, blanked := [] }

/-- A full calibration starts: every channel present and enabled by the masks in force joins (R78), events held for its shot
are unassigned (R83), and emission is inhibited. -/
def calStart (s : State) (power : Bool) : State :=
  let joins (c : Nat) : Bool := c < nChan s && s.rx.enabled.getLsbD c
  let s := (chanList s).foldl (fun s c => if joins c then dropEarly s c else s) s
  let chans := s.rx.chans.map fun p => (p.1, if joins p.1 then joinCal p.2 else p.2)
  inhibit { s with rx := { s.rx with cal := .running, calStart := s.tick.num, calPower := power, chans := chans } } 3

/-- Writes of 0x3000:01 (R75). -/
def calHook (_ : State) : WriteHook where
  run s v :=
    if valN v = 0 then .done s
    else if s.rx.cal = .running || !domOn s .rx then .abort abState s
    else .done (calStart s false)

/-- FULL_CALIBRATION_REQUEST (R75): a write of 1 to 0x3000:01. -/
def execFullCalibrationRequest (r : Req) (s : State) : Host.Outcome State Fault Refusal :=
  outcome s (requestWrite s r 0x3000 1 [1] calHook)

/-- The table of a channel that passed every step (R75). -/
def calTable (x : CalChan) : Option (List Nat) :=
  if x.lockOk && x.dacOk && !x.spread && !x.stuck && iabs x.delay ≤ 500000 then
    lutOf x.counts (x.counts.foldl (· + ·) 0)
  else none

/-- Eddy starts anew for a channel when a full calibration ends (R147): L_e from the static threshold, and A_s from the rate
recorded in step 6, which a channel that did not join has none of (assumption 75). -/
def eddyInit (s : State) (r : FullCalResult) (joined : List Nat) (c : Nat) (x : Chan) : Chan :=
  let rate := if joined.contains c then (r.chans.find? fun y => y.c.val == c).map (·.rate) else none
  { x with as8 := (rate.map fun n => ((256 * n : Nat) : Int)).getD x.as8, le := odChan s 0x3020 c, eddyBack := false }

/-- A channel at the end of a full calibration: FAULT, or RUN with table and skew (R72). -/
def calChan (s : State) (r : FullCalResult) (c : Nat) : State :=
  let bad := s.rx.calPower && r.memBad.getLsbD (c / 8)
  match (r.chans.find? fun x => x.c.val == c).bind fun x => (calTable x).map fun t => (x, t) with
  | some (y, t) =>
    if bad then chanFault s c
    else updChan s c fun x => { x with
      st := .run, failRun := 0, stuckRun := 0, lut := t, lutMark := x.lutMark || t != x.lut
      skew := roundDiv (-(y.delay * 8)) 15625, counts := List.replicate 16 0, density := none
      calFrom := (s.tick.num / 256 + 1) * 256 }
  | none => chanFault s c

/-- FULL_CALIBRATION_END (R75, R190): at 120 ms. -/
def fullCalEnd (s : State) (r : FullCalResult) : State :=
  if s.rx.cal ≠ .running || since s s.rx.calStart < 9375 then s
  else
    let s := if s.rx.calPower then
        odSetN s 0x3108 9 ((List.range (nChan s / 8)).foldl (fun m g => if r.memBad.getLsbD g then m + 2 ^ g else m) 0)
      else s
    let part := (chanList s).filter fun c => (getChan s c).st == .cal
    let s := part.foldl (fun s c => calChan s r c) s
    let s := { s with rx := { s.rx with chans := s.rx.chans.map fun p => (p.1, eddyInit s r part p.1 p.2) } }
    let failed := part.any fun c => (getChan s c).st == .fault
    let s := odSetN s 0x3000 3 (tickUs (since s s.rx.calStart))
    let s := { s with rx := { s.rx with cal := if failed then .faults else .done } }
    let s := inhibitClear (setInt s 7) 3
    if s.odx.startDue && s.plan.admission.isNone then
      startAdmission { s with odx := { s.odx with startDue := false } } s.odx.startUp none false
    else s

/-- FULL_CALIBRATION_END. -/
def execFullCalibrationEnd (r : FullCalResult) (s : State) : Host.Outcome State Fault Refusal := outcome s (fullCalEnd s r)

/-- A channel whose memory reads zero, OFF. -/
def chanCleared (x : Chan) : Chan :=
  { x with
    st := .off, pair := .idle, acc := {}, held := {}, shown := none, base := none, late := false, gone := false, stackSeq := 0
    est := 0, estRuns := [], estAt := 0, blanked := [], reading := false, toExtract := false, seed := x.seed, assigned := false, events := [], early := [], trail := none
    blank := none, stuckRun := 0, stuckNow := false, failRun := 0, lutNew := none, density := none }

/-- RX power is good: memories are cleared and a full calibration starts (R75, R112). -/
def rxStart (s : State) : State :=
  let chans := (List.range (nChan s)).map fun c => (c, chanCleared (getChan s c))
  calStart { s with rx := { s.rx with
    chans := chans, onFrom := s.tick.num, results := [], periodDue := false, gate := false, settled := true
    slotDone := true } } true

/-- RX power has gone: every channel is OFF, and a running calibration is abandoned (R72, R512). -/
def rxOff (s : State) : State :=
  let s := (chanList s).foldl (fun s c => chanLeave s c .off) s
  let s := (chanList s).foldl (fun s c =>
    if (getChan s c).late then countLimited s c (getChan s c).held else s) s
  let s := { s with rx := { s.rx with
    chans := s.rx.chans.map fun p => (p.1, { p.2 with
      reading := false, toExtract := false, lutNew := none, density := none, late := false, assigned := false, events := [] })
    bufs := [], gate := false, settled := true, slotDone := true, periodDue := false } }
  if s.rx.cal = .running then inhibitClear { s with rx := { s.rx with cal := .aborted } } 3 else s

/-! ### Objects (R77) -/

/-- The code of a channel state (0x3040+n). -/
def chanCode : ChanState → Nat
  | .off => 0
  | .cal => 1
  | .run => 2
  | .degraded => 3
  | .fault => 4

/-- The code of the calibration state (0x3000:02). -/
def calCode : CalState → Nat
  | .idle => 0
  | .running => 1
  | .done => 2
  | .faults => 3
  | .aborted => 4

/-- The channel of a per-channel row. -/
def rowChan (base ix sub : Nat) : Nat := 64 * (ix - base) + sub - 1

/-- The number of channels in a state. -/
def chanCount (s : State) (st : ChanState) : Nat := (s.rx.chans.filter fun p => p.2.st == st).length

/-- The front-end and Eddy objects that are no plain settings. -/
def readRx (s : State) (ix sub : Nat) : Option Val :=
  let num (n : Nat) : Option Val := some (.num n)
  match ix, sub with
  | 0x3000, 1 => num 0
  | 0x3000, 2 => num (calCode s.rx.cal)
  | 0x3000, 0x0A => num (chanCount s .fault)
  | 0x3000, 0x0B => num (chanCount s .degraded)
  | _, _ =>
    if 0x3038 ≤ ix && ix < 0x3040 then num (getChan s (rowChan 0x3038 ix sub)).lowEff
    else if 0x3040 ≤ ix && ix < 0x3048 then num (chanCode (getChan s (rowChan 0x3040 ix sub)).st)
    else if 0x3070 ≤ ix && ix < 0x3078 then
      some (.bytes ((List.range 64).flatMap fun i =>
        let x := getChan s (64 * (ix - 0x3070) + i)
        (List.range 16).map fun p => BitVec.ofNat 8 (x.lut.getD p 0)))
    else if 0x3078 ≤ ix && ix < 0x3080 then some (.num (getChan s (rowChan 0x3078 ix sub)).skew)
    else if 0x3228 ≤ ix && ix < 0x3230 then some (.num (fdiv (getChan s (rowChan 0x3228 ix sub)).as8 256))
    else if 0x3230 ≤ ix && ix < 0x3238 then num (eddyProposal s (rowChan 0x3230 ix sub))
    else if 0x2138 ≤ ix && ix < 0x2140 then num (getChan s (rowChan 0x2138 ix sub)).epoch
    else none

/-- A neighbour map is accepted (R67). -/
def mapOk (s : State) (b : Bytes) : Bool :=
  (List.range 512).all fun c =>
    let l := ((List.range 8).map fun i => fieldN b (16 * c + 2 * i) 2).filter (· != 0xFFFF)
    l.all (fun d => d < nChan s && d != c) && (c < nChan s || l.isEmpty) && l.eraseDups.length == l.length

/-- Writes of an Eddy enable mask (R146): the bits set again are remembered for the next update. -/
def eddyHook (ix : Nat) (_ : State) : WriteHook where
  run s v :=
    let old := odN s ix 1
    .done <| odSet { s with rx := { s.rx with chans := s.rx.chans.map fun p =>
      (p.1, if p.1 / 64 = ix - 0x3220 && (valN v).testBit (p.1 % 64) && !old.testBit (p.1 % 64)
        then { p.2 with eddyBack := true } else p.2) } } ix 1 v

/-- The write rules of the front-end objects. -/
def hookRx (ix sub : Nat) : Option (State → WriteHook) :=
  match ix, sub with
  | 0x3000, 1 => some calHook
  | 0x3048, 1 => some fun s => { range := fun v => mapOk s (valBytes v), run := keep 0x3048 1 }
  | _, _ => if 0x3220 ≤ ix && ix < 0x3228 && sub = 1 then some (eddyHook ix) else none

end Sys2Proof.Machine
end

