-- ==== Sys2Proof/Machine/Echo.lean ====
section
/-! DEFINITION. ECHO and Eddy (R122 to R147): peaks, fine echoes, attributes, classes, two-pulse pairing, the two lists of a
channel result, and the ambient estimate. Excesses are in 1/1024 count, range times in 31.25 ps. -/

namespace Sys2Proof.Machine

/-! ### Peaks (R125, R126) -/

/-- The background of each scout bin in 1/64 count, truncated (R125). -/
def backgrounds (n : Array Nat) : Array Nat :=
  let sums := n.foldl (fun (r : Array Nat × Nat) v => (r.1.push (r.2 + v), r.2 + v)) (#[0], 0)
  let span (lo hi : Nat) : Nat := sums.1.getD hi 0 - sums.1.getD lo 0
  ((List.range n.size).map fun b =>
    let lo := b - 32
    let hi := min n.size (b + 33)
    let l := b - 2
    let h := min n.size (b + 3)
    64 * (span lo hi - span l h) / max 1 ((hi - lo) - (h - l))).toArray

/-- From a maximum of value `m`, the bins below it rise to `m` before they fall to half of it. -/
def mergesLeft (x : Array Int) (m : Int) : Nat → Bool
  | 0 => false
  | j + 1 =>
    let v := x.getD j 0
    if 2 * v ≤ m then false else if m ≤ v then true else mergesLeft x m j

/-- From a maximum of value `m`, the bins above it rise beyond `m` before they fall to half of it. -/
def mergesRight (x : Array Int) (m : Int) : Nat → Nat → Bool
  | 0, _ => false
  | f + 1, j =>
    let v := x.getD j 0
    if 2 * v ≤ m then false else if m < v then true else mergesRight x m f (j + 1)

/-- The first bin of a run of bins with `k` times x at least `m`, at most `f` bins below `a`. -/
def runLeft (x : Array Int) (k m : Int) : Nat → Nat → Nat
  | 0, a => a
  | f + 1, a => if a = 0 then 0 else if m ≤ k * x.getD (a - 1) 0 then runLeft x k m f (a - 1) else a

/-- The last bin of a run of bins with `k` times x at least `m`, at most `f` bins above `b`. -/
def runRight (x : Array Int) (k m : Int) : Nat → Nat → Nat
  | 0, b => b
  | f + 1, b => if b + 1 < x.size && m ≤ k * x.getD (b + 1) 0 then runRight x k m f (b + 1) else b

/-- The lowest bin of least x strictly between two bins. -/
def leastBetween (x : Array Int) (i j : Nat) : Nat :=
  ((List.range (j - i - 1)).map (i + 1 + ·)).foldl (fun d t => if x.getD t 0 < x.getD d 0 then t else d) (i + 1)

/-- The peaks of an excess array: maximum, first and last bin of the extent (R126). -/
def peaksOf (x : Array Int) (cap : Nat) : List (Nat × Nat × Nat) :=
  let at' (i : Nat) : Int := x.getD i 0
  let maxima := (List.range x.size).filter fun i =>
    0 < at' i && (i == 0 || at' (i - 1) < at' i) && (i + 1 == x.size || at' (i + 1) ≤ at' i) &&
      !mergesLeft x (at' i) i && !mergesRight x (at' i) (x.size - i - 1) (i + 1)
  let runs := maxima.map fun i => (i, runLeft x 4 (at' i) cap i, runRight x 4 (at' i) cap i)
  runs.map fun p =>
    runs.foldl (fun r q =>
      if p.1 < q.1 && q.2.1 ≤ p.2.2 + 1 then (r.1, r.2.1, min r.2.2 (leastBetween x p.1 q.1))
      else if q.1 < p.1 && p.2.1 ≤ q.2.2 + 1 then (r.1, max r.2.1 (leastBetween x q.1 p.1 + 1), r.2.2)
      else r) p

/-! ### Candidates and fine echoes (R127 to R133) -/

/-- A scout candidate or a fine echo on its way to an echo. -/
structure Cand where
  fine   : Bool
  w      : Nat := 0
  i      : Nat
  a      : Nat
  b      : Nat
  e      : Int
  n      : Nat
  rt     : Rat
  width  : Nat
  lead   : Nat
  walk   : Bool
  sigma  : Nat := 0
  /-- half-level width of a scout candidate (R138) -/
  half   : Nat := 0
  /-- the rank of the supporting candidate of a fine echo (R133) -/
  sup    : Option Nat := none
  consumed : Bool := false
  pair   : Option Bool := none
  deriving DecidableEq

/-- The bins from `a` to `b`. -/
def binsFrom (a b : Nat) : List Nat := (List.range (b + 1 - a)).map (a + ·)

/-- A peak qualifies (R127). -/
def qualifies (s : State) (c : Nat) (e : Int) (n : Nat) : Bool :=
  let z := odN s (0x3208 + c / 64) 1
  1024 * (odN s (0x3208 + c / 64) 2 : Int) ≤ e && ((z * z * n * 1048576 : Nat) : Int) ≤ 16 * e * e

/-- Larger excess first, then the lower maximum bin (R128). -/
def candBefore (p q : Cand) : Bool := q.e < p.e || (p.e == q.e && p.i ≤ q.i)

/-- Insertion into a ranked list of candidates. -/
def insertCand (le : Cand → Cand → Bool) (x : Cand) : List Cand → List Cand
  | [] => [x]
  | y :: r => if le y x then y :: insertCand le x r else x :: y :: r

/-- Candidates in rank order. -/
def rankCands (le : Cand → Cand → Bool) (l : List Cand) : List Cand := l.foldl (fun a x => insertCand le x a) []

/-- A 64 ns segment among those that scout bins span is marked (R136). -/
def walkMarked (h : Half) (lo hi : Nat) : Bool := (binsFrom (lo / 16) (hi / 16)).any fun j => h.wclamp.getLsbD j

/-- The qualifying scout candidates of a half (R125 to R127, R134). -/
def scoutCands (s : State) (c : Nat) (h : Half) (n bg : Array Nat) : List Cand :=
  let x : Array Int := ((List.range n.size).map fun b => 1024 * (n.getD b 0 : Int) - 16 * (bg.getD b 0 : Int)).toArray
  (peaksOf x 16).filterMap fun p =>
    let i := p.1
    let bins := binsFrom p.2.1 p.2.2
    let e := bins.foldl (fun t b => t + x.getD b 0) 0
    let k := bins.foldl (fun t b => t + n.getD b 0) 0
    if !qualifies s c e k then none
    else
      let pos (b : Nat) : Int := max 0 (x.getD b 0)
      let top := bins.foldl (fun t b => t + pos b * ((2 * b + 1 : Nat) : Int)) 0
      let bot := bins.foldl (fun t b => t + pos b) 0
      some {
        fine := false, i := i, a := p.2.1, b := p.2.2, e := e, n := k
        rt := 64 * ((top : Int) : Rat) / ((bot : Int) : Rat)
        width := min 255 (16 * (bins.filter fun b => x.getD i 0 ≤ 2 * x.getD b 0).length)
        lead := p.2.1, walk := walkMarked h p.2.1 p.2.2
        half := runRight x 2 (x.getD i 0) 2560 i + 1 - runLeft x 2 (x.getD i 0) 2560 i }

/-- A fine echo from a peak of a window that starts at grid index `sw` (R131, R132, R135, R136). -/
def fineCand (h : Half) (w sw : Nat) (bins : Array FineBin) (bg : Array Nat) (x : Array Int) (p : Nat × Nat × Nat) (e : Int)
    (k : Nat) : Cand :=
  let fs := binsFrom p.2.1 p.2.2
  let bgOf (f : Nat) : Nat := bg.getD ((sw + f) / 16) 0
  let s1 : Int := fs.foldl (fun t f => let b := bins.getD f {}; t + ((b.n * (16 * f + 1) + 2 * b.sr : Nat) : Int)) 0
  let s2 : Int := fs.foldl (fun t f =>
    let b := bins.getD f {}
    t + ((b.n * (16 * f + 1) * (16 * f + 1) + 4 * (16 * f + 1) * b.sr + 4 * b.sq : Nat) : Int)) 0
  let b1 : Int := fs.foldl (fun t f => t + ((bgOf f * (8 * f + 4) : Nat) : Int)) 0
  let tf : Rat := (512 * (s1 : Rat) - (b1 : Rat)) / (e : Rat)
  let m : Rat := (s1 : Rat) / ((2 * k : Nat) : Rat)
  let v : Rat := (s2 : Rat) / ((4 * k : Nat) : Rat) - m * m
  let q : Rat := v * (18737 * 18737) / 1000000 * 1024 / (e : Rat)
  { fine := true, w := w, i := p.1, a := p.2.1, b := p.2.2, e := e, n := k
    rt := ((8 * sw : Nat) : Rat) + tf
    width := min 255 (fs.filter fun f => x.getD p.1 0 ≤ 2 * x.getD f 0).length
    lead := (sw + p.2.1) / 16, walk := walkMarked h ((sw + p.2.1) / 16) ((sw + p.2.2) / 16)
    sigma := min 65535 (isqrtRound q.num.toNat q.den) }

/-- The qualifying fine peaks of a window that are not demoted, ranked, and how many were demoted (R129, R130). -/
def fineCands (s : State) (c : Nat) (h : Half) (bg : Array Nat) (w sw m0 l : Nat) : List Cand × Nat :=
  let bins : Array FineBin := ((List.range l).map fun f => tgetD h.fine (m0 + f) {}).toArray
  let x : Array Int := ((List.range l).map fun f =>
    1024 * ((bins.getD f {}).n : Int) - (bg.getD ((sw + f) / 16) 0 : Int)).toArray
  let q := (peaksOf x 64).filterMap fun p =>
    let e := (binsFrom p.2.1 p.2.2).foldl (fun t f => t + x.getD f 0) 0
    let k := (binsFrom p.2.1 p.2.2).foldl (fun t f => t + (bins.getD f {}).n) 0
    if qualifies s c e k then some (p, e, k) else none
  let edge (p : Nat × Nat × Nat) : Bool := p.2.1 == 0 || p.2.2 + 1 == l
  let good := (q.filter fun t => !edge t.1).map fun t => fineCand h w sw bins bg x t.1 t.2.1 t.2.2
  (rankCands candBefore good, (q.filter fun t => edge t.1).length)

/-- The rank of the candidate that supports a range time (R133): the candidates are in rank order. -/
def supportOf (kept : List Cand) (rt : Rat) : Option Nat :=
  let b := (rt / 128).floor.toNat
  kept.findIdx? fun k => k.a ≤ b && b ≤ k.b

/-! ### Two-pulse codes (R151, R152) -/

/-- A range time lies in a fine window. -/
def inFine (w : Windows) (t : Rat) : Bool := (winOf w (t / 8).floor.toNat).isSome

/-- The distance of a possible partner from a range time: in range time for fine echoes, in bins for candidates; `none`
where it is out of tolerance. -/
def partnerDist (w : Windows) (t : Rat) (q : Cand) : Option Rat :=
  if inFine w t then
    let d := ratAbs (q.rt - t)
    if q.fine && d ≤ 16 then some d else none
  else
    let d := ratAbs (((q.i : Nat) : Rat) - (((t / 128).floor : Int) : Rat))
    if !q.fine && d ≤ 1 then some d else none

/-- The place of the partner of an echo in a list by rising range, if it has one. -/
def partnerOf (rho : Nat) (w : Windows) (t : Rat) (p : Nat) (l : List Cand) : Option Nat :=
  let e := ((l[p]?).map (·.e)).getD 0
  let pick := l.zipIdx.foldl (fun (r : Option (Nat × Rat)) q =>
    if q.2 = p || q.1.consumed || 16 * q.1.e < (rho : Int) * e then r
    else match partnerDist w t q.1, r with
      | some d, some (_, d') => if d < d' then some (q.2, d) else r
      | some d, none => some (q.2, d)
      | none, _ => r) none
  pick.map (·.1)

/-- One echo's turn in the pairing of R151: the list by rising range, the consumed candidates' ranks. -/
def pairOne (rho delta : Nat) (h : Half) (r : List Cand × List Nat) (p : Nat) : List Cand × List Nat :=
  match r.1[p]? with
  | none => r
  | some x =>
    let t := x.rt + ((32 * delta : Nat) : Rat)
    if x.consumed || h.sat.getLsbD x.lead || 327680 ≤ t then r
    else
      match partnerOf rho h.win t p r.1 with
      | none => (r.1.set p { x with pair := some false }, r.2)
      | some q =>
        let l := r.1.set p { x with pair := some true }
        match l[q]? with
        | none => (l, r.2)
        | some y => (l.set q { y with consumed := true }, r.2 ++ y.sup.toList)

/-- Rising range, fine before scout. -/
def rangeBefore (p q : Cand) : Bool := p.rt < q.rt || (p.rt == q.rt && (p.fine || !q.fine))

/-- The pairing of a two-pulse stack (R151, R152): fine echoes and candidates with their outcomes. -/
def pairing (rho delta : Nat) (h : Half) (fines kept : List Cand) : List Cand × List Cand :=
  let backs := fines.filterMap (·.sup)
  let own := (kept.zipIdx.filter fun k => !backs.contains k.2).map (·.1)
  let l := rankCands rangeBefore (fines ++ own)
  let r := (List.range l.length).foldl (pairOne rho delta h) (l, [])
  let fs := rankCands (fun p q => p.w < q.w || (p.w == q.w && candBefore p q)) (r.1.filter (·.fine))
  let ks := kept.zipIdx.map fun k =>
    if backs.contains k.2 then
      if r.2.contains k.2 then { k.1 with consumed := true }
      else
        let outs := (fs.filter fun f => f.sup == some k.2 && !f.consumed).filterMap (·.pair)
        { k.1 with pair := if outs.contains true then some true else if outs.contains false then some false else none }
    else (r.1.find? fun q => !q.fine && q.i == k.1.i).getD k.1
  (fs, ks)

/-! ### Attributes and classes (R134, R138) -/

/-- A range time as a range field: 0.25 mm, half up, clamped. -/
def rangeField (rt : Rat) : Nat := (clampI 0 6139735 (roundQ (rt * 187370286 / 10000000))).toNat

/-- An echo from a candidate; `plateau` is foreign_plateau, `near` the near-field count (R134, R138, R141). -/
def echoOf (s : State) (h : Half) (near : Nat) (plateau : Bool) (x : Cand) : Echo :=
  let range := rangeField x.rt
  let inten := min 65535 (roundDiv x.e h.fired).toNat
  let xt := h.xt.getLsbD x.lead
  let c0 := min 255 (isqrtRound (100 * x.e.toNat * x.e.toNat) (x.n * 1048576))
  let c1 := if xt then c0 / 2 else c0
  let conf := if h.rateLim then c1 * 3 / 4 else c1
  let width := max 1 x.width
  let cls :=
    if h.sat.getLsbD x.lead then 2
    else if plateau || x.pair == some false then 3
    else if range ≤ 4000 * odN s 0x3200 8 && odN s 0x3200 5 ≤ width &&
        (inten ≤ odN s 0x3200 6 * width || odN s 0x3200 7 ≤ near) then 1
    else 0
  { range := range, inten := inten, width := width, conf := conf, cls := cls, lead := x.lead, coarse := !x.fine
    xtalk := xt, walk := x.walk, paired := x.pair == some true, sigma := x.sigma, e := x.e.toNat }

/-! ### The lists (R139 to R142) -/

/-- A near-field SOFT echo (R140). -/
def nearSoft (s : State) (x : Echo) : Bool := x.cls == 1 && x.range ≤ 4000 * odN s 0x3200 2

/-- Insertion into an ordered list of echoes. -/
def insertEcho (le : Echo → Echo → Bool) (x : Echo) : List Echo → List Echo
  | [] => [x]
  | y :: r => if le y x then y :: insertEcho le x r else x :: y :: r

/-- Echoes in order; equal ones keep theirs. -/
def sortEchoes (le : Echo → Echo → Bool) (l : List Echo) : List Echo := l.foldl (fun a x => insertEcho le x a) []

/-- The rank of R140. -/
def echoRank (p q : Echo) : Bool :=
  q.conf < p.conf || (p.conf == q.conf && (p.range < q.range || (p.range == q.range && (!p.coarse || q.coarse))))

/-- A list reduced and ordered by R140, and whether it exceeded four echoes, which is asked of the list that is left after
the FOREIGN and mode 2 drops (assumption 74). -/
def reduceList (s : State) (l : List Echo) : List Echo × Bool :=
  let mode := odN s 0x3200 1
  let l := if odB s 0x3200 4 then l else l.filter fun x => x.cls != 3
  let l := if mode = 2 then l.filter fun x => !nearSoft s x else l
  let late (p : Echo) : Bool := mode == 1 && nearSoft s p
  let ranked := sortEchoes echoRank (l.filter fun x => !late x) ++ sortEchoes echoRank (l.filter late)
  let kept := (ranked.take 4).map fun x => { x with more := 4 < ranked.length }
  let byRange (p q : Echo) : Bool := p.range ≤ q.range
  (sortEchoes byRange (kept.filter fun x => !late x) ++ sortEchoes byRange (kept.filter late), 4 < ranked.length)

/-- The near-field SOFT echoes of a list that its mode drops or moves (R140). -/
def movedSoft (s : State) (l : List Echo) : List Echo :=
  let l := if odB s 0x3200 4 then l else l.filter fun x => x.cls != 3
  match odN s 0x3200 1 with
  | 0 => []
  | 1 => l.filter fun x => nearSoft s x && l.any fun y => !nearSoft s y && x.range < y.range
  | _ => l.filter (nearSoft s)

/-- The empty point (R142). -/
def emptyPoint : Echo :=
  { range := 0, inten := 0, width := 0, conf := 0, cls := 0, lead := 0, coarse := false, xtalk := false, walk := false
    paired := false, none := true, sigma := 0, e := 0 }

/-- A list with its empty point where it holds no echo (R142). -/
def withEmpty (s : State) (l : List Echo) : State × List Echo :=
  if l.isEmpty && odB s 0x3200 3 then (bump s 0x3240 0x0B, [emptyPoint]) else (s, l)

/-! ### Eddy (R144 to R147) -/

/-- The ambient estimate of a stack (R145). -/
def ambientOf (h : Half) : Nat :=
  min 65535 (roundDivN (400000 * h.eOut) (h.fired * (40960 - (h.win.l0 + h.win.l1))))

/-- Eddy's update after a channel result (R146). After the mask bit was set again it starts from L_e raised to L_s. -/
def eddyUpdate (s : State) (c ambient : Nat) : State :=
  let x := getChan s c
  let a := x.as8 + fdiv (256 * (ambient : Int) - x.as8) (2 ^ odN s 0x3218 5)
  if !eddyOn s c then setChan s c { x with as8 := a }
  else
    let low := odChan s 0x3020 c
    let from0 := if x.eddyBack then max x.le low else x.le
    let s := setChan s c { x with as8 := a, eddyBack := false }
    let t : Int := 256 * (odN s 0x3218 1 : Int)
    let h : Int := odN s 0x3218 2
    let step : Int := odN s 0x3218 3
    let ceil : Int := odN s 0x3218 4
    let le := if t * (100 + h) < 100 * a then from0 + step else if 100 * a < t * (100 - h) then from0 - step else from0
    let s := if ceil < le then bump s 0x3240 0x0C else s
    updChan s c fun x => { x with le := max (min le ceil) low }

/-! ### ECHO_EXTRACTION (R122, R123, R143) -/

/-- The candidates and fine echoes of a half with support and pairing, the qualifying scout peaks, and the counts of peaks
beyond the keep limits and of demoted peaks. -/
def extractCands (s : State) (c : Nat) (h : Half) : List Cand × List Cand × List Cand × Nat × Nat :=
  let n : Array Nat := h.scout.foldl (fun a p => a.setIfInBounds p.1 p.2) (Array.replicate 2560 0)
  let bg := backgrounds n
  let quals := scoutCands s c h n bg
  let ranked := rankCands candBefore quals
  let kept := ranked.take 8
  let f0 := fineCands s c h bg 0 h.win.s0 0 h.win.l0
  let f1 := fineCands s c h bg 1 h.win.s1 h.win.l0 h.win.l1
  let fines := (f0.1.take 4 ++ f1.1.take 4).map fun x => { x with sup := supportOf kept x.rt }
  let excess := (ranked.length - 8) + (f0.1.length - 4) + (f1.1.length - 4)
  let r := if h.twoPulse then pairing (odN s 0x3200 0x0D) s.rx.dith.gap h fines kept else (fines, kept)
  (r.1, r.2, quals, excess, f0.2 + f1.2)

/-- The window whose span contains the whole of a scout bin on the fine grid (R143). -/
def windowOfBin (w : Windows) (b : Nat) : Option Nat :=
  if w.s0 ≤ 16 * b && 16 * b + 16 ≤ w.s0 + w.l0 then some 0
  else if w.s1 ≤ 16 * b && 16 * b + 16 ≤ w.s1 + w.l1 then some 1
  else none

/-- The strongest scout peak: maximum bin, E, and the window of its bin (R143). -/
def strongestOf (h : Half) (kept : List Cand) : Option (Nat × Nat × Option Nat) :=
  kept.head?.map fun k => (k.i, k.e.toNat, windowOfBin h.win k.i)

/-- The strongest fine echo of each present window (R143). -/
def supportList (h : Half) (fines kept : List Cand) : List (Option FineTop) :=
  ([0, 1].filter fun w => (if w = 0 then h.win.l0 else h.win.l1) != 0).map fun w =>
    (fines.find? fun f => f.w == w && !f.consumed).map fun f =>
      { e := f.e.toNat, range := rangeField f.rt, support := f.sup.bind fun k => (kept[k]?).map fun x => x.e.toNat }

/-- The channel result of a closed half with its counters. -/
def extract (s : State) (c : Nat) : State :=
  let x := getChan s c
  if !x.toExtract || !chanLive s c then s
  else
    let h := x.held
    let r := extractCands s c h
    let fines := r.1
    let kept := r.2.1
    let near := (r.2.2.1.filter fun q => rangeField q.rt ≤ 4000 * odN s 0x3200 2).length
    let wide (k : Cand) : Bool := h.dithered && odN s 0x3200 9 ≤ k.half
    let plateau (k : Cand) : Bool := if k.fine then ((k.sup.bind fun i => kept[i]?).map wide).getD false else wide k
    let liveF := fines.filter fun f => !f.consumed
    let liveK := kept.zipIdx.filter fun k => !k.1.consumed
    let covered := liveF.filterMap (·.sup)
    let mk (k : Cand) : Echo := echoOf s h near (plateau k) k
    let ef := liveF.map mk
    let ek := liveK.map fun k => mk k.1
    let rawF := ef ++ (liveK.filter fun k => !covered.contains k.2).map fun k => mk k.1
    let moved := (movedSoft s rawF ++ movedSoft s ek).eraseDups
    let all := ef ++ ek
    let lf := reduceList s rawF
    let ls := reduceList s ek
    let s := setChan s c { x with toExtract := false }
    let s := bumpBy s 0x3240 1 fines.length
    let s := bumpBy s 0x3240 2 kept.length
    let s := bumpBy s 0x3240 3 r.2.2.2.1
    let s := if lf.2 || ls.2 then bump s 0x3240 4 else s
    let s := bumpBy s 0x3240 5 (all.filter fun e => e.cls == 1).length
    let s := bumpBy s 0x3240 6 (all.filter fun e => e.cls == 3).length
    let s := bumpBy s 0x3240 7 moved.length
    let s := bumpBy s 0x3240 8 r.2.2.2.2
    let own := fines ++ (kept.zipIdx.filter fun k => !(fines.filterMap (·.sup)).contains k.2).map (·.1)
    let s := bumpBy s 0x3240 9 (own.filter fun k => k.pair == some false).length
    let s := bumpBy s 0x3240 0x0A (own.filter fun k => k.pair == some true).length
    let f := withEmpty s lf.1
    let g := withEmpty f.1 ls.1
    let a := ambientOf h
    let s := eddyUpdate g.1 c a
    let res : ChanResult := {
      chan := c, half := { h with scout := [], fine := [] }, listF := f.2, listS := g.2, strong := strongestOf h kept
      support := supportList h fines kept, ambient := a, eddy := eddyProposal s c }
    { s with rx := { s.rx with results := s.rx.results ++ [res] } }

/-- ECHO_EXTRACTION (R122). -/
def execEchoExtraction (c : Fin 512) (s : State) : Host.Outcome State Fault Refusal := outcome s (extract s c.val)

end Sys2Proof.Machine
end

