-- ==== Sys2Proof/Machine/Points.lean ====
section
/-! DEFINITION. Oxbow (R175 to R179), PR-32 records (R263 to R272) and Confluence (R273 to R280): from a channel result to
the units at the output router. -/

namespace Sys2Proof.Machine

/-! ### Oxbow's decision (R175, R176, R179) -/

/-- The outcome code of a channel result (R175). -/
def oxbowCode (s : State) (r : ChanResult) : Nat :=
  let ein := ((r.support.filterMap id).filterMap FineTop.support).foldl max 0
  let lone := r.support.any fun x => x.any fun t => t.support.isNone
  let w := r.half.win
  if w.l0 = 0 && w.l1 = 0 then 0
  else match r.strong with
    | some (_, _, some _) => 1
    | some (_, e, none) =>
      if lone then 2 else if (16 + odN s 0x2114 1) * ein < 16 * e then 3 else 4
    | none => if lone then 2 else 4

/-- The column of a stack. -/
def columnOf (s : State) (h : Half) : Option ColRun :=
  s.plan.cols.find? fun (c : ColRun) => c.seq == h.colSeq && c.planId == h.planId

/-- A channel's line-of-sight offset (0x3300:01), in 0.001°. -/
def sightOffset (s : State) (c : Nat) : Int × Int :=
  let b := odBytes s 0x3300 1
  (fieldI b (4 * c) 2, fieldI b (4 * c + 2) 2)

/-- The 12 bits of FLAGS (R264). SPEC_MISS brings COARSE with it, on the empty point of list S too (assumption 79). -/
def flagBits (h : Half) (miss : Bool) (x : Echo) : Nat :=
  b2n miss * 2 ^ 11 + b2n x.none * 2 ^ 10 + b2n x.more * 2 ^ 9 + b2n x.paired * 2 ^ 8 + b2n x.walk * 2 ^ 7 +
    b2n x.xtalk * 2 ^ 6 + b2n (x.coarse || miss) * 2 ^ 5 + b2n h.cutShort * 2 ^ 4 + b2n h.early * 2 ^ 3 + b2n h.rateLim * 2 ^ 2 + x.cls

/-- The effective set-points of a stack at its first and last shots, in servo units. -/
def stackThetas (o : Option ColRun) (h : Half) : (Int × Int) × (Int × Int) :=
  match o with
  | some c => (tgetD c.theta h.firstTick (0, 0), tgetD c.theta h.closeTick (0, 0))
  | none => ((0, 0), (0, 0))

/-- A record of an echo (R263, R266, R267). -/
def recordOf (s : State) (o : Option ColRun) (r : ChanResult) (miss : Bool) (x : Echo) (idx : Nat) : PointRec :=
  let h := r.half
  let t := stackThetas o h
  let d := sightOffset s r.chan
  let t0 := match o with
    | some c => tgetD c.tdev h.firstTick 0
    | none => 0
  { commit := s.tick.num, time := t0 + 6400 * (h.closeTick - h.firstTick), chan := r.chan, range := x.range
    flags := flagBits h miss x, idx := idx, az := roundDiv (t.1.1 + t.2.1) 20 + d.1
    el := ((t.1.2 + t.2.2 : Int) : Rat) / 20 + ((d.2 : Int) : Rat)
    conf := x.conf, width := x.width, inten := x.inten, colSeq := h.colSeq, ambient := r.ambient
    epoch := (getChan s r.chan).epoch, planId := h.planId
    outs := (o.map (·.outs)).getD [], version := (o.map (·.version)).getD 2, laneVersion := (o.map (·.laneVersion)).getD 2
    cals := (o.map (·.cals)).getD [] }

/-- A record enters Confluence, or without Camera + Confluence leaves with NO_CAMERA (R9, R273). -/
def enterConfluence (s : State) (p : PointRec) : State :=
  let p := if hasCam s then p else { p with stage := .done, status := 1 }
  let f := s.points.formed
  let k := if f.1 = s.tick.num then f.2 + 1 else 1
  let s := bump { s with points := { s.points with queue := s.points.queue ++ [p], formed := (s.tick.num, k) } } 0x3301 1
  if odN s 0x3301 2 < k then odSetN s 0x3301 2 k else s

/-- The island's copy of a record, an empty point's too (R33, R270). -/
def islandCopy (s : State) (p : PointRec) : State :=
  if !hasSafe s || !domOn s .safe then s
  else
    let r : IslRecord := { chan := p.chan, range := p.range, az := p.az, cls := p.flags % 4, coarse := p.flags.testBit 5, empty := p.flags.testBit 10
                           col := p.colSeq, tick := s.tick.num }
    { s with isl := { s.isl with fifo := s.isl.fifo ++ [.record r] } }

/-- The coverage marker of a channel result (R311). -/
def islandMarker (s : State) (o : Option ColRun) (r : ChanResult) : State :=
  if !hasSafe s || !domOn s .safe then s
  else
    let t := stackThetas o r.half
    let m : IslMarker := { chan := r.chan, col := r.half.colSeq, shots := r.half.fired
                           lo := min t.1.1 t.2.1, hi := max t.1.1 t.2.1, tick := s.tick.num }
    { s with isl := { s.isl with fifo := s.isl.fifo ++ [.marker m] } }

/-- The seeds that a committed result leaves (R166): the direction is that of the stack's middle. -/
def seedResult (s : State) (o : Option ColRun) (r : ChanResult) (l : List Echo) : SeedResult :=
  let h := r.half
  let d := match o with
    | some c =>
      let e := ((tget c.chans r.chan).map fun (p : ChanPlan) => p.e).getD 0
      emDir s c e (((h.firstTick + h.closeTick : Nat) : Rat) / 2 - ((c.first : Nat) : Rat))
    | none => (0, 0)
  { close := h.closeTick, dirH := d.1, dirV := d.2, echoes := l }

/-- A decision is counted for the frame of its column (R179). -/
def countDecision (s : State) (o : Option ColRun) (discard : Bool) : State :=
  match o with
  | none => s
  | some c => { s with plan := { s.plan with frames := s.plan.frames.map fun f =>
      if f.planId = c.planId && f.frame = c.frame then
        if discard then { f with discards := f.discards + 1 } else { f with commits := f.commits + 1 }
      else f } }

/-- OXBOW_DECISION (R175 to R179, R311): in tick CLOSE_TICK + 2. `corrupt` marks by echo index the records that will be found
corrupt before the router (R265). -/
def oxbow (s : State) (c : Nat) (corrupt : BitVec 4) : State :=
  match s.rx.results.find? fun r => r.chan == c && decide (r.half.closeTick + 2 ≤ s.tick.num) with
  | none => s
  | some r =>
    let s := { s with rx := { s.rx with results := s.rx.results.erase r } }
    let o := columnOf s r.half
    let k := oxbowCode s r
    let discard := k == 2 || k == 3
    let s := countDecision (bump s 0x2120 (k + 1)) o discard
    let s := if discard then
        bumpChan (updChan s c fun x => { x with epoch := (x.epoch + 1) % 256 }) 0x2130 c 1
      else s
    let l := if discard then r.listS else r.listF
    let s := updChan s c fun x => { x with seed := some (seedResult s o r l) }
    let s := match o with
      | some col => if l.isEmpty then s else updCol s col.seq fun x => { x with anyRecord := true }
      | none => s
    let s := l.zipIdx.foldl (fun s x =>
      let p := recordOf s o r discard x.1 x.2
      enterConfluence (islandCopy s p) { p with corrupt := corrupt.getLsbD x.2 }) s
    islandMarker s o r

/-- OXBOW_DECISION. -/
def execOxbowDecision (x : ResultTurn) (s : State) : Host.Outcome State Fault Refusal :=
  outcome s (oxbow s x.c.val x.corrupt)

/-! ### The record's bytes (R263, R265, R271) -/

/-- Bytes 0 to 29 of a record in a version. -/
def recordBody (p : PointRec) (version : Nat) : Bytes :=
  let w5 := if version = 1 then 0
    else p.status * 2 ^ 26 + p.cam * 2 ^ 24 + p.rgb.2.2 * 2 ^ 16 + p.rgb.2.1 * 2 ^ 8 + p.rgb.1
  leBytes 8 p.time ++ leBytes 4 (p.chan * 2 ^ 23 + p.range) ++
    leBytes 4 (p.flags * 2 ^ 20 + p.idx * 2 ^ 18 + toBits 18 p.az) ++
    leBytes 4 (p.conf * 2 ^ 24 + p.width * 2 ^ 16 + p.inten) ++ leBytes 4 w5 ++ leBytes 4 (p.colSeq * 2 ^ 16 + p.ambient) ++
    leBytes 1 p.planId ++ leBytes 1 p.epoch

/-- A PR-32 record (R263). -/
def recordBytes (p : PointRec) (version : Nat) : Bytes :=
  let b := recordBody p version
  b ++ leBytes 2 (crc16 b).toNat

/-! ### The output router (R32, R269, R361) -/

/-- Insertion of a record by channel; records of one channel keep their order. -/
def insertRecord (x : PointRec) : List PointRec → List PointRec
  | [] => [x]
  | y :: r => if x.chan < y.chan then x :: y :: r else y :: insertRecord x r

/-- The unit of an output entry of a column's outputs from the records of a commit tick. -/
def recordUnit (s : State) (t : Nat) (l : List PointRec) (i : Nat) (o : OutEntry) : State :=
  let l := l.filter fun p => o.cmask.getLsbD p.chan
  let v := match l.head? with
    | some p => if o.sinkk = 1 then p.laneVersion else p.version
    | none => 2
  if o.otype ≠ 1 || l.isEmpty then s
  else
    let ws := wordsOf (l.flatMap fun p => recordBytes p v)
    let u : OutUnit := { stream := i, word := unitWord t ws.length 1 v, words := ws
                         records := l.length }
    route s (o.sinkk == 1) o.sinki u

/-- The records of a commit tick go to the sinks of their column's outputs, column by column; those found corrupt are
dropped and counted (R265). -/
def sendCommit (s : State) (t : Nat) : State :=
  let all := s.points.queue.filter fun p => p.commit == t
  let l := all.filter fun p => !p.corrupt
  let s := bumpBy s 0x3301 3 (all.length - l.length)
  let s := { s with points := { s.points with queue := s.points.queue.filter fun p => p.commit != t } }
  let cols := (l.map fun p => (p.planId, p.colSeq)).eraseDups
  cols.foldl (fun s k =>
    let rs := (l.filter fun p => (p.planId, p.colSeq) == k).foldl (fun a x => insertRecord x a) []
    (((rs.head?.map (·.outs)).getD []).zipIdx).foldl (fun s o => recordUnit s t rs o.2 o.1) s) s

/-- The commit ticks that are over and whose records have all left Confluence, while none older waits. -/
def flushPoints (s : State) : State :=
  let ts := (s.points.queue.map (·.commit)).eraseDups.filter (· < s.tick.num)
  (ts.foldl (fun (r : State × Bool) t =>
    if r.2 && (r.1.points.queue.all fun p => p.commit != t || p.stage == .done) then (sendCommit r.1 t, true)
    else (r.1, false)) (s, true)).1

/-! ### Confluence (R274 to R279) -/

/-- A REAL32 field; a value that is not finite reads 0. -/
def realAt (b : Bytes) (o : Nat) : Rat := (f32Val (fieldN b o 4)).getD 0

/-- A REAL32 field as an operand. -/
def f32At (b : Bytes) (o : Nat) : F32 := .fin (realAt b o)

/-- The point of a record in the scanner frame, in metres (R274). -/
def scannerPoint (p : PointRec) : F32 × F32 × F32 :=
  let r := F32.round (((p.range : Nat) : Rat) / 4000)
  let ca := F32.round (fxRat (cosMdeg ((p.az : Int) : Rat)))
  let sa := F32.round (fxRat (sinMdeg ((p.az : Int) : Rat)))
  let ce := F32.round (fxRat (cosMdeg p.el))
  let se := F32.round (fxRat (sinMdeg p.el))
  ((r.mul ce).mul ca, (r.mul ce).mul sa, r.mul se)

/-- One row of the rotation with its translation. -/
def camRow (b : Bytes) (i : Nat) (q : F32 × F32 × F32) : F32 :=
  let m (j : Nat) : F32 := f32At b (36 + 12 * i + 4 * j)
  ((((m 0).mul q.1).add ((m 1).mul q.2.1)).add ((m 2).mul q.2.2)).add (f32At b (72 + 4 * i))

/-- The image coordinates of a point at (x', y') with their r², through the lens of a calibration set (R275). -/
def throughLens (b : Bytes) (x y r2 : F32) : F32 × F32 :=
  let two : F32 := .fin 2
  let r4 := r2.mul r2
  let r6 := r4.mul r2
  let g := (((F32.fin 1).add ((f32At b 16).mul r2)).add ((f32At b 20).mul r4)).add ((f32At b 24).mul r6)
  let p1 := f32At b 28
  let p2 := f32At b 32
  let xx := ((x.mul g).add (((two.mul p1).mul x).mul y)).add (p2.mul (r2.add (two.mul (x.mul x))))
  let yy := ((y.mul g).add (p1.mul (r2.add (two.mul (y.mul y))))).add (((two.mul p2).mul x).mul y)
  (((f32At b 0).mul xx).add (f32At b 8), ((f32At b 4).mul yy).add (f32At b 12))

/-- The projection of a point through a calibration set: r² and the pixel, where the camera contains the point (R275). A
comparison with a NaN does not hold. -/
def project (b : Bytes) (q : F32 × F32 × F32) : Option (Rat × Nat × Nat) :=
  let zc := camRow b 2 q
  if zc.le (f32At b 84) then none
  else
    let x := (camRow b 0 q).div zc
    let y := (camRow b 1 q).div zc
    let r2 := (x.mul x).add (y.mul y)
    if ((f32At b 88).mul (f32At b 88)).lt r2 then none
    else
      let w := throughLens b x y r2
      match r2.val?, w.1.val?, w.2.val? with
      | some r, some u, some v =>
        if 0 ≤ u && u < ((fieldN b 92 2 : Nat) : Rat) && 0 ≤ v && v < ((fieldN b 94 2 : Nat) : Rat) then
          some (r, u.floor.toNat, v.floor.toNat)
        else none
      | _, _, _ => none

/-- The state of a calibration set (0x6041+k:02): 0 UNSET, 1 VALID, 2 MISMATCH. -/
def calState (s : State) (k : Nat) (b : Bytes) : Nat :=
  if b.all (· == 0) then 0
  else if fieldN b 92 2 = odN s (0x6000 + k) 6 && fieldN b 94 2 = odN s (0x6000 + k) 7 then 1
  else 2

/-- The age of a stored frame for a record in ns: |T_mid + Δ_k − TIME| (R277). -/
def frameAge (b : Bytes) (f : StoredFrame) (time : Nat) : Nat := (iabs (f.tmid + 1000 * fieldI b 96 4 - (time : Int))).toNat

/-- The frame of least age among some, the earlier on a tie. -/
def nearest (b : Bytes) (time : Nat) (l : List (Nat × StoredFrame)) : Option (Nat × StoredFrame) :=
  l.foldl (fun r f =>
    match r with
    | none => some f
    | some g =>
      let a := frameAge b f.2 time
      let d := frameAge b g.2 time
      if a < d || (a == d && f.2.seq < g.2.seq) then some f else r) none

/-- What a camera that contains the point gives (R277): the read of its frame's pixel, or STALE, or FRAME_EXCLUDED. -/
def tryCamera (s : State) (p : PointRec) (k : Nat) (x : Rat × Nat × Nat) : PStage × Nat :=
  let b := p.cals.getD k []
  let slots := (tgetD s.cams k {}).slots
  let tol := odN s 0x6040 2 * 1000000
  let near (f : Nat × StoredFrame) : Bool := frameAge b f.2 p.time ≤ tol
  match nearest b p.time (slots.filter fun f => !f.2.bad) with
  | some f =>
    if near f then
      (.read k f.1 (f.2.base + (x.2.2 * f.2.w + x.2.1) * f.2.px) f.2.px (frameAge b f.2 p.time / 1000), 0)
    else if slots.any fun f => f.2.bad && near f then (.done, 6) else (.done, 5)
  | none => if slots.any fun f => f.2.bad && near f then (.done, 6) else (.done, 5)

/-- The counter of a colour status (0x6044). -/
def statusCounter (s : State) (c : Nat) : State :=
  match c with
  | 4 => bump s 0x6044 2
  | 5 => bump s 0x6044 3
  | 6 => bump s 0x6044 4
  | 7 => bump s 0x6044 5
  | 8 => bump s 0x6044 6
  | _ => s

/-- What Confluence makes of a record: its stage, status and camera (R273, R276). -/
def colourOf (s : State) (p : PointRec) : PStage × Nat × Nat :=
  if !odB s 0x6040 1 then (.done, 2, 3)
  else if p.flags.testBit 10 then (.done, 3, 3)
  else
    let valid := [0, 1].filter fun k => calState s k (p.cals.getD k []) == 1
    if valid.isEmpty then (.done, 8, 3)
    else
      let q := scannerPoint p
      let hits := valid.filterMap fun k => (project (p.cals.getD k []) q).map fun x => (k, x)
      let hits := match hits with
        | [a, b] => if b.2.1 < a.2.1 then [b, a] else [a, b]
        | l => l
      match hits with
      | [] => (.done, 4, 3)
      | a :: r =>
        let x := tryCamera s p a.1 a.2
        if x.1 ≠ .done then (x.1, 0, a.1)
        else match r with
          | [] => (.done, x.2, a.1)
          | b :: _ =>
            let y := tryCamera s p b.1 b.2
            if y.1 ≠ .done then (y.1, 0, b.1) else (.done, x.2, a.1)

/-- The first record of the queue that satisfies a test, changed. -/
def updFirst (t : PointRec → Bool) (f : PointRec → PointRec) : List PointRec → List PointRec
  | [] => []
  | p :: r => if t p then f p :: r else p :: updFirst t f r

/-- A read is under way. -/
def reading (p : PointRec) : Bool :=
  match p.stage with
  | .read _ _ _ _ _ => true
  | _ => false

/-- CONFLUENCE (R273 to R278): the next record is projected; a pixel read is issued, or the record leaves. -/
def confluence (s : State) : State :=
  match s.points.queue.find? fun p => p.stage == .wait with
  | none => s
  | some p =>
    let r := colourOf s p
    let q := updFirst (fun p => p.stage == .wait) (fun p => { p with stage := r.1, status := r.2.1, cam := r.2.2 }) s.points.queue
    flushPoints (statusCounter { s with points := { s.points with queue := q } } (if r.1 = .done then r.2.1 else 0))

/-- CONFLUENCE. -/
def execConfluence (s : State) : Host.Outcome State Fault Refusal := outcome s (confluence s)

/-- A component of `k` bits expanded to 8 by bit replication (R295). -/
def expandBits (k x : Nat) : Nat := x * 2 ^ (8 - k) + x / 2 ^ (2 * k - 8)

/-- The colour of a stored pixel (R295). -/
def pixelColour (s : State) (addr px : Nat) : Nat × Nat × Nat :=
  if px = 4 then (fieldN (qdrRead s addr 3) 0 1, fieldN (qdrRead s addr 3) 1 1, fieldN (qdrRead s addr 3) 2 1)
  else
    let v := leNat (qdrRead s addr 2)
    (expandBits 5 (v / 2048), expandBits 6 (v / 32 % 64), expandBits 5 (v % 32))

/-- PIXEL_READ_RETURN (R278): the oldest read returns; its record leaves COLOURED, unless MEM_LATE has let it go. -/
def pixelReturn (s : State) : State :=
  match s.points.late with
  | _ :: r => { s with points := { s.points with late := r } }
  | [] =>
    match s.points.queue.find? reading with
    | none => s
    | some p =>
      match p.stage with
      | .read _ _ a px age =>
        let rgb := pixelColour s a px
        let q := updFirst reading (fun p => { p with stage := .done, rgb := rgb }) s.points.queue
        let s := bump { s with points := { s.points with queue := q } } 0x6044 1
        flushPoints (if odN s 0x6044 7 < age then odSetN s 0x6044 7 (satN 32 age) else s)
      | _ => s

/-- PIXEL_READ_RETURN. -/
def execPixelReadReturn (s : State) : Host.Outcome State Fault Refusal := outcome s (pixelReturn s)

/-- The camera and slot that a record's read is of. -/
def readSlot (p : PointRec) : Option (Nat × Nat) :=
  match p.stage with
  | .read k slot _ _ _ => some (k, slot)
  | _ => none

/-- MEM_LATE (R278): the oldest read that a record waits for has not returned within 1.5 µs; the read itself goes on. -/
def memLate (s : State) : State :=
  match s.points.queue.findSome? readSlot with
  | none => s
  | some k =>
    let q := updFirst reading (fun p => { p with stage := .done, status := 7 }) s.points.queue
    flushPoints (statusCounter { s with points := { s.points with queue := q, late := s.points.late ++ [k] } } 7)

/-- MEM_LATE. -/
def execMemLate (s : State) : Host.Outcome State Fault Refusal := outcome s (memLate s)

/-! ### Objects (R272, R279 to R281) -/

/-- A version write sets the lower of the value and 2 in force (R272). -/
def versionHook (sub : Nat) (_ : State) : WriteHook where
  run s v := .done (odSetN s 0x1F12 (sub % 256) (min (valN v) 2))

/-- PR32_VERSION_WRITE (R272): a write of 0x1F12:02 or 0x1F12:03. -/
def execPr32VersionWrite (r : Req) (sub : Fin 256) (v : BitVec 8) (s : State) : Host.Outcome State Fault Refusal :=
  outcome s (requestWrite s r 0x1F12 sub.val [v] (if sub.val = 2 || sub.val = 3 then versionHook sub.val
    else plainHook 0x1F12 sub.val))

/-- A calibration set is accepted (R279). -/
def calSetOk (b : Bytes) : Bool :=
  let finite := (List.range 23).all fun i => (f32Val (fieldN b (4 * i) 4)).isSome
  let m (i j : Nat) : Rat := realAt b (36 + 12 * i + 4 * j)
  let gram (i k : Nat) : Rat := m i 0 * m k 0 + m i 1 * m k 1 + m i 2 * m k 2
  let orth := (List.range 3).all fun i => (List.range 3).all fun k =>
    ratAbs (gram i k - (if i = k then 1 else 0)) ≤ 1 / 1000
  finite && 0 < realAt b 0 && 0 < realAt b 4 && orth && fieldN b 92 2 != 0 && fieldN b 94 2 != 0

/-- Whether a running or pending plan asks for colour (R280). -/
def colourRequired (s : State) : Bool :=
  let f (p : Plan) : Bool := p.outs.any fun o => o.oflags.testBit 0
  (s.plan.running.map f).getD false || (s.plan.pending.map fun p => f p.1).getD false ||
    (s.plan.switching.map fun p => f p.2).getD false

/-- The bytes of the column log (0x3302:01). -/
def columnLog (s : State) : Bytes :=
  if s.points.logAt.isNone then []
  else (List.range 4096).flatMap fun k => tgetD s.points.log k (zeros 24)

/-- The record and Confluence objects that are no plain settings. -/
def readPoints (s : State) (ix sub : Nat) : Option Val :=
  match ix, sub with
  | 0x3302, 1 => some (.bytes (columnLog s))
  | 0x3302, 2 => some (.num (s.points.logAt.getD 0))
  | 0x6041, 2 => some (.num (calState s 0 (odBytes s 0x6041 1)))
  | 0x6042, 2 => some (.num (calState s 1 (odBytes s 0x6042 1)))
  | _, _ => none

/-- The write rules of the record and Confluence objects. -/
def hookPoints (ix sub : Nat) : Option (State → WriteHook) :=
  match ix, sub with
  | 0x1F12, 2 => some (versionHook 2)
  | 0x1F12, 3 => some (versionHook 3)
  | 0x6040, 1 => some fun _ => {
      gate := fun s v => if valN v = 0 && colourRequired s then some (abState, s) else none
      run := keep 0x6040 1 }
  | 0x6041, 1 => some fun _ => { range := fun v => calSetOk (valBytes v), run := keep 0x6041 1 }
  | 0x6042, 1 => some fun _ => { range := fun v => calSetOk (valBytes v), run := keep 0x6042 1 }
  | _, _ => none

end Sys2Proof.Machine
end

