-- ==== Sys2Proof/Machine/Camera.lean ====
section
/-! DEFINITION. The camera ports and the shared image pipeline (R282 to R300): frames and their conformance, port states,
the input buffers, the stages, tone-curve fades, the frame store, image streams and CAM_FSYNC. -/

namespace Sys2Proof.Machine

/-- A camera. -/
def getCam (s : State) (k : Nat) : CamSt := tgetD s.cams k {}

/-- The state with a camera changed. -/
def updCam (s : State) (k : Nat) (f : CamSt → CamSt) : State := { s with cams := tset s.cams k (f (getCam s k)) }

/-- The code of a port state (0x6008+k:01). -/
def portCode : PortState → Nat
  | .off => 0
  | .startup => 1
  | .normal => 2
  | .test => 3
  | .recovery => 4
  | .absent => 5

/-- The CAM domain is present and on. -/
def camPowered (s : State) : Bool := hasCam s && domOn s .cam

/-! ### Port states (R287) -/

/-- A port enters a state: its counts of frames start anew and its watchdog is armed; INT_STATUS bit 9 reports a change
(R380). -/
def camEnter (s : State) (k : Nat) (st : PortState) : State :=
  let s := if (getCam s k).st = st then s else setInt s 9
  updCam s k fun c => { c with st := st, good := 0, bad := 0, armed := s.tick.num }

/-- The state a port takes when frames arrive or it is enabled. -/
def camFirst (s : State) (k : Nat) : PortState := if odB s (0x6000 + k) 0x0F then .test else .startup

/-- A closed frame is judged: usable frames lead to NORMAL, unusable ones to RECOVERY. -/
def camJudge (s : State) (k : Nat) (usable : Bool) : State :=
  let c := getCam s k
  let good := if usable then c.good + 1 else 0
  let bad := if usable then 0 else c.bad + 1
  let s := updCam s k fun c => { c with good := good, bad := bad }
  match c.st with
  | .startup => if odN s (0x6000 + k) 0x10 ≤ good then camEnter s k .normal else s
  | .recovery => if odN s (0x6000 + k) 0x10 ≤ good then camEnter s k .normal else s
  | .normal => if odN s (0x6000 + k) 0x11 ≤ bad then bump (camEnter s k .recovery) (0x6008 + k % 2) 0x0D else s
  | _ => s

/-! ### Frames (R284 to R288, R298) -/

/-- SHORT: closed after fewer than H lines. -/
def frameShort (f : CamFrame) : Bool := f.arrived < f.h

/-- LONG: more than H lines arrived. -/
def frameLong (f : CamFrame) : Bool := f.h < f.arrived

/-- The descriptor of a frame (R298). -/
def frameDesc (k : Nat) (f : CamFrame) : Bytes :=
  let flags := b2n f.short + 2 * b2n (frameLong f) + 4 * b2n f.trunc + 8 * b2n f.noFe + 16 * b2n (0 < f.repaired) +
    32 * b2n f.widthErr + 64 * b2n f.syncMiss + 128 * b2n f.fading + 256 * b2n (f.state == 3)
  leBytes 8 (toBits 64 f.tmid) ++ leBytes 8 f.tfs ++ leBytes 2 f.no ++ leBytes 2 f.written ++ leBytes 2 f.h ++
    leBytes 2 f.w ++ leBytes 2 f.repaired ++ leBytes 2 f.dropped ++
    leBytes 4 (flags + f.slot * 2 ^ 24 + f.state * 2 ^ 27 + k * 2 ^ 30)

/-- The open frame of a camera. -/
def openFrame (c : CamSt) : Option CamFrame := c.frames.find? fun f => !f.closed

/-- A frame of a camera changed. -/
def updFrame (c : CamSt) (seq : Nat) (f : CamFrame → CamFrame) : CamSt :=
  { c with frames := c.frames.map fun x => if x.seq = seq then f x else x }

/-- The open frame closes (R288): at a Frame End, at a Frame Start (`noFe`), or with its port (`cut`), which truncates it.
Its counters, its descriptor and the port's judgement follow. -/
def camClose (s : State) (k : Nat) (noFe cut : Bool) : State :=
  match openFrame (getCam s k) with
  | none => s
  | some f =>
    let x := 0x6008 + k % 2
    let s := if cut && !f.trunc then bump s x 5 else s
    let short := frameShort f && !cut
    let g : CamFrame := { f with closed := true, noFe := noFe, trunc := f.trunc || cut, short := short }
    let s := bump s x 2
    let s := if short then bump s x 3 else s
    let s := if frameLong g then bump s x 4 else s
    let s := if noFe then bump s x 0x0E else s
    let s := updCam s k fun c => { updFrame c f.seq fun _ => g with desc := frameDesc k g }
    camJudge s k (!short && !g.trunc)

/-- A packet header (R282): dropped and counted where its ECC fails, corrected and counted, ignored and counted on
another virtual channel. -/
def camHeader (s : State) (k vc : Nat) (e : Ecc) : Bool × State :=
  match e with
  | .bad => (false, bump s (0x6008 + k % 2) 8)
  | _ =>
    let s := if e = .corrected then bump s (0x6008 + k % 2) 7 else s
    let ok := vc == odN s (0x6000 + k) 4
    (ok, if ok then s else bump s (0x6008 + k % 2) 8)

/-- A port receives: the CAM domain is on and the port is not OFF. -/
def camReceives (s : State) (k : Nat) : Bool := camPowered s && (getCam s k).st != .off

/-! ### Tone-curve fades (R293, R294) -/

/-- Point `i` of the curve of a fade from X to Y, for one channel. -/
def fadePoint (x y : Bytes) (n j o : Nat) : Nat :=
  if j = 0 then fieldN x o 2 else ((n - j) * fieldN x o 2 + j * fieldN y o 2 + n / 2) / n

/-- The bytes of a displayed curve. -/
def fadeCurve (x y : Bytes) (n j : Nat) : Bytes := (List.range 3072).flatMap fun i => leBytes 2 (fadePoint x y n j (2 * i))

/-- The tone curve moves on at a Frame Start (R294). -/
def toneStep (s : State) (k : Nat) : State :=
  let c := getCam s k
  let req := odN s (0x6004 + k % 2) 3
  let n := odN s (0x6004 + k % 2) 4
  let c : CamSt := match c.fade with
    | some (m, j) => if m ≤ j then { c with bank := 1 - c.bank, fade := none } else c
    | none => c
  let put (s : State) (bank : Nat) (fade : Option (Nat × Nat)) : State :=
    odSetN (updCam s k fun c => { c with bank := bank, fade := fade }) (0x6004 + k % 2) 5 ((fade.map (·.2)).getD 0)
  match c.fade with
  | none => if req = c.bank then put s c.bank none else put s c.bank (some (n, 1))
  | some (m, j) =>
    if req = c.bank then
      let y := fadeCurve (odBytes s (0x6004 + k % 2) (1 + c.bank)) (odBytes s (0x6004 + k % 2) (2 - c.bank)) m j
      put (odSet s (0x6004 + k % 2) (2 - c.bank) (.bytes y)) (1 - c.bank) (some (n, 1))
    else put s c.bank (some (m, j + 1))

/-! ### The frame store (R295, R296) -/

/-- The stride of a slot. -/
def slotStride (w h px : Nat) : Nat := ceilDiv (w * h * px + 32) 64 * 64

/-- Bytes of a camera's store. -/
def storeSpan (s : State) (k : Nat) : Nat × Nat :=
  (odN s (0x6010 + k) 1,
    odN s (0x6010 + k) 2 * slotStride (odN s (0x6000 + k) 6) (odN s (0x6000 + k) 7) (storePixel s k))

/-- The geometry and the store of a camera are allowed (R283, R295). -/
def storeOk (s : State) (k : Nat) : Bool :=
  let a := storeSpan s k
  let b := storeSpan s (1 - k)
  odN s (0x6000 + k) 6 % 2 == 0 && odN s (0x6000 + k) 7 % 2 == 0 && camPixels s k ≤ 8388608 &&
    a.1 % 64 == 0 && a.1 + a.2 ≤ s.fuses.qdr && (a.1 + a.2 ≤ b.1 || b.1 + b.2 ≤ a.1)

/-- The slot with the oldest stored frame. -/
def oldestSlot (l : Tbl StoredFrame) : Option Nat :=
  (l.foldl (fun (r : Option (Nat × StoredFrame)) x =>
    match r with
    | none => some x
    | some y => if x.2.seq < y.2.seq then some x else r) none).map (·.1)

/-- The candidates among the stored frames of a ring of `n` slots: at most n − 1, the latest (R296). -/
def candidates (n : Nat) (l : Tbl StoredFrame) : Tbl StoredFrame :=
  if l.length < n then l
  else match oldestSlot l with
    | some i => tdel l i
    | none => l

/-- The slot of a new frame: the lowest empty one, else the one of the oldest stored frame, else of the oldest frame
under way. -/
def takeSlot (s : State) (k : Nat) (c : CamSt) : Nat :=
  match (List.range (odN s (0x6010 + k) 2)).find? fun i => (tget c.slots i).isNone && c.frames.all fun f => f.slot != i with
  | some i => i
  | none => ((oldestSlot c.slots).orElse fun _ => (c.frames.head?).map (·.slot)).getD 0

/-! ### Frame Start (R284, R286, R288) -/

/-- T_mid of a frame and whether it carries SYNC_MISS (R286). -/
def midTime (s : State) (k tfs ofs : Nat) : Int × Bool :=
  let d := 1000 * odI s (0x6000 + k) 0x0C
  if odN s (0x6000 + k) 0x0B = 0 then ((tfs : Int) + d, false)
  else
    match (getCam s k).syncT with
    | some (t, p) =>
      if since s t * 12800 + ofs ≤ 2 * odN s 0x6012 2 * 12800 then ((p : Int) + d, false) else ((tfs : Int) + d, true)
    | none => ((tfs : Int) + d, true)

/-- A frame opens. -/
def camOpen (s : State) (k no tfs ofs : Nat) : State :=
  let s := toneStep s k
  let c := getCam s k
  let m := midTime s k tfs ofs
  let slot := takeSlot s k c
  let w := odN s (0x6000 + k) 6
  let h := odN s (0x6000 + k) 7
  let px := storePixel s k
  let f : CamFrame := {
    seq := c.seq, no := no, tfs := tfs, tmid := m.1, slot := slot, state := portCode c.st
    w := w, h := h, bits := 10 + 2 * odN s (0x6000 + k) 5, order := odN s (0x6000 + k) 8
    base := odN s (0x6010 + k) 1 + slot * slotStride w h px, px := px
    black := odBytes s (0x6002 + k) 1, defects := odBytes s (0x6002 + k) 2, gains := odBytes s (0x6002 + k) 3
    matrix := odBytes s (0x6002 + k) 4
    curveX := odBytes s (0x6004 + k % 2) (1 + c.bank), curveY := odBytes s (0x6004 + k % 2) (2 - c.bank)
    fadeN := (c.fade.map (·.1)).getD 1, fadeJ := (c.fade.map (·.2)).getD 0, fading := c.fade.isSome
    syncMiss := m.2 }
  updCam s k fun c => { c with
    seq := c.seq + 1, frames := c.frames ++ [f], slots := tdel c.slots slot, lastFs := some tfs, ignore := false }

/-- FRAME_START (R284, R288): a frame sooner than 0.99 / F_max after the previous accepted one is ignored. -/
def frameStart (s : State) (k : Nat) (p : FramePacket) : State :=
  if !camReceives s k || entryStops s then s
  else
    let h := camHeader s k p.vc.val p.ecc
    if !h.1 then h.2
    else
      let s := camClose h.2 k true false
      let tfs := timeWhen s (10 * p.ofs)
      let s := if (getCam s k).st = .absent then camEnter s k (camFirst s k)
        else updCam s k fun c => { c with armed := s.tick.num }
      let early := match (getCam s k).lastFs with
        | some t => decide ((tfs - t) * odN s (0x6000 + k) 0x0A < 99 * 10 ^ 9)
        | none => false
      if early then bump (updCam s k fun c => { c with ignore := true }) (0x6008 + k % 2) 0x0A
      else camOpen s k p.no.toNat tfs p.ofs

/-- FRAME_START. -/
def execFrameStart (k : Fin 2) (p : FramePacket) (s : State) : Host.Outcome State Fault Refusal :=
  outcome s (frameStart s k.val p)

/-- FRAME_END (R288): the open frame closes; the end of an ignored frame is ignored with it. -/
def frameEnd (s : State) (k : Nat) (p : FramePacket) : State :=
  if !camReceives s k then s
  else
    let h := camHeader s k p.vc.val p.ecc
    if !h.1 then h.2
    else if (getCam h.2 k).ignore then updCam h.2 k fun c => { c with ignore := false }
    else camClose h.2 k false false

/-- FRAME_END. -/
def execFrameEnd (k : Fin 2) (p : FramePacket) (s : State) : Host.Outcome State Fault Refusal :=
  outcome s (frameEnd s k.val p)

/-! ### Lines (R282, R288, R292) -/

/-- The data type of a port (0x6000+k:05) on the lanes. -/
def camType (s : State) (k : Nat) : Nat := 0x2B + odN s (0x6000 + k) 5

/-- A line as the port puts it into its buffer: repaired by the line two above where its CRC fails or it is short, cut
to W where it is long. -/
def lineData (f : CamFrame) (p : LinePacket) : List Nat :=
  if !p.crcOk || p.px.length < f.w then f.raw.getD 1 (List.replicate f.w 0)
  else (p.px.take f.w).map (· % 2 ^ f.bits)

/-- LINE_PACKET (R288, R292). -/
def linePacket (s : State) (k : Nat) (p : LinePacket) : State :=
  if !camReceives s k then s
  else
    let x := 0x6008 + k % 2
    let h := camHeader s k p.vc.val p.ecc
    if !h.1 then h.2
    else
      let s := h.2
      let c := getCam s k
      if p.dt.toNat ≠ camType s k then bump s x 8
      else if c.ignore then s
      else match openFrame c with
      | none => bump s x 8
      | some f =>
        let upd (s : State) (g : CamFrame → CamFrame) : State :=
          updCam s k fun c => updFrame c f.seq fun y => { g y with arrived := f.arrived + 1 }
        if f.h ≤ f.arrived then upd (bump s x 6) fun y => { y with dropped := y.dropped + 1 }
        else if f.cut then upd s id
        else
          let px := lineData f p
          let keepRaw (y : CamFrame) : CamFrame := { y with raw := px :: y.raw.take 1 }
          if 4 ≤ c.buf.length then
            let s := if f.trunc then s else bump s x 5
            if c.st = .test then upd s fun y => { keepRaw y with dropped := y.dropped + 1, trunc := true }
            else upd s fun y => { y with cut := true, trunc := true }
          else
            let fix := !p.crcOk || p.px.length < f.w
            let s := if fix then bump s x 9 else s
            let s := upd s fun y => { keepRaw y with
              written := y.written + 1, repaired := if fix then y.repaired + 1 else y.repaired
              widthErr := y.widthErr || p.px.length != f.w }
            updCam s k fun c => { c with buf := c.buf ++ [(f.seq, f.arrived, px)] }

/-- LINE_PACKET. -/
def execLinePacket (k : Fin 2) (p : LinePacket) (s : State) : Host.Outcome State Fault Refusal :=
  outcome s (linePacket s k.val p)

/-! ### The stages (R290) -/

/-- The Bayer phase of a pixel: 0 red, 1 green in a red row, 2 green in a blue row, 3 blue. -/
def bayer (order i j : Nat) : Nat := (i % 2 + 2 * (j % 2)) ^^^ order

/-- Stage 1: black level. -/
def stageBlack (f : CamFrame) (j : Nat) (px : List Nat) : List Nat :=
  px.zipIdx.map fun x => x.1 * 2 ^ (16 - f.bits) - fieldN f.black (2 * bayer f.order x.2 j) 2

/-- The columns of the defect table's entries in a line. -/
def defectCols (b : Bytes) (j : Nat) : List Nat :=
  (List.range (b.length / 4)).filterMap fun i => if fieldN b (4 * i + 2) 2 = j then some (fieldN b (4 * i) 2) else none

/-- Stage 2: a defect is replaced by the mean of its neighbours of the same colour in the line. -/
def stageDefect (f : CamFrame) (j : Nat) (y : List Nat) : List Nat :=
  let cols := defectCols f.defects j
  y.zipIdx.map fun x =>
    if !cols.contains x.2 then x.1
    else
      let r := y[x.2 + 2]?
      let l := if 2 ≤ x.2 then y[x.2 - 2]? else none
      match l, r with
      | some a, some b => (a + b) / 2
      | some a, none => a
      | none, some b => b
      | none, none => x.1

/-- Stage 3: bilinear demosaicing of a line with the lines above and below it. -/
def stageMosaic (f : CamFrame) (j : Nat) (up cur dn : List Nat) : List (Nat × Nat × Nat) :=
  cur.zipIdx.map fun x =>
    let i := x.2
    let l := if i = 0 then 1 else i - 1
    let r := if i + 1 = f.w then i - 1 else i + 1
    let at2 (a : List Nat) (n : Nat) : Nat := a.getD n 0
    let hz := (at2 cur l + at2 cur r + 1) / 2
    let vt := (at2 up i + at2 dn i + 1) / 2
    let cross := (at2 cur l + at2 cur r + at2 up i + at2 dn i + 2) / 4
    let diag := (at2 up l + at2 up r + at2 dn l + at2 dn r + 2) / 4
    match bayer f.order i j with
    | 0 => (x.1, cross, diag)
    | 1 => (hz, x.1, vt)
    | 2 => (vt, x.1, hz)
    | _ => (diag, cross, x.1)

/-- Stage 4: one component under its white-balance gain. -/
def whiteBalance (f : CamFrame) (c x : Nat) : Nat := min 65535 (roundDivN (x * fieldN f.gains (2 * c) 2) 4096)

/-- Stage 5: one output component of the colour matrix. -/
def colourRow (f : CamFrame) (i : Nat) (p : Nat × Nat × Nat) : Nat :=
  let m (j : Nat) : Int := fieldI f.matrix (6 * i + 2 * j) 2
  (clampI 0 65535 (roundDiv (m 0 * p.1 + m 1 * p.2.1 + m 2 * p.2.2) 4096 + fieldI f.matrix (18 + 4 * i) 4)).toNat

/-- Stage 6: one component through the displayed tone curve. -/
def toneMap (f : CamFrame) (c o : Nat) : Nat :=
  let t (i : Nat) : Nat := fadePoint f.curveX f.curveY f.fadeN f.fadeJ (2048 * c + 2 * i)
  let i := o / 64
  let z : Int := (t i : Int) + roundDiv (((t (min (i + 1) 1023) : Int) - (t i : Int)) * ((o % 64 : Nat) : Int)) 64
  min 255 ((z.toNat + 128) / 256)

/-- A pixel after stage 5. -/
def stageColour (f : CamFrame) (p : Nat × Nat × Nat) : Nat × Nat × Nat :=
  let q := (whiteBalance f 0 p.1, whiteBalance f 1 p.2.1, whiteBalance f 2 p.2.2)
  (colourRow f 0 q, colourRow f 1 q, colourRow f 2 q)

/-- A pixel after stage 6. -/
def stageTone (f : CamFrame) (p : Nat × Nat × Nat) : Nat × Nat × Nat := (toneMap f 0 p.1, toneMap f 1 p.2.1, toneMap f 2 p.2.2)

/-- A pixel in the frame store (R295). -/
def storeBytes (f : CamFrame) (p : Nat × Nat × Nat) : Bytes :=
  if f.px = 4 then leBytes 1 p.1 ++ leBytes 1 p.2.1 ++ leBytes 1 p.2.2 ++ [0]
  else leBytes 2 (p.1 / 8 * 2 ^ 11 + p.2.1 / 4 * 2 ^ 5 + p.2.2 / 8)

/-- Three components of `n` bytes each. -/
def triple (n : Nat) (p : Nat × Nat × Nat) : Bytes := leBytes n p.1 ++ leBytes n p.2.1 ++ leBytes n p.2.2

/-! ### Image streams and raw taps (R297, R361) -/

/-- A unit to the sink of a camera's image stream (`tap` false) or raw tap. -/
def camSend (s : State) (k : Nat) (tap : Bool) (content : Nat) (bs : Bytes) (frame : Nat := 0) : State :=
  let sink := odN s (0x6006 + k) (if tap then 4 else 1)
  let idx := odN s (0x6006 + k) (if tap then 5 else 2)
  if sink = 0 then s
  else
    let ws := wordsOf bs
    let u : OutUnit := { stream := (if tap then 10 else 8) + k, word := unitWord s.tick.num ws.length content 1, words := ws, frame := frame }
    route s (sink == 2) idx u

/-- A line unit: word 0 and the pixels. -/
def camLine (s : State) (k : Nat) (f : CamFrame) (j point : Nat) (bs : Bytes) : State :=
  camSend s k (point != 0) (if point = 0 then 4 else 6)
    (leBytes 8 (f.no * 2 ^ 16 + j + k * 2 ^ 32 + point * 2 ^ 33) ++ bs) f.seq

/-- A line at the raw tap, where the tap stands at that point. -/
def camTap (s : State) (k : Nat) (f : CamFrame) (j point : Nat) (bs : Bytes) : State :=
  if odN s (0x6006 + k) 3 = point then camLine s k f j point bs else s

/-- A line that a drop left out inside a frame: what the demosaic stage uses in its place is open. -/
def freeLine (s : State) (w : Nat) : List Nat × State :=
  ((List.range w).map fun i => (Config.mosaicOpen s.free i).toNat, { s with free := s.free + 1 })

/-- The line above or below line `j`: mirrored outside the frame, free where it was dropped. -/
def neighbourLine (s : State) (f : CamFrame) (j : Nat) (below : Option (List Nat)) : List Nat × List Nat × State :=
  let above := (f.mem.find? fun m => m.1 + 1 == j).map (·.2)
  let last := below.isNone && f.closed
  match above, below with
  | some a, some b => (a, b, s)
  | some a, none => if last then (a, a, s) else let r := freeLine s f.w; (a, r.1, r.2)
  | none, some b => if j = 0 then (b, b, s) else let r := freeLine s f.w; (r.1, b, r.2)
  | none, none => let r := freeLine s f.w; (r.1, r.1, r.2)

/-- Maximum and mean, rounded down, of a component of a line (R329). -/
def lineStat (l : List Nat) : Nat × Nat := (l.foldl max 0, l.foldl (· + ·) 0 / max 1 l.length)

/-- The statistics of a completed line for the acquisition engine. -/
def lineStats (p : List (Nat × Nat × Nat)) : List (Nat × Nat) :=
  [lineStat (p.map (·.1)), lineStat (p.map (·.2.1)), lineStat (p.map (·.2.2))]

/-- A line leaves the demosaic stage: stages 3 to 7, the frame store, the image stream and the taps. -/
def camOut (s : State) (k : Nat) (f : CamFrame) (j : Nat) (cur : List Nat) (below : Option (List Nat)) : State :=
  let n := neighbourLine s f j below
  let s := n.2.2
  let p3 := stageMosaic f j n.1 cur n.2.1
  let p5 := p3.map (stageColour f)
  let p6 := p5.map (stageTone f)
  let s := { s with acq := { s.acq with lines := tset s.acq.lines k (lineStats p5) } }
  let s := qdrWrite s (f.base + j * f.w * f.px) (p6.flatMap (storeBytes f))
  let s := camLine s k f j 0 (p6.flatMap (triple 1))
  let s := camTap s k f j 2 (p3.flatMap (triple 2))
  let s := camTap s k f j 3 (p5.flatMap (triple 2))
  camTap s k f j 4 (p6.flatMap (triple 1))

/-! ### Serving lines (R289, R296) -/

/-- A Confluence read of a slot is under way, whether its record still waits for it or not (R278). -/
def slotRead (s : State) (k slot : Nat) : Bool :=
  s.points.late.contains (k, slot) || s.points.queue.any fun p =>
    match p.stage with
    | .read c sl _ _ _ => c == k && sl == slot
    | _ => false

/-- The first line that a camera's buffer holds, and its frame; the first line of a frame waits for the reads of its slot. -/
def camWaiting (s : State) (k : Nat) : Option (CamFrame × Nat × List Nat) :=
  let c := getCam s k
  match c.buf with
  | [] => none
  | (q, j, px) :: _ =>
    (c.frames.find? fun f => f.seq == q).bind fun f =>
      if f.mem.isEmpty && slotRead s k f.slot then none else some (f, j, px)

/-- A line of a camera is served. -/
def serveLine (s : State) (k : Nat) (f : CamFrame) (j : Nat) (px : List Nat) : State :=
  let y := stageBlack f j px
  let v := stageDefect f j y
  let s := updCam s k fun c => { c with buf := c.buf.drop 1 }
  let s := camTap s k f j 1 (y.flatMap (leBytes 2))
  let s := match f.mem with
    | [] => s
    | (i, cur) :: _ => camOut s k f i cur (if i + 1 = j then some v else none)
  updCam s k fun c => updFrame c f.seq fun g => { g with mem := (j, v) :: g.mem.take 1 }

/-- LINE_SERVICE (R289): the waiting line of the camera of higher priority. -/
def lineService (s : State) : State :=
  if !camPowered s then s
  else match camWaiting s 0, camWaiting s 1 with
  | none, none => s
  | some a, none => serveLine s 0 a.1 a.2.1 a.2.2
  | none, some b => serveLine s 1 b.1 b.2.1 b.2.2
  | some a, some b =>
    if odN s 0x6000 9 < odN s 0x6001 9 then serveLine s 1 b.1 b.2.1 b.2.2 else serveLine s 0 a.1 a.2.1 a.2.2

/-- LINE_SERVICE. -/
def execLineService (s : State) : Host.Outcome State Fault Refusal := outcomeMem s (lineService s)

/-- The frame of a camera that has closed and whose lines are served. -/
def storable (c : CamSt) : Option CamFrame :=
  match c.frames with
  | [] => none
  | f :: _ => if f.closed && c.buf.all fun b => b.1 != f.seq then some f else none

/-- FRAME_STORED (R291, R296, R298): the last line leaves, the descriptor is written and sent, and the slot holds a
complete frame. A frame without lines waits for the reads of its slot before anything is written into it (R278). -/
def frameStored (s : State) (k : Nat) : State :=
  if !camPowered s then s
  else match storable (getCam s k) with
  | none => s
  | some f =>
    if f.mem.isEmpty && slotRead s k f.slot then s
    else
    let s := match f.mem with
      | [] => s
      | (j, cur) :: _ => camOut s k f j cur none
    let d := frameDesc k f
    let s := qdrWrite s (f.base + f.w * f.h * f.px) d
    let s := camSend s k false 5 d
    let s := if odN s (0x6006 + k) 3 = 0 then s else camSend s k true 5 d
    updCam s k fun c => { c with
      frames := c.frames.filter fun x => x.seq != f.seq
      slots := candidates (odN s (0x6010 + k) 2) (tset c.slots f.slot {
        seq := f.seq, tmid := f.tmid, bad := f.short || f.trunc, base := f.base, w := f.w, px := f.px }) }

/-- FRAME_STORED. -/
def execFrameStored (k : Fin 2) (s : State) : Host.Outcome State Fault Refusal := outcomeMem s (frameStored s k.val)

/-! ### The watchdog and the port commands (R287) -/

/-- FRAME_TIMEOUT: no Frame Start has arrived within the timeout. -/
def frameTimeout (s : State) (k : Nat) : State :=
  let c := getCam s k
  let due := msTicks (odN s (0x6000 + k) 0x0D) ≤ since s c.armed
  let watched := c.st == .startup || c.st == .recovery || c.st == .test
  if camPowered s && due && watched then
    let s := bump s (0x6008 + k % 2) 0x0B
    let s := if c.st = .test then s else reportFault s .platform
    camEnter s k .absent
  else s

/-- FRAME_TIMEOUT. -/
def execFrameTimeout (k : Fin 2) (s : State) : Host.Outcome State Fault Refusal := outcome s (frameTimeout s k.val)

/-- A port is enabled where the domain has started and it is OFF. -/
def portOn (s : State) (k : Nat) : State :=
  if camPowered s && (getCam s k).st = .off then camEnter s k (camFirst s k) else s

/-- A port goes OFF: the frame in progress ends as TRUNCATED. -/
def portOff (s : State) (k : Nat) : State :=
  let s := camClose s k false true
  updCam (camEnter s k .off) k fun c => { c with ignore := false, lastFs := none }

/-- The hook of 0x6000+k:01. -/
def portHook (k : Nat) (_ : State) : WriteHook where
  run s v :=
    let s := odSet s (0x6000 + k % 2) 1 v
    .done (if valN v = 0 then portOff s k else portOn s k)

/-- PORT_ENABLE_WRITE. -/
def execPortEnableWrite (r : Req) (k : Fin 2) (v : Bool) (s : State) : Host.Outcome State Fault Refusal :=
  outcome s (requestWrite s r (0x6000 + k.val) 1 (leBytes 1 (b2n v)) (portHook k.val))

/-- The hook of 0x6000+k:0F. -/
def testHook (k : Nat) (_ : State) : WriteHook where
  run s v :=
    let s := odSet s (0x6000 + k % 2) 0x0F v
    .done (match (getCam s k).st with
      | .normal => if valN v = 0 then s else camEnter s k .test
      | .startup => if valN v = 0 then s else camEnter s k .test
      | .recovery => if valN v = 0 then s else camEnter s k .test
      | .test => if valN v = 0 then camEnter s k .startup else s
      | _ => s)

/-- TEST_REQUEST_WRITE. -/
def execTestRequestWrite (r : Req) (k : Fin 2) (v : Bool) (s : State) : Host.Outcome State Fault Refusal :=
  outcome s (requestWrite s r (0x6000 + k.val) 0x0F (leBytes 1 (b2n v)) (testHook k.val))

/-! ### CAM_FSYNC (R285) -/

/-- The settings that will be in force: the collected ones, else those in force. -/
def fsyncNext (s : State) : FsyncSet :=
  s.fsync.getD { en := odN s 0x6012 1, p := odN s 0x6012 2, o := odN s 0x6012 3, w := odN s 0x6012 4 }

/-- What the running pulse of CAM_FSYNC[k] still has to last at the present t+0, in 0.1 µs. -/
def fsyncLeft (s : State) (k : Nat) : Nat :=
  let c := getCam s k
  if c.sync then c.syncW - 128 * ((c.syncT.map fun t => since s t.1).getD 0) else 0

/-- A pulse of CAM_FSYNC[k] starts with the width in force (R285). One that still runs completes with its own width. -/
def fsyncPulse (s : State) (k : Nat) : State :=
  let w := max (10 * odN s 0x6012 4) (fsyncLeft s k)
  let s := if (getCam s k).sync then s else send s (.pin (if k = 0 then "CAM_FSYNC0" else "CAM_FSYNC1") true)
  updCam s k fun c => { c with sync := true, syncW := w, syncT := some (s.tick.num, devTime s) }

/-- CAM_FSYNC at t+0 of a tick: collected writes apply at a multiple of their P, and pulses start at phase O. -/
def fsyncTick (s : State) : State :=
  let n := s.tick.num
  let s := match s.fsync with
    | some f =>
      if n % f.p = 0 then
        let s := odSetN (odSetN s 0x6012 1 f.en) 0x6012 2 f.p
        { odSetN (odSetN s 0x6012 3 f.o) 0x6012 4 f.w with fsync := none }
      else s
    | none => s
  if camPowered s && n % odN s 0x6012 2 = odN s 0x6012 3 then
    [0, 1].foldl (fun s k => if (odN s 0x6012 1).testBit k then fsyncPulse s k else s) s
  else s

/-- CAM_FSYNC[k] goes low. -/
def fsyncLow (s : State) (k : Nat) : State :=
  if (getCam s k).sync then
    updCam (send s (.pin (if k = 0 then "CAM_FSYNC0" else "CAM_FSYNC1") false)) k fun c => { c with sync := false }
  else s

/-- CAM_FSYNC_PULSE_END (R285): the pulse ends in the tick in which the width it started with has passed, not before. -/
def fsyncEnd (s : State) (k : Nat) : State :=
  if fsyncLeft s k < 128 then fsyncLow s k else s

/-- CAM_FSYNC_PULSE_END. -/
def execCamFsyncPulseEnd (k : Fin 2) (s : State) : Host.Outcome State Fault Refusal := outcome s (fsyncEnd s k.val)

/-- The hook of a setting of 0x6012: collected, with O below the P that will be in force. -/
def fsyncHook (sub : Nat) (s : State) : WriteHook where
  range v :=
    if sub = 2 then (fsyncNext s).o < valN v
    else if sub = 3 then valN v < (fsyncNext s).p
    else true
  run s v :=
    let f := fsyncNext s
    let n := valN v
    let g : FsyncSet := match sub with
      | 1 => { f with en := n }
      | 2 => { f with p := n }
      | 3 => { f with o := n }
      | _ => { f with w := n }
    .done { s with fsync := some g }

/-! ### Power (R299) -/

/-- The D-PHY calibration after a power-up of CAM has ended: the slots are empty, the curves steady, enabled ports start. -/
def camStart (s : State) : State :=
  if !hasCam s then s
  else [0, 1].foldl (fun s k =>
    let s := odSetN (updCam s k fun c => { c with
      frames := [], buf := [], slots := [], bank := odN s (0x6004 + k % 2) 3, fade := none }) (0x6004 + k % 2) 5 0
    let s := usePersisted s (0x6000 + k % 2) 1
    if odB s (0x6000 + k % 2) 1 then portOn s k else s) s

/-- The CAM domain goes off. -/
def camOff (s : State) : State :=
  let s := { s with acq := { s.acq with lines := [] } }
  [0, 1].foldl (fun s k =>
    let s := fsyncLow (portOff s k) k
    odSetN (updCam s k fun c => { c with frames := [], buf := [], slots := [], fade := none, syncT := none }) (0x6004 + k % 2) 5 0) s

/-- A frame is being written: the pipeline's implicit votes (R299). -/
def camBusy (s : State) : Bool := [0, 1].any fun k => !(getCam s k).frames.isEmpty

/-! ### Objects (R300) -/

/-- The camera objects that are no plain settings. -/
def readCam (s : State) (ix sub : Nat) : Option Val :=
  if ix = 0x6008 || ix = 0x6009 then
    match sub with
    | 1 => some (.num (portCode (getCam s (ix - 0x6008)).st))
    | 0x0C => some (.bytes (getCam s (ix - 0x6008)).desc)
    | _ => none
  else none

/-- An entry of the defect table lies before another. -/
def defectBefore (a b : Nat × Nat) : Bool := a.2 < b.2 || (a.2 == b.2 && a.1 < b.1)

/-- The entries rise. -/
def defectRising : List (Nat × Nat) → Bool
  | a :: b :: r => defectBefore a b && defectRising (b :: r)
  | _ => true

/-- A defect table is accepted (R291). -/
def defectsOk (s : State) (k : Nat) (b : Bytes) : Bool :=
  let l := (List.range (b.length / 4)).map fun i => (fieldN b (4 * i) 2, fieldN b (4 * i + 2) 2)
  b.length % 4 == 0 && defectRising l && l.all fun e => e.1 < odN s (0x6000 + k) 6 && e.2 < odN s (0x6000 + k) 7

/-- The geometry or the store of a camera is written: its slots become empty. -/
def storeKeep (k ix sub : Nat) (s : State) (v : Val) : Verdict :=
  .done (updCam (odSet s ix sub v) k fun c => { c with slots := [] })

/-- A tone bank is refused while it is displayed in steady state and while a fade runs (R294). -/
def bankGate (k sub : Nat) (s : State) (_ : Val) : Option (Nat × State) :=
  let c := getCam s k
  if c.fade.isSome || c.bank + 1 = sub then some (abState, s) else none

/-- The write rules of the camera objects. -/
def hookCam (ix sub : Nat) : Option (State → WriteHook) :=
  let k := ix % 2
  if ix = 0x6000 || ix = 0x6001 then
    if sub = 1 then some (portHook k)
    else if sub = 0x0F then some (testHook k)
    else if sub = 2 then some fun _ => { range := fun v => valN v != 3, run := keep ix sub }
    else if sub = 5 then some fun _ => { gate := budgetGate ix sub, run := storeKeep k ix sub }
    else if sub = 6 || sub = 7 then
      some fun s => { range := fun v => storeOk (odSet s ix sub v) k, gate := budgetGate ix sub, run := storeKeep k ix sub }
    else if sub = 0x0A then some fun _ => { gate := budgetGate ix sub, run := keep ix sub }
    else none
  else if ix = 0x6002 || ix = 0x6003 then
    if sub = 2 then some fun s => { range := fun v => defectsOk s k (valBytes v), run := keep ix sub } else none
  else if ix = 0x6004 || ix = 0x6005 then
    if sub = 1 || sub = 2 then some fun _ => { gate := bankGate k sub, run := keep ix sub } else none
  else if ix = 0x6006 || ix = 0x6007 then
    some fun _ => {
      range := fun v => valN v < 16 || (sub != 2 && sub != 5)
      gate := budgetGate ix sub
      run := keep ix sub }
  else if ix = 0x6010 || ix = 0x6011 then
    some fun s => {
      range := fun v => storeOk (odSet s ix sub v) k
      gate := if sub = 1 then fun _ _ => none else budgetGate ix sub
      run := storeKeep k ix sub }
  else if ix = 0x6012 then some (fsyncHook sub)
  else none

end Sys2Proof.Machine
end

