-- ==== Sys2Proof/Machine/Acq.lean ====
section
/-! DEFINITION. The acquisition engine (R329 to R346): probes and rows, reduction, comparators and masks, the capture's
states, gaps, and its buffer in QDR. -/

namespace Sys2Proof.Machine

/-- The state with the acquisition engine changed. -/
def updAcq (s : State) (f : AcqSt → AcqSt) : State := { s with acq := f s.acq }

/-- The kind of a probe. -/
def probeKind (s : State) (p : Nat) : Nat := odN s (0x7010 + p) 1

/-- Selector A of a probe. -/
def probeA (s : State) (p : Nat) : Nat := odN s (0x7010 + p) 2

/-- Selector B of a probe. -/
def probeB (s : State) (p : Nat) : Nat := odN s (0x7010 + p) 3

/-- Rows before the trigger (0x7000:06). -/
def acqPre (s : State) : Nat := odN s 0x7000 6

/-- The reduction interval (0x7000:08). -/
def acqR (s : State) : Nat := odN s 0x7000 8

/-! ### Slots (R332, R334, R343) -/

/-- The slot size B' for the configured probes. -/
def acqSlot (s : State) : Nat :=
  let ps := List.range 16
  let n := (ps.filter fun p => 2 ≤ probeKind s p).length
  let h := ps.filter fun p => probeKind s p == 1
  let k := if acqR s = 1 then 4 else 2
  let b := 8 + (if acqR s = 1 then 8 * ceilDiv n 2 else 8 * n) +
    h.foldl (fun a p => a + 8 + 8 * ceilDiv (odN s (0x7010 + p) 4) k) 0
  max b 24

/-- The slots that the buffer holds. -/
def acqSlots (s : State) : Nat := odN s 0x7000 5 / acqSlot s

/-- A header word (R332). -/
def acqHeader (type : Nat) (trig viol : Bool) (present tick : Nat) : Nat :=
  type * 2 ^ 60 + b2n trig * 2 ^ 59 + b2n viol * 2 ^ 58 + present * 2 ^ 32 + tick % 2 ^ 32

/-- An entry goes to its slot: the next of the ring or of the post-trigger slots. -/
def acqPut (s : State) (post row : Bool) (tick : Nat) (bs : Bytes) : State :=
  let a := s.acq
  let slot := if post then acqPre s + a.postN else a.ringN % acqPre s
  let addr := odN s 0x7000 4 + slot * odN s 0x7001 1
  let ring := a.ring ++ [(row, tick)]
  updAcq s fun a => { a with
    fifo := a.fifo ++ [(addr, bs)]
    ring := if post then a.ring else ring.drop (ring.length - acqPre s)
    ringN := if post then a.ringN else a.ringN + 1
    postN := if post then a.postN + 1 else a.postN
    postFirst := if post && row && a.postFirst.isNone then some tick else a.postFirst }

/-- The open gaps enter as markers (R333, R334). -/
def acqMarkers (s : State) : State :=
  let s := s.acq.gaps.foldl (fun s g =>
    bump (acqPut s g.post false g.tick
      (leBytes 8 (acqHeader 3 false false 0 g.tick) ++ leBytes 8 g.tick ++ leBytes 8 g.count)) 0x7001 0x0A) s
  updAcq s fun a => { a with gaps := [] }

/-- A lost row extends the open gap, or opens one; a gap is split at the trigger row (R344). -/
def acqLose (s : State) (post : Bool) (tick : Nat) : State :=
  let gaps := match s.acq.gaps.getLast? with
    | some g => if g.post = post then s.acq.gaps.dropLast ++ [{ g with count := g.count + 1 }]
        else s.acq.gaps ++ [{ post := post, tick := tick, count := 1 }]
    | none => [{ post := post, tick := tick, count := 1 }]
  bump (updAcq s fun a => { a with gaps := gaps }) 0x7001 0x0B

/-- A row enters the FIFO behind the markers of the gaps before it, or is lost whole (R344). -/
def acqEnter (s : State) (post : Bool) (tick : Nat) (bs : Bytes) : State :=
  if !post && acqPre s = 0 then s
  else
    let b := odN s 0x7001 1
    if 262144 < (s.acq.fifo.length + s.acq.gaps.length + 1) * b then acqLose s post tick
    else acqPut (acqMarkers s) post true tick bs

/-! ### The probes' values (R329 to R331) -/

/-- A node code of R259. -/
def nodeOk (a : Nat) : Bool := a < 12 || (16 ≤ a && a < 28) || a == 32 || a == 33 || a == 0xFF

/-- A scalar probe's value in the row of this tick. -/
def scalarVal (s : State) (p : Nat) : Option Nat :=
  let a := probeA s p
  let b := probeB s p
  match probeKind s p with
  | 2 =>
    let x := tgetD s.rx.chans a {}
    if domOn s .rx && (x.st == .run || x.st == .degraded) && b ≤ 2 then
      some (match b with
        | 0 => x.rate.1
        | 1 => x.rate.2.1
        | _ => x.rate.2.2)
    else none
  | 3 => if s.acq.adc.getLsbD a then some (tgetD s.hk.slots a 0 % 2 ^ 17) else none
  | 4 => if domUp s .servo && nodeOk a then some (toBits 32 (traceNode s a)) else none
  | 5 => if domOn s .cam then
      (tget s.acq.lines a).bind fun l => l[b]?.map fun q => q.1 * 2 ^ 16 + q.2
    else none
  | 6 =>
    let l := getLane s a
    if l.st = .data || l.st = .idle then some (l.eyeH * 2 ^ 16 + l.eyeW) else none
  | 7 => if domUp s .emit && a < 1024 && 1 ≤ b && b ≤ 3 then some (satN 32 (roundDivN (cellSum s a (b - 1) s.tick.num) 256)) else none
  | _ => none

/-- A probe's value in the row of this tick, if it is present. -/
def probeVal (s : State) (p : Nat) : Option AcqVal :=
  if probeKind s p = 1 then
    let row := [tget s.acq.blocks p, tget s.acq.blocks (p + 16)].findSome? fun x => x.filter fun b => b.1 + 1 == s.tick.num
    if domOn s .rx then row.map fun b => .hist b.2.1 b.2.2 else none
  else (scalarVal s p).map .scalar

/-- A number of a probe as it is compared: signed for SERVO. -/
def acqNum (s : State) (p v : Nat) : Int := if probeKind s p = 4 then toSigned 32 v else v

/-- The value that comparators compare: the largest bin of a block (R336). -/
def compareVal (s : State) (p : Nat) : AcqVal → Int
  | .scalar v => acqNum s p v
  | .hist _ l => (l.foldl max 0 : Nat)

/-- The 32 raw bits of a value (PATTERN). -/
def rawVal : AcqVal → Nat
  | .scalar v => v
  | .hist _ l => l.foldl max 0

/-! ### Comparators (R336 to R339) -/

/-- The options of a comparator type (R336). -/
def optionOk (type o : Nat) : Bool :=
  match type with
  | 0 => o ≤ 1
  | 1 => o ≤ 2
  | 2 => o ≤ 1
  | _ => true

/-- A comparator is true in a row with these values. -/
def comparatorTrue (s : State) (vals : Tbl AcqVal) (c : Nat) : Bool :=
  let x := 0x7020 + c
  let p := odN s x 2
  let a := acqNum s p (odN s x 5)
  let b := acqNum s p (odN s x 6)
  let o := odN s x 4
  odB s x 1 && optionOk (odN s x 3) o &&
    match tget vals p with
    | none => false
    | some y =>
      let v := compareVal s p y
      match odN s x 3 with
      | 0 => if o = 0 then a ≤ v else v ≤ a
      | 1 =>
        match tget s.acq.prev p with
        | none => false
        | some u =>
          let rise := decide (u < a) && decide (a ≤ v)
          let fall := decide (a ≤ u) && decide (v < a)
          if o = 0 then rise else if o = 1 then fall else rise || fall
      | 2 => if o = 0 then decide (a ≤ v) && decide (v ≤ b) else decide (v < a) || decide (b < v)
      | _ => rawVal y &&& odN s x 7 == odN s x 5 &&& odN s x 7

/-- The enabled comparators. -/
def comparatorsOn (s : State) : List Nat := (List.range 4).filter fun c => odB s (0x7020 + c) 1

/-- The combined condition (R337). -/
def combined (s : State) (trues : List Nat) (manual : Bool) : Bool :=
  manual || (if odN s 0x7000 9 = 0 then !trues.isEmpty
    else !(comparatorsOn s).isEmpty && (comparatorsOn s).all fun c => trues.contains c)

/-- A hit enters the trigger log (R339). -/
def logHit (s : State) (c : Nat) : State :=
  if s.acq.log.length < 16 then updAcq s fun a => { a with log := a.log ++ [(c, s.tick.num)] } else bump s 0x7001 9

/-! ### Masks (R341) -/

/-- A violation: position, value, and the bound crossed (0 lower, 1 upper). -/
def boundCross (lo hi v : Int) : Option Nat := if v < lo then some 0 else if hi < v then some 1 else none

/-- The violations of a probe's value, by position: position, bound, value. -/
def violations (s : State) (p : Nat) : AcqVal → List (Nat × Nat × Nat)
  | .scalar v =>
    match boundCross (acqNum s p (odN s (0x7010 + p) 5)) (acqNum s p (odN s (0x7010 + p) 6)) (acqNum s p v) with
    | some b => [(0, b, v)]
    | none => []
  | .hist _ l =>
    let m := odBytes s (0x7010 + p) 7
    (l.zipIdx.filter fun x => 4 * x.2 < m.length).filterMap fun x =>
      (boundCross (fieldN m (4 * x.2) 2) (fieldN m (4 * x.2 + 2) 2) x.1).map fun b => (x.2, b, x.1)

/-- The violations of a row are counted, and the capture's first one recorded. -/
def noteViolations (s : State) (l : List (Nat × Nat × Nat × Nat)) : State :=
  match l with
  | [] => s
  | (p, pos, b, v) :: _ =>
    let s := if odN s 0x7001 0x0C = 0 then
        odSet s 0x7001 0x0D (.bytes (leBytes 8 s.tick.num ++ leBytes 1 p ++ leBytes 1 b ++ leBytes 2 pos ++ leBytes 4 v))
      else s
    bumpBy s 0x7001 0x0C l.length

/-! ### Rows and reduction (R332, R335) -/

/-- Scalar values two to a word, padded with zeros. -/
def scalarBytes (l : List Nat) : Bytes := l.flatMap (leBytes 4) ++ zeros (if l.length % 2 = 1 then 4 else 0)

/-- A block's bins padded to whole words. -/
def padWord (b : Bytes) : Bytes := b ++ zeros ((8 - b.length % 8) % 8)

/-- The PRESENT field. -/
def presentMask {α : Type} (t : Tbl α) : Nat := t.foldl (fun a p => a + 2 ^ p.1) 0

/-- An unreduced row. -/
def rowBytes (trig viol : Bool) (tick : Nat) (vals : Tbl AcqVal) : Bytes :=
  let sc := vals.filterMap fun p => match p.2 with
    | .scalar v => some v
    | .hist _ _ => none
  let hs := vals.flatMap fun p => match p.2 with
    | .scalar _ => []
    | .hist h l => leBytes 8 h ++ padWord (l.flatMap (leBytes 2))
  leBytes 8 (acqHeader 1 trig viol (presentMask vals) tick) ++ scalarBytes sc ++ hs

/-- A reduced row. -/
def reducedBytes (trig viol : Bool) (tick : Nat) (vals : Tbl AcqRed) : Bytes :=
  let sc := vals.flatMap fun p => match p.2 with
    | .scalar lo hi => leBytes 4 lo ++ leBytes 4 hi
    | .hist _ _ _ => []
  let hs := vals.flatMap fun p => match p.2 with
    | .scalar _ _ => []
    | .hist h lo hi => leBytes 8 h ++ padWord ((lo.zip hi).flatMap fun x => leBytes 2 x.1 ++ leBytes 2 x.2)
  leBytes 8 (acqHeader 2 trig viol (presentMask vals) tick) ++ sc ++ hs

/-- A value joins a probe's minimum and maximum. -/
def reduceVal (s : State) (p : Nat) (r : Option AcqRed) (v : AcqVal) : AcqRed :=
  match v, r with
  | .scalar v, some (.scalar lo hi) =>
    .scalar (if acqNum s p v < acqNum s p lo then v else lo) (if acqNum s p hi < acqNum s p v then v else hi)
  | .scalar v, _ => .scalar v v
  | .hist h l, some (.hist _ lo hi) => .hist h ((l.zip lo).map fun x => min x.1 x.2) ((l.zip hi).map fun x => max x.1 x.2)
  | .hist h l, _ => .hist h l l

/-- The interval under way is stored, or lost, as a row. -/
def flushInterval (s : State) (vals : Tbl AcqVal) : State :=
  let a := s.acq
  if a.redN = 0 then s
  else
    let post := a.st == .posttrig
    let bs := if acqR s = 1 then rowBytes a.redTrig a.redViol a.redTick vals
      else reducedBytes a.redTrig a.redViol a.redTick a.red
    let s := acqEnter s post a.redTick bs
    updAcq s fun a => { a with
      red := [], redN := 0, redTrig := false, redViol := false
      postRows := if post then a.postRows + 1 else a.postRows }

/-- The capture ends with a cause (R340): a partial interval and an open gap are its last entries. -/
def acqEnd (s : State) (cause : Nat) : State :=
  let s := acqMarkers (flushInterval s [])
  odSetN (updAcq s fun a => { a with ending := true }) 0x7000 3 cause

/-- Whether rows are formed. -/
def capturing (s : State) : Bool := (s.acq.st == .pretrig || s.acq.st == .posttrig) && !s.acq.ending

/-- ACQ_ROW (R329, R335 to R344). -/
def acqRow (s : State) : State :=
  let n := s.tick.num
  if !(capturing s && s.acq.armed < n && s.acq.lastRow < n) then s
  else
    let vals : Tbl AcqVal := (List.range 16).filterMap fun p => (probeVal s p).map fun v => (p, v)
    let trues := (List.range 4).filter (comparatorTrue s vals)
    let manual := s.acq.manual
    let now := trues.foldl (fun m c => m + 2 ^ c) (if manual then 16 else 0)
    let hits := (List.range 5).filter fun c => now.testBit c && !s.acq.prevTrue.testBit c
    let trig := s.acq.st == .pretrig && combined s trues manual
    let viol := if odN s 0x7000 0x0A = 0 then []
      else vals.flatMap fun p => (violations s p.1 p.2).map fun x => (p.1, x)
    let s := noteViolations (hits.foldl logHit s) viol
    let s := if trig then odSetN (odSetN s 0x7001 6 n) 0x7001 7 (trues.headD 4) else s
    let prev := vals.foldl (fun t p => tset t p.1 (compareVal s p.1 p.2)) s.acq.prev
    let red := vals.foldl (fun t p => tset t p.1 (reduceVal s p.1 (tget t p.1) p.2)) s.acq.red
    let s := updAcq s fun a => { a with
      st := if trig then .posttrig else a.st
      atTrig := a.atTrig || (trig && (odN s 0x7000 7 == 1 || (odN s 0x7000 0x0A == 2 && !viol.isEmpty)))
      lastRow := n, manual := false, prev := prev, prevTrue := now, adc := 0, lines := []
      red := red, redTick := if a.redN = 0 then n else a.redTick, redN := a.redN + 1
      redTrig := a.redTrig || trig, redViol := a.redViol || !viol.isEmpty }
    let s := if s.acq.redN = acqR s then flushInterval s vals else s
    if odN s 0x7000 0x0A = 2 && !viol.isEmpty then acqEnd s 2
    else if s.acq.st = .posttrig && odN s 0x7000 7 ≤ s.acq.postRows then acqEnd s 1
    else s

/-- ACQ_ROW. -/
def execAcqRow (s : State) : Host.Outcome State Fault Refusal := outcome s (acqRow s)

/-! ### The buffer in QDR (R340, R344) -/

/-- The memory fails a capture: MEM off, or an uncorrectable error (R340). DONE follows at once (R380). -/
def acqMemLost (s : State) : State :=
  if s.acq.st = .pretrig || s.acq.st = .posttrig then
    setInt (odSetN (updAcq s fun a => { a with st := .done, ending := false, fifo := [], gaps := [] }) 0x7000 3 4) 15
  else s

/-- An entry that takes MEM ends a running capture with cause 4 (R434); what waits in its FIFO drains while MEM is on, and
DONE follows (R430, R451's example; DEDUCED, assumption 38). -/
def acqHalt (s : State) : State := if capturing s then acqEnd s 4 else s

/-- ACQ_QDR_WRITE (R344). -/
def acqQdrWrite (s : State) (bad : Bool) : State :=
  if !domOn s .mem then s
  else match s.acq.fifo with
  | [] => s
  | (a, bs) :: r =>
    if bad then acqMemLost s else qdrWrite (updAcq s fun x => { x with fifo := r }) a bs

/-- ACQ_QDR_WRITE. -/
def execAcqQdrWrite (bad : Bool) (s : State) : Host.Outcome State Fault Refusal := outcomeMem s (acqQdrWrite s bad)

/-- ACQ_DRAIN_COMPLETE (R340): the last entry of an ending capture has reached QDR; INT_STATUS bit 15 reports DONE (R380). -/
def acqDrained (s : State) : State :=
  if s.acq.ending && s.acq.fifo.isEmpty then setInt (updAcq s fun a => { a with st := .done, ending := false }) 15 else s

/-- ACQ_DRAIN_COMPLETE. -/
def execAcqDrainComplete (s : State) : Host.Outcome State Fault Refusal := outcome s (acqDrained s)

/-! ### Commands (R337, R340, R342) -/

/-- The buffer overlaps the frame store of an enabled camera. -/
def acqOverlap (s : State) : Bool :=
  hasCam s && [0, 1].any fun k =>
    let st := storeSpan s k
    odB s (0x6000 + k) 1 && odN s 0x7000 4 < st.1 + st.2 && st.1 < odN s 0x7000 4 + odN s 0x7000 5

/-- The reason that refuses an arm command, with its abort code (R342). -/
def armRefusal (s : State) : Option (Nat × Nat) :=
  if s.acq.st = .pretrig || s.acq.st = .posttrig then some (1, abState)
  else if (List.range 16).all fun p => probeKind s p == 0 then some (2, abRange)
  else if acqSlots s < acqPre s + odN s 0x7000 7 then some (3, abRange)
  else if odN s 0x7000 4 % 64 ≠ 0 || s.fuses.qdr < odN s 0x7000 4 + odN s 0x7000 5 then some (4, abRange)
  else if acqOverlap s then some (5, abRange)
  else if !domOn s .mem || s.fuses.qdr = 0 then some (6, abUnpowered)
  else none

/-- An accepted arm: the status is cleared, rows are formed from the next tick. -/
def acqStart (s : State) : State :=
  let s := odReset s 0x7001
  let s := odSetN (odSetN s 0x7001 1 (acqSlot s)) 0x7001 2 (acqSlots s)
  let s := odSetN (odSetN s 0x7000 3 0) 0x7000 0x0B 0
  { s with acq := { st := .pretrig, pre := acqPre s, armed := s.tick.num, lastRow := s.tick.num, manual := s.acq.manual, blocks := s.acq.blocks } }

/-- The write rule of 0x7000:01. -/
def acqHook (_ : State) : WriteHook where
  run s v :=
    match valN v with
    | 0 => .done (if capturing s then acqEnd s 3 else s)
    | 1 =>
      match armRefusal s with
      | some (r, c) => .abort c (odSetN s 0x7000 0x0B r)
      | none => .done (acqStart s)
    | _ => .done (updAcq s fun a => { a with manual := true })

/-- ACQ_ARM (R342). -/
def execAcqArm (r : Req) (s : State) : Host.Outcome State Fault Refusal :=
  outcome s (requestWrite s r 0x7000 1 [1] acqHook)

/-- ACQ_STOP (R340). -/
def execAcqStop (r : Req) (s : State) : Host.Outcome State Fault Refusal :=
  outcome s (requestWrite s r 0x7000 1 [0] acqHook)

/-- ACQ_MANUAL_TRIGGER (R337). -/
def execAcqManualTrigger (r : Req) (s : State) : Host.Outcome State Fault Refusal :=
  outcome s (requestWrite s r 0x7000 1 [2] acqHook)

/-- Rows wait for QDR: the implicit vote on MEM (R340). -/
def acqBusy (s : State) : Bool := !s.acq.fifo.isEmpty

/-! ### Objects (R330, R331, R346) -/

/-- The codes of a capture state. -/
def capCode : CapState → Nat
  | .idle => 0
  | .pretrig => 1
  | .posttrig => 2
  | .done => 3

/-- The trigger log's bytes (R339). -/
def logBytes (l : List (Nat × Nat)) : Bytes :=
  let b := l.flatMap fun x => leBytes 1 x.1 ++ zeros 7 ++ leBytes 8 x.2
  b ++ zeros (256 - b.length)

/-- The acquisition objects that are no plain settings. -/
def readAcq (s : State) (ix sub : Nat) : Option Val :=
  let a := s.acq
  match ix, sub with
  | 0x7000, 2 => some (.num (if a.atTrig && a.st == .posttrig then 1 else capCode a.st))
  | 0x7001, 3 => some (.num (if a.ring.length < a.pre || a.pre = 0 then 0 else a.ringN % a.pre : Nat))
  | 0x7001, 4 => some (.num a.ring.length)
  | 0x7001, 5 => some (.num a.postN)
  | 0x7001, 8 => some (.bytes (logBytes a.log))
  | 0x7001, 0x0E => some (.num (match a.ring.find? (·.1) with
      | some x => x.2
      | none => a.postFirst.getD 0 : Nat))
  | _, _ => none

/-- Selector A lies in the range that the probe's kind gives it (R329). -/
def selectorA (kind a : Nat) : Bool :=
  match kind with
  | 1 => a < 512
  | 2 => a < 512
  | 3 => a < 32
  | 4 => nodeOk a
  | 5 => a < 2
  | 6 => a < 16
  | 7 => a < 1024
  | _ => true

/-- Selector B lies in the range that the probe's kind gives it (R329). -/
def selectorB (kind b : Nat) : Bool :=
  match kind with
  | 1 => b % 32768 < 4096
  | 2 => b ≤ 2
  | 5 => b ≤ 2
  | 7 => 1 ≤ b && b ≤ 3
  | _ => true

/-- The bin range of a HIST probe ends with the last bin of its memory or before (R331). -/
def binsOk (kind b n : Nat) : Bool := kind != 1 || b % 4096 + n ≤ (if b.testBit 15 then 2048 else 2560)

/-- What a probe names is absent in the variant (R330). -/
def probeAbsent (s : State) (kind a : Nat) : Bool :=
  match kind with
  | 1 => nChan s ≤ a
  | 2 => nChan s ≤ a
  | 3 => !inputPresent s a 0
  | 5 => !hasCam s
  | 6 => nLane s ≤ a
  | _ => false

/-- The write rule of a probe's kind, selectors and bin count. A selector is held to the range of the kind in force, and
the bins to R331; the other settings do not refuse it (assumption 38). -/
def probeHook (p sub : Nat) (s : State) : WriteHook where
  range v :=
    let t := odSet s (0x7010 + p) sub v
    (sub != 2 || selectorA (probeKind t p) (valN v)) && (sub != 3 || selectorB (probeKind t p) (valN v)) &&
      binsOk (probeKind t p) (probeB t p) (odN t (0x7010 + p) 4)
  run s v :=
    let t := odSet s (0x7010 + p) sub v
    if sub ≤ 2 && probeAbsent s (probeKind t p) (probeA t p) then .abort abAbsent s
    else .done (updAcq t fun a => { a with blocks := tdel (tdel a.blocks p) (p + 16) })

/-- The write rules of the acquisition objects. -/
def hookAcq (ix sub : Nat) : Option (State → WriteHook) :=
  if ix = 0x7000 && sub = 1 then some acqHook
  else if 0x7010 ≤ ix && ix < 0x7020 then
    if 1 ≤ sub && sub ≤ 4 then some (probeHook (ix - 0x7010) sub)
    else if sub = 7 then some fun s => {
      range := fun v => (valBytes v).isEmpty || (valBytes v).length == 4 * odN s ix 4
      run := keep ix sub }
    else none
  else if 0x7020 ≤ ix && ix < 0x7024 then
    match sub with
    | 4 => some fun s => { range := fun v => optionOk (odN s ix 3) (valN v), run := keep ix sub }
    | _ => none
  else none

end Sys2Proof.Machine
end

