-- ==== Sys2Proof/Machine/Switch.lean ====
section
/-! DEFINITION. The ports and egress queues of the switch, and what the device's own stack sends through it (R411 to
R413). The header layouts of Ethernet, IPv4 and IGMP are those of their standards. -/

namespace Sys2Proof.Machine

/-- The network fields changed. -/
def updNet (s : State) (f : NetSt → NetSt) : State := { s with net := f s.net }

/-- A big-endian field. -/
def beField (b : Bytes) (o k : Nat) : Nat := beNat (slice b o k)

/-- The ones' complement sum of 16-bit words. -/
def onesSum : Bytes → Nat
  | [] => 0
  | [a] => a.toNat * 256
  | a :: b :: r => a.toNat * 256 + b.toNat + onesSum r

/-- The Internet checksum of bytes. -/
def inetSum (b : Bytes) : Nat :=
  let n := onesSum b
  let n := n % 65536 + n / 65536
  65535 - (n % 65536 + n / 65536)

/-- An IPv4 header with options, its checksum in place. -/
def ipHeader (len ttl proto src dst : Nat) (opts : Bytes) : Bytes :=
  let h (c : Nat) : Bytes := [BitVec.ofNat 8 (0x45 + opts.length / 4), 0] ++ beBytes 2 (20 + opts.length + len) ++ zeros 4 ++
    [BitVec.ofNat 8 ttl, BitVec.ofNat 8 proto] ++ beBytes 2 c ++ beBytes 4 src ++ beBytes 4 dst ++ opts
  h (inetSum (h 0))

/-- A multicast IPv4 address. -/
def isMulticast (ip : Nat) : Bool := 224 ≤ ip / 2 ^ 24 && ip / 2 ^ 24 < 240

/-- The multicast groups that the device has joined: that of the announcements, the speed group, and with source 2 the PTP
group (R416, R417, R423). -/
def joinedGroups (s : State) : List Nat :=
  ((if odN s 0xD011 1 = 0 || !isMulticast (odN s 0xD011 3) then [] else [odN s 0xD011 3]) ++
    (if odN s 0xD012 1 = 0 then [] else [odN s 0xD012 5]) ++ (if odN s 0xD031 1 = 2 then [0xE0000181] else [])).eraseDups

/-- The MAC address of a group. -/
def groupMac (g : Nat) : Nat := 0x01005E000000 + g % 2 ^ 23

/-- EtherType and the offset of what follows it, behind an IEEE 802.1Q tag if there is one. -/
def etherType (d : Bytes) : Nat × Nat :=
  if beField d 12 2 = 0x8100 then (beField d 16 2, 18) else (beField d 12 2, 14)

/-- The switch runs: from the start of the firmware on, in DOZE too (R438). -/
def switchOn (s : State) : Bool := s.boot.phase == .firmware && domUp s .core

/-- The firmware's network stack runs. -/
def netUp (s : State) : Bool := running s && s.pwr.state != .doze

/-- A process data telegram of TRDP, its topography counters 0 (R414). -/
def pdTelegram (seq comId : Nat) (d : Bytes) : Bytes :=
  let h := beBytes 4 seq ++ [1, 0, 0x50, 0x64] ++ beBytes 4 comId ++ zeros 8 ++ beBytes 4 d.length ++ zeros 12
  h ++ leBytes 4 (crc32 h).toNat ++ d

/-- The link of a port. -/
def netLink (s : State) (p : Nat) : Nat := if p = 1 then s.net.link1 else s.net.link2

/-- A port carries frames: port 0 always, 1 and 2 enabled and up. -/
def portUp (s : State) (p : Nat) : Bool := p == 0 || ((odN s 0xD000 1).testBit (p - 1) && netLink s p != 0)

/-- Destinations 01-80-C2-00-00-00 to -0F. -/
def linkLocal (dst : Nat) : Bool := 0x0180C2000000 ≤ dst && dst ≤ 0x0180C200000F

/-- A group address. -/
def isGroup (dst : Nat) : Bool := (dst / 2 ^ 40).testBit 0

/-- A frame that a blocked port 2 passes (R412). -/
def ringExempt (d : Bytes) : Bool := linkLocal (beField d 0 6) || ((etherType d).1 == 0x88B5 && isGroup (beField d 0 6))

/-- Port 2 is blocked for a frame: the ring is CLOSED here. -/
def ringBlocks (s : State) (p : Nat) (d : Bytes) : Bool := s.net.ring == 1 && p == 2 && !ringExempt d

/-- The ports that a frame goes to. -/
def egress (s : State) (p : Nat) (d : Bytes) : List Nat :=
  let dst := beField d 0 6
  let others := [0, 1, 2].filter (· != p)
  let l :=
    if linkLocal dst then (if p = 0 then others else [0])
    else if dst = s.fuses.mac.toNat then (if p = 0 then [] else [0])
    else if dst = 0xFFFFFFFFFFFF then others
    else if isGroup dst then others.filter fun q => q != 0 || ((joinedGroups s).map groupMac).contains dst ||
      dst = 0x01005E000001
    else match s.net.addrs.find? fun a => a.mac.toNat == dst with
      | some a => if a.port = p then [] else [a.port]
      | none => others
  l.filter fun q => portUp s q && !ringBlocks s q d

/-- The queue of a frame by its PCP (R411): 0–1, 2–3, 4–5, 6–7; an untagged frame has PCP 0. -/
def queueOf (d : Bytes) : Nat := if beField d 12 2 = 0x8100 then fieldN d 14 1 / 64 else 0

/-- The bytes that a line carries in a tick, by the code of its speed. -/
def lineBytes (link : Nat) : Int := if link = 1 then 16 else if link = 2 then 160 else if link = 3 then 1600 else 0

/-- The bytes that a port's line still carries in this tick. -/
def lineRoom (s : State) (q : Nat) : Int := (tget s.net.room q).getD (lineBytes (netLink s q))

/-- An egress queue. -/
def egressQueue (s : State) (q k : Nat) : List (Bytes × Bool) := tgetD s.net.queues (4 * q + k) []

/-- A frame goes out on the line of a port: its bytes, FCS, preamble and gap. -/
def lineSend (s : State) (q : Nat) (d : Bytes) (bad : Bool) : State :=
  send (updNet s fun n => { n with room := tset n.room q (lineRoom s q - (d.length + 24 : Nat)) })
    (if bad then .badFrame q d else .frame q d)

/-- A frame leaves a port at once where its line is free, or waits in its queue (R411; assumption 84); a port without a
link sends nothing. -/
def portSend (s : State) (q : Nat) (d : Bytes) (bad : Bool) : State :=
  if !portUp s q then s
  else if 0 < lineRoom s q && [0, 1, 2, 3].all fun k => (egressQueue s q k).isEmpty then lineSend s q d bad
  else
    let i := 4 * q + queueOf d
    updNet s fun n => { n with queues := tset n.queues i (tgetD n.queues i [] ++ [(d, bad)]) }

/-- The waiting frames of a port leave in strict priority while its line has room. -/
def portDrain (q : Nat) : Nat → State → State
  | 0, s => s
  | f + 1, s =>
    match [3, 2, 1, 0].find? fun k => !(egressQueue s q k).isEmpty with
    | none => s
    | some k =>
      match egressQueue s q k with
      | [] => s
      | x :: rest =>
        if 0 < lineRoom s q then
          portDrain q f (lineSend (updNet s fun n => { n with queues := tset n.queues (4 * q + k) rest }) q x.1 x.2)
        else s

/-- The lines at t+0: a tick's bytes more, and the frames that wait. -/
def netTick (s : State) : State :=
  [1, 2].foldl (fun s q =>
    let room := lineRoom s q + lineBytes (netLink s q)
    let s := updNet s fun n => { n with
      room := if lineBytes (netLink s q) ≤ room then tdel n.room q else tset n.room q room }
    portDrain q (((List.range 4).map fun k => (egressQueue s q k).length).sum) s) s

/-- The frames of the device's own stack pass the switch. -/
def stackSend (s : State) (d : Bytes) : State := (egress s 0 d).foldl (fun s q => if q = 0 then s else portSend s q d false) s

/-- An IGMPv2 membership report of a group (R413). -/
def groupReport (s : State) (g : Nat) : Bytes :=
  let p (c : Nat) : Bytes := [0x16, 0] ++ beBytes 2 c ++ beBytes 4 g
  beBytes 6 (groupMac g) ++ beBytes 6 s.fuses.mac.toNat ++ [8, 0] ++
    ipHeader 8 1 2 (odN s 0xD001 1) g [0x94, 4, 0, 0] ++ p (inetSum (p 0))

/-- The reports of every group that the device has joined (R413). -/
def allReports (s : State) : State := (joinedGroups s).foldl (fun s g => stackSend s (groupReport s g)) s

/-- The reports of the groups that a write has joined (R413). -/
def joinReports (s s' : State) : State :=
  if !switchOn s' then s'
  else ((joinedGroups s').filter fun g => !(joinedGroups s).contains g).foldl (fun t g => stackSend t (groupReport s' g)) s'

/-- The objects that say which groups are joined. -/
def joinObject (ix sub : Nat) : Bool :=
  (ix == 0xD011 && (sub == 1 || sub == 3)) || (ix == 0xD012 && (sub == 1 || sub == 5)) || (ix == 0xD031 && sub == 1)

/-- A write rule of such an object, with the reports of the groups joined. -/
def joinHook (h : State → WriteHook) (s : State) : WriteHook :=
  { h s with run := fun s v =>
      match (h s).run s v with
      | .done s' => .done (joinReports s s')
      | x => x }

end Sys2Proof.Machine
end

