-- ==== Sys2Proof/Machine/DeviceTime.lean ====
section
/-! DEFINITION. Device time (R418 to R424): the counter C, the pair of tick and time, the synchronisation states, and the
measurements of the three sources. -/

namespace Sys2Proof.Machine

/-- The state with the device time changed. -/
def updTime (s : State) (f : TimeSt → TimeSt) : State := { s with time := f s.time }

/-- T_dev of this tick (R419): C at t+0, for a follower in LOCKED less the residual err. -/
def tickTime (s : State) : Nat :=
  if odN s 0x2000 1 = 2 && s.tick.sync = .locked then
    (fdiv ((s.time.c : Int) * 1000 - uiPs (meanErr s.lane.follow) * 2 ^ 32) (1000 * 2 ^ 32) % (2 ^ 60 : Nat)).toNat
  else devTime s

/-- C at t+0 of the next tick (R418, R421): the REF cycles of the tick that ended, and a step that waits. -/
def timeTick (s : State) : State :=
  let t := s.time
  let c := t.c + timeRun t ((2000 + s.tick.stretched) * 64)
  let s := match t.step with
    | some _ => odSetN (bump s 0xD031 4) 0xD031 5 s.tick.num
    | none => s
  let c := (((c : Int) + t.step.getD 0 * 2 ^ 32) % (timeSpan : Nat)).toNat
  let s := updTime s fun t => { t with c := c, step := none, part := 0, adv := 0 }
  let s := { s with tick := { s.tick with stretched := 0 } }
  updTime s fun t => { t with tickOf := s.tick.num, tDev := tickTime s }

/-! ### The synchronisation states (R420, R421) -/

/-- The state that a measurement leads to, with the counts of consecutive ones. -/
def timeState (t : TimeSt) (o : Int) : TimeSt :=
  let near := if iabs o < 1000 then t.near + 1 else 0
  let far := if 10000 ≤ iabs o then t.far + 1 else 0
  match t.state with
  | .unsync => { t with state := .acquiring, near := 0, far := 0 }
  | .acquiring => if 8 ≤ near then { t with state := .locked, everLocked := true, near := 0, far := 0 }
      else { t with near := near, far := 0 }
  | .locked => if 4 ≤ far then { t with state := .acquiring, near := 0, far := 0 } else { t with near := 0, far := far }
  | .holdover => { t with state := .acquiring, near := 0, far := 0 }

/-- The rate correction that the servo of R421 takes: the manual states its bandwidth and its limit, not its gains. -/
def servoRate (n : Nat) : Int := ((Config.freeNat n % 1000001 : Nat) : Int) - 500000

/-- A valid measurement of the offset, in ns, at a REF cycle of the tick. Before the first step C is stepped either way
(assumption 87); an offset that is at least the limit behind holds ρ at −500 ppm until the offset is below the limit. -/
def measure (s : State) (o : Int) (cycle : Nat) : State :=
  let t := s.time
  let lim : Int := 1000 * odN s 0xD031 2
  let u : TimeSt := { timeState t o with lastMeas := s.tick.num, lastOffset := o }
  if !t.stepped then updTime s fun _ => { u with step := some o, stepped := true }
  else if lim ≤ o then updTime s fun _ => { u with step := some o }
  else if o ≤ -lim then updTime s fun _ => { setRate u cycle (-500000) with backward := true }
  else { s with time := { setRate u cycle (servoRate s.free) with backward := false }, free := s.free + 1 }

/-- TIME_HOLDOVER (R420): no valid measurement for 3 s. -/
def timeHoldover (s : State) : State :=
  if (s.time.state = .acquiring || s.time.state = .locked) && msTicks 3000 ≤ since s s.time.lastMeas then
    updTime s fun t => { t with state := .holdover, near := 0, far := 0 }
  else s

/-- TIME_HOLDOVER. -/
def execTimeHoldover (s : State) : Host.Outcome State Fault Refusal := outcome s (timeHoldover s)

/-- A write of the time source (R420): C is kept. -/
def timeSourceHook (_ : State) : WriteHook where
  run s v :=
    let old := odN s 0xD031 1
    let s := odSet s 0xD031 1 v
    if valN v = old then .done s
    else
      let st : TimeState :=
        if valN v = 0 then (if s.time.everLocked then .holdover else .unsync) else .acquiring
      .done (updTime s fun t => { t with
        state := st, near := 0, far := 0, lastMeas := s.tick.num, delayReq := none, masters := [], pdelays := [], ptp := {} })

/-! ### The sources (R422 to R424) -/

/-- The PTP time of the epoch of R418, in ns. -/
def ptpEpoch : Int := 1577836800000000000

/-- What a source reports beside its time: the grandmaster, and a valid UTC offset. -/
def sourceReport (s : State) (gm : BitVec 64) (utc : Option (BitVec 16)) : State :=
  let s := odSet s 0xD032 2 (.bytes (beBytes 8 gm.toNat))
  match utc with
  | some u => odSetI s 0xD031 3 u.toInt
  | none => s

/-- The clock identity of the device: its MAC address with FFFE inside, as IEEE 802.1AS forms it. -/
def clockIdentity (s : State) : Bytes :=
  let m := beBytes 6 s.fuses.mac.toNat
  m.take 3 ++ [0xFF, 0xFE] ++ m.drop 3

/-- The ticks of a number of intervals, of which the logarithm to base 2 in seconds is given. -/
def logTicks (n : Nat) (log : Int) : Nat := if 0 ≤ log then n * 78125 * 2 ^ log.toNat else n * 78125 / 2 ^ (-log).toNat

/-- The path trace of an Announce: the clock identities behind its TLV header. -/
def pathTrace (b : Bytes) : List Bytes :=
  if slice b 64 2 = [0, 8] then (List.range (beNat (slice b 66 2) / 8)).map fun i => slice b (68 + 8 * i) 8 else []

/-- An Announce of either standard that counts: at most 254 steps away, and not from the device itself. -/
def announceOk (s : State) (b : Bytes) : Bool :=
  64 ≤ b.length && fieldN b 1 1 % 16 == 2 && beNat (slice b 61 2) < 255 && slice b 20 8 != clockIdentity s

/-- An Announce of gPTP domain 0 (R422), of a grandmaster-capable system and not by way of the device. -/
def gptpOk (s : State) (b : Bytes) : Bool :=
  announceOk s b && fieldN b 0 1 == 0x1B && fieldN b 4 1 == 0 && fieldN b 47 1 < 255 &&
    !(pathTrace b).contains (clockIdentity s)

/-- The priority vector of an Announce at a port: system identity, steps removed, source port identity, the port. -/
def priorityVector (b : Bytes) (p : Nat) : Nat := beNat (slice b 47 14 ++ slice b 61 2 ++ slice b 20 10 ++ [0, BitVec.ofNat 8 p])

/-- The Announces, on ports that are up, that have not aged out and whose Sync has not timed out. -/
def mastersNow (s : State) : Tbl Master := s.time.masters.filter fun m =>
  portUp s m.1 && s.tick.num < m.2.until_ && m.2.syncBy.all fun t => s.tick.num < t

/-- The slave port that the best master clock algorithm selects, 0 for none: the port with the best Announce. The device
itself is never grandmaster (R422). -/
def slavePort (s : State) : Nat :=
  ((mastersNow s).foldl (fun (r : Option (Nat × Master)) m =>
    match r with
    | some x => if m.2.vector < x.2.vector then some m else r
    | none => some m) none).elim 0 (·.1)

/-- What the selected master reports (R418, R425). -/
def reportMaster (s : State) : State :=
  let p := slavePort s
  match tget (mastersNow s) p with
  | some m => odSetN (sourceReport s m.gm m.utc) 0xD032 5 p
  | none => odSetN s 0xD032 5 0

/-- The port identity of an Announce's sender, as a number. -/
def masterPort (m : Master) : Nat := m.vector / 2 ^ 16 % 2 ^ 80

/-- An Announce at a port: the port's master is the sender's latest word, or a better sender's. It ages out after three of its
intervals, as IEEE 802.1AS and IEEE 1588 have it. -/
def hearAnnounce (s : State) (p : Nat) (b : Bytes) : State :=
  let m : Master := {
    vector := priorityVector b p, gm := BitVec.ofNat 64 (beNat (slice b 53 8))
    utc := if (fieldN b 7 1).testBit 2 then some (BitVec.ofNat 16 (beNat (slice b 44 2))) else none
    until_ := s.tick.num + logTicks 3 (toSigned 8 (fieldN b 33 1)) }
  let now := mastersNow s
  let new := match tget now p with
    | some x => if masterPort x == masterPort m then tset now p { m with syncBy := x.syncBy }
      else if x.vector < m.vector then now else tset now p m
    | none => tset now p m
  reportMaster (updTime s fun t => { t with masters := new })

/-- An Announce at port 1 or 2 (R422). -/
def gptpAnnounce (s : State) (p : Nat) (b : Bytes) : State :=
  if !switchOn s || odN s 0xD031 1 ≠ 1 || p = 0 || !gptpOk s b then s else hearAnnounce s p b

/-- GPTP_SYNC (R422): a Sync at the slave port is one measurement, and is relayed to the other port if that is up; in DOZE too
(R438). The master's Sync times out after three of its intervals (IEEE 802.1AS). -/
def gptpSync (s : State) (m : SyncMeas) : State :=
  let p := m.port.val
  if !switchOn s || odN s 0xD031 1 ≠ 1 || p = 0 || slavePort s ≠ p || m.interval < -3 || 0 < m.interval then s
  else
    let d := odN s 0xD032 (2 + p)
    let o := (m.origin : Int) - ptpEpoch + m.corr + d - timeAt s m.cycle
    let ratio := m.rate + tgetD s.time.ratios p 0
    let stay := (m.stay : Int) + roundDiv ((m.stay : Int) * ratio) 1000000000
    let s := updTime (measure s o m.cycle) fun t => { t with
      masters := t.masters.map fun x =>
        if x.1 = p then (p, { x.2 with syncBy := some (s.tick.num + logTicks 3 m.interval) }) else x }
    if portUp s (3 - p) then send s (.syncRelay (3 - p) m.origin (m.corr + d + stay) ratio m.interval) else s

/-- GPTP_SYNC. -/
def execGptpSync (m : SyncMeas) (s : State) : Host.Outcome State Fault Refusal := outcome s (gptpSync s m)

/-- The Pdelay_Req of a port is due: 1 s after the one before (R422). -/
def pdelayDue (s : State) (p : Nat) : Bool :=
  portUp s p && (tget s.time.pdelays p).all fun x => 78125 ≤ since s x.1

/-- With source 1 each port measures its neighbour at 1 s intervals, and what the selected master reports is held (R422). -/
def gptpTick (s : State) : State :=
  if !switchOn s || odN s 0xD031 1 ≠ 1 then s
  else reportMaster ([1, 2].foldl (fun s p =>
    if pdelayDue s p then
      send (updTime s fun t => { t with pdelays := tset t.pdelays p (s.tick.num, true) }) (.pdelayReq p)
    else s) s)

/-- NEIGHBOUR_DELAY_MEASUREMENT (R422): the open exchange of a port: half the own turnaround, at the neighbour's rate, less
the neighbour's; and the neighbour's rate. -/
def neighbourDelay (s : State) (m : DelayMeas) : State :=
  let p := m.port.val
  match tget s.time.pdelays p with
  | some (t, true) =>
    if !switchOn s || odN s 0xD031 1 ≠ 1 || p = 0 then s
    else
      let d := roundDiv ((m.turn : Int) * (1000000000 + m.rate) - (m.resp : Int) * 1000000000) 2000000000
      odSetN (updTime s fun u => { u with pdelays := tset u.pdelays p (t, false), ratios := tset u.ratios p m.rate })
        0xD032 (2 + p) (satN 32 d.toNat)
  | _ => s

/-- NEIGHBOUR_DELAY_MEASUREMENT. -/
def execNeighbourDelayMeasurement (m : DelayMeas) (s : State) : Host.Outcome State Fault Refusal :=
  outcome s (neighbourDelay s m)

/-- The next Delay_Req is due: the interval that the master asks for has passed since the one before (R423). -/
def delayReqDue (s : State) : Bool := s.time.ptp.delayTick.all fun t => logTicks 1 s.time.ptp.delayLog ≤ since s t

/-- DELAY_REQ_SEND (R423): a Delay_Req that is due leaves at a REF cycle of the tick, and its time is kept. -/
def delayReqSend (s : State) (cycle : Nat) : State :=
  if running s && odN s 0xD031 1 = 2 && delayReqDue s then
    send (updTime s fun t => { t with
      delayReq := some (timeAt s cycle)
      ptp := { t.ptp with delayTick := some s.tick.num, delaySeq := (t.ptp.delaySeq + 1) % 2 ^ 16 } }) .delayReq
  else s

/-- DELAY_REQ_SEND. -/
def execDelayReqSend (cycle : Nat) (s : State) : Host.Outcome State Fault Refusal := outcome s (delayReqSend s cycle)

/-- DELAY_EXCHANGE (R423): one measurement, the mean of both directions. -/
def delayExchange (s : State) (m : DelayExch) : State :=
  match s.time.delayReq with
  | none => s
  | some t3 =>
    if !running s || odN s 0xD031 1 ≠ 2 then s
    else
      let s := updTime (sourceReport s m.gm m.utc) fun t => { t with delayReq := none }
      let a := (m.t1 : Int) - ptpEpoch + m.corr1 - m.t2
      let b := (m.t4 : Int) - ptpEpoch - m.corr4 - t3
      measure s (roundDiv (a + b) 2) m.cycle

/-- DELAY_EXCHANGE. -/
def execDelayExchange (m : DelayExch) (s : State) : Host.Outcome State Fault Refusal := outcome s (delayExchange s m)

/-- The timestamp of a PTP message, in ns, and its correction, in ns rounded down. -/
def ptpStamp (b : Bytes) : Nat := beNat (slice b 34 6) * 1000000000 + beNat (slice b 40 4)

/-- The correctionField of a PTP message, in ns rounded down. -/
def ptpCorr (b : Bytes) : Int := fdiv (toSigned 64 (beNat (slice b 8 8))) 65536

/-- A Sync or Follow_Up of the master: with both, or a one-step Sync, its origin time is known. The REF cycle of its arrival in
the tick is a free value (assumption 93). -/
def ptpSync (s : State) (b : Bytes) : State :=
  let n := beNat (slice b 30 2)
  if fieldN b 0 1 = 0 then
    let q : PtpSt := { s.time.ptp with
      syncSeq := some n, syncCorr := ptpCorr b, arrival := timeAt s (Config.freeNat s.free % 2000)
      origin := if (fieldN b 6 1).testBit 1 then none else some (ptpStamp b) }
    { updTime s fun t => { t with ptp := q } with free := s.free + 1 }
  else if s.time.ptp.syncSeq = some n && s.time.ptp.origin.isNone then
    updTime s fun t => { t with ptp := { t.ptp with syncCorr := t.ptp.syncCorr + ptpCorr b, origin := some (ptpStamp b) } }
  else s

/-- A Delay_Resp of the master to the latest Delay_Req: the interval it asks for, and the exchange completes. -/
def ptpDelayResp (s : State) (b : Bytes) (m : Master) : State :=
  let q := s.time.ptp
  if beNat (slice b 30 2) ≠ q.delaySeq || slice b 44 10 ≠ clockIdentity s ++ [0, 1] then s
  else
    let s := updTime s fun t => { t with ptp := { q with delayLog := toSigned 8 (fieldN b 33 1) } }
    match q.origin with
    | some t1 => delayExchange { s with free := s.free + 1 } { t1, corr1 := q.syncCorr, t2 := q.arrival, t4 := ptpStamp b
                                                               corr4 := ptpCorr b, cycle := Config.freeNat s.free % 2000
                                                               gm := m.gm, utc := m.utc }
    | none => s

/-- A PTP message of the domain 0xD032:01 at port 0 (R423): the best Announce gives the master, whose messages are taken. The
layouts are those of IEEE 1588. -/
def ptpReceive (s : State) (b : Bytes) : State :=
  if !running s || odN s 0xD031 1 ≠ 2 || b.length < 44 || fieldN b 1 1 % 16 ≠ 2 || fieldN b 4 1 ≠ odN s 0xD032 1 then s
  else if fieldN b 0 1 = 0x0B then (if announceOk s b then hearAnnounce s 0 b else s)
  else match (tget (mastersNow s) 0).filter fun m => masterPort m == beNat (slice b 20 10) with
    | none => s
    | some m =>
      match fieldN b 0 1 with
      | 0 => ptpSync s b
      | 8 => ptpSync s b
      | 9 => ptpDelayResp s b m
      | _ => s

/-- At a REF cycle of the tick 100 ms have passed since t+0 of an earlier tick. -/
def ppsSettled (s : State) (t cycle : Nat) : Bool := 15625000 ≤ since s t * 2000 + cycle

/-- The second of an edge at a device time and a REF cycle (R424), and whether it comes from a write. -/
def ppsSecond (s : State) (c cycle : Nat) : Nat × Bool :=
  match s.time.ppsWritten with
  | some (n, t) => if ppsSettled s t cycle then (n, true) else match s.time.ppsNext with
      | some m => (m, true)
      | none => (roundDivN c 1000000000, false)
  | none => match s.time.ppsNext with
      | some m => (m, true)
      | none => (roundDivN c 1000000000, false)

/-- PPS_EDGE (R424): an edge at a REF cycle of the tick. -/
def ppsEdge (s : State) (cycle : Nat) : State :=
  if !running s || odN s 0xD031 1 ≠ 3 then s
  else
    let c := timeAt s cycle
    let n := ppsSecond s c cycle
    let o := (n.1 : Int) * 1000000000 - c
    if s.time.state = .locked && 1000000 < iabs o then bump s 0xD033 2
    else
      let s := updTime s fun t => { t with
        ppsWritten := match t.ppsWritten with
          | some (m, u) => if ppsSettled s u cycle then none else some (m, u)
          | none => none
        ppsNext := if n.2 then some (n.1 + 1) else t.ppsNext }
      measure (if n.2 then odSetN s 0xD033 1 (n.1 + 1) else s) o cycle

/-- PPS_EDGE. -/
def execPpsEdge (c : Nat) (s : State) : Host.Outcome State Fault Refusal := outcome s (ppsEdge s c)

/-- A write of the next second (R424). -/
def ppsHook (_ : State) : WriteHook where
  run s v :=
    .done (updTime (odSetN (odSet s 0xD033 1 v) 0xD033 3 0) fun t => { t with ppsWritten := some (valN v, s.tick.num) })

/-! ### Objects (R425) -/

/-- The code of a time state. -/
def timeCode : TimeState → Nat
  | .unsync => 0
  | .acquiring => 1
  | .locked => 2
  | .holdover => 3

/-- The time objects that are no plain settings; the REF cycle of a read of the device time is a free value (assumption 93). -/
def readTime (s : State) (ix sub : Nat) : Option Val :=
  let t := s.time
  match ix, sub with
  | 0xD030, 1 => some (.num (timeAt s (Config.freeNat s.free % 2000)))
  | 0xD030, 2 => some (.bytes (leBytes 8 t.tickOf ++ leBytes 8 t.tDev))
  | 0xD030, 3 => some (.num (timeCode t.state))
  | 0xD030, 4 => some (.num (clampI (-2147483648) 2147483647 t.lastOffset))
  | 0xD030, 5 => some (.num t.rho)
  | 0xD031, 6 => some (.num (b2n t.backward))
  | _, _ => none

/-- The write rules of the time objects. -/
def hookTime (ix sub : Nat) : Option (State → WriteHook) :=
  match ix, sub with
  | 0xD031, 1 => some timeSourceHook
  | 0xD033, 1 => some ppsHook
  | _, _ => none

end Sys2Proof.Machine
end

