-- ==== Sys2Proof/Machine/Island.lean ====
section
/-! DEFINITION. The safety island (R301 to R320, R327, R328): its states, the selector and the stored configurations,
protective zones, coverage, causes and the safe state, outputs and inputs, restart and reset, the fault manager. -/

namespace Sys2Proof.Machine

/-- The state with the island changed. -/
def updIsl (s : State) (f : IslSt → IslSt) : State := { s with isl := f s.isl }

/-- The island is present and its domain is on. -/
def islOn (s : State) : Bool := hasSafe s && domOn s .safe

/-! ### Zones and layers (R307) -/

/-- A layer of a zone: its channel mask and its vertices, azimuth in 0.001° and range in 0.25 mm. -/
structure Layer where
  mask : BitVec 512
  pts  : List (Int × Int)
  deriving DecidableEq, Repr

/-- The layers that a DOMAIN spells, at most `f`; `none` where its lengths do not fit. -/
def decodeLayers : Nat → Bytes → Option (List Layer)
  | 0, b => if b.isEmpty then some [] else none
  | f + 1, b =>
    if b.isEmpty then some []
    else
      let n := fieldN b 0 1
      if n < 3 || 16 < n || b.length < 68 + 8 * n || fieldN b 1 3 ≠ 0 then none
      else
        let l : Layer := {
          mask := BitVec.ofNat 512 (fieldN b 4 64)
          pts := (List.range n).map fun i => (fieldI b (68 + 8 * i) 4, 4 * (fieldN b (72 + 8 * i) 4 : Int)) }
        (decodeLayers f (b.drop (68 + 8 * n))).map (l :: ·)

/-- The layers of a zone. -/
def zoneLayers (s : State) (z : Nat) : List Layer := (decodeLayers 4 (odBytes s (0x8200 + z) 6)).getD []

/-- The sense of three points: 1, −1, or 0 on one line. -/
def turn (a b c : Int × Int) : Int := Int.sign ((b.1 - a.1) * (c.2 - a.2) - (b.2 - a.2) * (c.1 - a.1))

/-- A point lies on the segment of two others. -/
def onSegment (a b p : Int × Int) : Bool :=
  turn a b p == 0 && decide (min a.1 b.1 ≤ p.1) && decide (p.1 ≤ max a.1 b.1) && decide (min a.2 b.2 ≤ p.2) &&
    decide (p.2 ≤ max a.2 b.2)

/-- Two edges share a point. -/
def edgesMeet (a b c d : Int × Int) : Bool :=
  (decide (turn a b c * turn a b d < 0) && decide (turn c d a * turn c d b < 0)) || onSegment a b c || onSegment a b d ||
    onSegment c d a || onSegment c d b

/-- The edges of a polygon. -/
def polyEdges (p : List (Int × Int)) : List ((Int × Int) × (Int × Int)) := p.zip (p.drop 1 ++ p.take 1)

/-- No two edges that are not neighbours meet. -/
def polySimple (p : List (Int × Int)) : Bool :=
  let e := (polyEdges p).zipIdx
  let n := p.length
  e.all fun x => e.all fun y =>
    !(x.2 + 1 < y.2 && !(x.2 == 0 && y.2 + 1 == n)) || !edgesMeet x.1.1 x.1.2 y.1.1 y.1.2

/-- A point lies in a polygon by the even–odd rule; a point on an edge counts as inside. -/
def polyInside (p : List (Int × Int)) (q : Int × Int) : Bool :=
  let e := polyEdges p
  (e.any fun x => onSegment x.1 x.2 q) ||
    e.foldl (fun r x =>
      let a := x.1
      let b := x.2
      if decide (q.2 < a.2) != decide (q.2 < b.2) then
        let d := (b.1 - a.1) * (q.2 - a.2) - (q.1 - a.1) * (b.2 - a.2)
        if decide (0 < d) == decide (a.2 < b.2) then !r else r
      else r) false

/-- A layer DOMAIN is accepted (R307, R328). -/
def layersOk (s : State) (b : Bytes) : Bool :=
  match decodeLayers 4 b with
  | none => false
  | some l => l.all fun y => polySimple y.pts && y.mask.toNat < 2 ^ nChan s

/-! ### The island's checks after every event (R303, R313, R316) -/

/-- The zones that are enabled. -/
def zonesOn (s : State) : List Nat := (List.range 16).filter fun z => (odN s (0x8200 + z) 1).testBit 0

/-- The zones whose violation raises ZONE. -/
def zoneProtective (s : State) (z : Nat) : Bool := (odN s (0x8200 + z) 1).testBit 1

/-- A zone's evaluation. -/
def getZone (s : State) (z : Nat) : ZoneSt := tgetD s.isl.zones z {}

/-- The state with a zone's evaluation. -/
def setZone (s : State) (z : Nat) (x : ZoneSt) : State := updIsl s fun i => { i with zones := tset i.zones z x }

/-- The number of coverage cells of a zone (R311). -/
def cellCount (s : State) (z : Nat) : Nat :=
  ceilDiv (odI s (0x8200 + z) 8 - odI s (0x8200 + z) 7).toNat (odN s (0x8200 + z) 9)

/-- Every cell of every zone has been covered since activation. -/
def allCovered (s : State) : Bool :=
  (zonesOn s).all fun z => (List.range (cellCount s z)).all fun i => (tgetD (getZone s z).cells i {}).covered

/-- The causes other than RESTART_WAIT that are active or latched. -/
def otherCauses (s : State) : BitVec 17 := (s.isl.active ||| s.isl.latched) &&& 0x0FFFF#17

/-- A cause bit set or cleared without further reaction. -/
def causeBit (s : State) (b : Nat) (v : Bool) : State :=
  updIsl s fun i => { i with active := if v then i.active ||| (1#17 <<< b) else i.active &&& ~~~ (1#17 <<< b) }

/-- A cause follows its condition. -/
def causeSet (s : State) (b : Nat) (v : Bool) : State :=
  if v then islRaise s b else if s.isl.active.getLsbD b then islClear s b else s

/-- The island enters OPERATE: both outputs on, no test pulse yet (R303, R315). -/
def islOperate (s : State) : State :=
  let s := islEnter (islOutputs (causeBit s 16 false) true) .operate
  updIsl s fun i => { i with
    outA := { i.outA with pulsed := none, inPulse := false }, outB := { i.outB with pulsed := none, inPulse := false } }

/-- Every fault of the groups that have escalated has recovered (R313, R327): no recovery of theirs runs or waits, and none
of their causes is active. -/
def escOver (s : State) : Bool :=
  s.fm.esc.all fun g => s.fm.running != some g && !s.fm.queue.contains g &&
    (List.range 17).all fun b => !(s.isl.active.getLsbD b && islGroup b == some g)

/-- What follows from the causes (R303, R316): RESTART_WAIT, and in AUTO the step to OPERATE; SERVO clears with the emission
cause, ESCALATION with the recovery of the faults. -/
def islCheck (s : State) : State :=
  let s := if s.isl.active.getLsbD 6 && !(s.emit.active ||| s.emit.latched).getLsbD 4 then islClear s 6 else s
  let s := if s.isl.active.getLsbD 11 && escOver s then islClear s 11 else s
  if s.isl.st = .safe then
    if otherCauses s ≠ 0 then causeBit s 16 false
    else if odN s 0x8310 3 = 1 then causeBit s 16 true
    else if allCovered s then islOperate s
    else s
  else causeBit s 16 false

/-- A restart event (R316): it counts while RESTART_WAIT is set. -/
def islRestart (s : State) : State :=
  if s.isl.st = .safe && s.isl.active.getLsbD 16 && allCovered s then islOperate s else s

/-- The rails have been in their windows for 10 ms. -/
def railsGood (s : State) : Bool := (s.isl.railsFrom.map fun t => decide (msTicks 10 ≤ since s t)).getD true

/-- Whether a reset clears a latched cause of its own condition now (R313). -/
def resetOne (s : State) (b : Nat) : Bool :=
  !s.isl.active.getLsbD b &&
    match b with
    | 4 => 64 ≤ s.isl.outA.good && 64 ≤ s.isl.outB.good
    | 6 => !(s.emit.active ||| s.emit.latched).getLsbD 4
    | 7 => 2 ≤ s.isl.goodTicks
    | 8 => railsGood s
    | 9 => s.isl.restarted
    | _ => b = 2 || b = 5 || b = 10

/-- Whether a reset clears a latched cause now: ESCALATION after every fault of its groups has recovered, so that the same
reset clears their latched causes. -/
def resettable (s : State) (b : Nat) : Bool :=
  if b = 11 then
    !s.isl.active.getLsbD 11 && s.fm.esc.all fun g =>
      (List.range 17).all fun c => !(s.isl.latched.getLsbD c && islGroup c == some g) || resetOne s c
  else resetOne s b

/-- A reset event (R317): the latched causes whose condition is met are cleared; where RESTART_WAIT was set it restarts. -/
def islReset (s : State) : State :=
  let wait := s.isl.active.getLsbD 16
  let m := (List.range 12).foldl (fun m b => if resettable s b then m ||| (1#17 <<< b) else m) (0#17)
  let s := islInhibit (updIsl s fun i => { i with latched := i.latched &&& ~~~ m })
  let s := if s.isl.latched.getLsbD 11 then s else { s with fm := { s.fm with esc := [] } }
  islCheck (if wait then islRestart s else s)

/-! ### The selector and the configurations (R304 to R306) -/

/-- A sample of the seal switches is valid (R305). -/
def sealValid (a b : BitVec 8) : Bool := b == ~~~ a

/-- A change of the selector: SELECTOR and LOCKOUT; with the island off only its latch in AON is set. -/
def selectorChange (s : State) : State :=
  if islOn s then islCause s 12 else updIsl s fun i => { i with lockout := i.lockout ||| (1#17 <<< 12) }

/-- SEAL_SAMPLE (R305). -/
def sealSample (s : State) (a b : BitVec 8) : State :=
  if !hasSafe s then s
  else
    let w := b ++ a
    let i := s.isl
    match i.code with
    | none =>
      let run := if !sealValid a b then 0 else if i.sealRun ≠ 0 && w = i.sample then i.sealRun + 1 else 1
      updIsl s fun i => { i with
        sample := w, sealRun := run, samples := i.samples + 1
        code := if run = 3 && !i.selBad then some a.toNat else none
        selBad := i.selBad || (run != 3 && decide (10 ≤ i.samples + 1)) }
    | some n =>
      let bad := !sealValid a b || a.toNat != n
      let s := updIsl s fun i => { i with sample := w, glitches := if bad then i.glitches + 1 else 0 }
      if bad then
        let s := bump s 0x8001 9
        if s.isl.glitches = 2 then selectorChange s else s
      else s

/-- SEAL_SAMPLE. -/
def execSealSample (a b : BitVec 8) (s : State) : Host.Outcome State Fault Refusal := outcome s (sealSample s a b)

/-- The objects of the working set, in ascending order (R304). -/
def workingSet : List (Nat × Nat) :=
  ((List.range 16).flatMap fun z => (List.range 9).map fun j => (0x8200 + z, j + 1)) ++
    ((List.range 4).flatMap fun i => (List.range 3).map fun j => (0x8300 + i, j + 1)) ++
    ((List.range 3).map fun j => (0x8310, j + 1)) ++
    ((List.range 4).flatMap fun c => (List.range 11).map fun j => (0x8400 + c, j + 1))

/-- A value as the configuration's CRC takes it. -/
def cfgBytes (ix sub : Nat) (v : Val) : Bytes :=
  match objRow ix sub with
  | none => []
  | some r =>
    let b := encodeVal r.ty v
    match r.ty with
    | .oct _ => leBytes 4 b.length ++ b
    | .dom _ => leBytes 4 b.length ++ b
    | _ => b

/-- The CRC of the working set. -/
def workingCrc (s : State) : BitVec 32 := crc32 (workingSet.flatMap fun x => cfgBytes x.1 x.2 (odGet s x.1 x.2))

/-- The working set as it is stored. -/
def workingVals (s : State) : Tbl Val :=
  workingSet.filterMap fun x => (tget s.od (odKey x.1 x.2)).map fun v => (odKey x.1 x.2, v)

/-- A configuration becomes the working set. -/
def loadCfg (s : State) (c : SafeCfg) : State :=
  workingSet.foldl (fun s x =>
    match tget c.vals (odKey x.1 x.2) with
    | some v => odSet s x.1 x.2 v
    | none => { s with od := tdel s.od (odKey x.1 x.2) }) s

/-- The island enters LOCKOUT with a cause (R303). -/
def lockOut (s : State) (b : Nat) : State := islRaise s b

/-- The pairing of a code holds (R306), once its configuration is loaded. -/
def pairingHolds (s : State) (n : Nat) : Bool :=
  match tget s.isl.stored n with
  | none => false
  | some c => c.whole && c.crc == workingCrc (loadCfg s c) && tget s.isl.paired n == some c.crc

/-- A write that is answered later waits. -/
def addLong (s : State) (k : LongKind) (r : Req) (ix sub : Nat) : State :=
  { s with odx := { s.odx with longs := s.odx.longs ++ [
    { kind := k, req := r, index := ix, sub := sub, cmd := BitVec.ofNat 8 cmdWrite }] } }

/-- The writes of 0x8002 (R306). -/
def cfgHook (r : Req) (sub : Nat) (_ : State) : WriteHook where
  gate := norGate
  run s v :=
    let n := valN v
    let wait (s : State) (k : LongKind) (w : CfgWrite) : Verdict :=
      .later (addLong (updIsl s fun i => { i with writes := i.writes ++ [w] }) k r 0x8002 sub)
    match sub with
    | 1 => wait s .storeCfg (.store n { crc := workingCrc s, vals := workingVals s })
    | 2 => match tget s.isl.stored n with
      | some c => wait s .pairCfg (.pair n c.crc)
      | none => .abort abRange s
    | _ => wait s .deleteCfg (.delete n)

/-- STORE_CONFIGURATION (R306). -/
def execStoreConfiguration (r : Req) (n : BitVec 8) (s : State) : Host.Outcome State Fault Refusal :=
  outcome s (requestWrite s r 0x8002 1 [n] (cfgHook r 1))

/-- PAIR_CONFIGURATION (R306). -/
def execPairConfiguration (r : Req) (n : BitVec 8) (s : State) : Host.Outcome State Fault Refusal :=
  outcome s (requestWrite s r 0x8002 2 [n] (cfgHook r 2))

/-- DELETE_CONFIGURATION (R306). -/
def execDeleteConfiguration (r : Req) (n : BitVec 8) (s : State) : Host.Outcome State Fault Refusal :=
  outcome s (requestWrite s r 0x8002 3 [n] (cfgHook r 3))

/-! ### The QSPI NOR in a quiesce (R449, R451) -/

/-- A QSPI NOR write of R306, R399 or R410 is running. -/
def norWriting (s : State) : Bool := !s.isl.writes.isEmpty || s.odx.storing.isSome || !s.odx.keyNew.isEmpty

/-- The QSPI NOR programs for a store, a configuration, a key, a plan, CONFIRM or an update. -/
def norBusy (s : State) : Bool :=
  s.boot.nor != .idle || norWriting s || s.odx.planStore.isSome || s.odx.longs.any fun l => l.kind == .confirm

/-- The quiesce record (R451). -/
def quiesceBytes (q : Quiesce) (steps us : Nat) : Bytes :=
  leBytes 8 q.tick ++ leBytes 8 q.time ++ leBytes 1 q.pBefore ++ leBytes 1 q.eBefore ++ leBytes 1 q.iBefore ++
    leBytes 1 steps ++ leBytes 1 q.nor ++ [0] ++ leBytes 2 (satN 16 us)

/-- The record of a quiesce that runs holds the steps completed so far (R451): 0x9010:02 is overwritten as they complete. -/
def quiesceNote (s : State) : State :=
  match s.pwr.quiesce with
  | some q =>
    let q : Quiesce := { q with steps := if norBusy s then q.steps else q.steps ||| 8 }
    { s with pwr := { s.pwr with quiesce := some q, record := quiesceBytes q q.steps 0 } }
  | none => s

/-- A NOR write that ends by itself during a quiesce is recorded (R451). -/
def norDone (s : State) : State :=
  match s.pwr.quiesce with
  | some q =>
    if norBusy s || q.nor != 0 then s
    else quiesceNote { s with pwr := { s.pwr with quiesce := some { q with nor := 1 } } }
  | none => s

/-- The kind of the waiting request of a configuration command. -/
def cfgKind : CfgWrite → LongKind
  | .store _ _ => .storeCfg
  | .pair _ _ => .pairCfg
  | .delete _ => .deleteCfg

/-- The effect of a configuration command on the NOR. -/
def cfgApply (i : IslSt) : CfgWrite → IslSt
  | .store n c => { i with stored := tset i.stored n c }
  | .pair n c => { i with paired := tset i.paired n c }
  | .delete n => { i with stored := tdel i.stored n, paired := tdel i.paired n }

/-- CONFIG_NOR_WRITE_DONE (R306): the oldest configuration command completes and is answered. -/
def cfgDone (s : State) (ok : Bool) : State :=
  match s.isl.writes with
  | [] => s
  | w :: r =>
    let s := updIsl s fun i => { (if ok then cfgApply i w else i) with writes := r }
    norDone (longAnswer s (cfgKind w) (if ok then 0 else abStore))

/-- CONFIG_NOR_WRITE_DONE. -/
def execConfigNorWriteDone (ok : Bool) (s : State) : Host.Outcome State Fault Refusal := outcome s (cfgDone s ok)

/-! ### Zone evaluation (R308 to R310) -/

/-- A column sequence number is later than another, modulo 65,536. -/
def seqLater (a b : Nat) : Bool := let d := (a + 65536 - b % 65536) % 65536; decide (0 < d) && decide (d < 32768)

/-- The column that a zone counts moves on with a later record or marker (R309). -/
def zoneColumn (x : ZoneSt) (col : Nat) : ZoneSt :=
  match x.col with
  | none => { x with col := some col, chans := 0, colBad := false }
  | some c => if seqLater col c then { x with col := some col, chans := 0, colBad := false } else x

/-- The ranges at which a record is tested (R308), in 0.25 mm. -/
def testRanges (r : IslRecord) : List Int :=
  if r.coarse then [r.range, (r.range : Int) - 2400, (r.range : Int) + 2400] else [(r.range : Int)]

/-- A record lies in a zone (R307, R308). -/
def inZone (s : State) (z : Nat) (r : IslRecord) : Bool :=
  (zoneLayers s z).any fun l => l.mask.getLsbD r.chan && (testRanges r).any fun q => polyInside l.pts (r.az, q)

/-- A record is counted by its class: HARD or SATURATED, SOFT with the zone's flag, and no NO_RETURN record (R308). -/
def classCounted (s : State) (z : Nat) (r : IslRecord) : Bool :=
  !r.empty && (r.cls == 0 || r.cls == 2 || (r.cls == 1 && (odN s (0x8200 + z) 1).testBit 2))

/-- A record is evaluated for a zone: the violation falls with the record that completes the count (R309, R310). -/
def zoneRecord (s : State) (r : IslRecord) (z : Nat) : State :=
  let x := zoneColumn (getZone s z) r.col
  if x.col ≠ some r.col || !(classCounted s z r && inZone s z r) then setZone s z x
  else
    let chans := x.chans ||| (1#512 <<< r.chan)
    let n := ((List.range 512).filter fun c => chans.getLsbD c).length
    let x := { x with chans := chans }
    if x.colBad || n < odN s (0x8200 + z) 2 then setZone s z x
    else setZone s z { x with
      colBad := true, violated := true
      cells := x.cells.map fun (p : Nat × CovCell) => (p.1, { p.2 with clear := 0 }) }

/-- ZONE follows the protective zones while a configuration is active. -/
def zoneCause (s : State) : State :=
  causeSet s 0 (cfgActive s && (zonesOn s).any fun z => zoneProtective s z && (getZone s z).violated)

/-- ZONE_EVALUATION (R308, R309): the record at the front of the FIFO. -/
def zoneEvaluation (s : State) : State :=
  match s.isl.fifo with
  | .record r :: rest =>
    if !islOn s then s
    else
      let s := updIsl s fun i => { i with fifo := rest }
      islCheck (zoneCause ((zonesOn s).foldl (fun s z => zoneRecord s r z) s))
  | _ => s

/-- ZONE_EVALUATION. -/
def execZoneEvaluation (s : State) : Host.Outcome State Fault Refusal := outcome s (zoneEvaluation s)

/-! ### Coverage (R311, R312) -/

/-- The channels of any layer mask of a zone. -/
def zoneChannels (s : State) (z : Nat) : BitVec 512 := (zoneLayers s z).foldl (fun m l => m ||| l.mask) 0

/-- The bounds of a coverage cell, in servo units. -/
def cellBounds (s : State) (z i : Nat) : Int × Int :=
  let lo := odI s (0x8200 + z) 7
  let w : Int := odI s (0x8200 + z) 9
  (10 * (lo + i * w), 10 * min (lo + (i + 1) * w) (odI s (0x8200 + z) 8))

/-- A cell has gone without complete coverage for REVISIT (R312). -/
def cellLate (s : State) (z : Nat) (c : CovCell) : Bool :=
  cfgActive s && decide (odN s (0x8200 + z) 4 ≤ since s (if c.covered then c.last else s.isl.activated))

/-- Some cell of a zone is late. -/
def zoneLate (s : State) (z : Nat) : Bool :=
  (List.range (cellCount s z)).any fun i => cellLate s z (tgetD (getZone s z).cells i {})

/-- A marker joins a zone's coverage; where every channel has delivered, the cells that the column's spans overlap are
covered, once per column. -/
def zoneMarker (s : State) (m : IslMarker) (z : Nat) : State :=
  let x := zoneColumn (getZone s z) m.col
  let x : ZoneSt := match x.mCol with
    | some c => if c = m.col then x else if seqLater m.col c then
        { x with mCol := some m.col, mChans := 0, mSpans := [], mDone := [] } else x
    | none => { x with mCol := some m.col, mChans := 0, mSpans := [], mDone := [] }
  if x.mCol ≠ some m.col then setZone s z x
  else
    let chans := if odN s (0x8200 + z) 5 ≤ m.shots then x.mChans ||| (1#512 <<< m.chan) else x.mChans
    let spans := if x.mSpans.contains (m.lo, m.hi) then x.mSpans else (m.lo, m.hi) :: x.mSpans
    let full := zoneChannels s z &&& ~~~ chans == 0
    let hit := if !full then [] else (List.range (cellCount s z)).filter fun i =>
      !x.mDone.contains i && spans.any fun p =>
        decide (p.1 ≤ (cellBounds s z i).2) && decide ((cellBounds s z i).1 ≤ p.2)
    let bad := x.colBad && x.col == some m.col
    let cells := hit.foldl (fun t i =>
      tupd t i ({} : CovCell) fun (c : CovCell) =>
        { last := s.tick.num, covered := true, clear := if bad then 0 else c.clear + 1 }) x.cells
    let free := x.violated && !bad && (List.range (cellCount s z)).all fun i =>
      odN s (0x8200 + z) 3 ≤ (tgetD cells i {}).clear
    setZone s z { x with
      mChans := chans, mSpans := spans, mDone := hit ++ x.mDone, cells := cells, violated := x.violated && !free }

/-- The coverage faults that end, and COVERAGE's condition where none is left. -/
def coverageCheck (s : State) : State :=
  let s := (zonesOn s).foldl (fun s z => setZone s z { getZone s z with fault := (getZone s z).fault && zoneLate s z }) s
  if (zonesOn s).any fun z => (getZone s z).fault then s else causeSet s 2 false

/-- COVERAGE_MARKER (R311, R312): the marker at the front of the FIFO. -/
def coverageMarker (s : State) : State :=
  match s.isl.fifo with
  | .marker m :: rest =>
    if !islOn s then s
    else
      let s := updIsl s fun i => { i with fifo := rest }
      islCheck (zoneCause (coverageCheck ((zonesOn s).foldl (fun s z => zoneMarker s m z) s)))
  | _ => s

/-- COVERAGE_MARKER. -/
def execCoverageMarker (s : State) : Host.Outcome State Fault Refusal := outcome s (coverageMarker s)

/-- COVERAGE_TIMEOUT (R312, R327): the coverage that a zone loses is a fault of its own. -/
def coverageTimeout (s : State) (z : Nat) : State :=
  if islOn s && (zonesOn s).contains z && zoneLate s z && !(getZone s z).fault then
    islCheck (islFault (setZone s z { getZone s z with fault := true }) 2)
  else s

/-- COVERAGE_TIMEOUT. -/
def execCoverageTimeout (z : Fin 16) (s : State) : Host.Outcome State Fault Refusal := outcome s (coverageTimeout s z.val)

/-! ### Faults of the island and of its supervision (R301) -/

/-- LOCKSTEP_FAULT (R301, R303). -/
def execLockstepFault (s : State) : Host.Outcome State Fault Refusal :=
  outcome s <| if islOn s then islRaise (bump s 0x8001 1) 14 else s

/-- SUPPLY_MONITOR_FAULT (R301). -/
def execSupplyMonitorFault (s : State) : Host.Outcome State Fault Refusal :=
  outcome s <| if islOn s then
    islCheck (islRaise (updIsl s fun i => { i with railsFrom := some s.tick.num }) 8) else s

/-- ISLAND_WATCHDOG (R301). -/
def execIslandWatchdog (s : State) : Host.Outcome State Fault Refusal :=
  outcome s <| if islOn s then islCheck (islRaise (updIsl s fun i => { i with restarted := false }) 9) else s

/-- The tick in which an item entered the FIFO. -/
def itemTick : IslItem → Nat
  | .record r => r.tick
  | .marker m => m.tick

/-- EVAL_TIMEOUT (R301): the item at the front has waited; the cause is latched, its condition is the moment's. -/
def evalTimeout (s : State) : State :=
  match s.isl.fifo with
  | [] => s
  | x :: _ => if islOn s && 1 ≤ since s (itemTick x) then islCheck (islClear (islRaise s 10) 10) else s

/-- EVAL_TIMEOUT. -/
def execEvalTimeout (s : State) : Host.Outcome State Fault Refusal := outcome s (evalTimeout s)

/-! ### Outputs (R315) -/

/-- Output 0 or 1. -/
def getOut (s : State) (c : Nat) : Ossd := if c = 0 then s.isl.outA else s.isl.outB

/-- The state with an output changed. -/
def updOut (s : State) (c : Nat) (f : Ossd → Ossd) : State :=
  updIsl s fun i => if c = 0 then { i with outA := f i.outA } else { i with outB := f i.outB }

/-- The pin of an output. -/
def outPin (c : Nat) : String := if c = 0 then "OSSD_A" else "OSSD_B"

/-- A feedback check has failed: OUTPUT for both outputs. -/
def outputFault (s : State) : State := islCheck (islRaise (if s.isl.active.getLsbD 4 then s else bump s 0x8001 3) 4)

/-- A test pulse is due: A once per period, B half a period after A. -/
def pulseDue (s : State) (c : Nat) : Bool :=
  let t := odN s 0x8310 2
  match c, s.isl.outA.pulsed, s.isl.outB.pulsed with
  | 0, some a, _ => t * 10000 ≤ since s a * 128
  | 0, none, _ => true
  | _, some a, b => t * 5000 ≤ since s a * 128 && (b.map fun u => decide (u < a)).getD true
  | _, none, _ => false

/-- In OPERATE a test pulse that is due begins at the tick strobe: the output is driven low (R315; assumption 82). -/
def pulseStart (s : State) (c : Nat) : State :=
  if s.isl.st == .operate && !(getOut s c).inPulse && pulseDue s c then
    send (updOut s c fun o => { o with pulsed := some s.tick.num, inPulse := true, changed := s.tick.num, mism := 0 })
      (.pin (outPin c) false)
  else s

/-- The width t_tp of the pulse under way has passed in this tick. -/
def pulseEnds (s : State) (c : Nat) : Bool :=
  let o := getOut s c
  o.inPulse && (o.pulsed.map fun t => decide (10 * odN s 0x8310 1 < 128 * (since s t + 1))).getD false

/-- OSSD_TEST_PULSE (R315): the pulse ends after its width; the feedback must then read low, and the output is driven high
again, with a window of 1.0 ms of its own. -/
def testPulse (s : State) (c : Nat) (fb : Bool) : State :=
  if !(islOn s && s.isl.st == .operate && pulseEnds s c) then s
  else
    let s := send (updOut s c fun o => { o with inPulse := false, fb := fb, changed := s.tick.num, mism := 0 })
      (.pin (outPin c) true)
    if fb then outputFault s else s

/-- OSSD_TEST_PULSE. -/
def execOssdTestPulse (ch : Fin 2) (fb : Bool) (s : State) : Host.Outcome State Fault Refusal :=
  outcome s (testPulse s ch.val fb)

/-- OSSD_FEEDBACK_TIMEOUT (R315): 1.0 ms after a transition the feedback does not read the driven value. -/
def feedbackTimeout (s : State) (c : Nat) : State :=
  if islOn s && 78 ≤ since s (getOut s c).changed then
    outputFault (updOut s c fun o => { o with fb := !driven o, good := 0 })
  else s

/-- OSSD_FEEDBACK_TIMEOUT. -/
def execOssdFeedbackTimeout (ch : Fin 2) (s : State) : Host.Outcome State Fault Refusal := outcome s (feedbackTimeout s ch.val)

/-- The feedback of an output at a tick sample: outside the 1.0 ms after a transition it must equal the driven value. -/
def feedbackSample (n : Nat) (o : Ossd) (fb : Bool) : Ossd :=
  let open_ := decide (79 ≤ n - o.changed)
  { o with
    fb := fb, mism := if open_ && fb != driven o then o.mism + 1 else 0, good := if fb = driven o then o.good + 1 else 0 }

/-! ### Dual-channel inputs (R316 to R318) -/

/-- N_T of an input. -/
def inputLimit (s : State) (i : Nat) : Nat := ceilDiv (odN s (0x8300 + i) 3 * 78125) 1000

/-- A sample of an input (R318): its new state and whether it raises DISCREPANCY. -/
def inputStep (limit : Nat) (a b : Bool) (x : SafeInput) : SafeInput × Bool :=
  if a = b then
    if x.faulty then
      if !a then ({ x with count := 0, value := false, seenSafe := true }, false)
      else if x.seenSafe then ({ x with count := 0, faulty := false, seenSafe := false, value := true }, false)
      else ({ x with count := 0, value := false }, false)
    else ({ x with count := 0, value := a }, false)
  else
    let n := x.count + 1
    if n = limit && !x.faulty then ({ x with count := n, value := false, faulty := true, seenSafe := false }, true)
    else ({ x with count := n, value := false }, false)

/-- An input has read active for 0.1 to 5.0 s and now reads safe (R316). -/
def inputEvent (n : Nat) (old new : SafeInput) : Bool :=
  old.value && !new.value && 1000000 ≤ (n - old.since) * 128 && (n - old.since) * 128 ≤ 50000000

/-- The sample of one input, whose discrepancy is a fault of its own (R318, R327); the events it brings: restart, reset. -/
def inputSample (s : State) (i : Nat) (a b : Bool) : State × Bool × Bool :=
  let fn := odN s (0x8300 + i) 1
  if fn = 0 then (updIsl s fun y => { y with inputs := tset y.inputs i {} }, false, false)
  else
    let b := if odN s (0x8300 + i) 2 = 1 then !b else b
    let old := tgetD s.isl.inputs i {}
    let r := inputStep (inputLimit s i) a b old
    let new : SafeInput := { r.1 with since := if r.1.value && !old.value then s.tick.num else old.since }
    let ev := inputEvent s.tick.num old new
    let s := updIsl s fun y => { y with inputs := tset y.inputs i new }
    (if r.2 then islFault (bump s 0x8001 2) 3 else s, ev && fn == 2, ev && fn == 3)

/-- STOP and DISCREPANCY follow the inputs and the remote enables (R318, R326). -/
def inputCauses (s : State) : State :=
  let ins := (List.range 4).map fun i => (odN s (0x8300 + i) 1, tgetD s.isl.inputs i {})
  let stop := ins.any fun (x : Nat × SafeInput) => x.1 == 1 && !x.2.value
  let remote := (List.range 4).any fun c =>
    odN s (0x8400 + c) 1 != 0 && odN s (0x8400 + c) 2 == 1 && !(tgetD s.isl.bsl c {}).payload.getLsbD 0
  causeSet (causeSet s 3 (ins.any fun (x : Nat × SafeInput) => x.1 != 0 && x.2.faulty)) 1 (stop || remote)

/-- A configuration becomes active: SAFE with every cell uncovered, and with the causes that its inputs and its remote
enables hold (R303, R318, R326). -/
def activate (s : State) (n : Nat) (c : SafeCfg) : State :=
  let s := loadCfg s c
  islCheck (inputCauses (islEnter (updIsl s fun i => { i with
    cfgNum := n, cfgCrc := c.crc, zones := [], activated := s.tick.num }) .safe))

/-- ISLAND_INIT_COMPLETE (R303): the self-test has ended; the selector must have been read, or be invalid. -/
def islInit (s : State) (ok : Bool) : State :=
  if !(islOn s && s.isl.st == .init) then s
  else if !ok then lockOut (bump s 0x8001 1) 14
  else match s.isl.code with
  | none => if s.isl.selBad then lockOut s 12 else s
  | some 0 => islEnter s .service
  | some n =>
    match tget s.isl.stored n with
    | some c => if pairingHolds s n then activate s n c else lockOut s 13
    | none => lockOut s 13

/-- ISLAND_INIT_COMPLETE. -/
def execIslandInitComplete (ok : Bool) (s : State) : Host.Outcome State Fault Refusal := outcome s (islInit s ok)

/-- SAFETY_INPUT_SAMPLE (R315 to R318). -/
def safetySample (s : State) (x : SafetyInputs) : State :=
  if !islOn s || s.isl.st = .init then s
  else
    let r := [0, 1, 2, 3].foldl (fun (r : State × Bool × Bool) i =>
      let q := inputSample r.1 i (x.a.getLsbD i) (x.b.getLsbD i)
      (q.1, r.2.1 || q.2.1, r.2.2 || q.2.2)) (s, false, false)
    let s := updIsl r.1 fun i => { i with
      outA := feedbackSample s.tick.num i.outA x.fbA, outB := feedbackSample s.tick.num i.outB x.fbB }
    let s := inputCauses s
    let s := if 2 ≤ s.isl.outA.mism || 2 ≤ s.isl.outB.mism then outputFault s
      else if 64 ≤ s.isl.outA.good && 64 ≤ s.isl.outB.good then causeSet s 4 false
      else s
    let s := islCheck s
    let s := if r.2.1 then islRestart s else s
    if r.2.2 then islReset s else s

/-- SAFETY_INPUT_SAMPLE. -/
def execSafetyInputSample (x : SafetyInputs) (s : State) : Host.Outcome State Fault Refusal := outcome s (safetySample s x)

/-! ### The fault manager (R327) -/

/-- RECOVERY_COMPLETE (R327): the next queued recovery starts; the group stays in recovery while a latched cause of its
faults is held. -/
def recoveryComplete (s : State) : State :=
  match s.fm.running with
  | none => s
  | some g =>
    let s := { s with fm := { s.fm with
      running := s.fm.queue.head?, queue := s.fm.queue.drop 1
      held := g :: s.fm.held.filter fun h => h != g && groupLatched s h } }
    let s := if g = .platform then updIsl s fun i => { i with restarted := true } else s
    islCheck (if g = .platform && s.isl.active.getLsbD 9 then islClear s 9 else s)

/-- RECOVERY_COMPLETE. -/
def execRecoveryComplete (s : State) : Host.Outcome State Fault Refusal := outcome s (recoveryComplete s)

/-! ### The tick, power and reset (R301 to R303) -/

/-- The island at a tick strobe: tick periods within limits, rails in their windows. -/
def islTick (s : State) : State :=
  if !islOn s then s
  else
    let s := updIsl s fun i => { i with goodTicks := i.goodTicks + 1 }
    let s := if s.isl.active.getLsbD 7 && 2 ≤ s.isl.goodTicks then islClear s 7 else s
    let s := if s.isl.active.getLsbD 8 && s.isl.railsFrom.isSome && railsGood s then islClear s 8 else s
    pulseStart (pulseStart (islCheck s) 0) 1

/-- A power-up of SAFE, or a reset (R303): outputs off, INIT, or LOCKOUT where AON holds the latch. -/
def islStart (s : State) : State :=
  if !hasSafe s then s
  else
    let s := islOutputs s false
    let i := s.isl
    let next : IslState := if i.lockout = 0 then .init else .lockout
    let s := if i.st = next || s.boot.phase = .held then s else setInt s 4
    let stuck := if s.boot.stuck && s.boot.phase == .firmware then 0x08000#17 else 0#17
    let t := { s with fm := { s.fm with esc := [] }, isl := {
      st := next, active := i.lockout ||| stuck, latched := i.lockout, lockout := i.lockout
      code := i.code, sample := i.sample, sealRun := i.sealRun, samples := i.samples, selBad := i.selBad
      glitches := i.glitches, stored := i.stored, paired := i.paired } }
    islInhibit t

/-- The SAFE domain goes off: outputs off (R302). -/
def islOff (s : State) : State := if hasSafe s then islStart s else s

/-! ### Objects (R319, R328) -/

/-- The code of an island state. -/
def islCode : IslState → Nat
  | .init => 0
  | .service => 1
  | .safe => 2
  | .operate => 3
  | .lockout => 4

/-- The largest stack depth of a plan over a zone. -/
def zoneDepth (p : Plan) (z : Nat) : Nat :=
  (p.cols.filter fun c => c.zmask.testBit z).foldl (fun m c => max m (colRegion p c).s) 0

/-- The reaction time of a zone in µs (R319), rounded up; 0 where no running plan covers it. -/
def reactionTime (s : State) (z : Nat) : Nat :=
  let d (o : Option Plan) : Nat := (o.map fun p => zoneDepth p z).getD 0
  let m := max (d s.plan.running) (d (s.plan.switching.map (·.2)))
  if m = 0 || !(odN s (0x8200 + z) 1).testBit 0 then 0
  else ceilDiv ((2 * (odN s (0x8200 + z) 4 + m) + 7) * 64) 10 + 1000

/-- A set of numbers as bits of a byte string. -/
def bitBytes (k : Nat) (f : Nat → Bool) : Bytes := leBytes k ((List.range (8 * k)).foldl (fun a n => a + b2n (f n) * 2 ^ n) 0)

/-- Zones as bits. -/
def zoneBits (s : State) (f : ZoneSt → Bool) : Nat :=
  (zonesOn s).foldl (fun a z => a + b2n (f (getZone s z)) * 2 ^ z) 0

/-- The state of a BSL connection as an object. -/
def bslCode : BslState → Nat
  | .down => 0
  | .connecting => 1
  | .data => 2

/-- The island's objects that are no plain settings. -/
def readIsland (s : State) (ix sub : Nat) : Option Val :=
  let i := s.isl
  match ix, sub with
  | 0x8000, 1 => some (.num (islCode i.st))
  | 0x8000, 2 => some (.num (i.code.getD 0))
  | 0x8000, 3 => some (.num i.sample.toNat)
  | 0x8000, 4 => some (.num i.cfgNum)
  | 0x8000, 5 => some (.num i.cfgCrc.toNat)
  | 0x8000, 6 => some (.num i.active.toNat)
  | 0x8000, 7 => some (.num i.latched.toNat)
  | 0x8000, 8 => some (.num (b2n i.outA.on + 2 * b2n i.outB.on + 4 * b2n i.outA.fb + 8 * b2n i.outB.fb : Nat))
  | 0x8000, 0x0B => some (.num (zoneBits s (·.violated)))
  | 0x8000, 0x0C => some (.num (zoneBits s (·.fault)))
  | 0x8002, 4 => some (.bytes (bitBytes 32 fun n => (tget i.stored n).isSome))
  | 0x8002, 5 => some (.bytes (bitBytes 32 fun n => (tget i.paired n).isSome))
  | 0x8002, 6 => some (.num (workingCrc s).toNat)
  | 0x8010, 1 => some (.bytes ((List.range 16).flatMap fun z => leBytes 4 (reactionTime s z)))
  | _, _ =>
    if 0x8400 ≤ ix && ix < 0x8404 then
      match sub with
      | 0x0C => some (.num (tgetD i.bsl (ix - 0x8400) {}).version)
      | 0x0D => some (.num (bslCode (tgetD i.bsl (ix - 0x8400) {}).st))
      | _ => none
    else none

/-- The enable or the role of a BSL connection is written: the connection starts anew. -/
def bslHook (ix sub : Nat) (_ : State) : WriteHook where
  run s v := .done (updIsl (odSet s ix sub v) fun i => { i with bsl := tset i.bsl (ix - 0x8400) {} })

/-- The write rules of the island's objects. -/
def hookIsland (r : Req) (ix sub : Nat) : Option (State → WriteHook) :=
  if ix = 0x8002 && 1 ≤ sub && sub ≤ 3 then some (cfgHook r sub)
  else if 0x8200 ≤ ix && ix < 0x8210 then
    match sub with
    | 1 => some fun _ => { range := fun v => valN v < 8, run := keep ix 1 }
    | 6 => some fun s => { range := fun v => layersOk s (valBytes v), run := keep ix 6 }
    | 8 => some fun s => { range := fun v => odI s ix 7 ≤ v.int, run := keep ix 8 }
    | _ => none
  else if 0x8400 ≤ ix && ix < 0x8404 then
    match sub with
    | 1 => some (bslHook ix 1)
    | 2 => some (bslHook ix 2)
    | 0x0A => some fun _ => { run := keep ix 0x0A }
    | 0x0B => some fun _ => { run := keep ix 0x0B }
    | _ => none
  else none

end Sys2Proof.Machine
end

