-- ==== Sys2Proof/Machine/Sessions.lean ====
section
/-! DEFINITION. What ends a session or a transfer, and the states of the field update: R374, R404, R407, R484. -/

namespace Sys2Proof.Machine

/-- The state with the boot and update fields changed. -/
def updBoot (s : State) (f : BootSt → BootSt) : State := { s with boot := f s.boot }

/-- The update enters a state; each change sets UPDATE (R487). -/
def updEnter (s : State) (u : UpdState) : State :=
  if s.boot.upd = u then s else setInt (updBoot s fun b => { b with upd := u }) 20

/-- A segment that waits for its programming is answered (R485). -/
def segmentAnswer (s : State) (code : Nat) : State := longAnswer s .segment code

/-- An update in ERASING or OPEN fails for a reason (R484); a page program that runs goes on. -/
def updStopped (s : State) (reason : Nat) : State :=
  if s.boot.upd = .erasing || s.boot.upd = .opened then
    updEnter (updBoot s fun b => { b with reason := reason, updHeader := [] }) .failed
  else s

/-- An update in ERASING or OPEN fails with its operation ended; a segment that waits for it aborts (R484, R485). -/
def updFail (s : State) (reason : Nat) : State :=
  if s.boot.upd = .erasing || s.boot.upd = .opened then
    segmentAnswer (updBoot (updStopped s reason) fun b => { b with nor := .idle }) abStore
  else s

/-- A session's segmented transfers are discarded (R404, R407); an update's transfer takes the update with it. -/
def dropXfer (s : State) (n : Nat) : State :=
  let upd := s.odx.sessions.any fun x => x.number == n && (x.xfer.map fun f => f.index == 0x1F50 && f.sub == 1).getD false
  let s := updSession s n fun x => { x with xfer := none }
  if upd then updFail s 8 else s

/-- A session closes. -/
def closeSession (s : State) (n : Nat) : State :=
  let s := updSession (dropXfer s n) n fun x => { x with snap := none }
  { s with odx := { s.odx with sessions := s.odx.sessions.filter fun x => x.number != n } }

/-- The sessions of one kind of transport. -/
def sessionsVia (s : State) (mbx : Bool) : List Nat :=
  (s.odx.sessions.filter fun x => (x.via == .mailbox) == mbx).map (·.number)

/-- Every session of one kind of transport closes. -/
def closeVia (s : State) (mbx : Bool) : State := (sessionsVia s mbx).foldl closeSession s

/-- The key of a client in the tables of votes. -/
def clientKey : VoteClient → Nat
  | .host => 0
  | .net => 1
  | .fw => 2
  | .safe => 3
  | .pin => 4

/-- A vote written by a client (R44, R379): it starts the handshake, or is held behind a running one; only the latest held
value is sent. -/
def castVote (s : State) (c : VoteClient) (v : BitVec 9) : State :=
  let k := clientKey c
  if (tget s.pwr.sending k).isSome then { s with pwr := { s.pwr with held := tset s.pwr.held k v } }
  else { s with pwr := { s.pwr with sending := tset s.pwr.sending k v } }

/-- A reset of the PCI Express controller and the host window (R374, R404). -/
def pcieReset (s : State) : State :=
  let s := closeVia s true
  let s := (List.range 16).foldl disableRing s
  let h := s.host
  let s := { s with host := { h with
    linkUp := false, bme := false, mps := 128, d3 := false, bar0 := 0, bar2 := 0, caps := [], tickHi := none, timeHiLatch := none, addrHi := none
    vote := 0, intStatus := 0, intEnable := 0, ringInt := 0, ringEnable := 0
    vecMask := BitVec.allOnes 64, funMask := false, pba := 0
    mbox := {}, dp := { h.dp with enable := false } } }
  castVote { s with odx := { s.odx with longs := s.odx.longs.map fun l =>
    if l.req.via = .mailbox then { l with drop := true } else l } } .host 0

/-- PCIE_RESET (R374). -/
def execPcieReset (s : State) : Host.Outcome State Fault Refusal := outcome s (pcieReset s)

end Sys2Proof.Machine
end

