-- ==== Sys2Proof/Machine/Reset.lean ====
section
/-! DEFINITION. The resets and what they keep (R443, R444, R471 to R474). -/

namespace Sys2Proof.Machine

/-- The objects that a device reset keeps: the AON objects of R452 and R487. -/
def aonKey (k : Nat) : Bool :=
  k == 0x900301 || k == 0x900302 || k == 0x900303 || k == 0x900306 || k == 0x1F3003 || k == 0x1F400E

/-- The island's counters, which only a power-on reset clears (R303, R328). -/
def islandKey (k : Nat) : Bool := 0x800100 ≤ k && k < 0x800200

/-- The outputs that a device reset makes idle (R302, R489): OSSD, the timing outputs, the output resets. -/
def pinsIdle (s : State) : State :=
  let s := fsyncLow (fsyncLow (islOutputs s false) 0) 1
  let s := if s.tick.syncOut then send s (.pin "SHOT_SYNC_OUT" false) else s
  let s := if s.boot.qspiRst then send s (.pin "QSPI_RST_N" false) else s
  if s.boot.phyRst then send s (.pin "ETH_PHY_RST_N" false) else s

/-- A device reset (R471): every domain but AON is off; AON, the VAON cells, OTP, QSPI NOR and the pins stay. The causes
are recorded (R473): one that comes before the release of a reset coincides with it. -/
def deviceReset (s : State) (causes : BitVec 16) : State :=
  let s := if emissionOn s then stopRecord s else s
  let s := pinsIdle s
  let p := s.pwr
  let b := s.boot
  let o := s.odx
  let t : State :=
    { fuses := s.fuses, free := s.free, out := s.out, pending := s.pending
      od := s.od.filter fun e => aonKey e.1 || islandKey e.1
      odx := { copyA := o.copyA, copyB := o.copyB, keySafe := o.keySafe, keyServ := o.keyServ, startUp := o.startUp }
      pwr := { rtcSub := p.rtcSub, stopRec := p.stopRec, supply := p.supply, record := p.record, vaonOk := p.vaonOk
               wakePin := p.wakePin, pwrFailN := p.pwrFailN }
      boot := {
        phase := .held, causes := b.causes ||| causes, last := if b.phase = .held then b.last ||| causes else causes, resetLow := b.resetLow, ignored := b.ignored
        testEn := b.testEn, stuck := b.stuck, wakeBoot := b.wakeBoot, keyHash := b.keyHash, revoked := b.revoked, rollback := b.rollback
        ctlA := b.ctlA, ctlB := b.ctlB, slot0 := b.slot0, slot1 := b.slot1 }
      isl := s.isl }
  if b.phase = .held then islStart t else bump (islStart t) 0x1F30 3

/-- A bit of the supply event record (R445). -/
def supplySet (s : State) (b : Nat) : State := { s with pwr := { s.pwr with supply := s.pwr.supply ||| (1#32 <<< b) } }

/-- AON loses its supply or is reset (R444): RTC, alarm, votes, the emission-stop record, the objects held in AON, the
reset record and the selector code. The VAON cells stay. -/
def aonLoss (s : State) : State :=
  { s with
    od := s.od.filter fun e => !aonKey e.1
    pwr := { s.pwr with
      rtcSub := 0, stopRec := none, hostV := 0, netV := 0, fwV := 0, safeV := 0, pinV := 0, sending := [], held := [] }
    boot := { s.boot with causes := 0, last := 0, ignored := false, stuck := false, wakeBoot := false }
    isl := { s.isl with code := none, sample := 0, sealRun := 0, samples := 0, selBad := false, glitches := 0 } }

/-- AON_BROWN_OUT (R443, R444): AON and device are reset. -/
def aonBrownOut (s : State) : State :=
  let s := deviceReset s 0
  let s := aonLoss s
  supplySet (updBoot s fun b => { b with causes := 2, last := 2 }) 4

/-- AON_BROWN_OUT. -/
def execAonBrownOut (s : State) : Host.Outcome State Fault Refusal := outcomeLost s (aonBrownOut s)

/-- A VAON power-on (R471): AON, the VAON cells and the device are reset; only the fuses, OTP and QSPI NOR stay. -/
def vaonPowerOn (s : State) : State :=
  let s := aonLoss (deviceReset s 0)
  let s := { s with
    od := s.od.filter fun e => !islandKey e.1
    pwr := { s.pwr with supply := 0x80000000#32, record := zeros 24, vaonOk := true }
    isl := { s.isl with lockout := 0 }
    boot := { s.boot with causes := 1, last := 1 } }
  islStart s

/-- VAON_POWER_ON: recognised only when VAON was below 2.50 V, where the VAON cells are not initialised (R493). -/
def execVaonPowerOn (s : State) : Host.Outcome State Fault Refusal :=
  outcomeLost s (if s.pwr.supply.getLsbD 31 then s else vaonPowerOn s)

/-- VAON_POWER_LOSS (R493): below 2.50 V the device and the VAON cells lose their state; the next rise is a power-on. -/
def vaonPowerLoss (s : State) : State :=
  let s := vaonPowerOn s
  { s with pwr := { s.pwr with supply := 0, vaonOk := false } }

/-- VAON_POWER_LOSS. -/
def execVaonPowerLoss (s : State) : Host.Outcome State Fault Refusal := outcomeLost s (vaonPowerLoss s)

/-- VAON_LOW (R445): below the window, above the power-on threshold. -/
def execVaonLow (s : State) : Host.Outcome State Fault Refusal :=
  outcome s (supplySet { s with pwr := { s.pwr with vaonOk := false } } 3)

/-- LPR_LIMIT (R443), in STANDBY. -/
def execLprLimit (s : State) : Host.Outcome State Fault Refusal :=
  outcome s (if s.pwr.state = .standby then supplySet s 5 else s)

/-- BROWN_OUT (R446): rails in the order of R491. VDD_CORE and VDD_IO reset the device, VDD_SAFE takes the island to the
safe state; a rail without a threshold has none. -/
def brownOut (s : State) (r : Nat) : State :=
  match r with
  | 0 => deviceReset (supplySet s 0) 4
  | 1 => islRaise (updIsl (supplySet s 1) fun i => { i with railsFrom := some s.tick.num }) 8
  | 7 => deviceReset (supplySet s 2) 8
  | _ => s

/-- BROWN_OUT. -/
def execBrownOut (r : Fin 16) (s : State) : Host.Outcome State Fault Refusal := outcomeLost s (brownOut s r.val)

/-- RESET_N (R471): low for 10 µs, unless the pin is ignored (R474). -/
def resetPin (s : State) : State :=
  if s.boot.ignored || s.boot.resetLow then s
  else deviceReset (updBoot s fun b => { b with resetLow := true }) 16

/-- RESET_N. -/
def execResetN (s : State) : Host.Outcome State Fault Refusal := outcomeLost s (resetPin s)

/-- RESET_STUCK (R474): the pin has been low for 4.000 s: it is ignored, and the stuck latch is set. -/
def resetStuck (s : State) : State :=
  if s.boot.resetLow && !s.boot.ignored then
    updBoot s fun b => { b with causes := b.causes ||| 32, last := b.last ||| 32, stuck := true, ignored := true }
  else s

/-- RESET_STUCK. -/
def execResetStuck (s : State) : Host.Outcome State Fault Refusal := outcome s (resetStuck s)

/-- RESET_N_ATTENDED (R474): the pin has been high for 100 ms without a break. The emission cause is no longer active. -/
def resetAttended (s : State) : State :=
  if s.boot.ignored then
    inhibitClear (updBoot s fun b => { b with ignored := false, resetLow := false }) 11
  else s

/-- RESET_N_ATTENDED. -/
def execResetNAttended (s : State) : Host.Outcome State Fault Refusal := outcome s (resetAttended s)

/-- Writes of 0x1F30:05 (R472): the response goes first. The row itself asks for emission off. -/
def softResetHook (_ : State) : WriteHook where
  run s v := .answered s fun s => if valN v = 1 then deviceReset s 256 else s

/-- SOFTWARE_RESET (R472). -/
def execSoftwareReset (r : Req) (s : State) : Host.Outcome State Fault Refusal :=
  outcomeLost s (requestWrite s r 0x1F30 5 [1] softResetHook)

/-- WDT_SVC (R47): the outputs go safe and emission ends before the shell is reset. -/
def execWdtSvc (s : State) : Host.Outcome State Fault Refusal :=
  outcomeLost s (if serving s then deviceReset s 128 else s)

end Sys2Proof.Machine
end

