-- ==== Sys2Proof/Machine/Power.lean ====
section
/-! DEFINITION. Power states, votes and the Sluice gate, wake events, the quiesce, and the supply monitors: R426 to R452,
R492. -/

namespace Sys2Proof.Machine

/-- The state with the power fields changed. -/
def updPwr (s : State) (f : PwrSt → PwrSt) : State := { s with pwr := f s.pwr }

/-! ### Domains by power state (R427) -/

/-- The entries of the table of R427: mandatory, voted, retention, idle, L, off. -/
inductive DomMode where
  | m | v | r | i | l | off
  deriving DecidableEq, Repr

/-- The table of R427. -/
def domMode (p : PState) (d : Dom) : DomMode :=
  match p, d with
  | .off, _ => .off
  | .standby, .aon => .m
  | .standby, _ => .off
  | .doze, .aon => .m
  | .doze, .core => .r
  | .doze, .lanes => .i
  | .doze, .host => .l
  | .doze, _ => .off
  | _, .aon => .m
  | _, .core => .m
  | _, .safe => .m
  | .quiet, .rx => .off
  | _, _ => .v

/-- The bit of a domain. -/
def domMask (d : Dom) : BitVec 9 := 1#9 <<< domBit d

/-- The order of power-ups (R442). -/
def upOrder : List Dom := [.core, .safe, .host, .mem, .lanes, .cam, .servo, .emit, .rx]

/-- The order of drops (R437). -/
def downOrder : List Dom := [.emit, .servo, .rx, .cam, .mem, .lanes, .host, .safe, .core]

/-- The domains that the variant has (R427). -/
def domPresent (s : State) (d : Dom) : Bool :=
  match d with
  | .cam => hasCam s
  | .safe => hasSafe s
  | _ => true

/-- The code of a power state (R426). -/
def pCode : PState → Nat
  | .run => 0
  | .quiet => 1
  | .doze => 2
  | .standby => 3
  | .off => 4

/-- The power state of a code. -/
def pOf (n : Nat) : PState :=
  match n with
  | 0 => .run
  | 1 => .quiet
  | 2 => .doze
  | 3 => .standby
  | _ => .off

/-- The next state down the chain. -/
def pDown : PState → PState
  | .run => .quiet
  | .quiet => .doze
  | .doze => .standby
  | _ => .off

/-! ### Votes (R429 to R431) -/

/-- A channel holds an open stack or a read pass (R100). -/
def histBusy (s : State) : Bool := s.rx.chans.any fun p => p.2.pair == .opened || p.2.reading

/-- An axis is CLOSED or PARKING (R261). -/
def servoBusy (s : State) : Bool :=
  [s.servo.h, s.servo.v].any fun x => x.st == .closed || x.st == .parking

/-- Ring r writes an entry to host memory (R390): the oldest staged unit fits, and RING_ENTRY_PUBLISH has not ended it. -/
def ringWriting (s : State) (r : Nat) : Bool :=
  let x := getRing s r
  x.enable && !x.pull && hostReady s && (x.staged.head?.map fun u => decide (entryLen u ≤ ringFree x)).getD false

/-- The domains of a ring's vote: HOST, and CAM where the staging reads a camera's unit (R430; assumption 47). -/
def ringDomains (s : State) (r : Nat) : BitVec 9 :=
  domMask .host ||| (if ((getRing s r).staged.head?.map fun u => decide (8 ≤ u.stream)).getD false then domMask .cam else 0)

/-- The implicit votes (R430): code, link or ring, domains. The vote of the data port lasts only within its own command. -/
def implicitVotes (s : State) : List (Nat × Nat × BitVec 9) :=
  (if histBusy s then [(3, 0, domMask .rx)] else []) ++
  (if servoBusy s then [(4, 0, domMask .servo)] else []) ++
  (if camBusy s then [(5, 0, domMask .cam ||| domMask .mem)] else []) ++
  (if acqBusy s then [(6, 0, domMask .mem)] else []) ++
  ((s.lane.links.filter fun p => linkBytes p.2 != 0).map fun p => (7, p.1, domMask .lanes)) ++
  (((List.range 16).filter (ringWriting s)).map fun r => (9, r, ringDomains s r))

/-- The domains with an implicit vote (0x9001:06). -/
def implicitMask (s : State) : BitVec 9 := (implicitVotes s).foldl (fun m v => m ||| v.2.2) 0

/-- The firmware's own votes (R429): the registered ones, and RX during a full calibration and the step to RUN (R433). -/
def fwVotes (s : State) : BitVec 9 :=
  s.pwr.fwV ||| (if s.rx.cal = .running || (s.pwr.exit.map (·.dest) == some .run && s.pwr.state == .quiet) then
    domMask .rx else 0)

/-- The explicit votes. -/
def votes (s : State) : BitVec 9 := s.pwr.hostV ||| s.pwr.netV ||| fwVotes s ||| s.pwr.safeV ||| s.pwr.pinV

/-- The domains that a quiesce drops, in order (R448). -/
def quiesceOrder : List Dom := [.emit, .rx, .cam, .mem, .lanes]

/-- A domain that a quiesce holds off until its release (R450). -/
def heldOff (s : State) (d : Dom) : Bool := s.pwr.pfState != 0 && quiesceOrder.contains d

/-- Whether the Sluice gate wants a domain on in a power state (R431). -/
def wanted (s : State) (p : PState) (d : Dom) : Bool :=
  domPresent s d && !heldOff s d &&
    match domMode p d with
    | .m => true
    | .v => (votes s).getLsbD (domBit d)
    | _ => false

/-- What an entry into a state drops, retains or idles (R434). -/
def affected (s : State) (p : PState) (d : Dom) : Bool :=
  domUp s d && domMode p d != .m && domMode p d != .v && (!s.pwr.idle.getLsbD (domBit d) || domMode p d == .off)

/-- The power state that decides the domains: the target of an exit, else the state in force. -/
def gateState (s : State) : PState := (s.pwr.exit.map (·.dest)).getD s.pwr.state

/-- Emission cause POWER (R208, R428): the state is other than RUN, or an entry from RUN has been accepted. -/
def powerCause (s : State) : State := inhibitSet s 9 (s.pwr.state != .run || s.pwr.entry.isSome)

/-- A power state takes effect; POWER of INT_STATUS reports it (R380). -/
def setPower (s : State) (p : PState) : State :=
  if s.pwr.state = p then powerCause s else powerCause (setInt (updPwr s fun x => { x with state := p }) 13)

/-- An exit is complete when nothing rises any more (R433, R442). -/
def exitDone (s : State) : State :=
  match s.pwr.exit with
  | none => s
  | some e =>
    if s.pwr.rising != 0 then s
    else
      let s := setPower (updPwr s fun x => { x with exit := none }) e.dest
      odSetN s 0x9002 0x0A (satN 32 (tickUs (since s e.start)))

/-- The Sluice gate outside an entry (R431): wanted domains rise. -/
def gate (s : State) : State :=
  if s.pwr.entry.isSome || s.boot.phase != .firmware then s
  else
    let p := gateState s
    let up := upOrder.foldl (fun m d =>
      if wanted s p d && (!domUp s d || s.pwr.idle.getLsbD (domBit d)) then m ||| domMask d else m) 0#9
    exitDone (updPwr s fun x => { x with rising := up })

/-- VOTE_REGISTERED (R44, R431): the handshake of a client ends, and a held value starts the next one. -/
def voteRegistered (s : State) (c : VoteClient) : State :=
  let k := clientKey c
  let v : Option (BitVec 9) := match c with
    | .host => tget s.pwr.sending 0
    | .net => tget s.pwr.sending 1
    | .fw => some (BitVec.ofNat 9 (odN s 0x1F40 0x10))
    | .safe => some (if cfgActive s then domMask .rx ||| domMask .servo else 0)
    | .pin => some (if s.pwr.wakePin then BitVec.ofNat 9 (odN s 0x9001 4) else 0)
  match v with
  | none => s
  | some v =>
    let s := updPwr s fun p => match c with
      | .host => { p with hostV := v }
      | .net => { p with netV := v }
      | .fw => { p with fwV := v }
      | .safe => { p with safeV := v }
      | .pin => { p with pinV := v }
    let s := updPwr s fun p => { p with
      held := tdel p.held k
      sending := match tget p.held k with
        | some w => tset p.sending k w
        | none => tdel p.sending k }
    gate s

/-- VOTE_REGISTERED. -/
def execVoteRegistered (client : VoteClient) (s : State) : Host.Outcome State Fault Refusal :=
  outcome s (voteRegistered s client)

/-! ### Domains going up and down -/

/-- A domain leaves the sets of powered, rising, starting and idle domains. -/
def domClear (s : State) (d : Dom) : State :=
  let m := ~~~ domMask d
  updPwr s fun p => { p with on := p.on &&& m, rising := p.rising &&& m, starting := p.starting &&& m, idle := p.idle &&& m }

/-- The camera's slots and the QDR memory lose their contents with MEM (R438). -/
def memOff (s : State) : State :=
  let s := acqMemLost (acqDrained s)
  { s with qdr := [], points := { s.points with late := [] }, cams := s.cams.map fun p => (p.1, { p.2 with slots := [] }) }

/-- A domain is switched off (R437). -/
def dropDomain (s : State) (d : Dom) : State :=
  if !domUp s d then domClear s d
  else
    let s := domClear s d
    match d with
    | .emit => emitOffPower s
    | .servo => servoOff s
    | .rx => rxOff s
    | .cam => camOff s
    | .mem => memOff s
    | .lanes => lanesOff s
    | .host => pcieReset s
    | .safe => islOff s
    | .core => hkStop (planSuspend s)
    | .aon => s

/-- A domain is set to retention or idle in DOZE (R427, R438). -/
def idleDomain (s : State) (d : Dom) : State :=
  if !domUp s d then s
  else
    let s := if d = .core then hkStop (planSuspend s) else s
    updPwr s fun p => { p with idle := p.idle ||| domMask d }

/-- DOMAIN_START_UP_DONE (R225, R261, R299, R356): the timed start-up of a domain ends. -/
def startUpDone (s : State) (d : Dom) : State :=
  if !s.pwr.starting.getLsbD (domBit d) then s
  else
    let s := updPwr s fun p => { p with starting := p.starting &&& ~~~ domMask d }
    match d with
    | .lanes => lanesStart s
    | .cam => camStart s
    | .servo => servoStart s
    | .emit => emitStarted s
    | _ => s

/-- DOMAIN_START_UP_DONE. -/
def execDomainStartUpDone (d : Dom) (s : State) : Host.Outcome State Fault Refusal := outcome s (startUpDone s d)

/-- DOMAIN_DROP (R431): outside an entry, no vote and no implicit vote is left. LANES or HOST that an exit from DOZE leaves
idle for want of a vote goes off too (R442). -/
def domainDrop (s : State) (d : Dom) : State :=
  if s.pwr.entry.isSome || s.pwr.exit.isSome || !domUp s d || (s.pwr.idle.getLsbD (domBit d) && s.pwr.state == .doze) || d = .core ||
      wanted s s.pwr.state d || (implicitMask s).getLsbD (domBit d) then s
  else dropDomain s d

/-- DOMAIN_DROP. -/
def execDomainDrop (d : Dom) (s : State) : Host.Outcome State Fault Refusal := outcomeLost s (domainDrop s d)

/-! ### Entries (R432 to R437) -/

/-- The domains that a chain of entries to a state would switch off. -/
def chainDrops (s : State) (p : PState) : BitVec 9 :=
  downOrder.foldl (fun m d => if domUp s d && pCode s.pwr.state < pCode p && domMode p d = .off then m ||| domMask d else m) 0

/-- The refuser of a requested state (R432), in the order of its table; RUN is refused while a watchdog cause is not
acknowledged (R436; assumption 68). -/
def refuser (s : State) (p : PState) : Option Nat :=
  if s.pwr.entry.isSome || s.pwr.exit.isSome || s.pwr.forced || s.pwr.pfState != 0 || (p = .off && !s.pwr.vaonOk) ||
      (p = .run && s.pwr.state != .run && (s.emit.latched &&& 6 != 0 || s.emit.wdtDue != 0)) then
    some 11
  else if cfgActive s && chainDrops s p &&& (domMask .rx ||| domMask .servo) != 0 then some 1
  else if s.pwr.wakePin && chainDrops s p &&& BitVec.ofNat 9 (odN s 0x9001 4) != 0 then some 2
  else if norWriting s && 2 ≤ pCode p then some 12
  else none

/-- Phase A (R434): the producers of what the entry affects stop. -/
def phaseA (s : State) (dst : PState) : State :=
  let cam := affected s dst .cam
  let mem := affected s dst .mem
  let s := if cam then camClose (camClose s 0 false true) 1 false true else s
  if mem then acqHalt s else s

/-- An entry starts: POWER becomes active, phase A runs. -/
def startEntry (s : State) (dst final : PState) (forced : Bool) (wake : Option Nat) : State :=
  let e : Entry := { dest := dst, final := final, phase := .stop, forced := forced, start := s.tick.num, wake := wake }
  phaseA (powerCause (updPwr s fun p => { p with entry := some e })) dst

/-- The step from QUIET to RUN (R433). -/
def startRun (s : State) : State :=
  gate (updPwr s fun p => { p with exit := some { dest := .run, start := s.tick.num } })

/-- The implicit votes that an entry waits for. -/
def entryVotes (s : State) (dst : PState) : List (Nat × Nat × BitVec 9) :=
  (implicitVotes s).filter fun v => downOrder.any fun d => affected s dst d && v.2.2.getLsbD (domBit d)

/-- PHASE_A_END (R434): three ticks have passed, and the axes are open if SERVO is to be dropped. With CORE off no tick
runs and no producer is left to stop (assumption 17). -/
def phaseAEnd (s : State) : State :=
  match s.pwr.entry with
  | none => s
  | some e =>
    let axes := [s.servo.h, s.servo.v].all fun x => x.st == .opened || x.st == .loss || x.st == .off
    if e.phase = .stop && (3 ≤ since s e.start || !domUp s .core) && (axes || !affected s e.dest .servo) then
      updPwr s fun p => { p with entry := some { e with phase := .drain, phaseB := s.tick.num } }
    else s

/-- PHASE_A_END. -/
def execPhaseAEnd (s : State) : Host.Outcome State Fault Refusal := outcome s (phaseAEnd s)

/-- The wake events that wake from a state (R440). -/
def wakesFrom (p : PState) (code : Nat) : Bool :=
  match p with
  | .doze => 1 ≤ code && code ≤ 4
  | .standby => code == 1
  | _ => false

/-- An exit by a wake event (R442): from DOZE to the wake target; from STANDBY a cold start. -/
def wakeExit (s : State) (code : Nat) : State :=
  match s.pwr.state with
  | .doze =>
    let t := odN s 0x9003 4
    let s := odSetN (odSetN s 0x9000 1 t) 0x9003 5 code
    gate (updPwr s fun p => { p with exit := some { dest := pOf t, start := s.tick.num } })
  | .standby => deviceReset (supplySet (updBoot s fun b => { b with wakeBoot := true }) 10) 64
  | _ => s

/-- A forced entry into QUIET starts where RUN is in force; in a lower state it has nothing to drop (R436). -/
def startForced (s : State) : State :=
  let s := updPwr s fun p => { p with forced := false }
  if s.pwr.state = .run && s.pwr.pfState = 0 then startEntry (odSetN s 0x9000 1 1) .quiet .quiet true none else s

/-- A forced entry waits while a transition runs. -/
def forcedNext (s : State) : State :=
  if s.pwr.forced && s.pwr.entry.isNone && s.pwr.exit.isNone then startForced s else s

/-- A domain reaches power good and starts (R433, R442); only the first one of the order can. -/
def powerGood (s : State) (d : Dom) : State :=
  if upOrder.find? (fun x => s.pwr.rising.getLsbD (domBit x)) != some d then s
  else
    let m := domMask d
    let idle := s.pwr.idle.getLsbD (domBit d)
    let s := updPwr s fun p => { p with on := p.on ||| m, rising := p.rising &&& ~~~ m, idle := p.idle &&& ~~~ m }
    let s := match d with
      | .core => planResume (hkStart s idle)
      | .safe => islStart s
      | .lanes => if idle then s else updPwr s fun p => { p with starting := p.starting ||| m }
      | .cam => updPwr s fun p => { p with starting := p.starting ||| m }
      | .servo => updPwr s fun p => { p with starting := p.starting ||| m }
      | .emit => emitStart (updPwr s fun p => { p with starting := p.starting ||| m })
      | .rx => rxStart s
      | _ => s
    forcedNext (exitDone s)

/-- DOMAIN_POWER_GOOD. -/
def execDomainPowerGood (d : Dom) (s : State) : Host.Outcome State Fault Refusal := outcome s (powerGood s d)

/-- A controller watchdog forces QUIET (R436); a quiesce already holds it. -/
def forceQuiet (s : State) : State :=
  if s.pwr.pfState != 0 then s
  else forcedNext (updPwr s fun p => { p with forced := true })

/-- Phase C (R437, R438): the domains in order, then the state, in which a domain it does not allow no longer rises (R427,
R431); the chain goes on, or a latched wake event is replayed. -/
def phaseC (s : State) (e : Entry) : State :=
  let s := updFail s 9
  let s := downOrder.foldl (fun s d =>
    if affected s e.dest d then if domMode e.dest d = .off then dropDomain s d else idleDomain s d else s) s
  let keep := downOrder.foldl (fun m d => if domMode e.dest d = .m || domMode e.dest d = .v then m ||| domMask d else m) 0#9
  let s := setPower (updPwr s fun p => { p with entry := none, rising := p.rising &&& keep }) e.dest
  let s := odSetN (bump s 0x9002 8) 0x9002 9 (satN 32 (tickUs (since s e.start)))
  let s := if e.dest = .off then aonLoss (supplySet s 9) else s
  if e.dest ≠ e.final then startEntry s (pDown e.dest) e.final e.forced e.wake
  else match e.wake with
    | some c => wakeExit (bump s 0x9002 5) c
    | none => if e.dest = .quiet then forcedNext (gate s) else updPwr s fun p => { p with forced := false }

/-- DRAIN_COMPLETE (R434). -/
def drainComplete (s : State) : State :=
  match s.pwr.entry with
  | some e => if e.phase = .drain && (entryVotes s e.dest).isEmpty then phaseC s e else s
  | none => s

/-- DRAIN_COMPLETE. -/
def execDrainComplete (s : State) : Host.Outcome State Fault Refusal := outcomeLost s (drainComplete s)

/-- An entry is aborted (R435, R447): what phase A stopped stays stopped. -/
def abortEntry (s : State) (code unit : Nat) : State :=
  let s := powerCause (updPwr s fun p => { p with entry := none })
  let s := odSetN (bump s 0x9002 3) 0x9002 4 (code * 256 + unit)
  setInt (odSetN s 0x9000 1 (pCode s.pwr.state)) 13

/-- DRAIN_TIMEOUT (R435, R436): an implicit vote outlasts 1 ms of phase B. -/
def drainTimeout (s : State) : State :=
  match s.pwr.entry with
  | none => s
  | some e =>
    match entryVotes s e.dest with
    | [] => s
    | v :: _ =>
      if e.phase ≠ .drain || since s e.phaseB * 128 < 10000 then s
      else if e.forced then phaseC (bump s 0x9002 7) e
      else forcedNext (gate (abortEntry s v.1 v.2.1))

/-- DRAIN_TIMEOUT. -/
def execDrainTimeout (s : State) : Host.Outcome State Fault Refusal := outcomeLost s (drainTimeout s)

/-- Writes of 0x9000:01 (R432). -/
def powerHook (_ : State) : WriteHook where
  gate s v :=
    match refuser s (pOf (valN v)) with
    | some c => some (abState, setInt (odSetN (bump s 0x9002 1) 0x9002 2 (c * 256)) 13)
    | none => none
  run s v :=
    let p := pOf (valN v)
    .answered (odSet s 0x9000 1 v) fun s =>
      if p = s.pwr.state then s
      else if p = .run then startRun s
      else startEntry s (pDown s.pwr.state) p false none

/-- POWER_STATE_REQUEST (R432). -/
def execPowerStateRequest (r : Req) (v : BitVec 8) (s : State) : Host.Outcome State Fault Refusal :=
  outcome s (requestWrite s r 0x9000 1 [v] powerHook)

/-! ### Waking (R440, R441) -/

/-- A wake event: latched while an entry runs, an exit in DOZE or STANDBY. -/
def wakeEvent (s : State) (code : Nat) : State :=
  match s.pwr.entry with
  | some e =>
    if wakesFrom e.final code then
      updPwr s fun p => { p with entry := some { e with wake := some (e.wake.getD code) } }
    else bump s 0x9002 6
  | none =>
    if s.pwr.exit.isSome then s
    else if wakesFrom s.pwr.state code then wakeExit s code
    else s

/-- RTC_ALARM (R440): the armed alarm is reached; in RUN and QUIET it wakes nothing and disarms. -/
def rtcAlarm (s : State) : State :=
  if !odB s 0x9003 3 then s
  else
    let s := if odN s 0x9003 1 < odN s 0x9003 2 then
        updPwr (odSetN s 0x9003 1 (odN s 0x9003 2)) fun p => { p with rtcSub := 0 }
      else s
    if (s.pwr.entry.all fun e => !wakesFrom e.final 1) && (s.pwr.state = .run || s.pwr.state = .quiet) then
      bump (odSetN s 0x9003 3 0) 0x9002 6
    else wakeEvent s 1

/-- RTC_ALARM. -/
def execRtcAlarm (s : State) : Host.Outcome State Fault Refusal := outcomeLost s (rtcAlarm s)

/-- WAKE_REQ: the level of the pin; a rising edge is a wake event (R429, R440). -/
def wakeReq (s : State) (level : Bool) : State :=
  let rise := level && !s.pwr.wakePin
  let s := updPwr s fun p => { p with wakePin := level }
  if rise then wakeEvent s 2 else s

/-- WAKE_REQ. -/
def execWakeReq (level : Bool) (s : State) : Host.Outcome State Fault Refusal := outcome s (wakeReq s level)

/-- NETWORK_WAKE (R440, R441): a frame to the device's address on port 17225, in DOZE or while any entry runs. -/
def execNetworkWake (s : State) : Host.Outcome State Fault Refusal :=
  outcome s (if s.pwr.state = .doze || s.pwr.entry.isSome then wakeEvent s 3 else s)

/-! ### The quiesce (R447 to R451) -/

/-- The code of an emission state (0x4000:02). -/
def emissionCode (s : State) : Nat := emCode s.emit.state

/-- The island state as 0x8000:01; 0 without an island. -/
def islandCode (s : State) : Nat := if hasSafe s then islCode s.isl.st else 0

/-- A configuration store that is interrupted leaves its slot incomplete (R449). -/
def cfgBreak (i : IslSt) : IslSt :=
  match i.writes.head? with
  | some (.store n c) => { i with writes := [], stored := tset i.stored n { c with whole := false } }
  | _ => { i with writes := [] }

/-- Every NOR operation is ended; what was being written was not yet valid (R449). -/
def norEnd (s : State) : State :=
  let s := updFail s 9
  let s := if s.odx.storing.isSome then odSetN s 0x1010 3 abStore else s
  let s := { s with
    boot := { s.boot with nor := .idle }
    isl := cfgBreak s.isl
    odx := { s.odx with storing := none, planStore := none, keyNew := [] } }
  let s := [LongKind.segment, .storeCfg, .pairCfg, .deleteCfg, .persist, .keySafe, .keyService,
    .confirm].foldl (fun s k => longAnswer s k abStore) s
  supplySet s 8

/-- QUIESCE (R447 to R450): PWR_FAIL_N has been low for 2.0 µs. An entry is aborted, an exit stops with the domains that are up
and QUIET; in DOZE and below only the record is written. `edge` is the REF cycle of the falling edge, from t+0 of
this tick. -/
def quiesce (s : State) (edge : Int) : State :=
  let s := updPwr s fun p => { p with pwrFailN := false, pfRise := none }
  let t : Int := (s.time.c : Int) + (if edge < 0 then -(timeAdvance edge.natAbs s.time.rho : Int)
    else (timeRun s.time (edge.natAbs * 64) : Int))
  let q : Quiesce := { tick := if edge < 0 then s.tick.num - 1 else s.tick.num, time := (t / 2 ^ 32).toNat
                       pBefore := pCode s.pwr.state, eBefore := emissionCode s, iBefore := islandCode s
                       steps := 3, nor := 0 }
  let low := s.pwr.exit.isNone && (s.pwr.state == .doze || s.pwr.state == .standby || s.pwr.state == .off)
  if s.pwr.pfState = 1 then s
  else
    let s := if s.pwr.entry.isSome then abortEntry s 10 0 else s
    if low then updPwr (supplySet s 6) fun p => { p with record := quiesceBytes q 16 0 }
    else
      let s := bump (supplySet s 6) 0x9004 2
      let s := updPwr s fun p => { p with pfState := 1, exit := none, rising := 0, forced := false, quiesce := some q }
      let s := islRaise (updIsl (inhibit s 10) fun i => { i with railsFrom := none }) 8
      let s := setInt (odSetN s 0x9000 1 1) 14
      let s := setPower s .quiet
      let s := if s.boot.nor = .erase then
          updPwr (norEnd s) fun p => { p with quiesce := some { q with nor := 3 } }
        else if s.boot.nor = .program then updStopped s 9
        else updFail s 9
      quiesceNote s

/-- QUIESCE. -/
def execQuiesceStart (edge : Int) (s : State) : Host.Outcome State Fault Refusal :=
  outcome s (if s.boot.phase = .held then updPwr s fun p => { p with pwrFailN := false, pfRise := none } else quiesce s edge)

/-- QUIESCE_DROP (R448): at +50 µs the domains are dropped without waiting. -/
def quiesceDrop (s : State) : State :=
  match s.pwr.quiesce with
  | none => s
  | some q =>
    if q.steps &&& 4 != 0 then s
    else
      let s := quiesceOrder.foldl dropDomain s
      bump (quiesceNote (updPwr s fun p => { p with quiesce := some { q with steps := q.steps ||| 4 } })) 0x9002 7

/-- QUIESCE_DROP. -/
def execQuiesceDrop (s : State) : Host.Outcome State Fault Refusal := outcomeLost s (quiesceDrop s)

/-- NOR_PROGRAM_LIMIT (R449): a page program that still runs is ended by the reset command. -/
def norLimit (s : State) : State :=
  match s.pwr.quiesce with
  | some q => if norBusy s then quiesceNote (updPwr (norEnd s) fun p => { p with quiesce := some { q with nor := 2 } }) else s
  | none => s

/-- NOR_PROGRAM_LIMIT. -/
def execNorProgramLimit (s : State) : Host.Outcome State Fault Refusal := outcome s (norLimit s)

/-- QUIESCE_DONE (R448, R451): the domains are dropped and the NOR is idle; the records are complete. -/
def quiesceDone (s : State) : State :=
  match s.pwr.quiesce with
  | none => s
  | some q =>
    if q.steps &&& 4 = 0 || norBusy s then s
    else
      let s := supplySet (stopRecord s) 7
      updPwr s fun p => { p with
        pfState := 2, quiesce := none, record := quiesceBytes q 31 (tickUs (since s q.tick)) }

/-- QUIESCE_DONE. -/
def execQuiesceDone (s : State) : Host.Outcome State Fault Refusal := outcome s (quiesceDone s)

/-- PWR_FAIL_N_RISE (R447, R450): after a quiesce the release time starts; else the pulse was short. -/
def pwrFailRise (s : State) : State :=
  if !s.pwr.pwrFailN then
    updPwr s fun p => { p with pwrFailN := true, pfRise := if p.pfState = 0 then none else some s.tick.num }
  else
    let s := if s.pwr.pfState = 0 then s else updPwr s fun p => { p with pfRise := some s.tick.num }
    if domUp s .core then bump s 0x9004 3 else s

/-- PWR_FAIL_N_RISE. -/
def execPwrFailNRise (s : State) : Host.Outcome State Fault Refusal := outcome s (pwrFailRise s)

/-- PWR_FAIL_RELEASE (R450): high for the release time. -/
def pwrFailRelease (s : State) : State :=
  match s.pwr.pfRise with
  | none => s
  | some t =>
    if s.pwr.pfState ≠ 2 || since s t < msTicks (odN s 0x9004 4) then s
    else
      let s := updPwr s fun p => { p with pfState := 0, pfRise := none }
      gate (islClear (inhibitClear s 10) 8)

/-- PWR_FAIL_RELEASE. -/
def execPwrFailRelease (s : State) : Host.Outcome State Fault Refusal := outcome s (pwrFailRelease s)

/-! ### Rails (R475, R492) -/

/-- The domains that a rail without a brown-out threshold supplies, by its place in R491 (R488). -/
def railDomains (r : Nat) : List Dom :=
  match r with
  | 2 => [.rx]
  | 3 => [.emit, .servo, .core]
  | 4 => [.lanes, .host]
  | 5 => [.lanes, .host]
  | 6 => [.mem]
  | _ => []

/-- RAIL_OUT_OF_WINDOW: a powered domain keeps running, with its bit and a fault of group PLATFORM (R492); a domain whose
power-up is due stays off (R475). -/
def railOut (s : State) (r : Nat) : State :=
  let on := (railDomains r).filter fun d => domUp s d
  let due := (railDomains r).filter fun d => !domUp s d && s.pwr.rising.getLsbD (domBit d)
  let m := (on ++ due).foldl (fun m d => m ||| domMask d) 0#9
  if m = 0 then s
  else
    let s := odSetN s 0x1F40 0x0F (odN s 0x1F40 0x0F ||| m.toNat)
    let s := updPwr s fun p => { p with rising := p.rising &&& ~~~ (due.foldl (fun m d => m ||| domMask d) 0#9) }
    let s := if on.isEmpty then s else reportFault s .platform
    exitDone s

/-- RAIL_OUT_OF_WINDOW. -/
def execRailOutOfWindow (r : Fin 16) (s : State) : Host.Outcome State Fault Refusal := outcome s (railOut s r.val)

/-! ### Watchdogs (R47, R48) -/

/-- A controller watchdog as the island sees it (R301). -/
def islWatchdog (s : State) : State :=
  if islOn s then islCheck (islRaise (updIsl s fun i => { i with restarted := false }) 9) else s

/-- A watchdog cause waits for the next t+0, which inhibits emission and forces the device into QUIET (R47; assumption 68);
the island takes WATCHDOG at once (R301). -/
def wdtExpired (s : State) (b : Nat) : State :=
  islWatchdog { s with emit := { s.emit with wdtDue := s.emit.wdtDue ||| (1#12 <<< b) } }

/-- WDT_PLAN (R47). -/
def execWdtPlan (s : State) : Host.Outcome State Fault Refusal := outcome s (if serving s then wdtExpired s 1 else s)

/-- WDT_CAL (R47). -/
def execWdtCal (s : State) : Host.Outcome State Fault Refusal := outcome s (if serving s then wdtExpired s 2 else s)

/-! ### Objects (R452) -/

/-- Transition (0x9000:04). -/
def transition (s : State) : Nat :=
  if s.pwr.pfState = 1 then 3 else if s.pwr.entry.isSome then 1 else if s.pwr.exit.isSome then 2 else 0

/-- The supply event record as read. -/
def supplyRecord (s : State) : Nat := s.pwr.supply.toNat + b2n (s.isl.lockout != 0) * 2 ^ 30

/-- The power objects that are no plain settings. -/
def readPower (s : State) (ix sub : Nat) : Option Val :=
  let num (n : Nat) : Option Val := some (.num n)
  match ix, sub with
  | 0x9000, 2 => num (pCode s.pwr.state)
  | 0x9000, 4 => num (transition s)
  | 0x9001, 2 => num (fwVotes s).toNat
  | 0x9001, 3 => num s.pwr.safeV.toNat
  | 0x9001, 5 => num s.pwr.hostV.toNat
  | 0x9001, 6 => num (implicitMask s).toNat
  | 0x9001, 7 => num s.pwr.on.toNat
  | 0x9004, 1 => num s.pwr.pfState
  | 0x9010, 1 => num (supplyRecord s)
  | 0x9010, 2 => some (.bytes s.pwr.record)
  | _, _ => none

/-- Writes of 0x9001:01. -/
def netVoteHook (_ : State) : WriteHook where
  run s v := .done (castVote (odSet s 0x9001 1 v) .net (BitVec.ofNat 9 (valN v)))

/-- Writes of 0x9003:01: the RTC is valid from then on. -/
def rtcHook (_ : State) : WriteHook where
  run s v := .done (odSetN (updPwr (odSet s 0x9003 1 v) fun p => { p with rtcSub := 0 }) 0x9003 6 1)

/-- Writes of 0x9010:01 clear W1C bits [10:0] (R445). -/
def supplyHook (_ : State) : WriteHook where
  run s v := .done (updPwr s fun p => { p with supply := p.supply &&& ~~~ (BitVec.ofNat 32 (valN v) &&& 0x7FF#32) })

/-- Writes of 0x9010:02: 24 zero bytes clear the record. -/
def recordHook (_ : State) : WriteHook where
  range v := (valBytes v).all (· == 0)
  run s _ := .done (updPwr s fun p => { p with record := zeros 24 })

/-- Writes of 0x1F40:10 apply at once (R487). -/
def fwVoteHook (_ : State) : WriteHook where
  run s v := .done (gate (updPwr (odSet s 0x1F40 0x10 v) fun p => { p with fwV := BitVec.ofNat 9 (valN v) }))

/-- The write rules of the power objects. -/
def hookPower (ix sub : Nat) : Option (State → WriteHook) :=
  match ix, sub with
  | 0x9000, 1 => some powerHook
  | 0x9001, 1 => some netVoteHook
  | 0x9003, 1 => some rtcHook
  | 0x9010, 1 => some supplyHook
  | 0x9010, 2 => some recordHook
  | 0x1F40, 0x10 => some fwVoteHook
  | _, _ => none

end Sys2Proof.Machine
end

