-- ==== Sys2Proof/Machine/Boot.lean ====
section
/-! DEFINITION. Secure boot, the start of the firmware, the stores of persistent values, and the field update: R399, R472
to R489. -/

namespace Sys2Proof.Machine

/-! ### Slots (R476 to R478) -/

/-- An image slot. -/
def slotOf (s : State) (k : Nat) : Slot := if k = 0 then s.boot.slot0 else s.boot.slot1

/-- The state with an image slot. -/
def setSlot (s : State) (k : Nat) (x : Slot) : State :=
  updBoot s fun b => if k = 0 then { b with slot0 := x } else { b with slot1 := x }

/-- Bytes of a slot's payload; erased bytes read 0xFF. -/
def payloadBytes (x : Slot) (n : Nat) : Bytes := x.payload.take n ++ List.replicate (n - x.payload.length) 0xFF

/-- The anti-rollback counter (R478): the set bits of the thermometer. -/
def rollbackCount (s : State) : Nat := ((List.range 64).filter fun i => s.boot.rollback.getLsbD i).length

/-- The status of an image by the checks of R478, in their order. -/
def imageStatus (s : State) (x : Slot) : Nat :=
  let h := x.header
  let len := fieldN h 12 4
  let svn := fieldN h 7 1
  let key := fieldN h 16 1
  let pub := slice h 64 64
  if h.take 4 != [0x4C, 0x56, 0x46, 0x31] then 1
  else if (slice h 17 15).any (· != 0) || (slice h 192 3904).any (· != 0) || len = 0 || 25161728 < len || 64 < svn then 2
  else if !(fieldN h 4 2).testBit (if isSmall s then 1 else 0) || s.fuses.step.toNat < fieldN h 6 1 then 3
  else if s.boot.keyHash[key]? != some (sha256 pub) then 4
  else if s.boot.revoked.getLsbD key then 5
  else if svn < rollbackCount s then 6
  else if !ecdsaVerify (sha256 (h.take 128)) (beNat (slice h 128 32)) (beNat (slice h 160 32))
      (beNat (pub.take 32), beNat (pub.drop 32)) then 7
  else if sha256 (payloadBytes x len) != slice h 32 32 then 8
  else 0

/-- VERSION of a slot, 0 if EMPTY. -/
def slotVersion (x : Slot) (status : Nat) : Nat := if status = 1 then 0 else fieldN x.header 8 4

/-- SVN of a slot. -/
def slotSvn (x : Slot) (status : Nat) : Nat := if status = 1 then 0 else fieldN x.header 7 1

/-! ### Boot control (R479) -/

/-- The boot control copy in force: the valid one with the higher sequence number. -/
def bootCtl (s : State) : BootCtl :=
  match s.boot.ctlA, s.boot.ctlB with
  | some a, some b => if a.seq < b.seq then b else a
  | some a, none => a
  | none, some b => b
  | none, none => { seq := 0, active := 0, trial := none, tried := false }

/-- Boot control written: the copy not in force takes the next sequence number. -/
def writeCtl (s : State) (f : BootCtl → BootCtl) : State :=
  let c := bootCtl s
  let d := { f c with seq := c.seq + 1 }
  updBoot s fun b => match b.ctlA, b.ctlB with
    | some x, some y => if x.seq < y.seq then { b with ctlA := some d } else { b with ctlB := some d }
    | some _, none => { b with ctlB := some d }
    | none, _ => { b with ctlA := some d }

/-- The slot that runs no image, or the one of R480 in recovery mode. -/
def targetSlot (s : State) : Nat :=
  if s.boot.mode = 3 then
    if (s.boot.status0 = 7 || s.boot.status0 = 8) && s.boot.status1 = 1 then 1 else 0
  else 1 - s.boot.slot

/-- The version of the running firmware as in BAR0 (R377). -/
def fwVersion (s : State) : Nat :=
  if s.boot.phase = .firmware then
    (if s.boot.slot = 0 then s.boot.ver0 else s.boot.ver1) / 2 * 2 + s.boot.slot
  else 0

/-- RESET_RELEASE (R475, R478 to R480): the boot ROM chooses a slot. TEST_EN high holds the device in reset (R489). -/
def resetRelease (s : State) : State :=
  if s.boot.phase ≠ .held || s.pwr.supply.getLsbD 31 = false || s.boot.testEn then s
  else
    let s := updBoot s fun b => { b with resetLow := b.resetLow && b.ignored }
    let s := hkStart (updPwr s fun p => { p with vaonOk := true, on := domMask .core }) false
    let c := bootCtl s
    let (s, order, mode) : State × List Nat × Nat :=
      match c.trial, c.tried with
      | some t, false => (writeCtl s fun c => { c with tried := true }, [t, c.active], 1)
      | some t, true => (updBoot (writeCtl s fun c => { c with trial := none, tried := false }) fun b => { b with
          unconfirmed := true }, [c.active, t], 2)
      | none, _ => (s, [c.active, 1 - c.active], 0)
    let s0 := imageStatus s s.boot.slot0
    let s1 := imageStatus s s.boot.slot1
    let s := ditherInit (updBoot s fun b => { b with
      status0 := s0, status1 := s1, ver0 := slotVersion b.slot0 s0, ver1 := slotVersion b.slot1 s1
      svn0 := slotSvn b.slot0 s0, svn1 := slotSvn b.slot1 s1, released := s.tick.num })
    match order.find? fun k => (if k = 0 then s0 else s1) == 0 with
    | some k =>
      let mode := if order.head? = some k then mode else 2
      let s := updBoot s fun b => { b with phase := .rom, slot := k, mode := mode }
      if mode = 2 then bump s 0x1F40 0x0E else s
    | none =>
      let s := if mode = 2 then bump s 0x1F40 0x0E else s
      updPwr (updBoot s fun b => { b with phase := .recovery, slot := 0xFF, mode := 3 }) fun p => { p with
        on := domMask .core ||| domMask .host }

/-- RESET_RELEASE. -/
def execResetRelease (s : State) : Host.Outcome State Fault Refusal := outcome s (resetRelease s)

/-- RESET_OUTPUT_RELEASE (R489): QSPI_RST_N 100 µs and ETH_PHY_RST_N 10 ms after the release. -/
def execResetOutputRelease (phy : Bool) (s : State) : Host.Outcome State Fault Refusal :=
  outcome s <|
    if s.boot.phase = .held then s
    else if phy then
      if s.boot.phyRst then s else send (updBoot s fun b => { b with phyRst := true }) (.pin "ETH_PHY_RST_N" true)
    else
      if s.boot.qspiRst then s else send (updBoot s fun b => { b with qspiRst := true }) (.pin "QSPI_RST_N" true)

/-! ### The write rules of the units -/

/-- The write rules of the lanes' objects (R353, R369): an accepted change moves the affected lanes. -/
def hookLanes (ix sub : Nat) : Option (State → WriteHook) :=
  match ix, sub with
  | 0xC000, 1 => some fun _ => { gate := laneGate 1, run := fun s v => .done (lanesRegroup s (odSet s 0xC000 1 v)) }
  | 0xC000, 2 => some fun s => {
      range := fun v => groupingOk s (valBytes v)
      gate := laneGate 2
      run := fun s v => .done (lanesRegroup s (odSet s 0xC000 2 v)) }
  | 0xC030, 1 => some tickLinkHook
  | 0xC030, 3 => some groupHook
  | 0xC030, 4 => some slotsHook
  | _, _ => none

/-- A rule for writes beside the object's table, by unit. -/
def hookUnits (r : Req) (ix sub : Nat) : Option (State → WriteHook) :=
  if ix < 0x2000 then hookPoints ix sub
  else if ix < 0x2100 then
    match sub with
    | 1 => some sourceHook
    | 2 => some (syncSetHook 2)
    | 3 => some (syncSetHook 3)
    | _ => none
  else if ix = 0x2104 then some fun _ => { gate := budgetGate ix sub, run := keep ix sub }
  else if ix < 0x3000 then hookPlan r ix sub
  else if ix < 0x3100 then hookRx ix sub
  else if ix < 0x3200 then hookHist ix sub
  else if ix = 0x3210 && (sub = 2 || sub = 3) then some (ditherHook sub)
  else if 0x3220 ≤ ix && ix < 0x3228 then hookRx ix sub
  else if ix < 0x4000 then none
  else if ix = 0x4010 || ix = 0x4024 then hookPlan r ix sub
  else if ix < 0x5000 then hookEmit ix sub
  else if ix < 0x6000 then hookServo ix sub
  else if 0x6040 ≤ ix && ix < 0x7000 then hookPoints ix sub
  else if ix < 0x7000 then hookCam ix sub
  else if ix < 0x8000 then hookAcq ix sub
  else if ix < 0x9000 then hookIsland r ix sub
  else if ix < 0xB000 then hookPower ix sub
  else if ix < 0xC000 then hookHk ix sub
  else if ix < 0xD000 then hookLanes ix sub
  else hookTime ix sub

/-! ### Persistent values (R398, R399, R482) -/

/-- The persistent values that differ from their defaults. -/
def persistentValues (s : State) : Tbl Val :=
  s.od.filter fun e =>
    match objRow (e.1 / 256) (e.1 % 256) with
    | some r => r.pers == .yes
    | none => false

/-- Groups of objects whose values a chapter ties together (R87, R222, R226, R235, R242, R283, R285, R291, R295). -/
def tiedObjects : List (List (Nat × Nat)) :=
  ((List.range 8).map fun q => [(0x3100 + q, 1), (0x3100 + q, 2)]) ++
  [[(0x4015, 1), (0x4015, 2), (0x4015, 3), (0x4015, 4), (0x4015, 5)],
   [(0x4012, 1), (0x4012, 2)],
   [(0x5042, 2), (0x5042, 5)],
   [(0x5050, 2), (0x5050, 3)],
   [(0x6012, 2), (0x6012, 3)],
   [(0x6000, 6), (0x6000, 7), (0x6010, 1), (0x6010, 2), (0x6010, 3), (0x6001, 6), (0x6001, 7), (0x6011, 1), (0x6011, 2),
    (0x6011, 3)],
   [(0x6000, 6), (0x6000, 7), (0x6002, 2)],
   [(0x6001, 6), (0x6001, 7), (0x6003, 2)]]

/-- A request for checks that answer nobody. -/
def noReq : Req := { via := .mailbox, session := 0, tag := 0 }

/-- The value of an object obeys its chapter's rule in this state. -/
def obeys (s : State) (o : Nat × Nat) : Bool :=
  match hookUnits noReq o.1 o.2 with
  | some h => (h s).range (odGet s o.1 o.2)
  | none => true

/-- A stored value fits its object now (R482): length, range and the rules on the value alone. -/
def storedOk (s : State) (r : ObjRow) (k : Nat) (v : Val) : Bool :=
  lengthFits r (k % 256) (encodeVal r.ty v).length && rangeOk r v &&
    (tiedObjects.any (fun l => l.contains (k / 256, k % 256)) || obeys (odSet s (k / 256) (k % 256) v) (k / 256, k % 256))

/-- One stored value: restored, skipped, or replaced by the default and counted. -/
def restoreOne (s : State) (e : Nat × Val) : State :=
  match objRow (e.1 / 256) (e.1 % 256) with
  | none => s
  | some r =>
    if r.pers ≠ .yes || !objPresent s r (e.1 / 256) (e.1 % 256) then s
    else if storedOk s r e.1 e.2 then odSet s (e.1 / 256) (e.1 % 256) e.2
    else bump s 0x1F40 0x0D

/-- The first group of tied objects whose rule is broken. -/
def brokenGroup (s : State) : Option (List (Nat × Nat)) := tiedObjects.find? fun l => l.any fun o => !obeys s o

/-- Every object of a broken rule takes its default, until no rule is broken. -/
def restoreRules : Nat → State → State
  | 0, s => s
  | f + 1, s =>
    match brokenGroup s with
    | none => s
    | some l => restoreRules f (l.foldl (fun s o => bump { s with od := tdel s.od (odKey o.1 o.2) } 0x1F40 0x0D) s)

/-- The restore of the persistent values. -/
def restoreAll (s : State) : State :=
  match storeInForce s with
  | none => s
  | some (c, n) =>
    restoreRules 16 (c.vals.foldl restoreOne (updBoot s fun b => { b with restored := n }))

/-- FIRMWARE_START (R474, R482, R483): persistent values, the effects of what they select, the start-up votes and state. -/
def firmwareStart (s : State) : State :=
  if s.boot.phase ≠ .rom then s
  else
    let s := updBoot s fun b => { b with phase := .firmware }
    let s := odSetN s 0x1F40 0x0B (satN 32 (tickUs (since s s.boot.released)))
    let s := restoreAll s
    let s := if tickSource s = 0 then s else syncRestart s .acquire
    let s := { s with net := { s.net with ring := if odN s 0xD000 4 = 2 then 2 else 0 } }
    let st := if s.boot.wakeBoot then odN s 0x9003 4 else odN s 0x9000 3
    let s := updBoot s fun b => { b with wakeBoot := false }
    let s := { s with odx := { s.odx with startDue := !s.odx.startUp.isEmpty } }
    let s := updPwr (odSetN s 0x9000 1 st) fun p => { p with fwV := BitVec.ofNat 9 (odN s 0x1F40 0x10) }
    let s := if s.boot.stuck then
        let s := setInt (islCause (inhibit s 11) 15) 19
        if s.boot.ignored then s else inhibitClear s 11
      else s
    allReports (gate (setPower s (pOf st)))

/-- FIRMWARE_START. -/
def execFirmwareStart (s : State) : Host.Outcome State Fault Refusal := outcome s (firmwareStart s)

/-- Writes of 0x1010:01 (R399): a snapshot of the persistent values starts its way to the older copy. -/
def storeHook (r : Req) (_ : State) : WriteHook where
  gate := norGate
  run s v :=
    if valN v = 0 then .done s
    else .later { s with odx := { s.odx with
      storing := some (persistentValues s)
      longs := s.odx.longs ++ [
        { kind := .persist, req := r, index := 0x1010, sub := 1, cmd := BitVec.ofNat 8 cmdWrite }] } }

/-- STORE_PERSISTENT_VALUES (R399). -/
def execStorePersistentValues (r : Req) (s : State) : Host.Outcome State Fault Refusal :=
  outcome s (requestWrite s r 0x1010 1 [1] (storeHook r))

/-- STORE_COMPLETE (R399): the older copy becomes valid, or the store fails and the other copy stays in force. -/
def storeComplete (s : State) (ok : Bool) : State :=
  match s.odx.storing with
  | none => s
  | some t =>
    let o := { s.odx with storing := none }
    let n := ((storeInForce s).map fun x => x.1.count + 1).getD 1
    let s := { s with odx := o }
    if ok then
      let s := match storeInForce s with
        | some (_, 1) => { s with odx := { o with copyB := some { count := n, vals := t } } }
        | _ => { s with odx := { o with copyA := some { count := n, vals := t } } }
      norDone (longAnswer (odSetN (bump s 0x1010 2) 0x1010 3 0) .persist 0)
    else norDone (longAnswer (odSetN s 0x1010 3 abStore) .persist abStore)

/-- STORE_COMPLETE. -/
def execStoreComplete (ok : Bool) (s : State) : Host.Outcome State Fault Refusal := outcome s (storeComplete s ok)

/-- Writes of 0x1011:01 (R399): both copies become invalid; the values in force stay. -/
def restoreHook (_ : State) : WriteHook where
  gate := norGate
  run s v := .done (if valN v = 1 then { s with odx := { s.odx with copyA := none, copyB := none } } else s)

/-- RESTORE_DEFAULTS (R399). -/
def execRestoreDefaults (r : Req) (s : State) : Host.Outcome State Fault Refusal :=
  outcome s (requestWrite s r 0x1011 1 [1] restoreHook)

/-- Writes of the role keys (R410): answered when the key is in QSPI NOR. One key is on its way at a time. -/
def keyHook (r : Req) (sub : Nat) (_ : State) : WriteHook where
  gate s v := if s.odx.keyNew.isEmpty then norGate s v else some (abBusy, s)
  run s v := .later { s with odx := { s.odx with
    keyNew := valBytes v
    longs := s.odx.longs ++ [
      { kind := if sub = 1 then .keySafe else .keyService, req := r, index := 0x1F21, sub := sub
        cmd := BitVec.ofNat 8 cmdWrite }] } }

/-! ### The field update (R484 to R486) -/

/-- BEGIN: refused while the running image is on trial. The erase of the target starts. -/
def beginUpdate (s : State) : Verdict :=
  if (s.boot.upd ≠ .idle && s.boot.upd ≠ .failed) || s.boot.mode = 1 then .abort abState s
  else
    let s := if (bootCtl s).trial.isSome then writeCtl s fun c => { c with trial := none, tried := false } else s
    let t := targetSlot s
    let s := updBoot (setSlot s t {}) fun b => { b with
      target := t, programmed := 0, updHeader := [], headerDue := false, nor := .erase }
    .done (updEnter s .erasing)

/-- ACTIVATE: the verified slot is set for a trial boot. -/
def activateUpdate (s : State) : Verdict :=
  if s.boot.upd ≠ .verified then .abort abState s
  else if cfgActive s then .abort abSealed s
  else .done (updEnter (writeCtl s fun c => { c with trial := some s.boot.target, tried := false }) .activated)

/-- CONFIRM: only in trial mode; answered when the OTP and boot control are written. -/
def confirmUpdate (s : State) (r : Req) : Verdict :=
  if s.boot.mode ≠ 1 then .abort abState s
  else .later { s with odx := { s.odx with longs := s.odx.longs ++ [
    { kind := .confirm, req := r, index := 0x1F50, sub := 2, cmd := BitVec.ofNat 8 cmdWrite }] } }

/-- Every segmented write of the image is discarded without its effect on the update. -/
def dropImage (s : State) : State :=
  { s with odx := { s.odx with sessions := s.odx.sessions.map fun x =>
      if (x.xfer.map fun f => f.index == 0x1F50).getD false then { x with xfer := none } else x } }

/-- The state after a CANCEL (R484). -/
def cancelled (s : State) : State :=
  let s := segmentAnswer (dropImage s) abSegSeq
  let s := setSlot s s.boot.target { slotOf s s.boot.target with header := [] }
  updEnter (updBoot s fun b => { b with nor := .idle, updHeader := [], headerDue := false }) .idle

/-- CANCEL: the operation ends with the header left erased, or the trial is taken back. -/
def cancelUpdate (s : State) : Verdict :=
  match s.boot.upd with
  | .activated => .done (updEnter (writeCtl s fun c => { c with trial := none, tried := false }) .verified)
  | .erasing => .done (cancelled s)
  | .opened => .done (cancelled s)
  | .verified => .done (cancelled s)
  | _ => .abort abState s

/-- Writes of 0x1F50:02 (R484); in a quiesce the NOR takes no command (R448), so that only a CANCEL that needs none is left:
one that takes back a trial, or erases a header, is turned away. -/
def updateHook (r : Req) (_ : State) : WriteHook where
  gate s v := if valN v = 4 && s.boot.upd != .activated && s.boot.upd != .verified then none else norGate s v
  run s v :=
    match valN v with
    | 1 => beginUpdate s
    | 2 => activateUpdate s
    | 3 => confirmUpdate s r
    | _ => cancelUpdate s

/-- BEGIN (R484). -/
def execUpdateBegin (r : Req) (s : State) : Host.Outcome State Fault Refusal :=
  outcome s (requestWrite s r 0x1F50 2 [1] (updateHook r))

/-- ACTIVATE (R484). -/
def execUpdateActivate (r : Req) (s : State) : Host.Outcome State Fault Refusal :=
  outcome s (requestWrite s r 0x1F50 2 [2] (updateHook r))

/-- CONFIRM (R486). -/
def execUpdateConfirm (r : Req) (s : State) : Host.Outcome State Fault Refusal :=
  outcome s (requestWrite s r 0x1F50 2 [3] (updateHook r))

/-- CANCEL (R484). -/
def execUpdateCancel (r : Req) (s : State) : Host.Outcome State Fault Refusal :=
  outcome s (requestWrite s r 0x1F50 2 [4] (updateHook r))

/-- ERASE_COMPLETE (R484): the update opens; a failed erase is reason NOR. -/
def eraseComplete (s : State) (ok : Bool) : State :=
  if s.boot.upd ≠ .erasing then s
  else
    let s := updBoot s fun b => { b with nor := .idle }
    if ok then updEnter s .opened else updFail s 10

/-- ERASE_COMPLETE. -/
def execEraseComplete (ok : Bool) (s : State) : Host.Outcome State Fault Refusal := outcome s (eraseComplete s ok)

/-- The session and the transfer that carry the image. -/
def imageXfer (s : State) : Option (Session × Xfer) :=
  s.odx.sessions.findSome? fun x => match x.xfer with
    | some f => if f.index = 0x1F50 && f.sub = 1 then some (x, f) else none
    | none => none

/-- The image is complete: the header is checked under R478, the payload by its hash; the header is programmed last. -/
def imageDone (s : State) : State :=
  let n := imageStatus s { slotOf s s.boot.target with header := s.boot.updHeader }
  if n = 0 then updBoot s fun b => { b with headerDue := true, nor := .program }
  else updStopped s (n - 1)

/-- A program of the update has ended: the header, or the bytes of a segment (R485). -/
def updProgrammed (s : State) (ok : Bool) : State :=
  let s := updBoot s fun b => { b with nor := .idle }
  if s.boot.upd ≠ .opened then segmentAnswer s abStore
  else if !ok then updFail s 10
  else if s.boot.headerDue then
    let s := setSlot s s.boot.target { slotOf s s.boot.target with header := s.boot.updHeader }
    updEnter (updBoot s fun b => { b with headerDue := false, programmed := b.programmed + 4096 }) .verified
  else match imageXfer s with
    | none => s
    | some (x, f) =>
      let p := f.got.drop 4096
      let s := setSlot s s.boot.target { slotOf s s.boot.target with payload := p }
      let s := segmentAnswer (updBoot s fun b => { b with programmed := p.length }) 0
      if f.got.length = f.total then imageDone (updSession s x.number fun y => { y with xfer := none }) else s

/-- CONFIRM's writes have ended (R486): the counter is raised, the running slot is ACTIVE, the trial is over. -/
def confirmDone (s : State) (ok : Bool) : State :=
  if !ok then norDone (longAnswer s .confirm abStore)
  else
    let svn := fieldN (slotOf s s.boot.slot).header 7 1
    let s := updBoot s fun b => { b with
      mode := 0, rollback := if rollbackCount s < svn then b.rollback ||| BitVec.ofNat 64 (2 ^ svn - 1) else b.rollback }
    norDone (longAnswer (writeCtl s fun c => { c with active := s.boot.slot, trial := none, tried := false }) .confirm 0)

/-- A long write of a kind waits. -/
def waits (s : State) (k : LongKind) : Bool := s.odx.longs.any fun l => l.kind == k

/-- A role key is in QSPI NOR, or its write has failed (R410). -/
def keyDone (s : State) (ok safe : Bool) : State :=
  let k := s.odx.keyNew
  let s := { s with odx := { s.odx with
    keyNew := []
    keySafe := if ok && safe then k else s.odx.keySafe
    keyServ := if ok && !safe then k else s.odx.keyServ } }
  longAnswer s (if safe then .keySafe else .keyService) (if ok then 0 else abStore)

/-- NON_VOLATILE_WRITE_DONE: the write that was begun first among an update program, a role key, CONFIRM and a start-up
plan, in this order. -/
def nvDone (s : State) (ok : Bool) : State :=
  if s.boot.nor = .program then norDone (updProgrammed s ok)
  else if waits s .keySafe then norDone (keyDone s ok true)
  else if waits s .keyService then norDone (keyDone s ok false)
  else if waits s .confirm then confirmDone s ok
  else match s.odx.planStore with
    | some p => norDone { s with odx := { s.odx with planStore := none, startUp := if ok then p else s.odx.startUp } }
    | none => s

/-- NON_VOLATILE_WRITE_DONE. -/
def execNonVolatileWriteDone (ok : Bool) (s : State) : Host.Outcome State Fault Refusal := outcome s (nvDone s ok)

/-- Writes of 0x1F40:0A (R478, R487): bit k revokes key k; refused for the running image's key. -/
def revokeHook (_ : State) : WriteHook where
  range v := valN v < 16
  gate s v :=
    if s.boot.phase = .firmware && (valN v).testBit (fieldN (slotOf s s.boot.slot).header 16 1) then some (abState, s)
    else none
  run s v := .done (updBoot s fun b => { b with revoked := b.revoked ||| BitVec.ofNat 4 (valN v) })

/-- KEY_REVOCATION (R478). -/
def execKeyRevocation (r : Req) (v : BitVec 8) (s : State) : Host.Outcome State Fault Refusal :=
  outcome s (requestWrite s r 0x1F40 0x0A [v] revokeHook)

/-- Writes of 0x1F30:01 clear the W1C bits [8:1] (R473). -/
def causeHook (_ : State) : WriteHook where
  run s v := .done (updBoot s fun b => { b with causes := b.causes &&& ~~~ (BitVec.ofNat 16 (valN v) &&& 0x1FE#16) })

/-- The code of an update state (R487). -/
def updCode : UpdState → Nat
  | .idle => 0
  | .erasing => 1
  | .opened => 2
  | .verified => 3
  | .activated => 4
  | .failed => 5

/-- The bytes of an ASCII name. -/
def asciiBytes (n : String) : Bytes := n.toList.map fun c => BitVec.ofNat 8 c.toNat

/-- The variant's name (R4). -/
def variantName (s : State) : String :=
  match s.fuses.variant with
  | .fc => "LVR-5120-FC"
  | .f => "LVR-5120-F"
  | .c => "LVR-5120-C"
  | .lf => "LVR-2560-F"

/-- The part number (R377). -/
def partNumber (s : State) : Nat := if isSmall s then 0x2560 else 0x5120

/-- The identity, boot and update objects that are no plain settings (R12, R410, R487). -/
def readBoot (s : State) (ix sub : Nat) : Option Val :=
  let num (n : Nat) : Option Val := some (.num n)
  let b := s.boot
  match ix, sub with
  | 0x1008, 1 => some (.bytes (asciiBytes (variantName s)))
  | 0x1009, 1 => num s.fuses.step.toNat
  | 0x100A, 1 => num (fwVersion s)
  | 0x1018, 1 => num s.fuses.serial.toNat
  | 0x1018, 2 => num (partNumber s)
  | 0x1F10, 1 => num (variantCode s)
  | 0x1F10, 2 => num (nChan s)
  | 0x1F10, 3 => num (nEmit s)
  | 0x1F10, 4 => num (nLane s)
  | 0x1F10, 5 => num (b2n (hasCam s))
  | 0x1F10, 6 => num (b2n (hasSafe s))
  | 0x1F10, 7 => num (if s.fuses.screenA then 0x41 else 0x53)
  | 0x1F10, 8 => num (feature s)
  | 0x1F30, 1 => num b.causes.toNat
  | 0x1F30, 2 => num b.last.toNat
  | 0x1F30, 4 => num (if b.ignored then 1 else if b.stuck then 2 else 0)
  | 0x1F40, 1 => num b.slot
  | 0x1F40, 2 => num b.mode
  | 0x1F40, 3 => num b.status0
  | 0x1F40, 4 => num b.status1
  | 0x1F40, 5 => num b.ver0
  | 0x1F40, 6 => num b.ver1
  | 0x1F40, 7 => num b.svn0
  | 0x1F40, 8 => num b.svn1
  | 0x1F40, 9 => num (rollbackCount s)
  | 0x1F40, 0x0A => num b.revoked.toNat
  | 0x1F40, 0x0C => num b.restored
  | 0x1F50, 1 => some (.bytes [])
  | 0x1F50, 3 => num (updCode b.upd)
  | 0x1F50, 4 => num b.target
  | 0x1F50, 5 => num b.programmed
  | 0x1F50, 6 => num b.reason
  | _, _ => none

/-- The write rules of the boot, update and persistence objects. -/
def hookBoot (r : Req) (ix sub : Nat) : Option (State → WriteHook) :=
  match ix, sub with
  | 0x1010, 1 => some (storeHook r)
  | 0x1011, 1 => some restoreHook
  | 0x1F21, _ => some (keyHook r sub)
  | 0x1F30, 1 => some causeHook
  | 0x1F30, 5 => some softResetHook
  | 0x1F40, 0x0A => some revokeHook
  | 0x1F40, 0x10 => some fwVoteHook
  | 0x1F50, 1 => some fun _ => {
      gate := fun s _ => if s.boot.upd = .opened && !s.boot.headerDue then none else some (abState, s)
      run := fun s _ => .done s }
  | 0x1F50, 2 => some (updateHook r)
  | _, _ => none

end Sys2Proof.Machine
end

