-- ==== Sys2Proof/Machine/BuvalLayer.lean ====
section
/-! DEFINITION. The Buval Safety Layer (R322 to R326): telegrams and their codes, the version negotiation, the status
telegram, sequence and watchdog of a consumer. -/

namespace Sys2Proof.Machine

/-- A connection. -/
def getBsl (s : State) (c : Nat) : Bsl := tgetD s.isl.bsl c {}

/-- The state with a connection changed. -/
def updBsl (s : State) (c : Nat) (f : Bsl → Bsl) : State := updIsl s fun i => { i with bsl := tset i.bsl c (f (getBsl s c)) }

/-- The connection is enabled (0x8400+c:01). -/
def bslOn (s : State) (c : Nat) : Bool := islOn s && s.isl.st != .init && odN s (0x8400 + c) 1 != 0

/-- The connection is required. -/
def bslRequired (s : State) (c : Nat) : Bool := odN s (0x8400 + c) 1 == 2

/-- The connection's role is consumer. -/
def bslConsumer (s : State) (c : Nat) : Bool := odN s (0x8400 + c) 2 == 1

/-! ### Telegrams (R322, R323) -/

/-- The safety code over the bytes before it and the connection's key. -/
def bslCode32 (s : State) (c : Nat) (b : Bytes) : Bytes :=
  leBytes 4 (crc32c (b ++ leBytes 4 (odN s (0x8400 + c) 0x0A))).toNat

/-- The authentication code over the bytes before it. -/
def bslMac (s : State) (c : Nat) (b : Bytes) : Bytes := (hmac256 (odBytes s (0x8400 + c) 0x0B) b).take 8

/-- The sender's time in ms. -/
def bslTime (s : State) : Nat := s.tick.num * 128 / 10000 % 2 ^ 32

/-- A telegram of the island. -/
def bslTelegram (s : State) (c ver type seq : Nat) (mac : Bool) (payload : Bytes) : Bytes :=
  let b := leBytes 1 ver ++ leBytes 1 type ++ leBytes 1 payload.length ++ leBytes 1 (b2n mac) ++
    leBytes 4 (odN s (0x8400 + c) 3) ++ leBytes 4 (odN s (0x8400 + c) 4) ++ leBytes 4 seq ++ leBytes 4 (bslTime s) ++ payload
  let b := b ++ bslCode32 s c b
  if mac then b ++ bslMac s c b else b

/-- A telegram goes out as process data on port 17224, with the connection's ComId (R414), while the network stack runs. -/
def bslPublish (s : State) (c : Nat) (tel : Bytes) : State :=
  if !netUp s then s
  else
    let n := tgetD s.net.bslSeq c 0
    send (updNet s fun x => { x with bslSeq := tset x.bslSeq c ((n + 1) % 2 ^ 32) })
      (.datagram (Config.bslAddress c) 17224 (pdTelegram n (odN s (0x8400 + c) 5) tel))

/-- A telegram leaves. -/
def bslSend (s : State) (c ver type seq : Nat) (mac : Bool) (payload : Bytes) : State :=
  let tel := bslTelegram s c ver type seq mac payload
  updBsl (bslPublish (send s (.bsl c tel)) c tel) c fun x => { x with sent := some s.tick.num }

/-- The status payload (R326). -/
def statusPayload (s : State) : Bytes :=
  let i := s.isl
  let ins := (List.range 4).foldl (fun a k =>
    let x := tgetD i.inputs k {}
    a + b2n x.value * 2 ^ k + b2n x.faulty * 2 ^ (4 + k)) 0
  leBytes 1 (islCode i.st) ++ leBytes 1 (b2n i.outA.on + 2 * b2n i.outB.on) ++ leBytes 2 (zoneBits s (·.violated)) ++
    leBytes 2 (zoneBits s (·.fault)) ++ leBytes 4 i.active.toNat ++ leBytes 1 ins ++ leBytes 1 i.cfgNum ++
    leBytes 4 i.cfgCrc.toNat

/-! ### The producer (R324) -/

/-- CONNECT: the versions supported and the category required. -/
def bslConnect (s : State) (c : Nat) : State :=
  bslSend (updBsl s c fun x => { x with st := .connecting }) c 1 0 0 false (leBytes 1 3 ++ leBytes 1 (odN s (0x8400 + c) 9))

/-- BSL_CYCLE (R324, R326): CONNECT until it is answered, then DATA. -/
def bslCycle (s : State) (c : Nat) : State :=
  let x := getBsl s c
  let due := (x.sent.map fun t => decide (odN s (0x8400 + c) 6 * 10000 ≤ since s t * 128)).getD true
  if !(bslOn s c) || bslConsumer s c || !due || x.rejected.isSome then s
  else if x.st = .data then
    bslSend (updBsl s c fun y => { y with nextSeq := (y.nextSeq + 1) % 2 ^ 32 }) c x.version 3 x.nextSeq x.mac (statusPayload s)
  else bslConnect s c

/-- BSL_CYCLE. -/
def execBslCycle (c : Fin 4) (s : State) : Host.Outcome State Fault Refusal := outcome s (bslCycle s c.val)

/-- BSL_RETRY (R324): 1 s after REJECT. -/
def bslRetry (s : State) (c : Nat) : State :=
  match (getBsl s c).rejected with
  | some t =>
    if bslOn s c && msTicks 1000 ≤ since s t then bslConnect (updBsl s c fun x => { x with rejected := none }) c else s
  | none => s

/-- BSL_RETRY. -/
def execBslRetry (c : Fin 4) (s : State) : Host.Outcome State Fault Refusal := outcome s (bslRetry s c.val)

/-! ### The consumer (R325) -/

/-- A sequence fault or a watchdog expiry: DOWN, payload 0, and BSL where the connection is required, a fault for each
connection that goes down (R327). -/
def bslDown (s : State) (c : Nat) : State :=
  let down := (getBsl s c).st == .down
  let s := bump (updBsl s c fun x => { x with st := .down, version := 0, payload := 0 }) 0x8001 6
  let s := inputCauses s
  islCheck (if !bslRequired s c then s else if down then islRaise s 5 else islFault s 5)

/-- The version that a consumer chooses for a map of versions and a category, if one qualifies (R324). -/
def bslChoose (versions category : Nat) : Option Nat :=
  if versions.testBit 1 then some 2 else if versions.testBit 0 && category < 3 then some 1 else none

/-- A CONNECT reaches a consumer, which answers it in every state; a producer that starts anew is heard again. -/
def bslAnswer (s : State) (c : Nat) (time : Nat) (payload : Bytes) : State :=
  let cat := max (fieldN payload 1 1) (odN s (0x8400 + c) 9)
  match bslChoose (fieldN payload 0 1) cat with
  | none => bslSend s c 1 2 0 false []
  | some v =>
    let s := updBsl s c fun x => { x with
      st := .connecting, version := v, mac := cat == 3, lastSeq := 0, lastTime := time, heard := s.tick.num }
    bslSend s c v 1 0 (cat == 3) (leBytes 1 v)

/-- Every required consumer delivers DATA. -/
def bslAllData (s : State) : Bool :=
  (List.range 4).all fun c => !(bslRequired s c && bslConsumer s c) || (getBsl s c).st == .data

/-- An accepted DATA telegram: its payload, and the events of a required connection (R316, R317). -/
def bslAccept (s : State) (c seq time : Nat) (payload : BitVec 8) : State :=
  let old := (getBsl s c).payload
  let rise (b : Nat) : Bool := payload.getLsbD b && !old.getLsbD b && bslRequired s c
  let s := updBsl s c fun x => { x with
    st := .data, lastSeq := seq, lastTime := time, heard := s.tick.num, payload := payload }
  let s := islCheck (inputCauses (if bslAllData s then causeSet s 5 false else s))
  let s := if rise 2 then islRestart s else s
  if rise 1 then islReset s else s

/-- A DATA telegram reaches a consumer (R325). -/
def bslData (s : State) (c seq time : Nat) (payload : Bytes) : State :=
  let x := getBsl s c
  let d := toSigned 32 ((seq + 2 ^ 32 - x.lastSeq) % 2 ^ 32)
  if d ≤ 0 then s
  else if 1 + (odN s (0x8400 + c) 8 : Int) < d || toSigned 32 ((time + 2 ^ 32 - x.lastTime) % 2 ^ 32) < 0 then bslDown s c
  else bslAccept s c seq time (payload.headD 0)

/-- A telegram whose code, addresses and form are right. -/
def bslTake (s : State) (c : Nat) (t : Bytes) : State :=
  let bad := bump s 0x8001 5
  let x := getBsl s c
  let ver := fieldN t 0 1
  let len := fieldN t 2 1
  let mac := (fieldN t 3 1).testBit 0
  let seq := fieldN t 12 4
  let time := fieldN t 16 4
  let p := slice t 20 len
  match fieldN t 1 1, bslConsumer s c with
  | 0, true =>
    if len ≠ 2 || seq ≠ 0 then bad else bslAnswer s c time p
  | 3, true =>
    if x.st = .down || len ≠ 1 || ver ≠ x.version then bad
    else if mac != x.mac then bump s 0x8001 4
    else bslData s c seq time p
  | 1, false =>
    if x.st ≠ .connecting || len ≠ 1 || seq ≠ 0 || !(fieldN p 0 1 == 1 || fieldN p 0 1 == 2) then bad
    else updBsl s c fun y => { y with
      st := .data, version := fieldN p 0 1, mac := mac || odN s (0x8400 + c) 9 == 3, nextSeq := 1 }
  | 2, false =>
    if x.st ≠ .connecting || len ≠ 0 || seq ≠ 0 then bad else updBsl s c fun y => { y with rejected := some s.tick.num }
  | _, _ => bad

/-- BSL_TELEGRAM_RECEIVE (R325). -/
def bslReceive (s : State) (c : Nat) (t : Bytes) : State :=
  let len := fieldN t 2 1
  let mac := fieldN t 3 1 == 1
  if !bslOn s c then s
  else if t.length < 24 || 32 < len || 1 < fieldN t 3 1 || t.length ≠ 24 + len + (if mac then 8 else 0) then bump s 0x8001 5
  else if slice t (20 + len) 4 ≠ bslCode32 s c (t.take (20 + len)) then bump s 0x8001 4
  else if mac && slice t (24 + len) 8 != bslMac s c (t.take (24 + len)) then bump s 0x8001 4
  else if fieldN t 4 4 ≠ odN s (0x8400 + c) 4 || fieldN t 8 4 ≠ odN s (0x8400 + c) 3 then bump s 0x8001 5
  else if !(fieldN t 0 1 == 2 || (fieldN t 0 1 == 1 && !mac)) then bump s 0x8001 5
  else bslTake s c t

/-- BSL_TELEGRAM_RECEIVE. -/
def execBslTelegramReceive (c : Fin 4) (t : Bytes) (s : State) : Host.Outcome State Fault Refusal :=
  outcome s (bslReceive s c.val t)

/-- BSL_WATCHDOG (R325): nothing accepted for the watchdog time. -/
def bslWatchdog (s : State) (c : Nat) : State :=
  let x := getBsl s c
  if bslOn s c && bslConsumer s c && x.st != .down && odN s (0x8400 + c) 7 * 10000 ≤ since s x.heard * 128 then bslDown s c
  else s

/-- BSL_WATCHDOG. -/
def execBslWatchdog (c : Fin 4) (s : State) : Host.Outcome State Fault Refusal := outcome s (bslWatchdog s c.val)

end Sys2Proof.Machine
end

