-- ==== Sys2Proof/Machine/Odx.lean ====
section
/-! DEFINITION. The ODX commands: sessions, roles, reads and writes, segments (R395 to R410, and the network's own
objects of R425). -/

namespace Sys2Proof.Machine

/-! ### The network's objects (R411, R412, R417, R425) -/

/-- A unicast IPv4 address: its first octet is 1 to 223. -/
def unicastIp (n : Nat) : Bool := 2 ^ 24 ≤ n && n < 224 * 2 ^ 24

/-- A contiguous mask: ones followed by zeros. -/
def contiguousMask (n : Nat) : Bool := (List.range 33).any fun k => n == 2 ^ 32 - 2 ^ k

/-- A write that takes effect once its answer has been sent, and closes the network sessions (R404, R425). -/
def addressHook (sub : Nat) (range : Val → Bool) (_ : State) : WriteHook where
  range := range
  run s v := .answered s fun s => closeVia (odSet s 0xD001 sub v) false

/-- Ring mode (R412): a breaker starts OPEN. -/
def ringModeHook (_ : State) : WriteHook where
  run s v :=
    let s := odSet s 0xD000 4 v
    .done { s with net := { s.net with
      ring := if valN v = 2 then 2 else 0, missRun := 0, seenRun := 0, lastRing := s.tick.num } }

/-- The write rules of the network objects. -/
def hookNet (ix sub : Nat) : Option (State → WriteHook) :=
  match ix, sub with
  | 0xD000, 4 => some ringModeHook
  | 0xD012, 3 => some fun _ => { range := fun v => valN v ≤ 1428 || valN v == 0xFFFF, run := keep 0xD012 3 }
  | 0xD001, 1 => some (addressHook 1 fun v => unicastIp (valN v))
  | 0xD001, 2 => some (addressHook 2 fun v => contiguousMask (valN v))
  | 0xD001, 3 => some (addressHook 3 fun _ => true)
  | _, _ => none

/-- Whether a session is of a peer's address. -/
def sessionFrom (ip : BitVec 32) : Transport → Bool
  | .mailbox => false
  | .trdp a _ _ => a == ip
  | .udp a _ => a == ip

/-- The bytes of a peer table entry (R417): the IPv4 address is a little-endian value (R16), the MAC address an octet string
as 0xD001:04 reads (assumption 67). -/
def peerBytes (s : State) (p : Peer) : Bytes :=
  leBytes 4 p.ip.toNat ++ beBytes 6 p.mac.toNat ++ leBytes 1 p.port ++
    leBytes 1 (b2n p.ann + 2 * b2n (s.odx.sessions.any fun x => sessionFrom p.ip x.via)) ++ leBytes 4 p.comId ++
    leBytes 4 (satN 32 (since s p.tick * 128 / 10000)) ++ leBytes 4 p.serial.toNat

/-- The network objects that are no plain settings. -/
def readNet (s : State) (ix sub : Nat) : Option Val :=
  match ix, sub with
  | 0xD000, 2 => some (.num s.net.link1)
  | 0xD000, 3 => some (.num s.net.link2)
  | 0xD000, 5 => some (.num s.net.ring)
  | 0xD001, 4 => some (.bytes (beBytes 6 s.fuses.mac.toNat))
  | 0xD020, 1 => some (.bytes (s.net.peers.flatMap (peerBytes s)))
  | _, _ => none

/-! ### Reading an object (R395, R397, R408) -/

/-- The tick objects and the session objects that every session reads alike. -/
def readTick (s : State) (ix sub : Nat) : Option Val :=
  match ix, sub with
  | 0x2000, 5 => some (.num (syncCode s.tick.sync))
  | 0x2000, 6 => some (.num s.tick.num)
  | 0x1F20, 1 => some (.num s.odx.sessions.length)
  | _, _ => none

/-- An object that is no plain setting, by unit. -/
def readUnits (s : State) (ix sub : Nat) : Option Val :=
  if ix < 0x2000 then (readTick s ix sub).orElse fun _ => readBoot s ix sub
  else if ix < 0x2100 then readTick s ix sub
  else if ix < 0x2120 then readPlan s ix sub
  else if ix < 0x3000 then readRx s ix sub
  else if ix = 0x3210 then readLanes s ix sub
  else if ix < 0x3300 then readRx s ix sub
  else if ix < 0x4000 then readPoints s ix sub
  else if ix < 0x5000 then (readEmit s ix sub).orElse fun _ => readPlan s ix sub
  else if ix < 0x6000 then readServo s ix sub
  else if ix < 0x7000 then (readCam s ix sub).orElse fun _ => readPoints s ix sub
  else if ix < 0x8000 then readAcq s ix sub
  else if ix < 0x9000 then readIsland s ix sub
  else if ix < 0xA000 then readPower s ix sub
  else if ix < 0xB000 then readIsland s ix sub
  else if ix < 0xC000 then readHk s ix sub
  else if ix < 0xD000 then readLanes s ix sub
  else (readNet s ix sub).orElse fun _ => readTime s ix sub

/-- The zero of a type: what a write-only object reads (R397). -/
def zeroVal : ObjTy → Val
  | .oct n => .bytes (zeros n)
  | .dom _ => .bytes []
  | .str => .bytes []
  | _ => .num 0

/-- The value of an object as a session reads it. -/
def objValue (s : State) (x : Session) (r : ObjRow) (ix sub : Nat) : Val :=
  if sub = 0 then .num (objTop ix)
  else if r.kind = .wo then zeroVal r.ty
  else if ix = 0x1F20 && sub = 4 then .num (roleCode x.role)
  else (readUnits s ix sub).getD (odGet s ix sub)

/-- Steps 1 and 2 of R408, and the bytes of the value. -/
def readObject (s : State) (x : Session) (ix sub : Nat) : Except Nat Bytes :=
  if !indexServed s ix then .error abNoObject
  else match objRow0 ix sub with
  | none => .error abNoSub
  | some r => if objPresent s r ix sub then .ok (encodeVal r.ty (objValue s x r ix sub)) else .error abAbsent

/-- The largest message of a request's way in (R400). -/
def maxMessage (r : Req) : Nat := if r.via = .mailbox then 4096 else 1024

/-- A positive answer with SEG: the payload begins with the total length. -/
def respondSeg (s : State) (r : Req) (cmd ix sub : Nat) (payload : Bytes) : State :=
  answer s r (odxMessage (verOf s r) cmd 5 r.session.toNat r.tag.toNat ix sub payload)

/-- READ (R407, R408): the value, or its total length, first chunk, and a snapshot. -/
def odxRead (s : State) (r : Req) (ix sub : Nat) (seg : Bool) : State :=
  withSession s r 3 ix sub [] seg fun s x =>
    match readObject s x ix sub with
    | .error c => respondAbort s r 3 ix sub c
    | .ok b =>
      let s := afterRead s ix sub
      if seg || maxMessage r - 16 < b.length then
        let n := min b.length (maxMessage r - 20)
        let y : Option Snapshot := if b.length = n then none
          else some { index := ix, sub := sub, value := b, read := [(0, n)], tick := s.tick.num }
        respondSeg (updSession s x.number fun x => { x with snap := y }) r 3 ix sub (leBytes 4 b.length ++ b.take n)
      else respond s r 3 ix sub b

/-- READ. -/
def execOdxRead (r : Req) (index : BitVec 16) (sub : BitVec 8) (seg : Bool) (s : State) :
    Host.Outcome State Fault Refusal := outcome s (odxRead s r index.toNat sub.toNat seg)

/-- The first offset from `p` on that none of the chunks holds. -/
def readThrough (l : List (Nat × Nat)) : Nat → Nat → Nat
  | 0, p => p
  | f + 1, p =>
    match l.find? fun q => q.1 ≤ p && p < q.1 + q.2 with
    | some q => readThrough l f (q.1 + q.2)
    | none => p

/-- READ_SEG (R407): a chunk of the snapshot at any offset below the total; the snapshot ends when all bytes are read. -/
def odxReadSeg (s : State) (r : Req) (ix sub : Nat) (payload : Bytes) : State :=
  withSession s r 5 ix sub payload false fun s x =>
    if payload.length ≠ 4 then respondAbort s r 5 ix sub abMessage
    else match x.snap with
    | none => respondAbort s r 5 ix sub abSegSeq
    | some y =>
      let o := leNat payload
      if y.index ≠ ix || y.sub ≠ sub || y.value.length ≤ o then respondAbort s r 5 ix sub abSegSeq
      else
        let b := slice y.value o (maxMessage r - 20)
        let l := (o, b.length) :: y.read
        let y' : Option Snapshot := if y.value.length ≤ readThrough l l.length 0 then none
          else some { y with read := l, tick := s.tick.num }
        respond (updSession s x.number fun x => { x with snap := y' }) r 5 ix sub (payload ++ b)

/-- READ_SEG. -/
def execOdxReadSeg (r : Req) (index : BitVec 16) (sub : BitVec 8) (payload : Bytes) (s : State) :
    Host.Outcome State Fault Refusal := outcome s (odxReadSeg s r index.toNat sub.toNat payload)

/-- READ_MULTI's entries in order: each a code, a length and a value, of which a value takes what room is left; and the
state after the reads. -/
def readMulti (x : Session) : Nat → Nat → Bytes → State → Bytes × State
  | _, 0, _, s => ([], s)
  | room, n + 1, p, s =>
    let entry (e : Bytes) (r : Bytes × State) : Bytes × State := (e ++ r.1, r.2)
    match readObject s x (fieldN p 0 2) (fieldN p 2 1) with
    | .error c => entry (leBytes 4 c ++ leBytes 2 0) (readMulti x room n (p.drop 4) s)
    | .ok b =>
      if b.length ≤ room then
        entry (leBytes 4 0 ++ leBytes 2 b.length ++ b)
          (readMulti x (room - b.length) n (p.drop 4) (afterRead s (fieldN p 0 2) (fieldN p 2 1)))
      else entry (leBytes 4 abLength ++ leBytes 2 0) (readMulti x room n (p.drop 4) s)

/-- READ_MULTI's request is 1 to 16 entries of four bytes, the last byte of each 0. -/
def multiOk (p : Bytes) : Bool :=
  p.length % 4 == 0 && 4 ≤ p.length && p.length ≤ 64 && (List.range (p.length / 4)).all fun i => p[4 * i + 3]? == some 0

/-- READ_MULTI (R401). -/
def odxReadMulti (s : State) (r : Req) (ix sub : Nat) (p : Bytes) : State :=
  withSession s r 9 ix sub p false fun s x =>
    if x.version < 2 || !multiOk p then respondAbort s r 9 ix sub abMessage
    else
      let m := readMulti x (maxMessage r - 16 - 6 * (p.length / 4)) (p.length / 4) p s
      respond m.2 r 9 ix sub m.1

/-- READ_MULTI. -/
def execOdxReadMulti (r : Req) (payload : Bytes) (s : State) : Host.Outcome State Fault Refusal :=
  outcome s (odxReadMulti s r 0 0 payload)

/-! ### Writing an object -/

/-- The rule of a write: its chapter's, or the value is kept. -/
def hookAll (r : Req) (ix sub : Nat) : State → WriteHook :=
  let h := match (hookNet ix sub).orElse fun _ => (hookBoot r ix sub).orElse fun _ => hookUnits r ix sub with
    | some h => h
    | none => plainHook ix sub
  if joinObject ix sub then joinHook h else h

/-- A write that waits is answered under the command of its request. -/
def retag (s : State) (r : Req) (cmd : Nat) : State :=
  { s with odx := { s.odx with longs := s.odx.longs.map fun l => if l.req = r then { l with cmd := BitVec.ofNat 8 cmd } else l } }

/-- A complete value is written. -/
def writeValue (s : State) (r : Req) (x : Session) (cmd ix sub : Nat) (data : Bytes) : State :=
  retag (writeObject s r x cmd ix sub data (hookAll r ix sub)) r cmd

/-- Where a chunk leaves a transfer (R407): unfinished, complete, or broken by its CRC or its length. -/
inductive SegResult where
  | more (got : Bytes)
  | whole (value : Bytes)
  | broken (code : Nat)

/-- A chunk joins a transfer; at 2.3 the completing segment carries the CRC of the whole value. -/
def segJoin (version total : Nat) (got chunk : Bytes) : SegResult :=
  let need := total - got.length
  if chunk.length < need then .more (got ++ chunk)
  else
    let v := got ++ chunk.take need
    let rest := chunk.drop need
    if version < 3 then (if rest.isEmpty then .whole v else .broken abLength)
    else if 4 < rest.length then .broken abLength
    else if rest = leBytes 4 (crc32 v).toNat then .whole v
    else .broken abSegCrc

/-- A chunk of an update image (R485): payload bytes wait for their programming, a header is answered at once. -/
def imageChunk (s : State) (r : Req) (n : Nat) (f : Xfer) (cmd : Nat) (got : Bytes) : State :=
  let s := updSession s n fun x => { x with xfer := some { f with got := got, prev := f.got.length, tick := s.tick.num } }
  let s := updBoot s fun b => { b with updHeader := got.take 4096 }
  if max 4096 f.got.length < got.length then
    { updBoot s fun b => { b with nor := .program } with odx := { s.odx with longs := s.odx.longs ++ [
      { kind := .segment, req := r, index := f.index, sub := f.sub, cmd := BitVec.ofNat 8 cmd }] } }
  else respond s r cmd f.index f.sub []

/-- A segment of a write: kept, or with it the value is written, or the transfer is discarded. -/
def takeChunk (s : State) (r : Req) (x : Session) (f : Xfer) (cmd : Nat) (chunk : Bytes) : State :=
  match segJoin x.version f.total f.got chunk with
  | .broken c => respondAbort (dropXfer s x.number) r cmd f.index f.sub c
  | .more got =>
    if f.index = 0x1F50 && f.sub = 1 then imageChunk s r x.number f cmd got
    else
      let s := updSession s x.number fun x => { x with
        xfer := some { f with got := got, prev := f.got.length, tick := s.tick.num } }
      respond s r cmd f.index f.sub []
  | .whole v =>
    if f.index = 0x1F50 && f.sub = 1 then imageChunk s r x.number f cmd v
    else writeValue (updSession s x.number fun x => { x with xfer := none }) r x cmd f.index f.sub v

/-- WRITE with SEG: a transfer opens in the place of the session's earlier one; where the object is busy, the first of steps
1 to 5 of R408 that fails is the answer. The image of an update is checked here,
since its segments are programmed as they come (R485). -/
def startXfer (s : State) (r : Req) (x : Session) (ix sub : Nat) (data : Bytes) : State :=
  let total := leNat (data.take 4)
  let begin_ (s : State) : State :=
    takeChunk (dropXfer s x.number) r x { index := ix, sub := sub, total := total, got := [], prev := 0, tick := s.tick.num }
      4 (data.drop 4)
  if data.length < 4 then respondAbort s r 4 ix sub abMessage
  else if writeBusy s x.number ix sub then
    match writeGrant s x ix sub with
    | .error c => respondAbort s r 4 ix sub c
    | .ok _ => begin_ s
  else if ix = 0x1F50 && sub = 1 then
    match writeChecksOf (dropXfer s x.number) x ix sub total (fun _ => .bytes []) (hookAll r ix sub) with
    | .error (c, s) => respondAbort s r 4 ix sub c
    | .ok _ => begin_ s
  else begin_ s

/-- WRITE (R407, R408). -/
def odxWrite (s : State) (r : Req) (ix sub : Nat) (data : Bytes) (seg : Bool) : State :=
  withSession s r 4 ix sub data seg fun s x =>
    if seg then startXfer s r x ix sub data else writeValue s r x 4 ix sub data

/-- WRITE. -/
def execOdxWrite (r : Req) (index : BitVec 16) (sub : BitVec 8) (data : Bytes) (seg : Bool) (s : State) :
    Host.Outcome State Fault Refusal := outcomeLost s (odxWrite s r index.toNat sub.toNat data seg)

/-- WRITE_SEG (R407): the chunk at the bytes received so far; the previous offset is answered again. -/
def odxWriteSeg (s : State) (r : Req) (ix sub : Nat) (payload : Bytes) : State :=
  withSession s r 6 ix sub payload false fun s x =>
    if payload.length < 4 then respondAbort s r 6 ix sub abMessage
    else match x.xfer with
    | none => respondAbort s r 6 ix sub abSegSeq
    | some f =>
      let o := leNat (payload.take 4)
      if f.index ≠ ix || f.sub ≠ sub then respondAbort s r 6 ix sub abSegSeq
      else if o = f.got.length then takeChunk s r x f 6 (payload.drop 4)
      else if o = f.prev then respond s r 6 ix sub []
      else respondAbort (dropXfer s x.number) r 6 ix sub abSegSeq

/-- WRITE_SEG. -/
def execOdxWriteSeg (r : Req) (index : BitVec 16) (sub : BitVec 8) (payload : Bytes) (s : State) :
    Host.Outcome State Fault Refusal := outcomeLost s (odxWriteSeg s r index.toNat sub.toNat payload)

/-! ### Sessions and roles (R402 to R404) -/

/-- The versions served: 2.0 to 2.3, in recovery mode 2.0 (R377, R480). -/
def odxVersions (s : State) : Nat := if s.boot.phase = .recovery then 1 else 15

/-- The highest version in a bit map. -/
def topVersion (m : Nat) : Option Nat := [3, 2, 1, 0].find? m.testBit

/-- A session number that is free: not 0, and of no open session. -/
def freshNumber (s : State) (f : Nat) : Nat :=
  let cand (i : Nat) : Nat := (f + i) % (2 ^ 32 - 1) + 1
  (((List.range 9).map cand).find? fun n => !s.odx.sessions.any fun x => x.number == n).getD (cand 0)

/-- The answer to an OPEN: a session exists only if it is opened (R402). -/
def openAnswer (s : State) (r : Req) (msg : Bytes) : State :=
  let s := carry (send s (.response r msg)) r msg
  if r.via = .mailbox then mailboxTake s msg else s

/-- An OPEN that aborts. -/
def openAbort (s : State) (r : Req) (code : Nat) : State :=
  openAnswer s r (odxMessage 0x20 1 3 0 r.tag.toNat 0 0 (leBytes 4 code))

/-- OPEN (R402, R403). -/
def odxOpen (s : State) (r : Req) (ver : Nat) (p : Bytes) : State :=
  if netWaits s r then netQueue s r (odxMessage ver 1 0 r.session.toNat r.tag.toNat 0 0 p)
  else if !taking s || (s.boot.phase = .recovery && r.via ≠ .mailbox) then s
  else if ver / 16 ≠ 2 || p.length ≠ 1 then openAbort (netTurn s r) r abMessage
  else
    let s := netTurn s r
    let mbx := r.via == .mailbox
    let s := if mbx then closeVia s true else s
    match topVersion (leNat p &&& odxVersions s) with
    | none => openAbort s r abVersion
    | some v =>
      if 8 ≤ s.odx.sessions.length then openAbort s r abNoSession
      else
        let f := takeFree s
        let n := freshNumber s f.1
        let x : Session := { number := n, via := r.via, role := if mbx then .host else .net, version := v, lastReq := s.tick.num }
        let s := { f.2 with odx := { f.2.odx with sessions := f.2.odx.sessions ++ [x] } }
        openAnswer s r (odxMessage (0x20 + v) 1 1 n r.tag.toNat 0 0
          (leBytes 1 (roleCode x.role) ++ leBytes 2 (maxMessage r) ++ leBytes 2 (odN s 0x1F20 2)))

/-- OPEN. -/
def execOdxOpen (r : Req) (version : BitVec 8) (payload : Bytes) (s : State) : Host.Outcome State Fault Refusal :=
  outcome s (odxOpen s r version.toNat payload)

/-- CLOSE: answered, then the session ends with its role and its unfinished transfers. -/
def odxClose (s : State) (r : Req) (ix sub : Nat) : State :=
  withSession s r 2 ix sub [] false fun s x => closeSession (respond s r 2 ix sub []) x.number

/-- CLOSE. -/
def execOdxClose (r : Req) (s : State) : Host.Outcome State Fault Refusal := outcome s (odxClose s r 0 0)

/-- KEEPALIVE counts as a request (R404). -/
def odxKeepalive (s : State) (r : Req) (ix sub : Nat) : State :=
  withSession s r 10 ix sub [] false fun s x =>
    if x.version < 3 then respondAbort s r 10 ix sub abMessage else respond s r 10 ix sub []

/-- KEEPALIVE. -/
def execOdxKeepalive (r : Req) (s : State) : Host.Outcome State Fault Refusal := outcome s (odxKeepalive s r 0 0)

/-- The roles that AUTH raises to. -/
def raisedRole (n : Nat) : Option Role := if n = 2 then some .safeCfg else if n = 3 then some .service else none

/-- CHALLENGE (R403): a nonce of the hardware random generator. -/
def odxChallenge (s : State) (r : Req) (ix sub : Nat) (p : Bytes) : State :=
  withSession s r 7 ix sub p false fun s x =>
    match (if x.version < 1 || p.length ≠ 1 then none else raisedRole (leNat p)) with
    | none => respondAbort s r 7 ix sub abMessage
    | some role =>
      let b := (List.range 16).map (Config.randomByte s.free)
      let s := { s with free := s.free + 1 }
      respond (updSession s x.number fun x => { x with nonce := some { role := role, val := b, tick := s.tick.num } })
        r 7 ix sub b

/-- CHALLENGE. -/
def execOdxChallenge (r : Req) (payload : Bytes) (s : State) : Host.Outcome State Fault Refusal :=
  outcome s (odxChallenge s r 0 0 payload)

/-- The key of a role (0x1F21). -/
def roleKey (s : State) (role : Role) : Bytes := if role = .safeCfg then s.odx.keySafe else s.odx.keyServ

/-- AUTH's code matches: the nonce is of the role and at most 10 s old, the key is not zero but for SERVICE over the
mailbox, and the code is the HMAC's first half (R403). -/
def authMatches (s : State) (r : Req) (x : Session) (role : Role) (code : Bytes) : Bool :=
  match x.nonce with
  | none => false
  | some c =>
    let key := roleKey s role
    c.role == role && since s c.tick ≤ 781250 && (key.any (· != 0) || (role == .service && r.via == .mailbox)) &&
      (hmac256 key (c.val ++ leBytes 4 x.number ++ leBytes 1 (roleCode role))).take 16 == code

/-- The failed AUTHs of a request's kind of transport. -/
def authOf (s : State) (r : Req) : AuthSt := if r.via = .mailbox then s.odx.authMbx else s.odx.authNet

/-- The state with the failed AUTHs of a kind of transport. -/
def setAuth (s : State) (mbx : Bool) (a : AuthSt) : State :=
  { s with odx := if mbx then { s.odx with authMbx := a } else { s.odx with authNet := a } }

/-- 60 s in ticks. -/
def lockTicks : Nat := 4687500

/-- A failed AUTH: the third within 60 s locks the transport for 60 s. -/
def authFailed (s : State) (r : Req) : State :=
  let a := authOf s r
  let l := s.tick.num :: a.fails.filter fun t => since s t < lockTicks
  bump (setAuth s (r.via == .mailbox) (if 3 ≤ l.length then { fails := [], lockout := some s.tick.num }
    else { a with fails := l })) 0x1F20 5

/-- AUTH (R403). -/
def odxAuth (s : State) (r : Req) (ix sub : Nat) (p : Bytes) : State :=
  withSession s r 8 ix sub p false fun s x =>
    if x.version < 1 || p.length ≠ 17 then respondAbort s r 8 ix sub abMessage
    else if ((authOf s r).lockout.map fun t => decide (since s t < lockTicks)).getD false then
      respondAbort s r 8 ix sub abAuth
    else
      let s' := updSession s x.number fun x => { x with nonce := none }
      match raisedRole (leNat (p.take 1)) with
      | none => respondAbort (authFailed s' r) r 8 ix sub abAuth
      | some role =>
        if authMatches s r x role (p.drop 1) then
          respond (updSession s' x.number fun x => { x with role := role }) r 8 ix sub (leBytes 1 (roleCode role))
        else respondAbort (authFailed s' r) r 8 ix sub abAuth

/-- AUTH. -/
def execOdxAuth (r : Req) (payload : Bytes) (s : State) : Host.Outcome State Fault Refusal :=
  outcome s (odxAuth s r 0 0 payload)

/-- AUTH_LOCKOUT_END (R403): 60 s have passed. -/
def execAuthLockoutEnd (via : Transport) (s : State) : Host.Outcome State Fault Refusal :=
  outcome s <|
    let a := if via = .mailbox then s.odx.authMbx else s.odx.authNet
    match a.lockout with
    | some t => if lockTicks ≤ since s t then setAuth s (via == .mailbox) { a with lockout := none } else s
    | none => s

/-- SESSION_IDLE_TIMEOUT (R404): the network session at a place of the session list has had no request for the idle
timeout. -/
def execSessionIdleTimeout (sess : Fin 8) (s : State) : Host.Outcome State Fault Refusal :=
  outcome s <| match s.odx.sessions[sess.val]? with
  | some x =>
    if x.via ≠ .mailbox && odN s 0x1F20 2 * 1000 * 10000 ≤ since s x.lastReq * 128 then closeSession s x.number else s
  | none => s

/-- A transfer has stood still for 5 s (R407). -/
def stale (s : State) (t : Nat) : Bool := 390625 ≤ since s t

/-- SEGMENT_TRANSFER_TIMEOUT (R407): the write transfer, and the snapshot, that had no segment for 5 s. -/
def segmentTimeout (s : State) (x : Session) : State :=
  let s := if (x.xfer.map fun f => stale s f.tick).getD false then dropXfer s x.number else s
  if (x.snap.map fun y => stale s y.tick).getD false then updSession s x.number fun x => { x with snap := none } else s

/-- SEGMENT_TRANSFER_TIMEOUT. -/
def execSegmentTransferTimeout (sess : Fin 8) (s : State) : Host.Outcome State Fault Refusal :=
  outcome s <| match s.odx.sessions[sess.val]? with
  | some x => segmentTimeout s x
  | none => s

/-! ### A message as it comes (R400, R401) -/

/-- The header fields of a message are those of a request: the length, the version, the flags, the reserved bytes. -/
def headerOk (msg : Bytes) (limit : Nat) : Bool :=
  msg.length ≤ limit && msg.length == 16 + fieldN msg 10 2 && 0x20 ≤ fieldN msg 0 1 && fieldN msg 0 1 < 0x24 &&
    (fieldN msg 2 1 == 0 || fieldN msg 2 1 == 4) && fieldN msg 3 1 == 0 && fieldN msg 15 1 == 0

/-- The session and tag of a message. -/
def reqOf (via : Transport) (msg : Bytes) : Req :=
  { via := via, session := BitVec.ofNat 32 (fieldN msg 4 4), tag := BitVec.ofNat 16 (fieldN msg 8 2) }

/-- A message whose header can be read is handled by its command; an invalid one is answered with MESSAGE_INVALID. -/
def odxMessageIn (s : State) (via : Transport) (msg : Bytes) : State :=
  let r := reqOf via msg
  let ix := fieldN msg 12 2
  let sub := fieldN msg 14 1
  let seg := fieldN msg 2 1 == 4
  let p := msg.drop 16
  if netWaits s r then netQueue s r msg
  else if !taking s || (s.boot.phase = .recovery && via ≠ .mailbox) then s
  else if !headerOk msg (maxMessage r) then
    openAnswer (netTurn s r) r (odxMessage 0x20 (fieldN msg 1 1) 3 r.session.toNat r.tag.toNat ix sub (leBytes 4 abMessage))
  else match fieldN msg 1 1 with
  | 1 => odxOpen s r (fieldN msg 0 1) p
  | 2 => odxClose s r ix sub
  | 3 => odxRead s r ix sub seg
  | 4 => odxWrite s r ix sub p seg
  | 5 => odxReadSeg s r ix sub p
  | 6 => odxWriteSeg s r ix sub p
  | 7 => odxChallenge s r ix sub p
  | 8 => odxAuth s r ix sub p
  | 9 => odxReadMulti s r ix sub p
  | 10 => odxKeepalive s r ix sub
  | c => withSession s r c ix sub p seg fun s _ => respondAbort s r c ix sub abMessage

/-! ### The two queues (R405) -/

/-- The mailbox holds a request. -/
def mboxHolds (s : State) : Bool := s.host.mbox.state == .queued

/-- Waiting requests of the network are taken, at most so many: one at a time, and where the mailbox holds one too, by turns. -/
def netServe : Nat → State → State
  | 0, s => s
  | f + 1, s =>
    match s.odx.netQ with
    | [] => s
    | (via, msg) :: rest =>
      if !taking s || (mboxHolds s && s.odx.turnMbx) then s
      else
        let t := odxMessageIn { s with odx := { s.odx with netQ := [], turnMbx := false } } via msg
        if t.boot.phase = .held then t
        else netServe f { t with odx := { t.odx with netQ := rest ++ t.odx.netQ, turnMbx := mboxHolds t } }

/-- The network's requests that can be taken now. -/
def netServeAll (s : State) : State := netServe s.odx.netQ.length s

end Sys2Proof.Machine
end

