-- ==== Sys2Proof/Machine/HostIf.lean ====
section
/-! DEFINITION. The PCI Express attachment: the register window, interrupts, the mailbox, the data port, the push rings
and the access-fault log (R371 to R394), and the internal address space (R49, R50). -/

namespace Sys2Proof.Machine

/-! ### Reach -/

/-- The host's requests reach the device: the link is up and the function in D0, firmware or the recovery server runs,
HOST is powered. -/
def hostReach (s : State) : Bool :=
  s.host.linkUp && !s.host.d3 && (s.boot.phase == .firmware || s.boot.phase == .recovery) && domUp s .host &&
    !s.pwr.starting.getLsbD (domBit .host)

/-- HOST is idle in DOZE: only the offsets below 0x48 of BAR0 are served (R437). -/
def hostIdle (s : State) : Bool := s.pwr.idle.getLsbD (domBit .host)

/-- A BAR0 access at an offset: served, or logged as UNPOWERED. -/
def hostAt (s : State) (off : Nat) (write : Bool) (k : State → State) : State :=
  if !hostReach s then s
  else if hostIdle s && 0x48 ≤ off then
    let s := logAccess s off 1 1 write
    if write then s else send s (.readData (List.replicate 4 0xFF))
  else k s

/-- A posted write to a register that has a command of its own. -/
def hostWriteAt (s : State) (off : Nat) (k : State → State) : State := hostAt s off true k

/-- A read of a register that has a command of its own: the value is returned. -/
def hostReadAt (s : State) (off : Nat) (k : State → Nat × State) : State :=
  hostAt s off false fun s => let r := k s; send r.2 (.readData (leBytes 4 r.1))

/-- The state with the host fields changed. -/
def updHost (s : State) (f : HostSt → HostSt) : State := { s with host := f s.host }

/-! ### The link (R372) -/

/-- PCIE_LINK_TRAINED: rate, width, Bus Master Enable and max payload size as trained and configured, in DOZE too
(R427). -/
def linkTrained (s : State) (speed width : Nat) (bme : Bool) (mps : Nat) : State :=
  if !domUp s .host || !(within 1 4 speed) || !([1, 2, 4, 8].contains width) || !([128, 256, 512].contains mps) then s
  else updHost s fun h => { h with linkUp := true, speed := speed, width := width, bme := bme, mps := mps }

/-- PCIE_LINK_TRAINED. -/
def execPcieLinkTrained (speed : Fin 5) (width : Fin 9) (bme : Bool) (mps : Fin 513) (s : State) :
    Host.Outcome State Fault Refusal := outcome s (linkTrained s speed.val width.val bme mps.val)

/-! ### Time latch and votes (R378, R379) -/

/-- LATCH: the device time of the arriving write; one latch runs at a time, and VALID reads 0 until it completes. -/
def latchTime (s : State) (cycle : Nat) : State :=
  if s.host.latching.isSome then s
  else updHost s fun h => { h with latching := some (timeAt s cycle % 2 ^ 60), timeValid := false }

/-- LATCH. -/
def execTimeLatch (cycle : Nat) (s : State) : Host.Outcome State Fault Refusal :=
  outcome s (hostWriteAt s 0x30 fun s => latchTime s cycle)

/-- LATCH_COMPLETE: TIME_LO, TIME_HI and VALID are written, and TIME is set. -/
def latchComplete (s : State) : State :=
  match s.host.latching with
  | some t =>
    setInt (updHost s fun h => { h with
      timeLo := t % 2 ^ 32, timeHi := t / 2 ^ 32, timeValid := true, latching := none }) 18
  | none => s

/-- LATCH_COMPLETE. -/
def execLatchComplete (s : State) : Host.Outcome State Fault Refusal := outcome s (latchComplete s)

/-- TIME_HI with VALID, which the read clears (R378). -/
def readTimeHi (s : State) : Nat × State :=
  let h := s.host
  (b2n h.timeValid * 2 ^ 31 + h.timeHiLatch.getD h.timeHi,
    { s with host := { h with timeValid := false, timeHiLatch := none } })

/-- TIME_HI_READ. -/
def execTimeHiRead (s : State) : Host.Outcome State Fault Refusal := outcome s (hostReadAt s 0x38 readTimeHi)

/-- The votes of a write: absent units' bits read 0 and ignore writes (R379). -/
def presentVotes (s : State) (v : BitVec 9) : BitVec 9 :=
  let v := if hasCam s then v else v &&& ~~~domMask .cam
  if hasSafe s then v else v &&& ~~~domMask .safe

/-- A write of VOTE (R379, R440): the handshake starts; a bit that rises is a wake event. -/
def writeVote (s : State) (w : BitVec 9) : State :=
  let v := presentVotes s w
  let rise := v &&& ~~~s.host.vote != 0
  let s := castVote (updHost s fun h => { h with vote := v }) .host v
  if rise then wakeEvent s 4 else s

/-- VOTE. -/
def execVoteWrite (v : BitVec 32) (s : State) : Host.Outcome State Fault Refusal :=
  outcome s (hostWriteAt s 0x40 fun s => writeVote s (v.setWidth 9))

/-! ### Interrupts (R380, R381) -/

/-- A write to INT_STATUS or RING_INT: bits clear, and each vector still asserted sends a further message. -/
def clearInts (s : State) (ring : Bool) (v : BitVec 32) : State :=
  let s := updHost s fun h => { h with
    ringInt := if ring then h.ringInt &&& ~~~v.setWidth 16 else h.ringInt
    intStatus := if ring then h.intStatus else h.intStatus &&& ~~~v.setWidth 21 }
  sendVecs s (asserted s)

/-- INTERRUPT_STATUS_CLEAR. -/
def execInterruptStatusClear (ring : Bool) (v : BitVec 32) (s : State) : Host.Outcome State Fault Refusal :=
  outcome s (hostWriteAt s (if ring then 0x88 else 0x80) fun s => clearInts s ring v)

/-- The messages of pending vectors that nothing masks any more. -/
def sendPending (s : State) : State :=
  let m := if s.host.funMask then 0 else s.host.pba &&& ~~~s.host.vecMask
  sendVecs (updHost s fun h => { h with pba := h.pba &&& ~~~m }) m

/-- A vector, or the function, is unmasked (R381). -/
def unmask (s : State) (vec : Option Nat) : State :=
  match vec with
  | some v => sendPending (updHost s fun h => { h with vecMask := h.vecMask &&& ~~~(1#64 <<< v) })
  | none => sendPending (updHost s fun h => { h with funMask := false })

/-- MSIX_UNMASK. -/
def execMsixUnmask (vec : Option (Fin 64)) (s : State) : Host.Outcome State Fault Refusal :=
  outcome s (hostWriteAt s 0xF0000 fun s => unmask s (vec.map (·.val)))

/-! ### The mailbox (R382, R383) -/

/-- The mailbox changed. -/
def updMbox (s : State) (f : Mailbox → Mailbox) : State := updHost s fun h => { h with mbox := f h.mbox }

/-- The request buffer and its length may be written: IDLE or DONE. -/
def mboxFree (s : State) : Bool := s.host.mbox.state == .idle || s.host.mbox.state == .done

/-- The mailbox ends in DONE without a response. -/
def mboxEnd (s : State) (status : Nat) : State :=
  setInt (updMbox s fun m => { m with state := .done, status := status, respLen := 0, valid := true }) 0

/-- GO: a bad length ends at once, else the request is queued. -/
def mboxGo (s : State) : State :=
  if !mboxFree s then logAccess s 0x100 1 4 true
  else if s.host.mbox.reqLen = 0 || 4096 < s.host.mbox.reqLen then mboxEnd s 1
  else updMbox s fun m => { m with state := .queued }

/-- GO. -/
def execMailboxGo (s : State) : Host.Outcome State Fault Refusal := outcome s (hostWriteAt s 0x100 mboxGo)

/-- ABORT: a queued request is removed. -/
def mboxAbort (s : State) : State := if s.host.mbox.state = .queued then mboxEnd s 2 else s

/-- ABORT. -/
def execMailboxAbort (s : State) : Host.Outcome State Fault Refusal := outcome s (hostWriteAt s 0x100 mboxAbort)

/-- The request that waits: REQ_LEN bytes of the request buffer. -/
def mboxRequest (s : State) : Bytes :=
  let m := s.host.mbox
  m.req.take m.reqLen ++ zeros (m.reqLen - m.req.length)

/-- The queued request is taken and answered, at once or later (R405). A message too short for a header ends as a bad
length. -/
def mailboxGrant (s : State) : State :=
  if s.host.mbox.state ≠ .queued || !taking s then s
  else
    let s := { s with odx := { s.odx with turnMbx := false } }
    let msg := mboxRequest s
    if msg.length < 16 then mboxEnd s 1
    else odxMessageIn (updMbox s fun m => { m with state := .busy }) .mailbox msg

/-- MAILBOX_RESPONSE: the service controller takes the queued request; by turns with the network's queue where that holds
requests too (R405). -/
def mailboxServe (s : State) : State :=
  netServeAll (mailboxGrant (if mboxHolds s && !s.odx.turnMbx then netServe 1 s else s))

/-- MAILBOX_RESPONSE. -/
def execMailboxResponse (s : State) : Host.Outcome State Fault Refusal := outcomeLost s (mailboxServe s)

/-- The code of a mailbox state. -/
def mboxCode : MboxState → Nat
  | .idle => 0
  | .queued => 1
  | .busy => 2
  | .done => 3

/-- The mailbox result with VALID, which the read clears (R382). -/
def readMboxStatus (s : State) : Nat × State :=
  let m := s.host.mbox
  (b2n m.valid * 2 ^ 31 + m.status * 2 ^ 28 + m.respLen, updMbox s fun m => { m with valid := false })

/-- MAILBOX_STATUS_READ. -/
def execMailboxStatusRead (s : State) : Host.Outcome State Fault Refusal := outcome s (hostReadAt s 0x108 readMboxStatus)

/-! ### The internal address space (R49, R50, R386) -/

/-- The client code of the log (R393). -/
def clientCode : BusClient → Nat
  | .host => 2
  | .service => 0x10
  | .plan => 0x11
  | .cal => 0x12
  | .acq => 0x20

/-- The mailbox session holds the SERVICE role (R386). -/
def mboxService (s : State) : Bool := s.odx.sessions.any fun x => x.via == .mailbox && x.role == .service

/-- The offset in the histogram window lies in a channel of an absent quadrant (R119). -/
def histAbsent (s : State) (o : Nat) : Bool :=
  if o < 0x800000 then nChan s ≤ o / 0x4000
  else if o < 0xA80000 then nChan s ≤ (o - 0x800000) / 0x1400
  else if o < 0xB00000 then nChan s ≤ (o - 0xA80000) / 0x400
  else o < 0xB08000 && nChan s ≤ (o - 0xB00000) / 0x40

/-- The unit that an address of the block-register space belongs to: its domain, and whether the variant has it. The
manual gives the space to all units without placing them (R49), so the placing is open (assumption 60); the converter's data
register is at its stated address (R465). -/
def regUnit (s : State) (o : Nat) : Dom × Bool :=
  if o / 4 = 0xB00000 / 4 then (.core, true)
  else
    let k := Config.regUnit (o / 4) % 28
    if k < 8 then (.rx, 64 * k < nChan s)
    else if k < 16 then (.emit, 8 * (k - 8) < nEmit s)
    else if k < 20 then (.lanes, 4 * (k - 16) < nLane s)
    else match k with
      | 20 => (.servo, true)
      | 21 => (.cam, hasCam s)
      | 22 => (.host, true)
      | 23 => (.mem, true)
      | 24 => (.safe, hasSafe s)
      | 25 => (.aon, true)
      | _ => (.core, true)

/-- Why an access to a block register is faulty: never for an absent unit (R7, R8). -/
def regFault (s : State) (c : BusClient) (write : Bool) (o : Nat) : Option Nat :=
  let u := regUnit s o
  if !u.2 then none
  else if write && c = .host then some 3
  else if u.1 = .aon || domOn s u.1 then none
  else some 1

/-- Why an access to an address is faulty, by the type code of the log. -/
def busFault (s : State) (c : BusClient) (write : Bool) (a : Nat) : Option Nat :=
  let r := a / 2 ^ 32
  let o := a % 2 ^ 32
  if r = 0 then
    if min s.fuses.qdr 0x4800000 ≤ o then some 2 else if domOn s .mem then none else some 1
  else if r = 1 then
    if histAbsent s o then none
    else if !histMapped o then some 2
    else if write then some 3
    else if domOn s .rx then none
    else some 1
  else if r = 2 && o < 0x1000000 then regFault s c write o
  else if r = 3 && o < 0x4000000 then (if write then some 3 else none)
  else if r = 4 && o < 0x100000 then
    if c = .acq || (c = .host && !mboxService s) then some 2
    else if write && c = .host then some 3
    else none
  else some 2

/-- The byte of an image slot at its offset in the NOR (R476, R477). -/
def slotByte (x : Slot) (o : Nat) : Byte :=
  if o < 4096 then x.header[o]?.getD 0xFF else x.payload[o - 4096]?.getD 0xFF

/-- The byte at an address, free of faults; `n` is a draw for what the manual does not lay out, `hk` the data register
of the housekeeping converter. -/
def busByte (s : State) (n : Nat) (hk : BitVec 32) (a : Nat) : Byte :=
  let r := a / 2 ^ 32
  let o := a % 2 ^ 32
  if r = 0 then memGet s.qdr o
  else if r = 1 then (if histAbsent s o then 0 else histByte s o)
  else if r = 2 && 0xB00000 ≤ o && o < 0xB00004 then BitVec.ofNat 8 (hk.toNat >>> (8 * (o - 0xB00000)))
  else if r = 3 && o < 0x1800000 then slotByte s.boot.slot0 o
  else if r = 3 && o < 0x3000000 then slotByte s.boot.slot1 (o - 0x1800000)
  else if r = 2 && !(regUnit s o).2 then 0
  else if r = 4 && (tget s.boot.localMem o).isSome then tgetD s.boot.localMem o 0
  else Config.innerByte n a

/-- The addresses of an access, modulo 2^40. -/
def busAddrs (a len : Nat) : List Nat := (List.range len).map fun i => (a + i) % 2 ^ 40

/-- The first faulty address of an access with its type. -/
def firstFault (s : State) (c : BusClient) (write : Bool) (l : List Nat) : Option (Nat × Nat) :=
  l.findSome? fun a => (busFault s c write a).map fun t => (a, t)

/-- An access is logged once, at its first faulty address; an internal client receives a bus error (R394). -/
def busLog (s : State) (c : BusClient) (write : Bool) (l : List Nat) : State :=
  match firstFault s c write l with
  | none => s
  | some (a, t) =>
    let s := logAccess s a (clientCode c) t write
    if c = .host then setInt (updHost s fun h => { h with dp := { h.dp with errFault := true } }) 1
    else send s (.busError c)

/-- A read: faulty bytes read 0xFF; any length at any address is served, of the histogram window too (R119; assumption 71).
Reading the converter's data register has that register's effect. -/
def busRead (s : State) (c : BusClient) (a len : Nat) : Bytes × State :=
  let l := busAddrs a len
  let hk : BitVec 32 × State := if l.any fun x => 0x200B00000 ≤ x && x < 0x200B00004 then readHkData s else (0, s)
  let b := l.map fun x => if (busFault s c false x).isSome then 0xFF else busByte s s.free hk.1 x
  (b, busLog { hk.2 with free := hk.2.free + 1 } c false l)

/-- A write: it reaches the QDR memory and the controllers' local memories, byte by byte where nothing is faulty. -/
def busWrite (s : State) (c : BusClient) (a : Nat) (data : Bytes) : State :=
  let l := busAddrs a data.length
  let m := (l.zip data).foldl (fun m (p : Nat × Byte) =>
    if p.1 < 2 ^ 32 && (busFault s c true p.1).isNone then memSet m p.1 p.2 else m) s.qdr
  let lm := (l.zip data).foldl (fun m (p : Nat × Byte) =>
    if p.1 / 2 ^ 32 = 4 && (busFault s c true p.1).isNone then tset m (p.1 % 2 ^ 32) p.2 else m) s.boot.localMem
  busLog { s with qdr := m, boot := { s.boot with localMem := lm } } c true l

/-- INTERNAL_BUS_ACCESS (R50): an access of a controller or ACQ, by its length or the bytes to be written. -/
def busAccess (s : State) (c : BusClient) (a len : Nat) (wr : Option Bytes) : State :=
  if s.boot.phase = .held || !domOn s .core then s
  else match wr with
  | some d => busWrite s c a d
  | none => let r := busRead s c a len; send r.2 (.readData r.1)

/-- INTERNAL_BUS_ACCESS. -/
def execInternalBusAccess (client : BusClient) (addr : BitVec 40) (len : Nat) (wr : Option Bytes) (s : State) :
    Host.Outcome State Fault Refusal := outcomeMem s (busAccess s client addr.toNat len wr)

/-! ### The data port (R384 to R387) and pull reads (R392) -/

/-- The data port changed. -/
def updDp (s : State) (f : DataPort → DataPort) : State := updHost s fun h => { h with dp := f h.dp }

/-- An aperture request that is not served: all ones, or the write dropped; logged. -/
def dpRefuse (s : State) (a len type : Nat) (write : Bool) : State :=
  let s := logAccess s a 2 type write
  if write then s else send s (.readData (List.replicate len 0xFF))

/-- An error bit of DP_STATUS, which sets HOST_ERR. -/
def dpError (s : State) (f : DataPort → DataPort) : State := setInt (updDp s f) 1

/-- A pull read consumes what it returns; beyond AVAIL it returns zeros and reports UNDERRUN. -/
def pullRead (s : State) (r len : Nat) : State :=
  let x := getRing s r
  let n := if x.pull then min len (ringAvail x) else 0
  let b := pullBytes (x.staged.length + 1) x.staged x.pulled n
  let s := setRing s r { x with staged := b.2.1, pulled := b.2.2 }
  let s := send s (.readData (b.1 ++ zeros (len - n)))
  if n < len then dpError s fun d => { d with underrun := true } else s

/-- A request of BAR2 (R385). -/
def dpAccess (s : State) (off len : Nat) (wr : Option Bytes) (full : Bool) : State :=
  let d := s.host.dp
  let w := wr.isSome
  let a := if d.window then (d.addr.toNat + off) % 2 ^ 40 else d.addr.toNat
  let len := (wr.map (·.length)).getD len
  if !hostReach s then s
  else if hostIdle s then dpRefuse s a len 1 w
  else if !d.enable then dpError (dpRefuse s a len 6 w) fun d => { d with errFault := true }
  else if off % 4 ≠ 0 || len % 4 ≠ 0 || len = 0 || !full || (if w then s.host.mps else 4096) < len then
    dpError (dpRefuse s a len 5 w) fun d => { d with errSize := true }
  else if d.sel ≠ 0 then
    if d.window then dpError (dpRefuse s a len 7 w) fun d => { d with config := true }
    else if w then dpError (dpRefuse s a len 3 w) fun d => { d with errFault := true }
    else if len % 8 ≠ 0 then dpError (dpRefuse s a len 5 w) fun d => { d with errSize := true }
    else updDp (pullRead s (d.sel.toNat % 16) len) fun d => { d with addr := d.addr + BitVec.ofNat 40 len }
  else
    let s := match wr with
      | some b => busWrite s .host a b
      | none => let r := busRead s .host a len; send r.2 (.readData r.1)
    if d.window then s else updDp s fun d => { d with addr := d.addr + BitVec.ofNat 40 len }

/-- DATA_PORT_ACCESS. -/
def execDataPortAccess (off : BitVec 24) (len : Nat) (wr : Option Bytes) (full : Bool) (s : State) :
    Host.Outcome State Fault Refusal := outcomeMem s (dpAccess s off.toNat len wr full)

/-- PULL_READ (R392): an aperture read while the ring is selected. -/
def execPullRead (r : Fin 16) (len : Nat) (s : State) : Host.Outcome State Fault Refusal :=
  outcomeMem s (if s.host.dp.sel.toNat = 0x10 + r.val then dpAccess s 0 len none true else s)

/-! ### Push rings (R388 to R391) -/

/-- The offset of a ring's register. -/
def ringReg (r k : Nat) : Nat := 0x400 + 0x40 * r + k

/-- RING_ENABLE. -/
def execRingEnable (r : Fin 16) (s : State) : Host.Outcome State Fault Refusal :=
  outcome s (hostWriteAt s (ringReg r.val 0x0C) fun s => enableRing s r.val)

/-- RING_DISABLE. -/
def execRingDisable (r : Fin 16) (s : State) : Host.Outcome State Fault Refusal :=
  outcome s (hostWriteAt s (ringReg r.val 0x0C) fun s => disableRing s r.val)

/-- TAIL_WRITE. -/
def execTailWrite (r : Fin 16) (v : BitVec 32) (s : State) : Host.Outcome State Fault Refusal :=
  outcome s (hostWriteAt s (ringReg r.val 0x14) fun s => writeTail s r.val v.toNat)

/-- RING_ENTRY_PUBLISH. -/
def execRingEntryPublish (r : Fin 16) (s : State) : Host.Outcome State Fault Refusal :=
  outcome s (if domOn s .host then publish s r.val else s)

/-- RING_SIGNAL_TIMER. -/
def execRingSignalTimer (r : Fin 16) (s : State) : Host.Outcome State Fault Refusal :=
  outcome s (if domOn s .host then ringTimer s r.val else s)

/-- A drop counter, which the read clears (R388). -/
def readDrops (r : Nat) (records : Bool) (s : State) : Nat × State :=
  let x := getRing s r
  if records then (x.dropRecords, setRing s r { x with dropRecords := 0 })
  else (x.dropUnits, setRing s r { x with dropUnits := 0 })

/-- RING_DROP_COUNTER_READ. -/
def execRingDropCounterRead (r : Fin 16) (records : Bool) (s : State) : Host.Outcome State Fault Refusal :=
  outcome s (hostReadAt s (ringReg r.val (if records then 0x2C else 0x28)) (readDrops r.val records))

/-! ### The access-fault log (R393) -/

/-- POP: the oldest entry is removed. -/
def popLog (s : State) : State := updHost s fun h => { h with log := h.log.drop 1 }

/-- POP. -/
def execFaultLogPop (s : State) : Host.Outcome State Fault Refusal := outcome s (hostWriteAt s 0x304 popLog)

/-- LOST and COUNT; the read clears LOST. -/
def readLog (s : State) : Nat × State :=
  (s.host.lost * 2 ^ 16 + s.host.log.length, updHost s fun h => { h with lost := 0 })

/-- ACCESS_FAULT_LOG_READ. -/
def execAccessFaultLogRead (s : State) : Host.Outcome State Fault Refusal := outcome s (hostReadAt s 0x300 readLog)

/-! ### The register window (R375 to R377) -/

/-- A word of the oldest entry of the log. -/
def logWord (s : State) (k : Nat) : Nat :=
  match s.host.log with
  | [] => 0
  | e :: _ =>
    match k with
    | 0 => e.addr % 2 ^ 32
    | 1 => e.client * 2 ^ 24 + e.type * 2 ^ 20 + b2n e.write * 2 ^ 8 + e.addr / 2 ^ 32 % 256
    | _ => e.tick % 2 ^ 32

/-- STAGE_FULL: certain when not even the shortest entry fits or the longest one does, else as the next unit decides,
which the manual leaves open. -/
def stageFull (s : State) (x : Ring) : Bool :=
  let room := 262144 - stagedBytes x
  if room < 16 then true else if 131088 ≤ room then false else Config.freeNat s.free % 2 = 1

/-- A register of a ring; a pull-mode ring reads HEAD and TAIL as 0 (R392). -/
def ringWord (s : State) (r k : Nat) : Nat :=
  let x := getRing s r
  match k with
  | 0x00 => x.base.toNat % 2 ^ 32
  | 0x04 => x.base.toNat / 2 ^ 32
  | 0x08 => x.size
  | 0x0C => b2n x.enable + 2 * b2n x.pull + 4 * b2n x.hwb
  | 0x10 => if x.pull then 0 else x.head
  | 0x14 => if x.pull then 0 else x.tail
  | 0x18 => x.hwbAddr.toNat % 2 ^ 32
  | 0x1C => x.hwbAddr.toNat / 2 ^ 32
  | 0x20 => x.intBytes
  | 0x24 => x.intUsec
  | 0x28 => x.dropUnits
  | 0x2C => x.dropRecords
  | 0x30 => ringAvail x
  | 0x34 => b2n (x.enable && hostReady s) + 2 * b2n (stageFull s x) + 4 * b2n x.tailErr
  | _ => 0

/-- A word of an MSI-X table entry. -/
def msixWord (s : State) (v k : Nat) : Nat :=
  match k with
  | 0 => (tgetD s.host.vecAddr v 0).toNat % 2 ^ 32
  | 4 => (tgetD s.host.vecAddr v 0).toNat / 2 ^ 32
  | 8 => (tgetD s.host.vecData v 0).toNat
  | _ => b2n (s.host.vecMask.getLsbD v)

/-- A register word of BAR0 without the effects of its read; reserved offsets read 0. -/
def regWord (s : State) (off : Nat) : Nat :=
  let h := s.host
  if off < 0x400 then
    match off with
    | 0x00 => partNumber s * 2 ^ 16 + s.fuses.step.toNat * 2 ^ 8 + 1
    | 0x04 => fwVersion s
    | 0x08 => feature s
    | 0x0C => 15
    | 0x10 => s.fuses.serial.toNat % 2 ^ 32
    | 0x14 => s.fuses.serial.toNat / 2 ^ 32
    | 0x18 => pcieLimit s * 2 ^ 16 + h.width * 16 + h.speed
    | 0x1C => s.fuses.qdr
    | 0x20 => ((s.plan.running.map (·.id)).getD 0) * 2 ^ 24 + islandCode s * 2 ^ 8 + emissionCode s * 16 + pCode s.pwr.state
    | 0x24 => s.tick.num % 2 ^ 32
    | 0x28 => s.tick.num / 2 ^ 32 % 2 ^ 32
    | 0x34 => h.timeLo
    | 0x38 => b2n h.timeValid * 2 ^ 31 + h.timeHi
    | 0x40 => h.vote.toNat
    | 0x44 => b2n (tget s.pwr.sending 0).isSome * 2 ^ 31 + s.pwr.hostV.toNat
    | 0x80 => h.intStatus.toNat
    | 0x84 => h.intEnable.toNat
    | 0x88 => h.ringInt.toNat
    | 0x8C => h.ringEnable.toNat
    | 0x104 => h.mbox.reqLen
    | 0x108 => (readMboxStatus s).1
    | 0x10C => mboxCode h.mbox.state
    | 0x200 => h.dp.addr.toNat % 2 ^ 32
    | 0x204 => h.dp.addr.toNat / 2 ^ 32
    | 0x208 => h.dp.sel.toNat * 2 ^ 24 + b2n h.dp.window * 2 + b2n h.dp.enable
    | 0x20C => b2n h.dp.errSize + 2 * b2n h.dp.errFault + 4 * b2n h.dp.underrun + 8 * b2n h.dp.config
    | 0x300 => (readLog s).1
    | 0x308 => logWord s 0
    | 0x30C => logWord s 1
    | 0x310 => logWord s 2
    | _ => 0
  else if off < 0x800 then ringWord s ((off - 0x400) / 0x40) (off % 0x40)
  else if 0x1000 ≤ off && off < 0x2000 then fieldN h.mbox.req (off - 0x1000) 4
  else if 0x2000 ≤ off && off < 0x3000 then fieldN h.mbox.resp (off - 0x2000) 4
  else if 0xF0000 ≤ off && off < 0xF0400 then msixWord s ((off - 0xF0000) / 16) (off % 16)
  else if off = 0xF8000 then h.pba.toNat % 2 ^ 32
  else if off = 0xF8004 then h.pba.toNat / 2 ^ 32
  else 0

/-- What a read of a register changes: the fields that a read clears (RC). -/
def readClears (s : State) (off : Nat) : State :=
  if off = 0x38 then updHost s fun h => { h with timeValid := false }
  else if off = 0x108 then (readMboxStatus s).2
  else if off = 0x300 then (readLog s).2
  else if 0x400 ≤ off && off < 0x800 && off % 0x40 = 0x28 then (readDrops ((off - 0x400) / 0x40) false s).2
  else if 0x400 ≤ off && off < 0x800 && off % 0x40 = 0x2C then (readDrops ((off - 0x400) / 0x40) true s).2
  else if 0x400 ≤ off && off < 0x800 && off % 0x40 = 0x34 then { s with free := s.free + 1 }
  else s

/-- A 32-bit read: a lower half latches its upper half, and an upper half that is latched returns what was latched
(R375). -/
def readWord (s : State) (off : Nat) : Nat × State :=
  let h := s.host
  let s' := readClears s off
  match off with
  | 0x24 => (regWord s off, updHost s' fun h => { h with tickHi := some (regWord s 0x28) })
  | 0x28 => (h.tickHi.getD (regWord s off), updHost s' fun h => { h with tickHi := none })
  | 0x34 => (regWord s off, updHost s' fun h => { h with timeHiLatch := some h.timeHi })
  | 0x38 => readTimeHi s
  | 0x200 => (regWord s off, updHost s' fun h => { h with addrHi := some (regWord s 0x204) })
  | 0x204 => (h.addrHi.getD (regWord s off), updHost s' fun h => { h with addrHi := none })
  | _ => (regWord s off, s')

/-- A word of a 64-bit read: no lower half latches, and an upper half that is latched returns what was latched (R375;
assumption 58). -/
def readWide (s : State) (off : Nat) : Nat × State :=
  if off = 0x28 || off = 0x38 || off = 0x204 then readWord s off else (regWord s off, readClears s off)

/-- The doublewords of the capabilities of R371 and R373, as the PCI specifications lay them out: the offset, the value after
a reset, the bits that have this value or are software's, and the bits software writes; the other bits are open
(PRESUMED, assumption 61). -/
def capRegs (s : State) : List (Nat × Nat × Nat × Nat) :=
  let h := s.host
  let all := 2 ^ 32 - 1
  let ext (id next : Nat) : Nat := id + 2 ^ 16 + next % 2 ^ 12 * 2 ^ 20
  let pm := Config.pmCapability
  let pc := Config.pcieCapability
  let mx := Config.msixCapability
  let sn := Config.serialCapability
  let sc := Config.secondaryCapability
  let ph := Config.physCapability
  let mg := Config.marginCapability
  let ss := Config.substateCapability
  [(pm, 0x30001 + pc % 256 * 256, 0x0607FFFF, 0), (pm + 4, 3 * b2n h.d3, 3, 0),
    (pc, 0x20010 + mx % 256 * 256, 0x00FFFFFF, 0), (pc + 4, 0x10000002, 0x10000007, 0),
    (pc + 8, (Nat.log2 h.mps - 7) * 32, 0x0000F8FF, 0x0000700F), (pc + 0x0C, 0x884, 0xFFF, 0),
    (pc + 0x10, (h.speed + h.width * 16) * 2 ^ 16, 0x03FF0043, 0x42), (pc + 0x30, 4, 0xF, 0xF),
    (mx, 0x3F0011 + b2n h.funMask * 2 ^ 30, all, 2 ^ 31), (mx + 4, 0xF0000, all, 0), (mx + 8, 0xF8000, all, 0),
    (0x100, ext 0x01 sn, all, 0), (0x108, 0, 0x07FFF030, 0x07FFF030), (0x10C, 0x00462030, 0x07FFF030, 0x07FFF030),
    (0x114, 0x2000, 0xF1C1, 0xF1C1),
    (sn, ext 0x03 sc, all, 0), (sn + 4, s.fuses.serial.toNat % 2 ^ 32, all, 0), (sn + 8, s.fuses.serial.toNat / 2 ^ 32, all, 0),
    (sc, ext 0x19 ph, all, 0), (sc + 4, 0, 3, 3), (ph, ext 0x26 mg, all, 0), (mg, ext 0x27 ss, all, 0),
    (ss, ext 0x1E 0, all, 0), (ss + 4, 0x1F, 0x1F, 0), (ss + 8, 0, 0xF, 0xF)] ++
  (List.range 8).map fun l => (mg + 8 + 4 * l, 0x9C38, 0xFF7F, 0xFF7F)

/-- A doubleword of the configuration space (R373): the header as PCI lays it out and the capabilities; the rest is open
(assumption 61). -/
def cfgWord (s : State) (off : Nat) : Nat :=
  let h := s.host
  match off with
  | 0x00 => partNumber s * 2 ^ 16 + Config.vendorId.toNat
  | 0x04 => 0x100000 + 4 * b2n h.bme
  | 0x08 => 0x118000 * 256 + s.fuses.step.toNat
  | 0x10 => h.bar0.toNat % 2 ^ 32 / 2 ^ 20 * 2 ^ 20 + 4
  | 0x14 => h.bar0.toNat / 2 ^ 32
  | 0x18 => h.bar2.toNat % 2 ^ 32 / 2 ^ 24 * 2 ^ 24 + 4
  | 0x1C => h.bar2.toNat / 2 ^ 32
  | 0x20 => 0
  | 0x24 => 0
  | _ =>
    let free := fieldN ((List.range 4).map fun i => Config.innerByte s.free (off + i)) 0 4
    match (capRegs s).find? (·.1 == off) with
    | some (_, v, known, soft) =>
      let own := ((tget h.caps off).map (·.toNat)).getD v
      (free &&& (2 ^ 32 - 1 - known)) ||| (v &&& known &&& (2 ^ 32 - 1 - soft)) ||| (own &&& soft)
    | none => if off = 0x34 then Config.pmCapability % 256 else free

/-- A read of the configuration space; while the device boots the endpoint asks for a retry (R481). -/
def cfgRead (s : State) (off : Nat) : State :=
  if s.boot.phase = .rom then send s .cfgRetry
  else if !s.host.linkUp then s
  else send { s with free := s.free + 1 } (.readData (leBytes 4 (cfgWord s (off / 4 * 4))))

/-- A write of a capability (R371): the power state, the max payload size and a Function Level Reset, which keeps the link
(R374), the function mask of MSI-X (R381); the bits software writes are kept. -/
def capWrite (s : State) (off v : Nat) : State :=
  let keep (s : State) : State := updHost s fun h =>
    if (capRegs s).any (·.1 == off) then { h with caps := tset h.caps off (BitVec.ofNat 32 v) } else h
  if off = Config.pmCapability + 4 then
    updHost s fun h => if v % 4 = 3 then { h with d3 := true } else if v % 4 = 0 then { h with d3 := false } else h
  else if off = Config.pcieCapability + 8 then
    if v.testBit 15 then
      updHost (pcieReset s) fun h => { h with linkUp := true }
    else
      let code := v / 32 % 8
      updHost (keep s) fun h => { h with mps := if code ≤ 2 then 128 * 2 ^ code else h.mps }
  else if off = Config.msixCapability then
    let s := keep s
    if v.testBit 30 then updHost s fun h => { h with funMask := true } else unmask s none
  else keep s

/-- A write of the configuration space: Bus Master Enable, the base addresses, and the capabilities. -/
def cfgWrite (s : State) (off : Nat) (v : Nat) : State :=
  if s.boot.phase = .rom then send s .cfgRetry
  else if !s.host.linkUp then s
  else match off with
    | 0x04 => updHost s fun h => { h with bme := v.testBit 2 }
    | 0x10 => updHost s fun h => { h with bar0 := BitVec.ofNat 64 (h.bar0.toNat / 2 ^ 32 * 2 ^ 32 + v) }
    | 0x14 => updHost s fun h => { h with bar0 := BitVec.ofNat 64 (h.bar0.toNat % 2 ^ 32 + v * 2 ^ 32) }
    | 0x18 => updHost s fun h => { h with bar2 := BitVec.ofNat 64 (h.bar2.toNat / 2 ^ 32 * 2 ^ 32 + v) }
    | 0x1C => updHost s fun h => { h with bar2 := BitVec.ofNat 64 (h.bar2.toNat % 2 ^ 32 + v * 2 ^ 32) }
    | _ => capWrite s off v

/-- A read of BAR0 (R375): 32 or 64 bits, naturally aligned; any other is logged and reads all ones. -/
def bar0Read (s : State) (a : RegRead) : State :=
  let off := a.off.toNat
  if a.cfg then cfgRead s off
  else if !hostReach s then s
  else if !a.full || !((a.size = 4 && off % 4 = 0) || (a.size = 8 && off % 8 = 0)) then
    send (logAccess s off 1 5 false) (.readData (List.replicate (max 4 a.size) 0xFF))
  else if a.size = 4 then hostReadAt s off fun s => readWord s off
  else if hostIdle s && 0x48 ≤ off then
    send (logAccess s off 1 1 false) (.readData (List.replicate 8 0xFF))
  else
    let x := readWide s off
    let y := readWide x.2 (off + 4)
    send y.2 (.readData (leBytes 4 x.1 ++ leBytes 4 y.1))

/-- UPPER_HALF_LATCH_READ (R375): a read of the register window. -/
def execUpperHalfLatchRead (a : RegRead) (s : State) : Host.Outcome State Fault Refusal := outcome s (bar0Read s a)

/-- A write of DP_CTL (R384): the locked fields change only while the port is disabled. A reserved SEL value sets CONFIG in
either case; while ENABLE is 1 both refusals apply, and the one entry of the access has type LOCKED (assumption 58). -/
def writeDpCtl (s : State) (v : Nat) : State :=
  let d := s.host.dp
  let sel := v / 2 ^ 24
  let win := v.testBit 1
  let known := sel = 0 || within 0x10 0x1F sel
  let s := if known then s else dpError s fun d => { d with config := true }
  let s :=
    if d.enable then (if sel ≠ d.sel.toNat || win ≠ d.window then logAccess s 0x208 1 4 true else s)
    else
      let s := updDp s fun d => { d with window := win }
      if known then updDp s fun d => { d with sel := BitVec.ofNat 8 sel } else logAccess s 0x208 1 7 true
  updDp s fun d => { d with enable := v.testBit 0 }

/-- A write of the request buffer or of REQ_LEN: only in IDLE and DONE (R382). -/
def writeMbox (s : State) (off : Nat) (f : Mailbox → Mailbox) : State :=
  if mboxFree s then updMbox s f else logAccess s off 1 4 true

/-- A write of a locked register of a ring: only while the ring is disabled (R388). -/
def writeRingLocked (s : State) (r k : Nat) (f : Ring → Ring) : State :=
  if (getRing s r).enable then logAccess s (ringReg r k) 1 4 true else setRing s r (f (getRing s r))

/-- A write of a ring's control word: HWB and MODE are locked while the ring is enabled. -/
def writeRingCtl (s : State) (r v : Nat) : State :=
  let x := getRing s r
  let s :=
    if x.enable then
      (if v.testBit 1 ≠ x.pull || v.testBit 2 ≠ x.hwb then logAccess s (ringReg r 0x0C) 1 4 true else s)
    else setRing s r { x with pull := v.testBit 1, hwb := v.testBit 2 }
  if v.testBit 0 then enableRing s r else disableRing s r

/-- Half of a 64-bit register replaced. -/
def setHalf (x : BitVec 64) (hi : Bool) (v : Nat) : BitVec 64 :=
  BitVec.ofNat 64 (if hi then v * 2 ^ 32 + x.toNat % 2 ^ 32 else x.toNat / 2 ^ 32 * 2 ^ 32 + v)

/-- A write of a ring's register. -/
def writeRing (s : State) (r k v : Nat) : State :=
  let x := getRing s r
  match k with
  | 0x00 => writeRingLocked s r k fun x => { x with base := setHalf x.base false (v / 4096 * 4096) }
  | 0x04 => writeRingLocked s r k fun x => { x with base := setHalf x.base true v }
  | 0x08 => writeRingLocked s r k fun x => if within 12 28 (v % 32) then { x with size := v % 32 } else x
  | 0x0C => writeRingCtl s r v
  | 0x14 => writeTail s r v
  | 0x18 => writeRingLocked s r k fun x => { x with hwbAddr := setHalf x.hwbAddr false (v / 8 * 8) }
  | 0x1C => writeRingLocked s r k fun x => { x with hwbAddr := setHalf x.hwbAddr true v }
  | 0x20 => setRing s r { x with intBytes := v % 2 ^ 28 }
  | 0x24 => setRing s r { x with intUsec := v % 2 ^ 16 }
  | 0x34 => setRing s r { x with tailErr := x.tailErr && !v.testBit 2 }
  | _ => s

/-- A write of the MSI-X table; clearing a mask bit unmasks the vector. -/
def writeMsix (s : State) (n k v : Nat) : State :=
  match k with
  | 0 => updHost s fun h => { h with vecAddr := tset h.vecAddr n (setHalf (tgetD h.vecAddr n 0) false v) }
  | 4 => updHost s fun h => { h with vecAddr := tset h.vecAddr n (setHalf (tgetD h.vecAddr n 0) true v) }
  | 8 => updHost s fun h => { h with vecData := tset h.vecData n (BitVec.ofNat 32 v) }
  | _ =>
    if v.testBit 0 then updHost s fun h => { h with vecMask := h.vecMask ||| (1#64 <<< n) } else unmask s (some n)

/-- Bytes written into a buffer, which grows with zeros where it must. -/
def bufferWrite (b : Bytes) (o : Nat) (d : Bytes) : Bytes := splice (b ++ zeros (o - b.length)) o d

/-- The effect of a 32-bit write to a BAR0 register that arrives in a REF cycle of the tick; read-only and reserved offsets
ignore it (R13, R18). -/
def writeReg (s : State) (off : Nat) (w : BitVec 32) (cycle : Nat) : State :=
  let v := w.toNat
  if off < 0x400 then
    match off with
    | 0x30 => if v.testBit 0 then latchTime s cycle else s
    | 0x40 => writeVote s (w.setWidth 9)
    | 0x80 => clearInts s false w
    | 0x84 => withHostBits s fun h => { h with intEnable := w.setWidth 21 }
    | 0x88 => clearInts s true w
    | 0x8C => withHostBits s fun h => { h with ringEnable := w.setWidth 16 }
    | 0x100 =>
      let s := if v.testBit 1 then mboxAbort s else s
      if v.testBit 0 then mboxGo s else s
    | 0x104 => writeMbox s off fun m => { m with reqLen := v % 2 ^ 13 }
    | 0x200 => updDp s fun d => { d with addr := BitVec.ofNat 40 (d.addr.toNat / 2 ^ 32 * 2 ^ 32 + v) }
    | 0x204 => updDp s fun d => { d with addr := BitVec.ofNat 40 (v % 256 * 2 ^ 32 + d.addr.toNat % 2 ^ 32) }
    | 0x208 => writeDpCtl s v
    | 0x20C => updDp s fun d => { d with
        errSize := d.errSize && !v.testBit 0, errFault := d.errFault && !v.testBit 1
        underrun := d.underrun && !v.testBit 2, config := d.config && !v.testBit 3 }
    | 0x304 => if v.testBit 0 then popLog s else s
    | _ => s
  else if off < 0x800 then writeRing s ((off - 0x400) / 0x40) (off % 0x40) v
  else if 0x1000 ≤ off && off < 0x2000 then
    writeMbox s off fun m => { m with req := bufferWrite m.req (off - 0x1000) (leBytes 4 v) }
  else if 0xF0000 ≤ off && off < 0xF0400 then writeMsix s ((off - 0xF0000) / 16) (off % 16) v
  else s

/-- A write to BAR0 (R375): 32 bits, aligned, all byte enables; any other is dropped and logged. -/
def bar0Write (s : State) (a : RegWrite) : State :=
  let off := a.off.toNat
  if a.cfg then cfgWrite s (off / 4 * 4) a.v.toNat
  else if !hostReach s then s
  else if a.size ≠ 4 || off % 4 ≠ 0 || !a.full then logAccess s off 1 5 true
  else hostWriteAt s off fun s => writeReg s off a.v a.cycle

/-- REGISTER_WRITE. -/
def execRegisterWrite (a : RegWrite) (s : State) : Host.Outcome State Fault Refusal := outcome s (bar0Write s a)

end Sys2Proof.Machine
end

