-- ==== Sys2Proof/Machine/Net.lean ====
section
/-! DEFINITION. The field network: the switch and its ring, the network stack, TRDP, direct ODX and the peers (R411 to
R417, R423, R440). The header layouts of Ethernet, IPv4, UDP, ICMP, IGMP, ARP, PTP and TRDP are those of their
standards. -/

namespace Sys2Proof.Machine

/-! ### Peers (R417) -/

/-- A peer is heard: its entry is renewed, or enters the table, if need be in the place of the one heard longest ago. -/
def hearPeer (s : State) (src : NetFrom) (comId : Nat) (ann : Option (BitVec 32)) : State :=
  let l := s.net.peers
  match l.find? fun p => p.ip == src.ip with
  | some _ => updNet s fun n => { n with peers := l.map fun p =>
      if p.ip = src.ip then { p with
        mac := src.mac, port := src.port.val, comId := comId, tick := s.tick.num
        ann := p.ann || ann.isSome, serial := ann.getD p.serial }
      else p }
  | none =>
    let p : Peer := { ip := src.ip, mac := src.mac, port := src.port.val, ann := ann.isSome, comId := comId
                      tick := s.tick.num, serial := ann.getD 0 }
    if l.length < 32 then updNet s fun n => { n with peers := l ++ [p] }
    else
      let t := l.foldl (fun m q => min m q.tick) s.tick.num
      match l.find? fun q => q.tick == t with
      | some q => bump (updNet s fun n => { n with peers := l.erase q ++ [p] }) 0xD020 3
      | none => s

/-- PEER_AGE_OUT: nothing heard for the age limit. -/
def peerAgeOut (s : State) (ip : BitVec 32) : State :=
  let l := s.net.peers.filter fun p => p.ip != ip || since s p.tick * 128 < odN s 0xD020 2 * 10000000
  updNet s fun n => { n with peers := l }

/-- PEER_AGE_OUT. -/
def execPeerAgeOut (ip : BitVec 32) (s : State) : Host.Outcome State Fault Refusal := outcome s (peerAgeOut s ip)

/-! ### Messages on port 17225 (R414) -/

/-- The header of a TRDP telegram of `n` header bytes: major version 1, its FCS, and a dataset within the datagram. -/
def trdpHeaderOk (t : Bytes) (n : Nat) : Bool :=
  n ≤ t.length && fieldN t 4 1 == 1 && fieldN t (n - 4) 4 == (crc32 (t.take (n - 4))).toNat &&
    beField t 20 4 ≤ t.length - n

/-- A message data telegram's header: 116 bytes, of a kind of message data. -/
def mdHeaderOk (t : Bytes) : Bool :=
  trdpHeaderOk t 116 && fieldN t 6 1 == 0x4D && [0x6E, 0x72, 0x70, 0x71, 0x63, 0x65].contains (fieldN t 7 1)

/-- What a message request says of its caller. -/
def mdCall (t : Bytes) : MdCall :=
  { session := BitVec.ofNat 128 (beField t 28 16), source := BitVec.ofNat 256 (beField t 48 32)
    dest := BitVec.ofNat 256 (beField t 80 32) }

/-- A datagram that is discarded and counted. -/
def discardDatagram (s : State) : State := bump s 0xD010 3

/-- An ODX message of the network, or a discard where its header cannot be read (R400). -/
def netMessage (s : State) (via : Transport) (msg : Bytes) : State :=
  if msg.length < 16 then discardDatagram s else odxMessageIn s via msg

/-- A datagram on port 17225: an Mr with the ODX ComId, direct ODX, or a discard. -/
def port17225 (s : State) (src : NetFrom) (d : Bytes) : State :=
  if !netUp s then s
  else if mdHeaderOk d then
    let com := beField d 8 4
    let s := hearPeer s src com none
    if fieldN d 7 1 = 0x72 && com = odN s 0xD010 1 then
      netMessage s (.trdp src.ip src.udp (mdCall d)) (slice d 116 (beField d 20 4))
    else discardDatagram s
  else if d.take 4 = [0x4F, 0x44, 0x58, 0x32] && odB s 0xD010 2 then
    netMessage (hearPeer s src 0 none) (.udp src.ip src.udp) (d.drop 4)
  else discardDatagram s

/-- TRDP_MESSAGE_REQUEST. -/
def execTrdpMessageRequest (src : NetFrom) (tel : Bytes) (s : State) : Host.Outcome State Fault Refusal :=
  outcomeLost s (port17225 s src tel)

/-- DIRECT_ODX. -/
def execDirectOdx (src : NetFrom) (dgram : Bytes) (s : State) : Host.Outcome State Fault Refusal :=
  outcomeLost s (port17225 s src dgram)

/-! ### Process data (R415, R416, R322) -/

/-- A REAL32 of a dataset in the byte order of 0xD012:04, as the bytes of a write. -/
def speedField (s : State) (d : Bytes) (o : Nat) : Option Bytes :=
  if o + 4 ≤ d.length then some (if odN s 0xD012 4 = 0 then (slice d o 4).reverse else slice d o 4) else none

/-- A write of one of the speed objects in the role NET, without an answer. -/
def netWrite (s : State) (ip : BitVec 32) (sub : Nat) (b : Bytes) : Option State :=
  let x : Session := { number := 0, via := .trdp ip 0 {}, role := .net, version := 0, lastReq := s.tick.num }
  match writeChecks s x 0x2110 sub b (speedHook sub) with
  | .error _ => none
  | .ok v => match (speedHook sub s).run s v with
    | .done s => some s
    | _ => none

/-- A received speed dataset: both values are written, or neither. -/
def speedDataset (s : State) (src : NetFrom) (comId : Nat) (d : Bytes) : State :=
  if !netUp s || odN s 0xD012 1 = 0 || comId ≠ odN s 0xD012 1 || src.dst.toNat ≠ odN s 0xD012 5 then s
  else
    let s := hearPeer s src comId none
    let o := odN s 0xD012 3
    let r := (speedField s d (odN s 0xD012 2)).bind fun b => (netWrite s src.ip 1 b).bind fun s' =>
      if o = 0xFFFF then some s' else (speedField s d o).bind fun b => netWrite s' src.ip 2 b
    match r with
    | some s' => bump s' 0xD012 6
    | none => bump s 0xD012 7

/-- SPEED_DATASET. -/
def execSpeedDataset (src : NetFrom) (comId : BitVec 32) (data : Bytes) (s : State) : Host.Outcome State Fault Refusal :=
  outcome s (speedDataset s src comId.toNat data)

/-- The dataset of the announcement (R415). -/
def announcementData (s : State) : Bytes :=
  leBytes 8 s.fuses.serial.toNat ++ leBytes 2 (partNumber s) ++ leBytes 1 s.fuses.step.toNat ++
    leBytes 1 (pCode s.pwr.state) ++ leBytes 1 (emissionCode s) ++ leBytes 1 (islandCode s) ++
    leBytes 1 (odOr (readTime s 0xD030 3)) ++ [0] ++ leBytes 4 (fwVersion s)
where
  odOr (o : Option Val) : Nat := (o.map valN).getD 0

/-- ANNOUNCEMENT: due at its period while its ComId is not 0. -/
def announce (s : State) : State :=
  let due := (s.net.lastAnn.map fun t => decide (odN s 0xD011 2 * 10000 ≤ since s t * 128)).getD true
  if !netUp s || odN s 0xD011 1 = 0 || !due then s
  else
    let t := pdTelegram (s.net.annSeq % 2 ^ 32) (odN s 0xD011 1) (announcementData s)
    send (updNet s fun n => { n with lastAnn := some s.tick.num, annSeq := n.annSeq + 1 })
      (.datagram (BitVec.ofNat 32 (odN s 0xD011 3)) 17224 t)

/-- ANNOUNCEMENT. -/
def execAnnouncement (s : State) : Host.Outcome State Fault Refusal := outcome s (announce s)

/-- A datagram on port 17224: pushed process data, by its ComId an announcement, a speed dataset, a BSL telegram. -/
def port17224 (s : State) (src : NetFrom) (t : Bytes) : State :=
  if !trdpHeaderOk t 40 || fieldN t 6 1 ≠ 0x50 || fieldN t 7 1 ≠ 0x64 then s
  else
    let com := beField t 8 4
    let d := slice t 40 (beField t 20 4)
    let ann := if com = odN s 0xD011 1 && d.length = 20 then some (BitVec.ofNat 32 (fieldN d 0 4)) else none
    let s := speedDataset (hearPeer s src com ann) src com d
    (List.range 4).foldl (fun s c => if odN s (0x8400 + c) 5 = com then bslReceive s c d else s) s

/-! ### The stack at port 0 (R413, R440) -/

/-- An IPv4 packet: version, header length, checksum, not a fragment. -/
def ipOk (b : Bytes) : Bool :=
  let n := fieldN b 0 1 % 16 * 4
  fieldN b 0 1 / 16 == 4 && 20 ≤ n && n ≤ beField b 2 2 && beField b 2 2 ≤ b.length && inetSum (b.take n) == 0 &&
    beField b 6 2 % 0x4000 == 0

/-- The UDP checksum of a packet holds or is absent. -/
def udpOk (b u : Bytes) : Bool :=
  8 ≤ u.length && beField u 4 2 == u.length &&
    (beField u 6 2 == 0 || inetSum (slice b 12 8 ++ [0, 17] ++ beBytes 2 u.length ++ u) == 0)

/-- The payload of an IPv4 packet. -/
def ipPayload (b : Bytes) : Bytes := slice b (fieldN b 0 1 % 16 * 4) (beField b 2 2 - fieldN b 0 1 % 16 * 4)

/-- An ARP reply to a request for the own address (R413). -/
def arpReply (s : State) (b : Bytes) : Option Bytes :=
  let own := odN s 0xD001 1
  if 28 ≤ b.length && b.take 8 = [0, 1, 8, 0, 6, 4, 0, 1] && beField b 24 4 = own then
    some (slice b 8 6 ++ beBytes 6 s.fuses.mac.toNat ++ [8, 6] ++ [0, 1, 8, 0, 6, 4, 0, 2] ++ beBytes 6 s.fuses.mac.toNat ++
      beBytes 4 own ++ slice b 8 10)
  else none

/-- An ICMP echo reply (R413). -/
def echoReply (s : State) (src : NetFrom) (p : Bytes) : Option Bytes :=
  if 8 ≤ p.length && fieldN p 0 1 = 8 && inetSum p = 0 then
    let q : Bytes := [0, 0, 0, 0] ++ p.drop 4
    let q := [0, 0] ++ beBytes 2 (inetSum q) ++ p.drop 4
    some (beBytes 6 src.mac.toNat ++ beBytes 6 s.fuses.mac.toNat ++ [8, 0] ++
      ipHeader q.length 64 1 (odN s 0xD001 1) src.ip.toNat [] ++ q)
  else none

/-- The reports that an IGMP query asks for. -/
def queryReports (s : State) (p : Bytes) : List Bytes :=
  if 8 ≤ p.length && fieldN p 0 1 = 0x11 && inetSum p = 0 then
    ((joinedGroups s).filter fun g => beField p 4 4 == 0 || beField p 4 4 == g).map (groupReport s)
  else []

/-- Where an IPv4 packet of a frame came from. -/
def ipSource (port : Fin 3) (d b : Bytes) : NetFrom :=
  { ip := BitVec.ofNat 32 (beField b 12 4), dst := BitVec.ofNat 32 (beField b 16 4)
    udp := BitVec.ofNat 16 (beField (ipPayload b) 0 2), mac := BitVec.ofNat 48 (beField d 6 6), port := port }

/-- The addresses that the stack listens to: its own, broadcast and joined groups; IGMP to any group. -/
def ipForUs (s : State) (b : Bytes) : Bool :=
  let dst := beField b 16 4
  dst == odN s 0xD001 1 || dst == 0xFFFFFFFF || (joinedGroups s).contains dst || fieldN b 9 1 == 2

/-- A packet is a wake event: to the own address and port 17225 (R440). -/
def wakePacket (s : State) (b : Bytes) : Bool :=
  beField b 16 4 == odN s 0xD001 1 && fieldN b 9 1 == 17 && beField (ipPayload b) 2 2 == 17225

/-- The wake event of a packet in DOZE or while an entry runs (R440, R441). -/
def dozeReceive (s : State) (b : Bytes) : State := if wakePacket s b then wakeEvent s 3 else s

/-- A datagram by its port (R414, R415), PTP's event and general messages among them (R423). -/
def udpReceive (s : State) (src : NetFrom) (p : Bytes) : State :=
  if beField p 2 2 = 17225 && src.dst.toNat = odN s 0xD001 1 then port17225 s src (p.drop 8)
  else if beField p 2 2 = 17224 then port17224 s src (p.drop 8)
  else if beField p 2 2 = (if fieldN p 8 1 % 16 < 8 then 319 else 320) then ptpReceive s (p.drop 8)
  else s

/-- An IPv4 packet at port 0, and the frames sent in answer. In DOZE, or on the way there, nothing is received but a wake
event; during an entry to QUIET alone one is counted and answered (R441). -/
def ipReceive (s : State) (src : NetFrom) (b : Bytes) : State × List Bytes :=
  if !ipForUs s b then (s, [])
  else if s.pwr.state = .doze || entryStops s then (dozeReceive s b, [])
  else if wakePacket s b && (s.pwr.entry.map fun e => wakesFrom e.final 3).getD false then (dozeReceive s b, [])
  else if !netUp s then (s, [])
  else
    let s := if s.pwr.entry.isSome then dozeReceive s b else s
    if fieldN b 9 1 = 1 then (s, if src.dst.toNat = odN s 0xD001 1 then (echoReply s src (ipPayload b)).toList else [])
    else if fieldN b 9 1 = 2 then (s, queryReports s (ipPayload b))
    else if fieldN b 9 1 = 17 && udpOk b (ipPayload b) then (udpReceive s src (ipPayload b), [])
    else (s, [])

/-- What port 0 does with a frame, and the frames that it sends in answer. -/
def stackReceive (s : State) (port : Fin 3) (d : Bytes) : State × List Bytes :=
  let (t, o) := etherType d
  let b := d.drop o
  if t = 0x88F7 then (gptpAnnounce s port.val b, [])
  else if t = 0x0806 then (s, if netUp s then (arpReply s b).toList else [])
  else if t = 0x0800 && ipOk b then ipReceive s (ipSource port d b) b
  else (s, [])

/-! ### The switch (R411, R412, R423) -/

/-- The address table with a source learnt. -/
def learn (s : State) (mac : BitVec 48) (p : Nat) : State :=
  let l := s.net.addrs
  if isGroup mac.toNat then s
  else if l.any fun a => a.mac == mac then
    updNet s fun n => { n with addrs := l.map fun a => if a.mac = mac then { a with port := p, tick := s.tick.num } else a }
  else if l.length < 1024 then updNet s fun n => { n with addrs := l ++ [⟨mac, p, s.tick.num⟩] }
  else s

/-- A PTP event message that the transparent clock corrects: UDP to port 319, message types 0 to 3. -/
def ptpEvent (d : Bytes) : Option Nat :=
  let (t, o) := etherType d
  let b := d.drop o
  let h := fieldN b 0 1 % 16 * 4
  if t = 0x0800 && fieldN b 9 1 = 17 && beField b (h + 2) 2 = 319 && fieldN b (h + 8) 1 % 16 ≤ 3 && h + 24 ≤ b.length then
    some (o + h)
  else none

/-- The frame as it leaves port 1 or 2: with source 2 the residence time joins the correctionField, and the UDP checksum
becomes absent (R423). -/
def transparent (s : State) (p : Nat) (f : EthFrame) : Bytes :=
  match (if p ≠ 0 && odN s 0xD031 1 = 2 then ptpEvent f.data else none) with
  | some u =>
    splice (splice f.data (u + 16) (beBytes 8 ((beField f.data (u + 16) 8 + f.stay.toNat) % 2 ^ 64))) (u + 6) [0, 0]
  | none => f.data

/-- Whether a frame's queue on a port has room. -/
def queueRoom (f : EthFrame) (q : Nat) : Bool := f.room.getLsbD (4 * q + queueOf f.data)

/-- A frame leaves on a port, or finds its queue full. -/
def sendPort (s : State) (p q : Nat) (f : EthFrame) : State :=
  if !queueRoom f q then bump s 0xD000 8
  else if q = 0 then s
  else portSend s q (transparent s p f) !f.fcsOk

/-- ETHERNET_FRAME (R411): a frame at a port of the switch. -/
def switchFrame (s : State) (p : Fin 3) (f : EthFrame) : State :=
  let d := f.data
  let cut := s.net.link1 == 3 && s.net.link2 == 3 && p.val != 0
  if !switchOn s || !portUp s p.val || d.length < 14 || ringBlocks s p.val d then s
  else if 1518 < d.length then bump s 0xD000 8
  else if !f.fcsOk then
    let l := if cut then (egress s p.val d).filter (· != 0) else []
    if l.isEmpty then s else bump (l.foldl (fun s q => sendPort s p.val q f) s) 0xD000 7
  else
    let s := learn s (BitVec.ofNat 48 (beField d 6 6)) p.val
    let l := egress s p.val d
    let s := if l.isEmpty then s else bump s 0xD000 6
    let s := l.foldl (fun s q => sendPort s p.val q f) s
    if l.contains 0 && queueRoom f 0 then
      let r := stackReceive s p d
      r.2.foldl stackSend r.1
    else s

/-- ETHERNET_FRAME. -/
def execEthernetFrame (port : Fin 3) (f : EthFrame) (s : State) : Host.Outcome State Fault Refusal :=
  outcomeLost s (switchFrame s port f)

/-- The address table flushed. -/
def flushAddrs (s : State) : State := updNet s fun n => { n with addrs := [] }

/-- What the loss of a port's link ends: the master heard there, and an open measurement of its neighbour (R422). -/
def portLost (s : State) (p : Nat) : State :=
  updTime s fun t => { t with masters := tdel t.masters p, pdelays := tdel t.pdelays p }

/-- A port that comes up tells the groups joined (R413; DEDUCED, assumption 92). -/
def portReports (s : State) (p : Nat) : State :=
  if netUp s && portUp s p then (joinedGroups s).foldl (fun s g => portSend s p (groupReport s g) false) s else s

/-- ETH_LINK_CHANGE: speed and duplex of the in-band status; half duplex is down. -/
def ethLink (s : State) (p speed : Nat) (full : Bool) : State :=
  let v := if full then speed else 0
  if !switchOn s || p = 0 || netLink s p = v then s
  else
    let t := flushAddrs (updNet s fun n => if p = 1 then { n with link1 := v } else { n with link2 := v })
    if v = 0 then portLost t p else if netLink s p = 0 then portReports t p else t

/-- ETH_LINK_CHANGE. -/
def execEthLinkChange (port : Fin 3) (speed : Fin 4) (full : Bool) (s : State) : Host.Outcome State Fault Refusal :=
  outcome s (ethLink s port.val speed.val full)

/-- ADDRESS_AGEING: an entry goes after 300 s. -/
def ageAddress (s : State) (mac : BitVec 48) : State :=
  updNet s fun n => { n with addrs := n.addrs.filter fun a => a.mac != mac || since s a.tick < 23437500 }

/-- ADDRESS_AGEING. -/
def execAddressAgeing (mac : BitVec 48) (s : State) : Host.Outcome State Fault Refusal := outcome s (ageAddress s mac)

/-- The ring-check frame (R412), from the device's own address. -/
def ringCheckFrame (s : State) : Bytes :=
  beBytes 6 (Config.ringGroup ||| 0x030000000000#48).toNat ++ beBytes 6 s.fuses.mac.toNat ++ [0x88, 0xB5] ++
    Config.ringCheckBody

/-- The ring state changes: counted, the table and the ring's tables are flushed. -/
def ringChange (s : State) (st : Nat) : State :=
  let s := flushAddrs (updNet s fun n => { n with ring := st, missRun := 0, seenRun := 0 })
  let s := bump s 0xD000 9
  portSend (portSend s 1 Config.flushFrame false) 2 Config.flushFrame false

/-- RING_CHECK (R412): a period of the breaker ends, with or without its check on port 2, and the next check is sent. -/
def ringCheck (s : State) (arrived : Bool) : State :=
  if !switchOn s || odN s 0xD000 4 ≠ 2 || since s s.net.lastRing * 128 < 100000 then s
  else
    let n := s.net
    let miss := if arrived then 0 else n.missRun + 1
    let seen := if arrived then n.seenRun + 1 else 0
    let s := updNet s fun n => { n with missRun := miss, seenRun := seen, lastRing := s.tick.num }
    let s := if n.ring = 1 && 3 ≤ miss then ringChange s 2 else if n.ring = 2 && 3 ≤ seen then ringChange s 1 else s
    portSend s 1 (ringCheckFrame s) false

/-- RING_CHECK. -/
def execRingCheck (arrived : Bool) (s : State) : Host.Outcome State Fault Refusal := outcome s (ringCheck s arrived)

/-- A blocked port 2 drops the flush frame too (R412). -/
def flushBlocked (s : State) (p : Nat) : Bool := s.net.ring == 1 && p == 2

/-- FLUSH_FRAME: the address table is flushed, and the frame goes on to the other port. -/
def flushFrame (s : State) (p : Nat) : State :=
  if !switchOn s || p = 0 || !portUp s p || flushBlocked s p then s
  else
    let s := flushAddrs s
    let q := 3 - p
    if portUp s q && !flushBlocked s q then portSend s q Config.flushFrame false else s

/-- FLUSH_FRAME. -/
def execFlushFrame (port : Fin 3) (s : State) : Host.Outcome State Fault Refusal := outcome s (flushFrame s port.val)

end Sys2Proof.Machine
end

