-- ==== Sys2Proof/Machine/Tick.lean ====
section
/-! DEFINITION. The tick: its strobe, the shadow load and the island's monitor (R22, R26, R40). -/

namespace Sys2Proof.Machine

/-- The tick generator runs: out of reset, with CORE powered, in DOZE too (R438). -/
def tickRuns (s : State) : Bool := s.boot.phase != .held && domUp s .core

/-- The number of the tick that starts; the first tick after reset is tick 0 (R22). -/
def nextTick (s : State) : State :=
  if s.tick.started then { s with tick := { s.tick with num := s.tick.num + 1, listenOver := false } }
  else { s with tick := { s.tick with started := true, listenOver := false } }

/-- The real-time clock advances by the time since the strobe before: 0x9003:01 counts whole seconds. -/
def rtcTick (s : State) : State :=
  let n := s.pwr.rtcSub + (2000 + s.tick.stretched) * 32 / 5
  if n < 1000000000 then updPwr s fun p => { p with rtcSub := n }
  else updPwr (odSetN s 0x9003 1 ((odN s 0x9003 1 + 1) % 2 ^ 32)) fun p => { p with rtcSub := n - 1000000000 }

/-- The device time at t+0; C starts from 0 at the first tick (R418). -/
def timeStrobe (s : State) (first : Bool) : State := if first then s else timeTick (rtcTick s)

/-- The event causes OVERRUN, WDT_PLAN and WDT_CAL are active in the tick of their event only. -/
def eventCauses (s : State) : State := { s with emit := { s.emit with active := s.emit.active &&& ~~~7#12 } }

/-- A CORE controller's watchdog expired in the tick before (R47): emission is inhibited from this tick, and the device
is forced into QUIET (R436); a forced entry that waited for a transition starts. -/
def wdtTake (s : State) : State :=
  let due := s.emit.wdtDue
  if due = 0 then forcedNext s
  else
    let s := { s with emit := { s.emit with wdtDue := 0 } }
    let s := if due.getLsbD 1 then inhibit s 1 else s
    forceQuiet (if due.getLsbD 2 then inhibit s 2 else s)

/-- The SHOT_SYNC_OUT offset written takes effect at t+0 (R41). -/
def syncOutTake (s : State) : State := { s with tick := { s.tick with syncOutOfs := odN s 0x2000 0x0A } }

/-- The units at t+0: the shadow takes effect unless the tick before overran (R26, R27). -/
def unitsTick (s : State) : State :=
  let apply := !s.tick.overrun
  let s := { s with tick := { s.tick with overrun := false } }
  let s := wdtTake (syncOutTake (eventCauses s))
  let s := ditherDraw <| ditherTake (driveTake (emitTick (rxTick s apply) apply) apply)
  let s := if running s then planTick s else s
  let s := if domOn s .core then hkTick s else s
  let s := if switchOn s then netTick s else s
  islTick (fsyncTick (lanesTick (gptpTick s)))

/-- What the strobe does of itself (R22, R26). -/
def strobe (s : State) : State :=
  if !tickRuns s then s else unitsTick (flushPoints (timeStrobe (nextTick s) !s.tick.started))

/-- TICK_STROBE: the requests of the network that wait and can be taken are taken with it (R405; assumption 85). -/
def tickStrobe (s : State) : State := if !tickRuns s then s else netServeAll (strobe s)

/-- TICK_STROBE. -/
def execTickStrobe (s : State) : Host.Outcome State Fault Refusal := outcomeLost s (tickStrobe s)

/-- SHADOW_LOAD (R26, R224): what the next tick takes. -/
def shadowLoad (s : State) : State := if running s then rxShadow (emitShadow s) else s

/-- SHADOW_LOAD. -/
def execShadowLoad (s : State) : Host.Outcome State Fault Refusal := outcome s (shadowLoad s)

/-- TICK_MONITOR_FAULT (R40): the island finds the tick faulty and takes the safe state. -/
def tickMonitor (s : State) : State :=
  if !islOn s then s else islRaise { s with isl := { s.isl with goodTicks := 0 } } 7

/-- TICK_MONITOR_FAULT. -/
def execTickMonitorFault (_ : Bool) (s : State) : Host.Outcome State Fault Refusal := outcome s (tickMonitor s)

end Sys2Proof.Machine
end

