-- ==== Sys2Proof/Machine/Dispatch.lean ====
section
/-! DEFINITION. Dispatch: one arm per command, each one direct call of that command's meaning. -/

namespace Sys2Proof.Machine

def exec (i : Instr) (s : State) : Host.Outcome State Fault Refusal :=
  match i with
  | .tickStrobe => Sys2Proof.Machine.execTickStrobe s
  | .shotLaunch e => Sys2Proof.Machine.execShotLaunch e s
  | .swapPointBSlot => Sys2Proof.Machine.execSwapPointBSlot s
  | .frontEndEvent c p => Sys2Proof.Machine.execFrontEndEvent c p s
  | .stuckTick c => Sys2Proof.Machine.execStuckTick c s
  | .blankingIntervalEnd c => Sys2Proof.Machine.execBlankingIntervalEnd c s
  | .coincidenceDecision c time cycle => Sys2Proof.Machine.execCoincidenceDecision c time cycle s
  | .positionSampleLatch x => Sys2Proof.Machine.execPositionSampleLatch x s
  | .gateClose => Sys2Proof.Machine.execGateClose s
  | .earlyTerminationTest => Sys2Proof.Machine.execEarlyTerminationTest s
  | .calibrationHits h => Sys2Proof.Machine.execCalibrationHits h s
  | .shadowLoad => Sys2Proof.Machine.execShadowLoad s
  | .driveValueWrite => Sys2Proof.Machine.execDriveValueWrite s
  | .shadowFreeze late => Sys2Proof.Machine.execShadowFreeze late s
  | .probePulse => Sys2Proof.Machine.execProbePulse s
  | .shotSyncEdge ref => Sys2Proof.Machine.execShotSyncEdge ref s
  | .missedEdge => Sys2Proof.Machine.execMissedEdge s
  | .tickStretch => Sys2Proof.Machine.execTickStretch s
  | .tickMonitorFault noStrobe => Sys2Proof.Machine.execTickMonitorFault noStrobe s
  | .wdtSvc => Sys2Proof.Machine.execWdtSvc s
  | .wdtPlan => Sys2Proof.Machine.execWdtPlan s
  | .wdtCal => Sys2Proof.Machine.execWdtCal s
  | .internalBusAccess client addr len wr => Sys2Proof.Machine.execInternalBusAccess client addr len wr s
  | .calibrationPeriodEnd osc => Sys2Proof.Machine.execCalibrationPeriodEnd osc s
  | .fullCalibrationRequest req => Sys2Proof.Machine.execFullCalibrationRequest req s
  | .fullCalibrationEnd r => Sys2Proof.Machine.execFullCalibrationEnd r s
  | .readPassComplete c corrected bad => Sys2Proof.Machine.execReadPassComplete c corrected bad s
  | .readPassOverrun c => Sys2Proof.Machine.execReadPassOverrun c s
  | .echoExtraction c => Sys2Proof.Machine.execEchoExtraction c s
  | .oxbowDecision c => Sys2Proof.Machine.execOxbowDecision c s
  | .confluence => Sys2Proof.Machine.execConfluence s
  | .pixelReadReturn => Sys2Proof.Machine.execPixelReadReturn s
  | .memLate => Sys2Proof.Machine.execMemLate s
  | .planWrite req plan => Sys2Proof.Machine.execPlanWrite req plan s
  | .admissionEnd => Sys2Proof.Machine.execAdmissionEnd s
  | .planSwitch => Sys2Proof.Machine.execPlanSwitch s
  | .stopRunningPlan req => Sys2Proof.Machine.execStopRunningPlan req s
  | .planStopEffect => Sys2Proof.Machine.execPlanStopEffect s
  | .vehicleSpeedWrite req sub bits => Sys2Proof.Machine.execVehicleSpeedWrite req sub bits s
  | .speedTimeout => Sys2Proof.Machine.execSpeedTimeout s
  | .weirHoldOffEnd => Sys2Proof.Machine.execWeirHoldOffEnd s
  | .emissionEnable req => Sys2Proof.Machine.execEmissionEnable req s
  | .emissionDisable req => Sys2Proof.Machine.execEmissionDisable req s
  | .faultAcknowledge req => Sys2Proof.Machine.execFaultAcknowledge req s
  | .bankVoltageFault b => Sys2Proof.Machine.execBankVoltageFault b s
  | .diagnosisWindow g => Sys2Proof.Machine.execDiagnosisWindow g s
  | .stuckOn g => Sys2Proof.Machine.execStuckOn g s
  | .stuckOnClear g => Sys2Proof.Machine.execStuckOnClear g s
  | .diagnosisClear req mask => Sys2Proof.Machine.execDiagnosisClear req mask s
  | .loopCommandOpen req a => Sys2Proof.Machine.execLoopCommandOpen req a s
  | .loopCommandClose req a => Sys2Proof.Machine.execLoopCommandClose req a s
  | .loopCommandPark req a => Sys2Proof.Machine.execLoopCommandPark req a s
  | .feedbackLoss a => Sys2Proof.Machine.execFeedbackLoss a s
  | .servoFaultClear req a => Sys2Proof.Machine.execServoFaultClear req a s
  | .decimatorStart req d => Sys2Proof.Machine.execDecimatorStart req d s
  | .decimatorStop req d => Sys2Proof.Machine.execDecimatorStop req d s
  | .spPulsePeriod high period => Sys2Proof.Machine.execSpPulsePeriod high period s
  | .countGate count => Sys2Proof.Machine.execCountGate count s
  | .sourceTimeout => Sys2Proof.Machine.execSourceTimeout s
  | .traceArm req => Sys2Proof.Machine.execTraceArm req s
  | .traceManualTrigger req => Sys2Proof.Machine.execTraceManualTrigger req s
  | .traceStop req => Sys2Proof.Machine.execTraceStop req s
  | .traceDone => Sys2Proof.Machine.execTraceDone s
  | .pr32VersionWrite req sub v => Sys2Proof.Machine.execPr32VersionWrite req sub v s
  | .frameStart k p => Sys2Proof.Machine.execFrameStart k p s
  | .frameEnd k p => Sys2Proof.Machine.execFrameEnd k p s
  | .linePacket k p => Sys2Proof.Machine.execLinePacket k p s
  | .lineService => Sys2Proof.Machine.execLineService s
  | .frameStored k => Sys2Proof.Machine.execFrameStored k s
  | .frameTimeout k => Sys2Proof.Machine.execFrameTimeout k s
  | .portEnableWrite req k v => Sys2Proof.Machine.execPortEnableWrite req k v s
  | .testRequestWrite req k v => Sys2Proof.Machine.execTestRequestWrite req k v s
  | .camFsyncPulseEnd k => Sys2Proof.Machine.execCamFsyncPulseEnd k s
  | .islandInitComplete ok => Sys2Proof.Machine.execIslandInitComplete ok s
  | .lockstepFault => Sys2Proof.Machine.execLockstepFault s
  | .supplyMonitorFault => Sys2Proof.Machine.execSupplyMonitorFault s
  | .islandWatchdog => Sys2Proof.Machine.execIslandWatchdog s
  | .evalTimeout => Sys2Proof.Machine.execEvalTimeout s
  | .sealSample a b => Sys2Proof.Machine.execSealSample a b s
  | .storeConfiguration req n => Sys2Proof.Machine.execStoreConfiguration req n s
  | .pairConfiguration req n => Sys2Proof.Machine.execPairConfiguration req n s
  | .deleteConfiguration req n => Sys2Proof.Machine.execDeleteConfiguration req n s
  | .configNorWriteDone ok => Sys2Proof.Machine.execConfigNorWriteDone ok s
  | .zoneEvaluation => Sys2Proof.Machine.execZoneEvaluation s
  | .coverageMarker => Sys2Proof.Machine.execCoverageMarker s
  | .coverageTimeout z => Sys2Proof.Machine.execCoverageTimeout z s
  | .ossdTestPulse ch fb => Sys2Proof.Machine.execOssdTestPulse ch fb s
  | .ossdFeedbackTimeout ch => Sys2Proof.Machine.execOssdFeedbackTimeout ch s
  | .safetyInputSample x => Sys2Proof.Machine.execSafetyInputSample x s
  | .bslCycle c => Sys2Proof.Machine.execBslCycle c s
  | .bslTelegramReceive c t => Sys2Proof.Machine.execBslTelegramReceive c t s
  | .bslWatchdog c => Sys2Proof.Machine.execBslWatchdog c s
  | .bslRetry c => Sys2Proof.Machine.execBslRetry c s
  | .recoveryComplete => Sys2Proof.Machine.execRecoveryComplete s
  | .acqArm req => Sys2Proof.Machine.execAcqArm req s
  | .acqStop req => Sys2Proof.Machine.execAcqStop req s
  | .acqManualTrigger req => Sys2Proof.Machine.execAcqManualTrigger req s
  | .acqRow => Sys2Proof.Machine.execAcqRow s
  | .acqDrainComplete => Sys2Proof.Machine.execAcqDrainComplete s
  | .probeBurst l => Sys2Proof.Machine.execProbeBurst l s
  | .partnerProbeReceived l w => Sys2Proof.Machine.execPartnerProbeReceived l w s
  | .trainRequest l w => Sys2Proof.Machine.execTrainRequest l w s
  | .eqComplete l eyeH eyeW => Sys2Proof.Machine.execEqComplete l eyeH eyeW s
  | .fecAlignComplete l => Sys2Proof.Machine.execFecAlignComplete l s
  | .deskewComplete j skews => Sys2Proof.Machine.execDeskewComplete j skews s
  | .capsReceived l w => Sys2Proof.Machine.execCapsReceived l w s
  | .trainingTimeout l => Sys2Proof.Machine.execTrainingTimeout l s
  | .linkLoss l cause => Sys2Proof.Machine.execLinkLoss l cause s
  | .idleEntry j => Sys2Proof.Machine.execIdleEntry j s
  | .idleExit j => Sys2Proof.Machine.execIdleExit j s
  | .superframe j ofs => Sys2Proof.Machine.execSuperframe j ofs s
  | .tickMarker j m => Sys2Proof.Machine.execTickMarker j m s
  | .dstateItem j aux => Sys2Proof.Machine.execDstateItem j aux s
  | .dmaskItem j aux => Sys2Proof.Machine.execDmaskItem j aux s
  | .creditItem j aux => Sys2Proof.Machine.execCreditItem j aux s
  | .pcieReset => Sys2Proof.Machine.execPcieReset s
  | .registerWrite a => Sys2Proof.Machine.execRegisterWrite a s
  | .upperHalfLatchRead a => Sys2Proof.Machine.execUpperHalfLatchRead a s
  | .timeLatch cycle => Sys2Proof.Machine.execTimeLatch cycle s
  | .timeHiRead => Sys2Proof.Machine.execTimeHiRead s
  | .voteWrite v => Sys2Proof.Machine.execVoteWrite v s
  | .voteRegistered client => Sys2Proof.Machine.execVoteRegistered client s
  | .interruptStatusClear ring v => Sys2Proof.Machine.execInterruptStatusClear ring v s
  | .msixUnmask vec => Sys2Proof.Machine.execMsixUnmask vec s
  | .mailboxGo => Sys2Proof.Machine.execMailboxGo s
  | .mailboxAbort => Sys2Proof.Machine.execMailboxAbort s
  | .mailboxResponse => Sys2Proof.Machine.execMailboxResponse s
  | .mailboxStatusRead => Sys2Proof.Machine.execMailboxStatusRead s
  | .dataPortAccess off len wr full => Sys2Proof.Machine.execDataPortAccess off len wr full s
  | .pullRead r len => Sys2Proof.Machine.execPullRead r len s
  | .ringEnable r => Sys2Proof.Machine.execRingEnable r s
  | .ringDisable r => Sys2Proof.Machine.execRingDisable r s
  | .tailWrite r v => Sys2Proof.Machine.execTailWrite r v s
  | .ringEntryPublish r => Sys2Proof.Machine.execRingEntryPublish r s
  | .ringSignalTimer r => Sys2Proof.Machine.execRingSignalTimer r s
  | .ringDropCounterRead r records => Sys2Proof.Machine.execRingDropCounterRead r records s
  | .faultLogPop => Sys2Proof.Machine.execFaultLogPop s
  | .accessFaultLogRead => Sys2Proof.Machine.execAccessFaultLogRead s
  | .odxOpen req version payload => Sys2Proof.Machine.execOdxOpen req version payload s
  | .odxClose req => Sys2Proof.Machine.execOdxClose req s
  | .odxRead req index sub seg => Sys2Proof.Machine.execOdxRead req index sub seg s
  | .odxWrite req index sub data seg => Sys2Proof.Machine.execOdxWrite req index sub data seg s
  | .odxReadSeg req index sub payload => Sys2Proof.Machine.execOdxReadSeg req index sub payload s
  | .odxWriteSeg req index sub payload => Sys2Proof.Machine.execOdxWriteSeg req index sub payload s
  | .odxChallenge req payload => Sys2Proof.Machine.execOdxChallenge req payload s
  | .odxAuth req payload => Sys2Proof.Machine.execOdxAuth req payload s
  | .odxReadMulti req payload => Sys2Proof.Machine.execOdxReadMulti req payload s
  | .odxKeepalive req => Sys2Proof.Machine.execOdxKeepalive req s
  | .sessionIdleTimeout sess => Sys2Proof.Machine.execSessionIdleTimeout sess s
  | .segmentTransferTimeout sess => Sys2Proof.Machine.execSegmentTransferTimeout sess s
  | .authLockoutEnd via => Sys2Proof.Machine.execAuthLockoutEnd via s
  | .storePersistentValues req => Sys2Proof.Machine.execStorePersistentValues req s
  | .storeComplete ok => Sys2Proof.Machine.execStoreComplete ok s
  | .restoreDefaults req => Sys2Proof.Machine.execRestoreDefaults req s
  | .ethernetFrame port f => Sys2Proof.Machine.execEthernetFrame port f s
  | .ethLinkChange port speed full => Sys2Proof.Machine.execEthLinkChange port speed full s
  | .addressAgeing mac => Sys2Proof.Machine.execAddressAgeing mac s
  | .ringCheck arrived => Sys2Proof.Machine.execRingCheck arrived s
  | .flushFrame port => Sys2Proof.Machine.execFlushFrame port s
  | .trdpMessageRequest src tel => Sys2Proof.Machine.execTrdpMessageRequest src tel s
  | .directOdx src dgram => Sys2Proof.Machine.execDirectOdx src dgram s
  | .announcement => Sys2Proof.Machine.execAnnouncement s
  | .speedDataset src comId data => Sys2Proof.Machine.execSpeedDataset src comId data s
  | .peerAgeOut ip => Sys2Proof.Machine.execPeerAgeOut ip s
  | .gptpSync m => Sys2Proof.Machine.execGptpSync m s
  | .neighbourDelayMeasurement m => Sys2Proof.Machine.execNeighbourDelayMeasurement m s
  | .delayExchange m => Sys2Proof.Machine.execDelayExchange m s
  | .ppsEdge c => Sys2Proof.Machine.execPpsEdge c s
  | .timeHoldover => Sys2Proof.Machine.execTimeHoldover s
  | .powerStateRequest req v => Sys2Proof.Machine.execPowerStateRequest req v s
  | .phaseAEnd => Sys2Proof.Machine.execPhaseAEnd s
  | .drainComplete => Sys2Proof.Machine.execDrainComplete s
  | .drainTimeout => Sys2Proof.Machine.execDrainTimeout s
  | .domainPowerGood d => Sys2Proof.Machine.execDomainPowerGood d s
  | .domainDrop d => Sys2Proof.Machine.execDomainDrop d s
  | .rtcAlarm => Sys2Proof.Machine.execRtcAlarm s
  | .wakeReq level => Sys2Proof.Machine.execWakeReq level s
  | .networkWake => Sys2Proof.Machine.execNetworkWake s
  | .quiesceStart edge => Sys2Proof.Machine.execQuiesceStart edge s
  | .quiesceDrop => Sys2Proof.Machine.execQuiesceDrop s
  | .norProgramLimit => Sys2Proof.Machine.execNorProgramLimit s
  | .quiesceDone => Sys2Proof.Machine.execQuiesceDone s
  | .pwrFailNRise => Sys2Proof.Machine.execPwrFailNRise s
  | .pwrFailRelease => Sys2Proof.Machine.execPwrFailRelease s
  | .brownOut r => Sys2Proof.Machine.execBrownOut r s
  | .railOutOfWindow r => Sys2Proof.Machine.execRailOutOfWindow r s
  | .aonBrownOut => Sys2Proof.Machine.execAonBrownOut s
  | .vaonPowerOn => Sys2Proof.Machine.execVaonPowerOn s
  | .conversionComplete raw oor => Sys2Proof.Machine.execConversionComplete raw oor s
  | .hostGroupTrigger req => Sys2Proof.Machine.execHostGroupTrigger req s
  | .converterCheck input => Sys2Proof.Machine.execConverterCheck input s
  | .hkDataRegisterRead => Sys2Proof.Machine.execHkDataRegisterRead s
  | .resetN => Sys2Proof.Machine.execResetN s
  | .resetStuck => Sys2Proof.Machine.execResetStuck s
  | .resetNAttended => Sys2Proof.Machine.execResetNAttended s
  | .softwareReset req => Sys2Proof.Machine.execSoftwareReset req s
  | .resetRelease => Sys2Proof.Machine.execResetRelease s
  | .firmwareStart => Sys2Proof.Machine.execFirmwareStart s
  | .updateBegin req => Sys2Proof.Machine.execUpdateBegin req s
  | .eraseComplete ok => Sys2Proof.Machine.execEraseComplete ok s
  | .updateActivate req => Sys2Proof.Machine.execUpdateActivate req s
  | .updateConfirm req => Sys2Proof.Machine.execUpdateConfirm req s
  | .updateCancel req => Sys2Proof.Machine.execUpdateCancel req s
  | .keyRevocation req v => Sys2Proof.Machine.execKeyRevocation req v s
  | .domainStartUpDone d => Sys2Proof.Machine.execDomainStartUpDone d s
  | .shotSyncOutPulse => Sys2Proof.Machine.execShotSyncOutPulse s
  | .shotSyncOutPulseEnd => Sys2Proof.Machine.execShotSyncOutPulseEnd s
  | .segmentReceived j stream fec => Sys2Proof.Machine.execSegmentReceived j stream fec s
  | .pcieLinkTrained speed width bme mps => Sys2Proof.Machine.execPcieLinkTrained speed width bme mps s
  | .latchComplete => Sys2Proof.Machine.execLatchComplete s
  | .delayReqSend cycle => Sys2Proof.Machine.execDelayReqSend cycle s
  | .acqQdrWrite bad => Sys2Proof.Machine.execAcqQdrWrite bad s
  | .nonVolatileWriteDone ok => Sys2Proof.Machine.execNonVolatileWriteDone ok s
  | .lprLimit => Sys2Proof.Machine.execLprLimit s
  | .vaonLow => Sys2Proof.Machine.execVaonLow s
  | .vaonPowerLoss => Sys2Proof.Machine.execVaonPowerLoss s
  | .resetOutputRelease phy => Sys2Proof.Machine.execResetOutputRelease phy s

end Sys2Proof.Machine
end

