-- ==== Sys2Proof/Safety.lean ====
section
/-! DEFINITION. The words in which claims are stated: the parts of the state, "changes these parts at most", a request that
is taken, a write that passes its checks, the safe outputs and the form of the memory. -/

namespace Sys2Proof.Machine

/-! ### Frames -/

/-- The parts of the state that a frame names: the stored objects of the indexes `ix` to `ix + n - 1`, all stored objects, and
the units. Of the host interface, the interrupt bits, the mailbox, the rings, the data port and the access-fault log are
parts of their own, and of the object dictionary the sessions with the requests that wait. -/
inductive Part where
  | regs (ix n : Nat)
  | od | fuses | tick | irq | mbox | rings | dp | log | host | sessions | odx | net | time | pwr | boot | emit | weir | isl | fm | rx | plan | servo | cams | fsync
  | points | acq | qdr | lane | hk | free | out | pending
  deriving DecidableEq, Repr

/-- The part is the same in both states (the objects of `regs` and `od` are said by `Only.regs`). -/
def Part.same (s t : State) : Part → Prop
  | .regs _ _ => True
  | .od => True
  | .fuses => t.fuses = s.fuses
  | .tick => t.tick = s.tick
  | .irq => t.host.intStatus = s.host.intStatus ∧ t.host.ringInt = s.host.ringInt ∧ t.host.pba = s.host.pba
  | .mbox => t.host.mbox = s.host.mbox
  | .rings => t.host.rings = s.host.rings
  | .dp => t.host.dp = s.host.dp
  | .log => t.host.log = s.host.log ∧ t.host.lost = s.host.lost
  | .host => t.host = { s.host with
      intStatus := t.host.intStatus, ringInt := t.host.ringInt, pba := t.host.pba, mbox := t.host.mbox
      rings := t.host.rings, dp := t.host.dp, log := t.host.log, lost := t.host.lost }
  | .sessions => t.odx.sessions = s.odx.sessions ∧ t.odx.netQ = s.odx.netQ ∧ t.odx.turnMbx = s.odx.turnMbx
  | .odx => t.odx = { s.odx with sessions := t.odx.sessions, netQ := t.odx.netQ, turnMbx := t.odx.turnMbx }
  | .net => t.net = s.net
  | .time => t.time = s.time
  | .pwr => t.pwr = s.pwr
  | .boot => t.boot = s.boot
  | .emit => t.emit = s.emit
  | .weir => t.weir = s.weir
  | .isl => t.isl = s.isl
  | .fm => t.fm = s.fm
  | .rx => t.rx = s.rx
  | .plan => t.plan = s.plan
  | .servo => t.servo = s.servo
  | .cams => t.cams = s.cams
  | .fsync => t.fsync = s.fsync
  | .points => t.points = s.points
  | .acq => t.acq = s.acq
  | .qdr => t.qdr = s.qdr
  | .lane => t.lane = s.lane
  | .hk => t.hk = s.hk
  | .free => t.free = s.free
  | .out => t.out = s.out
  | .pending => t.pending = s.pending

/-- A part leaves the register of a key alone. -/
def Part.spares (k : Nat) : Part → Bool
  | .regs ix n => k / 256 < ix || ix + n ≤ k / 256
  | .od => false
  | _ => true

/-- A part with stored objects. -/
def Part.stores : Part → Bool
  | .regs _ _ => true
  | .od => true
  | _ => false

/-- `t` differs from `s` in the named parts at most. -/
structure Only (ps : List Part) (s t : State) : Prop where
  same : ∀ p : Part, ps.contains p = false → p.same s t
  regs : ∀ k : Nat, ps.all (Part.spares k) = true → tget t.od k = tget s.od k
  store : ps.any Part.stores = false → t.od = s.od

/-- A part lies within the named parts. -/
def Part.within (ps : List Part) (p : Part) : Bool :=
  match p with
  | .regs ix n => ps.any fun q => match q with
    | .regs a m => a ≤ ix && ix + n ≤ a + m
    | .od => true
    | _ => false
  | p => ps.contains p

/-- A next state differs from `s` in the named parts at most. -/
def OutcomeOnly (C : List Part) (s : State) (o : Host.Outcome State Fault Refusal) : Prop :=
  ∀ t, o = .next t → Only C s t

/-! ### Requests (R402 to R408) -/

/-- A request of an open session that the service takes now, and that is no repetition (R402, R405, R406). -/
def Fresh (s : State) (r : Req) (x : Session) : Prop :=
  taking s = true ∧ netWaits s r = false ∧ (s.boot.phase = .recovery → r.via = .mailbox) ∧ sessionOf s r = some x ∧
    (r.via ≠ .mailbox → x.lastTag ≠ some r.tag)

/-- A write request that is taken and passes every check of R408 with the value `v`. -/
def WriteOk (s : State) (r : Req) (ix sub : Nat) (data : Bytes) (h : State → WriteHook) (v : Val) : Prop :=
  ∃ x, Fresh s r x ∧ writeChecks (taken s r) x ix sub data h = .ok v

/-! ### Outputs and memory -/

/-- The island's outputs are on only in OPERATE (R313). -/
def OutputsSafe (s : State) : Prop := s.isl.st ≠ .operate → s.isl.outA.on = false ∧ s.isl.outB.on = false

/-- While an inhibit cause is active, emission is off and no enable waits (R207 to R209). -/
def EmissionGated (s : State) : Prop := s.emit.active ≠ 0 → emissionOff s = true ∧ s.emit.request ≠ some true

/-- The QDR memory has its canonical form. -/
def MemoryWf (s : State) : Prop := memWf s.qdr = true

end Sys2Proof.Machine
end

