-- ==== Sys2Proof/Certificates/Slice0/Obligations.lean ====
section
/-! DEFINITION. The statements for the provers. Each names what it states; a statement of several commands holds for each. -/

section

open Sys2Proof Sys2Proof.Machine

/-- A step takes the command at the front of the queue and runs exec on it with the rest of the queue; the commands come from
outside as the opcode table lists them. That an empty queue idles is the model's choice (log entry 3). -/
def Obligations.StepRunsTheFrontCommand : Prop :=
  (∀ (c : Instr) (q : List Instr) (s : State), s.pending = c :: q → step s = exec c { s with pending := q }) ∧
    ∀ s : State, s.pending = [] → step s = .next s

/-- In every state every command ends in a next state: one whose condition in the manual is not met has no effect (log entry 1).
The fuses keep their contents (R11: the value of FEATURE never changes after reset), and so does the queue. -/
def Obligations.EveryCommandCompletes : Prop :=
  ∀ (c : Instr) (s : State), ∃ t, exec c s = .next t ∧ t.fuses = s.fuses ∧ t.pending = s.pending

/-- R11: a read of BAR0 offset 0x08 returns FEATURE, whose fields are those of the fuses: VARIANT, SCREEN, SAFE, CAM, a bit per
group of four lanes, a bit per bank and a bit per quadrant present; no command changes it. -/
def Obligations.FeatureRegisterLayout : Prop :=
  ∀ s : State,
    (hostReach s = true → ∃ t, exec (.upperHalfLatchRead { off := 0x08, size := 4, full := true }) s = .next t ∧
      t.out = .readData (leBytes 4 (feature s)) :: s.out) ∧
    feature s / 2 ^ 24 = (match s.fuses.variant with
      | .fc => 1
      | .f => 2
      | .c => 3
      | .lf => 4) ∧
    feature s / 2 ^ 22 % 4 = (if s.fuses.screenA then 1 else 2) ∧
    (feature s).testBit 21 = hasSafe s ∧ (feature s).testBit 20 = hasCam s ∧
    (∀ q : Fin 4, (feature s).testBit (16 + q.val) = decide (4 * q.val + 3 < nLane s)) ∧
    (∀ b : Fin 8, (feature s).testBit (8 + b.val) = decide (b.val < nBank s)) ∧
    (∀ n : Fin 8, (feature s).testBit n.val = decide (64 * n.val + 63 < nChan s)) ∧
    ∀ (c : Instr) (t : State), exec c s = .next t → feature t = feature s

/-- R89: with the bypass of its quadrant set, the decision on an event with HT = 1 accepts it, whatever the count of its group:
it is marked as passed, and no rejection is counted. -/
def Obligations.HighThresholdBypassAccepts : Prop :=
  ∀ (s : State) (c : Fin 512) (n cyc k : Nat) (b : Bool) (v : Event), s.rx.settled = false → (getChan s c.val).assigned = true →
    (getChan s c.val).events.find? (fun w => w.time == n && w.passed.isNone) = some v → v.ht = true →
    (coincOf s c.val).2.2.2 = true →
    ∃ t, exec (.coincidenceDecision c n ⟨cyc, k, b⟩) s = .next t ∧
      (getChan t c.val).events = decideFirst n true (getChan s c.val).events ∧
      (getChan t c.val).acc.rejects = (getChan s c.val).acc.rejects ∧
      (getChan t c.val).held.rejects = (getChan s c.val).held.rejects ∧
      ∀ d < 512, odI t (0x3120 + d / 64) (d % 64 + 1) = odI s (0x3120 + d / 64) (d % 64 + 1)

/-- R404: an idle network session closes; KEEPALIVE restarts its time; a change of 0xD001:01 to 03 closes every network session;
the mailbox session does not time out and closes with the resets of R374; a closing session takes its transfers with it, and
the values in force stay. -/
def Obligations.NetworkSessionsClose : Prop :=
  ∀ s : State,
    (∀ (k : Fin 8) (x : Session), s.odx.sessions[k.val]? = some x → x.via ≠ .mailbox →
      odN s 0x1F20 2 * 1000 * 10000 ≤ since s x.lastReq * 128 →
      ∃ t, exec (.sessionIdleTimeout k) s = .next t ∧ t.od = s.od ∧
        ∀ y ∈ t.odx.sessions, y.number ≠ x.number) ∧
    (∀ (k : Fin 8) (x : Session), s.odx.sessions[k.val]? = some x → x.via ≠ .mailbox →
      since s x.lastReq * 128 < odN s 0x1F20 2 * 1000 * 10000 →
      ∃ t, exec (.sessionIdleTimeout k) s = .next t ∧ t.odx.sessions = s.odx.sessions) ∧
    (∀ (r : Req) (x : Session), Fresh s r x → 3 ≤ x.version →
      ∃ t y, exec (.odxKeepalive r) s = .next t ∧ sessionOf t r = some y ∧ y.lastReq = s.tick.num) ∧
    (∀ (r : Req) (x : Session) (sub : BitVec 8) (data : Bytes) (v : Val), Fresh s r x → sub.toNat ∈ [1, 2, 3] →
      writeChecks (taken s r) x 0xD001 sub.toNat data (hookAll r 0xD001 sub.toNat) = .ok v →
      ∃ t, exec (.odxWrite r 0xD001 sub data false) s = .next t ∧ odGet t 0xD001 sub.toNat = v ∧
        ∀ y ∈ t.odx.sessions, y.via = .mailbox) ∧
    (∀ (k : Fin 8) (x : Session), s.odx.sessions[k.val]? = some x → x.via = .mailbox →
      ∃ t, exec (.sessionIdleTimeout k) s = .next t ∧ t.odx.sessions = s.odx.sessions) ∧
    (∃ t, exec .pcieReset s = .next t ∧ t.od = s.od ∧ ∀ y ∈ t.odx.sessions, y.via ≠ .mailbox)

/-- R406: on the network, a request of any kind that repeats the SESSION and TAG of its session's last answered request changes
nothing but the session's idle time, and the cached response is sent again, in a datagram as the response was; the request is one
that the controller takes at once. -/
def Obligations.RepeatedRequestIsAnsweredFromTheCache : Prop :=
  ∀ (s : State) (r : Req) (x : Session), taking s = true → netWaits s r = false → s.boot.phase ≠ .recovery →
    r.via ≠ .mailbox → sessionOf s r = some x → x.lastTag = some r.tag →
    ∀ (b : Bytes) (k : Fin 2) (d : BitVec 32) (q : BitVec 64) (a : Axis) (i : Fin 3) (n : Fin 256) (u : BitVec 8) (v : Bool) (w : BitVec 16),
    ∀ c ∈ ([
      .fullCalibrationRequest r, .planWrite r b, .stopRunningPlan r, .vehicleSpeedWrite r k d, .emissionEnable r,
      .emissionDisable r, .faultAcknowledge r, .diagnosisClear r q, .loopCommandOpen r a, .loopCommandClose r a,
      .loopCommandPark r a, .servoFaultClear r a, .decimatorStart r i, .decimatorStop r i, .traceArm r,
      .traceManualTrigger r, .traceStop r, .pr32VersionWrite r n u, .portEnableWrite r k v, .testRequestWrite r k v,
      .storeConfiguration r u, .pairConfiguration r u, .deleteConfiguration r u, .acqArm r, .acqStop r,
      .acqManualTrigger r, .odxClose r, .odxRead r w u v, .odxWrite r w u b v, .odxReadSeg r w u b, .odxWriteSeg r w u b,
      .odxChallenge r b, .odxAuth r b, .odxReadMulti r b, .odxKeepalive r, .storePersistentValues r, .restoreDefaults r,
      .powerStateRequest r u, .hostGroupTrigger r, .softwareReset r, .updateBegin r, .updateActivate r, .updateConfirm r,
      .updateCancel r, .keyRevocation r u] : List Instr),
      exec c s = .next (carry { taken s r with out := .response r x.cached :: s.out } r x.cached)

/-- R408: the accepted WRITE of an object that has no rule of its own puts the value in effect; every other stored object, and
everything but the sessions, the answer and its interrupt, stays as it was. -/
def Obligations.PlainWriteChangesItsObjectAlone : Prop :=
  ∀ (s : State) (r : Req) (x : Session) (ix : BitVec 16) (sub : BitVec 8) (data : Bytes) (v : Val), Fresh s r x →
    hookAll r ix.toNat sub.toNat = plainHook ix.toNat sub.toNat →
    writeChecks (taken s r) x ix.toNat sub.toNat data (hookAll r ix.toNat sub.toNat) = .ok v →
    ∃ t, exec (.odxWrite r ix sub data false) s = .next t ∧ odGet t ix.toNat sub.toNat = v ∧
      (∀ k, k ≠ odKey ix.toNat sub.toNat → tget t.od k = tget s.od k) ∧
      Only [.od, .sessions, .odx, .out, .mbox, .irq] s t

/-- R290, R295, R298, R344: the camera whose line is served, the one of higher priority where both wait, stores the line before it
at its place in the frame's slot, its pixels as stages 3 to 7 make them; the first line of a frame stores none; a stored frame
stores its last line, where it has lines, and its descriptor behind them; ACQ stores its oldest entry at the entry's address;
every other byte stays. Of the other commands none but the bus accesses changes a byte, unless MEM loses its supply and the
memory its contents. -/
def Obligations.StoresStayInTheirPlaces : Prop :=
  (∀ (s : State) (k : Nat) (f : CamFrame) (j i : Nat) (px cur : List Nat) (rest : List (Nat × List Nat)), MemoryWf s →
    k = 0 ∨ k = 1 → camPowered s = true → camWaiting s k = some (f, j, px) →
    camWaiting s (1 - k) = none ∨ k = (if odN s 0x6000 9 < odN s 0x6001 9 then 1 else 0) →
    f.mem = (i, cur) :: rest → f.px = 2 ∨ f.px = 4 →
    let n := neighbourLine s f i (if i + 1 = j then some (stageDefect f j (stageBlack f j px)) else none)
    let bs := (stageMosaic f i n.1 cur n.2.1).flatMap fun p => storeBytes f (stageTone f (stageColour f p))
    ∃ t, exec .lineService s = .next t ∧ bs.length = cur.length * f.px ∧
      (∀ m (h : m < bs.length), memGet t.qdr (f.base + i * f.w * f.px + m) = bs[m]) ∧
      ∀ a, a < f.base + i * f.w * f.px ∨ f.base + i * f.w * f.px + bs.length ≤ a → memGet t.qdr a = memGet s.qdr a) ∧
  (∀ (s : State) (k : Nat) (f : CamFrame) (j : Nat) (px : List Nat), k = 0 ∨ k = 1 → camPowered s = true →
    camWaiting s k = some (f, j, px) →
    camWaiting s (1 - k) = none ∨ k = (if odN s 0x6000 9 < odN s 0x6001 9 then 1 else 0) → f.mem = [] →
    ∃ t, exec .lineService s = .next t ∧ t.qdr = s.qdr) ∧
  (∀ (s : State) (k : Fin 2) (f : CamFrame) (i : Nat) (cur : List Nat) (rest : List (Nat × List Nat)), MemoryWf s →
    camPowered s = true → storable (getCam s k.val) = some f → f.mem = (i, cur) :: rest → f.px = 2 ∨ f.px = 4 →
    let n := neighbourLine s f i none
    let bs := (stageMosaic f i n.1 cur n.2.1).flatMap fun p => storeBytes f (stageTone f (stageColour f p))
    let d := f.base + f.w * f.h * f.px
    let e := d + (frameDesc k.val f).length
    ∃ t, exec (.frameStored k) s = .next t ∧ bs.length = cur.length * f.px ∧
      (∀ m (h : m < (frameDesc k.val f).length), memGet t.qdr (d + m) = (frameDesc k.val f)[m]) ∧
      (∀ m (h : m < bs.length), f.base + i * f.w * f.px + m < d ∨ e ≤ f.base + i * f.w * f.px + m →
        memGet t.qdr (f.base + i * f.w * f.px + m) = bs[m]) ∧
      ∀ a, (a < f.base + i * f.w * f.px ∨ f.base + i * f.w * f.px + bs.length ≤ a) → (a < d ∨ e ≤ a) →
        memGet t.qdr a = memGet s.qdr a) ∧
  (∀ (s : State) (k : Fin 2) (f : CamFrame), MemoryWf s → camPowered s = true → storable (getCam s k.val) = some f →
    f.mem = [] → slotRead s k.val f.slot = false →
    let d := f.base + f.w * f.h * f.px
    let e := d + (frameDesc k.val f).length
    ∃ t, exec (.frameStored k) s = .next t ∧
      (∀ m (h : m < (frameDesc k.val f).length), memGet t.qdr (d + m) = (frameDesc k.val f)[m]) ∧
      ∀ a, (a < d ∨ e ≤ a) → memGet t.qdr a = memGet s.qdr a) ∧
  (∀ (s : State) (a : Nat) (bs : Bytes) (rest : List (Nat × Bytes)), MemoryWf s → domOn s .mem = true →
    s.acq.fifo = (a, bs) :: rest →
    ∃ t, exec (.acqQdrWrite false) s = .next t ∧ t.acq.fifo = rest ∧
      (∀ n (h : n < bs.length), memGet t.qdr (a + n) = bs[n]) ∧
      ∀ b, b < a ∨ a + bs.length ≤ b → memGet t.qdr b = memGet s.qdr b) ∧
  (∀ (s t : State) (c : Instr), c ≠ .lineService → (∀ k, c ≠ .frameStored k) → c ≠ .acqQdrWrite false →
    (∀ o n w f, c ≠ .dataPortAccess o n w f) → (∀ b a n w, c ≠ .internalBusAccess b a n w) → exec c s = .next t →
    t.qdr = s.qdr ∨ (t.qdr = [] ∧ domUp t .mem = false))

/-- From every state whose memory has its canonical form (addresses rise, no listed byte is what an unlisted one reads as), a
step leads to one whose memory has it. -/
def Obligations.MemoryKeepsItsForm : Prop := ∀ s t : State, MemoryWf s → step s = .next t → MemoryWf t

/-- R303, R313, R314: from every state in which the outputs are on in OPERATE only, every step leads to such a state: every
cause, reset and change of state that leaves OPERATE commands both outputs off. -/
def Obligations.SafeOutputsOnlyInOperate : Prop := ∀ s t : State, OutputsSafe s → step s = .next t → OutputsSafe t

/-- R207 to R209: from every state in which an active cause means that emission is off and no enable waits, every step leads to
such a state: a cause that becomes active halts emission at once, and no command starts it while one is active. -/
def Obligations.EmissionIsGatedByItsCauses : Prop := ∀ s t : State, EmissionGated s → step s = .next t → EmissionGated t

/-- Right after the VAON power-on (R471) the device is held in reset with no domain on; the reset cause is VAON (R473), the
supply record says so (R445), the quiesce record is zero, every object is at its default (R19), the outputs are off, and no
session, entry or command waits. That this is the moment of reset and that every vector is masked in it are the model's choices
(log entry 15), and so is the cause in 0x1F30:02 (log entry 52). -/
def Obligations.ResetState : Prop :=
  MemoryWf State.reset ∧ OutputsSafe State.reset ∧ EmissionGated State.reset ∧ State.reset.pending = [] ∧
    State.reset.boot.phase = .held ∧ State.reset.pwr.on = 0 ∧ State.reset.boot.causes = 1 ∧ State.reset.boot.last = 1 ∧
    State.reset.pwr.supply = 0x80000000 ∧ State.reset.pwr.record = List.replicate 24 0 ∧
    State.reset.host.vecMask = BitVec.allOnes 64 ∧ State.reset.host.intStatus = 0 ∧ State.reset.odx.sessions = [] ∧
    State.reset.host.log = [] ∧ ∀ ix sub, odGet State.reset ix sub = odDefault State.reset ix sub

/-- R35 to R38, with the counters of R41 and the interrupt of R380: only the selected edge is sampled; in LOCKED a predicted edge
holds the phase; in ACQUIRE the first edge starts a chain; an edge outside its band is counted, in LOCKED it counts towards the
limit and else it starts the chain anew; eight edges lock at once where nothing needs to move, in HOLDOVER at the held phase; a
missed edge is counted, and the limit of them leads to HOLDOVER; a stretch moves t+0 by the missing cycles and locks.
SHOT_SYNC_OUT starts its pulse at the offset in force and follows it. -/
def Obligations.SyncEdgesAndStretch : Prop :=
  ∀ (s : State) (b : Bool) (p : Fin 2000), domOn s .core = true →
    (odN s 0x2000 3 ≠ b2n (!b) → exec (.shotSyncEdge ⟨b, p⟩) s = .next s) ∧
    (odN s 0x2000 1 = 1 → odN s 0x2000 3 = b2n (!b) → s.tick.sync = .locked → edgePredicted s p.val = true →
      ∃ t, exec (.shotSyncEdge ⟨b, p⟩) s = .next t ∧ t.tick = { s.tick with held := some p.val, missRow := 0 }) ∧
    (odN s 0x2000 1 = 1 → odN s 0x2000 3 = b2n (!b) → s.tick.sync = .acquire → s.tick.chain = none →
      ∃ t, exec (.shotSyncEdge ⟨b, p⟩) s = .next t ∧ t.tick = { s.tick with chain := some p.val, valid := 1 }) ∧
    (odN s 0x2000 1 = 1 → odN s 0x2000 3 = b2n (!b) → edgePredicted s p.val = false →
      (s.tick.sync = .locked → s.tick.missRow + 1 < odN s 0x2000 4 →
        ∃ t, exec (.shotSyncEdge ⟨b, p⟩) s = .next t ∧ t.tick = { s.tick with missRow := s.tick.missRow + 1 } ∧
          odN t 0x2000 7 = satN 32 (odN s 0x2000 7 + 1)) ∧
      (s.tick.sync = .acquire ∨ s.tick.sync = .holdover → s.tick.chain.isSome = true →
        ∃ t, exec (.shotSyncEdge ⟨b, p⟩) s = .next t ∧ t.tick = { s.tick with chain := some p.val, valid := 1 } ∧
          odN t 0x2000 7 = satN 32 (odN s 0x2000 7 + 1))) ∧
    (odN s 0x2000 1 = 1 → odN s 0x2000 3 = b2n (!b) → edgePredicted s p.val = true → s.tick.chain.isSome = true →
      s.tick.valid + 1 < 8 → s.tick.sync = .acquire ∨ s.tick.sync = .holdover →
      ∃ t, exec (.shotSyncEdge ⟨b, p⟩) s = .next t ∧ t.tick = { s.tick with chain := some p.val, valid := s.tick.valid + 1 }) ∧
    (odN s 0x2000 1 = 1 → odN s 0x2000 3 = b2n (!b) → edgePredicted s p.val = true → s.tick.chain.isSome = true →
      s.tick.valid = 7 → (s.tick.sync = .acquire ∧ (p.val + odN s 0x2000 2) % 2000 = 0) ∨
        (s.tick.sync = .holdover ∧ ∃ q, s.tick.held = some q ∧ phaseDist p.val q ≤ 1) →
      ∃ t, exec (.shotSyncEdge ⟨b, p⟩) s = .next t ∧ t.tick.sync = .locked ∧ t.tick.held = some p.val ∧
        t.tick.syncLost = false ∧ t.tick.stretched = s.tick.stretched ∧ odN t 0x2000 8 = odN s 0x2000 8) ∧
    (s.tick.sync = .locked → s.tick.missRow + 1 < odN s 0x2000 4 →
      ∃ t, exec .missedEdge s = .next t ∧ t.tick = { s.tick with missRow := s.tick.missRow + 1 } ∧
        odN t 0x2000 7 = satN 32 (odN s 0x2000 7 + 1)) ∧
    (s.tick.sync = .locked → odN s 0x2000 4 ≤ s.tick.missRow + 1 →
      ∃ t, exec .missedEdge s = .next t ∧ t.tick.sync = .holdover ∧ t.tick.syncLost = true ∧ t.tick.chain = none ∧
        odN t 0x2000 7 = satN 32 (odN s 0x2000 7 + 1) ∧ t.host.intStatus.getLsbD 11 = true) ∧
    (∀ c, odN s 0x2000 1 = 1 → s.tick.sync = .acquire → 8 ≤ s.tick.valid → s.tick.chain = some c → emissionOff s = true →
      s.servo.h.st ≠ .closed → s.servo.v.st ≠ .closed → (c + odN s 0x2000 2) % 2000 ≠ 0 →
      ∃ t, exec .tickStretch s = .next t ∧ t.tick.sync = .locked ∧ t.tick.stretched = (c + odN s 0x2000 2) % 2000 ∧
        t.tick.held = some ((c + 2000 - (c + odN s 0x2000 2) % 2000) % 2000) ∧
        odN t 0x2000 8 = satN 32 (odN s 0x2000 8 + 1)) ∧
    (odN s 0x2000 9 = 1 → s.tick.syncOut = false →
      ∃ t, exec .shotSyncOutPulse s = .next t ∧ t.tick = { s.tick with syncOut := true } ∧
        t.out = .syncPulse s.tick.syncOutOfs :: s.out) ∧
    (odN s 0x2000 9 = 0 ∨ s.tick.syncOut = true → exec .shotSyncOutPulse s = .next s) ∧
    (s.tick.syncOut = true →
      ∃ t, exec .shotSyncOutPulseEnd s = .next t ∧ t.tick = { s.tick with syncOut := false } ∧
        t.out = .pin "SHOT_SYNC_OUT" false :: s.out)

/-- R22, R26, R27, R40, R41, R47: the strobe counts the tick, ends an overrun, moves the dither codes, takes the SHOT_SYNC_OUT
offset and, unless the tick before overran, the drive codes of the shadow; the event causes end, and those of a watchdog that
expired in the tick before begin, with the forced entry into QUIET (log entries 26 and 68). Where requests of the network wait, they are served after that (log entry 85). The shadow load takes the
waiting request and the derate level; an enable waits for the EMIT domain (log entry 76). A late freeze is a tick overrun, and
a freeze closes the stacks whose next shot is withheld. A tick fault takes the island out of OPERATE. -/
def Obligations.TickStrobeAndShadow : Prop :=
  ∀ s : State,
    (tickRuns s = true → s.odx.netQ = [] →
      ∃ t, exec .tickStrobe s = .next t ∧ t.tick.started = true ∧
        t.tick.num = (if s.tick.started then s.tick.num + 1 else s.tick.num) ∧
        t.tick.overrun = false ∧ t.tick.syncOutOfs = odN s 0x2000 0x0A ∧
        t.rx.codes0 = s.rx.codes1 ∧ t.rx.codes1 = s.rx.codes2 ∧
        t.emit.wdtDue = 0 ∧ (s.emit.wdtDue = 0 → t.emit.active &&& 7#12 = 0) ∧
        (s.emit.wdtDue.getLsbD 1 = true → t.emit.active.getLsbD 1 = true) ∧
        (s.emit.wdtDue.getLsbD 2 = true → t.emit.active.getLsbD 2 = true) ∧
        (s.emit.wdtDue ≠ 0 → s.pwr.state = .run → s.pwr.pfState = 0 → s.pwr.entry = none → s.pwr.exit = none →
          ∃ e, t.pwr.entry = some e ∧ e.dest = .quiet ∧ e.forced = true) ∧
        (s.tick.overrun = false → t.servo.h.drive = s.servo.h.shadow ∧ t.servo.v.drive = s.servo.v.shadow) ∧
        (s.tick.overrun = true → t.servo.h.drive = s.servo.h.drive ∧ t.servo.v.drive = s.servo.v.drive)) ∧
    (tickRuns s = true → ∃ t, exec .tickStrobe s = .next t ∧
      t = { netServeAll (strobe s) with fuses := s.fuses, pending := s.pending, qdr := t.qdr }) ∧
    (tickRuns s = false → exec .tickStrobe s = .next s) ∧
    (running s = true →
      ∃ t, exec .shadowLoad s = .next t ∧ t.emit.derate = s.emit.derateNext ∧
        t.emit.request = (if s.emit.state = .off ∧ domOn s .emit = false ∧ s.emit.request = some true then some true else none) ∧
        (s.emit.state = .off → s.emit.request = some true → domOn s .emit = true → t.emit.state = .fadeIn ∨ t.emit.state = .on) ∧
        (s.emit.state = .off → s.emit.request ≠ some true ∨ domOn s .emit = false → t.emit.state = .off) ∧
        (s.emit.state = .fadeOut → s.emit.request = some true → t.emit.state = .fadeIn ∨ t.emit.state = .on) ∧
        (s.emit.state = .on ∨ s.emit.state = .fadeIn → s.emit.request = some false →
          t.emit.state = .fadeOut ∨ t.emit.state = .off) ∧
        (s.emit.state = .halted → s.emit.active = 0 → s.emit.latched = 0 → t.emit.state = .off) ∧
        (s.emit.state = .halted → s.emit.active ≠ 0 → t.emit.state = .halted)) ∧
    (running s = false → exec .shadowLoad s = .next s) ∧
    (∃ t, exec (.shadowFreeze true) s = .next t ∧ t.tick.overrun = true ∧ t.emit.active.getLsbD 0 = true ∧
        odN t 0x2000 0x0B = satN 32 (odN s 0x2000 0x0B + 1) ∧ (s.emit.active.getLsbD 0 = false → t.emit.state = .halted) ∧
        ∀ c ∈ chanList s, (getChan t c).pair = .idle) ∧
    (∃ t, exec (.shadowFreeze false) s = .next t ∧ t.tick = s.tick ∧ t.emit = s.emit ∧
        ∀ c ∈ chanList s, (getChan s c).pair = .opened →
          ((getChan s c).gone = true → (getChan t c).pair = .idle ∧ (getChan t c).gone = false) ∧
          ((getChan s c).gone = false → nextShot s c = false →
            (getChan t c).pair = .idle ∧ (getChan t c).reading = true ∧ (getChan t c).held.cutShort = true) ∧
          ((getChan s c).gone = false → nextShot s c = true → getChan t c = getChan s c)) ∧
    ∀ b : Bool,
      (islOn s = true → s.isl.active.getLsbD 7 = false →
        ∃ t, exec (.tickMonitorFault b) s = .next t ∧ t.isl.active.getLsbD 7 = true ∧ t.isl.latched.getLsbD 7 = true ∧
          t.isl.goodTicks = 0 ∧
          (s.isl.st = .operate → t.isl.st = .safe ∧ t.isl.outA.on = false ∧ t.isl.outB.on = false)) ∧
      (islOn s = true → s.isl.active.getLsbD 7 = true →
        ∃ t, exec (.tickMonitorFault b) s = .next t ∧ t = { s with isl := { s.isl with goodTicks := 0 } }) ∧
      (islOn s = false → exec (.tickMonitorFault b) s = .next s)

/-- R57, R59, R60, R66, R88 to R92, R111: what the discriminators find in a return of an assigned channel becomes an event at its
walk-corrected time; a stretch that starts within 2.0 ns of the latest trailing edge and outlasts it is counted; one longer than
the stuck time makes the tick stuck, whenever in the tick that time passes, and a stuck tick discards the channel's events; the
end of a blanking interval marks the stack and the neighbours; the filter rejects, drops on the quota, or bins an event and meets
the errors of its memory words. The clauses on a pulse are of one with a single stretch. That the dead time and the blanking are
judged on corrected edges before the walk, and the dead time from stamped pulses only, is the model's choice (log entries 29 and
72). -/
def Obligations.FrontEndAndFilter : Prop :=
  ∀ (s : State) (c : Fin 512), chanLive s c.val = true →
    (∀ p : Pulse, (nextHit s c.val p.base p.wave).2 = none →
      ∃ t, exec (.frontEndEvent c p) s = .next t ∧ (getChan t c.val).events = (getChan s c.val).events ∧
        (getChan t c.val).trail = (getChan s c.val).trail) ∧
    (∀ (p : Pulse) (h : Hit) (u : Int), (nextHit s c.val p.base p.wave).2 = some (h, []) → s.rx.settled = false →
      (getChan s c.val).stuckNow = false → h.lead.t < 5376000 → activeFor h ≤ 512 * odN s 0x3000 7 →
      (getChan s c.val).trail = some u → stamp (getChan s c.val) h.lead < u + 1024 → u + 1024 < h.trailStamp (getChan s c.val) →
      ∃ t, exec (.frontEndEvent c p) s = .next t ∧ (getChan t c.val).events = (getChan s c.val).events ∧
        odI t (0x3058 + c.val / 64) (c.val % 64 + 1) = satN 32 (odN s (0x3058 + c.val / 64) (c.val % 64 + 1) + 1)) ∧
    (∀ (p : Pulse) (h : Hit), (nextHit s c.val p.base p.wave).2 = some (h, []) → s.rx.settled = false →
      (getChan s c.val).stuckNow = false → h.lead.t < 5376000 → activeFor h ≤ 512 * odN s 0x3000 7 → h.open = false →
      h.high = none → (getChan s c.val).trail = none → (getChan s c.val).assigned = true →
      let x := getChan s c.val
      let lead := corrected x h.lead
      let w := (max 0 (h.trailStamp x + x.skew + x.trim - lead)).toNat
      let walk := walkWidth (quadOf s c.val) w false
      let time := roundDiv (lead + walk.1) 16
      0 ≤ time → x.lambda ≤ time.toNat → time.toNat - x.lambda ≤ 327679 →
      ∃ t, exec (.frontEndEvent c p) s = .next t ∧
        (getChan t c.val).events = x.events ++ [{
          time := time.toNat, width := min 511 (roundDivN w 64), ht := false, ovl := false
          blank := inBlank x lead, wclamp := walk.2, winv := false }] ∧
        (getChan t c.val).trail = some (h.trailStamp x)) ∧
    (∀ (p : Pulse) (h : Hit), (nextHit s c.val p.base p.wave).2 = some (h, []) → (getChan s c.val).stuckNow = false →
      512 * odN s 0x3000 7 < activeFor h → (getChan s c.val).stuckRun + 1 < odN s 0x3000 8 →
      ∃ t, exec (.frontEndEvent c p) s = .next t ∧ (getChan t c.val).stuckNow = true ∧ (getChan t c.val).events = []) ∧
    (∀ ns, odN s 0x3000 7 < ns → (getChan s c.val).stuckNow = false → (getChan s c.val).stuckRun + 1 < odN s 0x3000 8 →
      ∃ t, exec (.stuckTick ⟨c, ns⟩) s = .next t ∧ (getChan t c.val).stuckNow = true ∧ (getChan t c.val).events = [] ∧
        (getChan t c.val).stuckRun = (getChan s c.val).stuckRun + 1 ∧ odN t 0x3080 3 = satN 32 (odN s 0x3080 3 + 1)) ∧
    (∀ ns, odN s 0x3000 7 < ns → (getChan s c.val).stuckNow = false → odN s 0x3000 8 ≤ (getChan s c.val).stuckRun + 1 →
      ∃ t, exec (.stuckTick ⟨c, ns⟩) s = .next t ∧ (getChan t c.val).st = .fault ∧ (getChan t c.val).events = [] ∧
        t.host.intStatus.getLsbD 17 = true) ∧
    (∀ ns, ns ≤ odN s 0x3000 7 → exec (.stuckTick ⟨c, ns⟩) s = .next s) ∧
    (∀ a b : Int, (getChan s c.val).blank = some (a, b) → s.rx.settled = false → (getChan s c.val).assigned = true → (getChan s c.val).late = false →
      ∃ t, exec (.blankingIntervalEnd c) s = .next t ∧ (getChan t c.val).blank = none ∧
        (getChan t c.val).acc.overload = true ∧
        (getChan t c.val).acc.sat = (getChan s c.val).acc.sat ||| markBins (getChan s c.val).lambda a (min b 5376000) ∧
        ∀ d ∈ listedBy s c.val, d ≠ c.val → chanLive s d = true → (getChan s d).assigned = true → (getChan s d).late = false →
          (getChan t d).acc.xt = (getChan s d).acc.xt ||| markBins (getChan s d).lambda a (min b 5376000)) ∧
    (∀ (v : Event) (n cyc k : Nat) (b : Bool), s.rx.settled = false → (getChan s c.val).assigned = true → (getChan s c.val).late = false →
      (getChan s c.val).events.find? (fun w => w.time == n && w.passed.isNone) = some v →
      let q := coincOf s c.val
      (coincCount s c.val n < q.1 → (q.2.2.2 && v.ht) = false →
        ∃ t, exec (.coincidenceDecision c n ⟨cyc, k, b⟩) s = .next t ∧
          (getChan t c.val).acc.rejects = (getChan s c.val).acc.rejects + 1 ∧
          (getChan t c.val).accepted = (getChan s c.val).accepted) ∧
      (q.1 ≤ coincCount s c.val n ∨ (q.2.2.2 && v.ht) = true → 1050 ≤ (getChan s c.val).accepted →
        ∃ t, exec (.coincidenceDecision c n ⟨cyc, k, b⟩) s = .next t ∧
          (getChan t c.val).acc.quotaDrop = (getChan s c.val).acc.quotaDrop + 1 ∧ (getChan t c.val).acc.rateLim = true) ∧
      (q.1 ≤ coincCount s c.val n ∨ (q.2.2.2 && v.ht) = true → (getChan s c.val).accepted < 1050 →
        (tgetD s.rx.bufs (c.val / 8) {}).entries.length < 64 →
        ∃ t, exec (.coincidenceDecision c n ⟨cyc, k, b⟩) s = .next t ∧
          (getChan t c.val).acc = { binEvent (n - (getChan s c.val).lambda) (getChan s c.val).acc with
            eccErr := b || (getChan s c.val).acc.eccErr } ∧ odN t 0x3108 7 = satN 32 (odN s 0x3108 7 + k) ∧
          (getChan t c.val).accepted = (getChan s c.val).accepted + 1))

/-- R97, R153, R106, R110: at gate close a stack with all its shots swaps; at t+10.60 µs an eligible stack that passes its test
closes early; at swap point B one whose shot was suppressed closes cut short. A complete read pass hands the half to
extraction, an error discards it with a notification, an overrun drops it and is a tick overrun. -/
def Obligations.StacksCloseAndAreRead : Prop :=
  ∀ s : State,
    (s.rx.gate = true → ∃ t, exec .gateClose s = .next t ∧ t.rx.gate = false ∧ ∀ c ∈ chanList s,
      ((getChan t c).blank = none) ∧
      ((getChan s c).pair = .opened → (getChan s c).assigned = true → (getChan s c).gone = false →
        (getChan s c).acc.fired = (getChan s c).acc.planned →
        (getChan t c).pair = .idle ∧ (getChan t c).reading = true ∧ (getChan t c).late = true ∧
        (getChan t c).held.cutShort = false ∧ (getChan t c).stackSeq = ((getChan s c).stackSeq + 1) % 65536 ∧
        (getChan t c).due = (getChan s c).acc.closeTick + 1)) ∧
    (s.rx.gate = false → s.rx.settled = false → ∃ t, exec .earlyTerminationTest s = .next t ∧ t.rx.settled = true ∧
      t.rx.bufs = [] ∧ ∀ c ∈ chanList s,
        (earlyTest s c = true → (getChan t c).pair = .idle ∧ (getChan t c).reading = true ∧ (getChan t c).held.early = true) ∧
        (earlyTest s c = false → (getChan t c).pair = (getChan s c).pair)) ∧
    (s.rx.slotDone = false → ∃ t, exec .swapPointBSlot s = .next t ∧ t.rx.slotDone = true ∧ ∀ c ∈ chanList s,
      (getChan s c).assigned = false → (getChan t c).early = [] ∧
        ((getChan s c).pair = .opened → (getChan t c).pair = .idle ∧
          ((getChan s c).gone = false → (getChan t c).reading = true ∧ (getChan t c).held.cutShort = true))) ∧
    (∀ (c : Fin 512) (k : Nat), (getChan s c.val).reading = true → (getChan s c.val).held.eccErr = false →
      beyondBound (getChan s c.val).held = false →
      ∃ t, exec (.readPassComplete c k false) s = .next t ∧ (getChan t c.val).reading = false ∧
        (getChan t c.val).toExtract = true ∧ odN t 0x3108 7 = satN 32 (odN s 0x3108 7 + k)) ∧
    (∀ (c : Fin 512) (k : Nat), (getChan s c.val).reading = true →
      ∃ t, exec (.readPassComplete c k true) s = .next t ∧ (getChan t c.val).reading = false ∧
        (getChan t c.val).toExtract = false ∧ odN t 0x3108 8 = satN 32 (odN s 0x3108 8 + 1) ∧
        t.host.intStatus.getLsbD 17 = true) ∧
    (∀ c : Fin 512, (getChan s c.val).reading = true → (getChan s c.val).due ≤ s.tick.num →
      ∃ t, exec (.readPassOverrun c) s = .next t ∧ (getChan t c.val).reading = false ∧ (getChan t c.val).toExtract = false ∧
        t.tick.overrun = true ∧ odN t 0x3108 3 = satN 32 (odN s 0x3108 3 + 1) ∧
        odN t 0x2000 0x0B = satN 32 (odN s 0x2000 0x0B + 1))

/-- R61, R62, R75: hits add to the code density of their channel; the period end measures the oscillators and counts; a request
with RX on and no calibration running starts one under the inhibit RX_CAL; one while a calibration runs, or while emission is
not off, is aborted with STATE_REFUSED, and one that fails a check with that check's code; after 120 ms the calibration ends, the
inhibit goes, Eddy starts anew from the static thresholds, a channel that took part is in RUN or FAULT, and a start-up plan that
waits goes to admission. That a request with RX off is aborted too is the model's choice (log entry 30). -/
def Obligations.CalibrationRuns : Prop :=
  ∀ s : State,
    (∀ h : CalHits, domOn s .rx = true → (tget s.rx.chans h.c.val).isSome = true →
      ∃ t, exec (.calibrationHits [h]) s = .next t ∧
        (getChan t h.c.val).counts = (List.range 16).map fun p => (getChan s h.c.val).counts.getD p 0 + h.counts.getD p 0) ∧
    (∀ osc : List Nat, s.rx.periodDue = true →
      ∃ t, exec (.calibrationPeriodEnd osc) s = .next t ∧ t.rx.periodDue = false ∧
        odN t 0x3000 6 = roundDivN (osc.getD 0 0 * 78125) 256 ∧ odN t 0x3000 5 = satN 32 (odN s 0x3000 5 + 1)) ∧
    (∀ (r : Req) (v : Val), WriteOk s r 0x3000 1 [1] calHook v → s.rx.cal ≠ .running → domOn s .rx = true →
      ∃ t, exec (.fullCalibrationRequest r) s = .next t ∧ t.rx.cal = .running ∧ t.rx.calStart = s.tick.num ∧
        t.rx.calPower = false ∧ t.emit.active.getLsbD 3 = true ∧
        ∀ c x, tget s.rx.chans c = some x → s.rx.enabled.getLsbD c = true → c < nChan s →
          (getChan t c).st = .cal) ∧
    (∀ (r : Req) (v : Val), WriteOk s r 0x3000 1 [1] calHook v → s.rx.cal = .running ∨ domOn s .rx = false →
      ∃ t, exec (.fullCalibrationRequest r) s = .next t ∧ t.rx = s.rx ∧
        .response r (odxMessage (verOf s r) cmdWrite 3 r.session.toNat r.tag.toNat 0x3000 1 (leBytes 4 abState)) ∈ t.out) ∧
    (∀ (r : Req) (x : Session) (row : ObjRow), Fresh s r x → writeGrant (taken s r) x 0x3000 1 = .ok row → emissionOff s = false →
      ∃ t, exec (.fullCalibrationRequest r) s = .next t ∧ t.rx = s.rx ∧
        .response r (odxMessage (verOf s r) cmdWrite 3 r.session.toNat r.tag.toNat 0x3000 1 (leBytes 4 abState)) ∈ t.out) ∧
    (∀ (r : Req) (x : Session) (k : Nat), Fresh s r x → writeChecks (taken s r) x 0x3000 1 [1] calHook = .error (k, taken s r) →
      ∃ t, exec (.fullCalibrationRequest r) s = .next t ∧ t.rx = s.rx ∧
        .response r (odxMessage (verOf s r) cmdWrite 3 r.session.toNat r.tag.toNat 0x3000 1 (leBytes 4 k)) ∈ t.out) ∧
    (∀ y : FullCalResult, s.rx.cal = .running → 9375 ≤ since s s.rx.calStart →
      ∃ t, exec (.fullCalibrationEnd y) s = .next t ∧ (t.rx.cal = .done ∨ t.rx.cal = .faults) ∧
        t.emit.active.getLsbD 3 = false ∧ odN t 0x3000 3 = tickUs (since s s.rx.calStart) ∧
        t.host.intStatus.getLsbD 7 = true ∧
        (s.odx.startDue = true → s.plan.admission = none → t.odx.startDue = false ∧ t.plan.admission.isSome = true) ∧
        (s.odx.startDue = false → t.plan = s.plan) ∧
        ∀ c ∈ chanList s, (getChan t c).le = odChan s 0x3020 c ∧
          ((getChan s c).st = .cal → (getChan t c).st = .run ∨ (getChan t c).st = .fault))

/-- R122, R140, R175, R273, R278: an extraction adds one result with at most four echoes in each list and updates Eddy's estimate;
Oxbow takes it off, counts its outcome, advances the epoch on a discard and forms one record per echo of the list it takes, to be found
corrupt where it is so marked (R265);
Confluence decides the first waiting record, and a pixel read ends COLOURED or MEM_LATE; a read that MEM_LATE gave up still holds
its slot until it returns; a version write sets the lower. -/
def Obligations.ResultsBecomeRecords : Prop :=
  ∀ s : State,
    (∀ c : Fin 512, (getChan s c.val).toExtract = true → chanLive s c.val = true →
      ∃ t res, exec (.echoExtraction c) s = .next t ∧ t.rx.results = s.rx.results ++ [res] ∧ res.chan = c.val ∧
        res.half = { (getChan s c.val).held with scout := [], fine := [] } ∧ res.ambient = ambientOf (getChan s c.val).held ∧
        res.listF.length ≤ 4 ∧ res.listS.length ≤ 4 ∧ (getChan t c.val).toExtract = false ∧
        (getChan t c.val).as8 = (getChan s c.val).as8 +
          fdiv (256 * (res.ambient : Int) - (getChan s c.val).as8) (2 ^ odN s 0x3218 5)) ∧
    (∀ (c : Fin 512) (m : BitVec 4) (r : ChanResult),
      (s.rx.results.find? fun x => x.chan == c.val && decide (x.half.closeTick + 2 ≤ s.tick.num)) = some r →
      let k := oxbowCode s r
      let discard := k == 2 || k == 3
      let l := if discard then r.listS else r.listF
      ∃ t, exec (.oxbowDecision ⟨c, m⟩) s = .next t ∧ t.rx.results = s.rx.results.erase r ∧
        odN t 0x2120 (k + 1) = satN 32 (odN s 0x2120 (k + 1) + 1) ∧
        (getChan t c.val).epoch = (if discard then ((getChan s c.val).epoch + 1) % 256 else (getChan s c.val).epoch) ∧
        t.points.queue.length = s.points.queue.length + l.length ∧
        ∀ i < l.length, (t.points.queue[s.points.queue.length + i]?).map (·.corrupt) = some (m.getLsbD i)) ∧
    (∀ p : PointRec, (s.points.queue.find? fun q => q.stage == .wait) = some p →
      (∀ q ∈ s.points.queue, s.tick.num ≤ q.commit) →
      ∃ t, exec .confluence s = .next t ∧ t.points.queue = updFirst (fun q => q.stage == .wait) (fun q => { q with
          stage := (colourOf s p).1, status := (colourOf s p).2.1, cam := (colourOf s p).2.2 }) s.points.queue ∧
        (odN s 0x6040 1 = 0 → colourOf s p = (.done, 2, 3))) ∧
    (∀ (p : PointRec) (k sl a px age : Nat), s.points.late = [] → s.points.queue.find? reading = some p →
      p.stage = .read k sl a px age → (∀ q ∈ s.points.queue, s.tick.num ≤ q.commit) →
      ∃ t, exec .pixelReadReturn s = .next t ∧
        t.points.queue = updFirst reading (fun q => { q with stage := .done, rgb := pixelColour s a px }) s.points.queue ∧
        odN t 0x6044 1 = satN 64 (odN s 0x6044 1 + 1) ∧
        odN t 0x6044 7 = (if odN s 0x6044 7 < age then satN 32 age else odN s 0x6044 7)) ∧
    (∀ (p : Nat × Nat) (l : List (Nat × Nat)), s.points.late = p :: l →
      ∃ t, exec .pixelReadReturn s = .next t ∧ t.points.late = l ∧ t.points.queue = s.points.queue) ∧
    (∀ (p : PointRec) (k sl a px age : Nat), s.points.queue.find? reading = some p → p.stage = .read k sl a px age →
      (∀ q ∈ s.points.queue, s.tick.num ≤ q.commit) →
      ∃ t, exec .memLate s = .next t ∧ t.points.late = s.points.late ++ [(k, sl)] ∧
        t.points.queue = updFirst reading (fun q => { q with stage := .done, status := 7 }) s.points.queue ∧
        odN t 0x6044 5 = satN 32 (odN s 0x6044 5 + 1)) ∧
    (∀ (r : Req) (sub : Fin 256) (b : BitVec 8) (v : Val), sub.val = 2 ∨ sub.val = 3 →
      WriteOk s r 0x1F12 sub.val [b] (versionHook sub.val) v →
      ∃ t, exec (.pr32VersionWrite r sub b) s = .next t ∧ odN t 0x1F12 sub.val = min b.toNat 2)

/-- R180, R188, R31, R189, R170, R198, R195: a plan write starts admission, or is refused while one runs; its end answers, an
accepted plan becomes pending and a check-only admission changes no plan; a start-up plan that waited goes next; a due switch
makes the plan the running one, a due stop ends it; a stop request discards the pending plan, at the write that asks for the stop
(the model's choice, log entry 20); a plan whose switch is decided and not yet in effect is superseded and discarded as well; a
speed write restarts its timeout, whose end marks it stale; Weir's hold ends when no preloaded bucket is left. -/
def Obligations.PlansAreAdmittedAndSwitched : Prop :=
  ∀ (s : State) (r : Req) (v : Val),
    (∀ b : Bytes, WriteOk s r 0x2100 1 b (planHook r) v → s.plan.admission = none →
      ∃ t, exec (.planWrite r b) s = .next t ∧
        t.plan.admission = some {
          image := b, req := some r, start := s.tick.num, check := (odN s 0x2100 2 = 1), model := modelObjects s } ∧
        t.odx.longs = s.odx.longs ++ [{ kind := .plan, req := r, index := 0x2100, sub := 1, cmd := 4 }]) ∧
    (∀ b : Bytes, WriteOk s r 0x2100 1 b (planHook r) v → s.plan.admission.isSome = true →
      ∃ t, exec (.planWrite r b) s = .next t ∧ t.plan = s.plan ∧ odN t 0x2101 1 = 1 ∧
        odN t 0x2102 6 = satN 32 (odN s 0x2102 6 + 1)) ∧
    (∀ a : Admission, s.plan.admission = some a →
      let u := setInt (odSetN { s with plan := { s.plan with admission := none } } 0x2101 8 (tickUs (since s a.start))) 5
      (s.odx.startDue = true → s.rx.cal = .done ∨ s.rx.cal = .faults →
        ∃ t b, exec .admissionEnd s = .next t ∧ t.odx.startDue = false ∧ t.plan.admission = some b ∧
          b.image = s.odx.startUp ∧ b.req = none ∧ b.check = false ∧ b.start = s.tick.num) ∧
      (∀ f, admission { u with emit := { u.emit with model := a.model } } a.image = .error f → s.odx.startDue = false →
        ∃ t, exec .admissionEnd s = .next t ∧ t.plan = { s.plan with admission := none } ∧ odN t 0x2101 1 = f.code ∧
          odN t 0x2102 6 = satN 32 (odN s 0x2102 6 + 1) ∧ t.host.intStatus.getLsbD 5 = true) ∧
      (∀ p, admission { u with emit := { u.emit with model := a.model } } a.image = .ok p → s.odx.startDue = false →
        ∃ t, exec .admissionEnd s = .next t ∧ odN t 0x2101 1 = 0 ∧
          odN t 0x2102 5 = satN 32 (odN s 0x2102 5 + 1) ∧ t.host.intStatus.getLsbD 5 = true ∧
          (a.check = true → t.plan = { s.plan with admission := none }) ∧
          (a.check = false → s.plan.switching = none →
            t.plan = { s.plan with admission := none, pending := some (p, s.tick.num) }) ∧
          ∀ w q, a.check = false → s.plan.switching = some (w, q) → s.tick.num < w →
            t.plan.pending = some (p, s.tick.num) ∧ t.plan.switching = none)) ∧
    (∀ u p, s.plan.switching = some (u, p) → u ≤ s.tick.num →
      ∃ t, exec .planSwitch s = .next t ∧ t.plan = { s.plan with
          running := some p, switching := none, stopAt := s.plan.stopAt.filter fun w => decide (u < w) } ∧
        t.host.intStatus.getLsbD 6 = true) ∧
    (WriteOk s r 0x2100 4 [1] stopHook v → s.plan.switching = none →
      ∃ t, exec (.stopRunningPlan r) s = .next t ∧ t.plan = { s.plan with
        pending := none, stopReq := if s.plan.cursor.isSome then some s.tick.num else none }) ∧
    (∀ w q, WriteOk s r 0x2100 4 [1] stopHook v → s.plan.switching = some (w, q) → s.tick.num < w → s.plan.pending = none →
      ∃ t, exec (.stopRunningPlan r) s = .next t ∧ t.plan.switching = none ∧ t.plan.pending = none ∧
        odN t 0x2102 7 = satN 32 (odN s 0x2102 7 + 1)) ∧
    (∀ u, s.plan.stopAt = some u → u ≤ s.tick.num →
      ∃ t, exec .planStopEffect s = .next t ∧ t.plan = { s.plan with running := none, stopAt := none } ∧
        t.host.intStatus.getLsbD 6 = true) ∧
    (∀ (k : Fin 2) (b : BitVec 32), WriteOk s r 0x2110 (k.val + 1) (leBytes 4 b.toNat) (speedHook (k.val + 1)) v →
      ∃ t, exec (.vehicleSpeedWrite r k b) s = .next t ∧ odN t 0x2110 (k.val + 1) = b.toNat ∧
        t.plan = { s.plan with stale := false, speedTick := some s.tick.num }) ∧
    (∀ u, s.plan.speedTick = some u → odN s 0x2110 3 * 10000 < (s.tick.num - u) * 128 →
      ∃ t, exec .speedTimeout s = .next t ∧ t.plan = { s.plan with stale := true }) ∧
    (weirHeld s s.tick.num = false → ∃ t, exec .weirHoldOffEnd s = .next t ∧ t.weir = { s.weir with hold := none })

/-- R207, R208, R220: an accepted enable or disable waits for the shadow load; an acknowledge clears the latched causes that are
no longer active; a diagnosis clear returns emitters to UNTESTED and their banks to service. An enable is never accepted in
HALTED. -/
def Obligations.EmissionCommandsAreTaken : Prop :=
  ∀ (s : State) (r : Req) (v : Val) (mask : BitVec 64),
    (WriteOk s r 0x4000 1 [1] enableHook v →
      ∃ t, exec (.emissionEnable r) s = .next t ∧ t.emit.enable = true ∧ t.emit.state = s.emit.state ∧
        s.emit.state ≠ .halted ∧
        t.emit.request = (if s.emit.state = .off ∨ s.emit.state = .fadeOut then some true else none)) ∧
    (WriteOk s r 0x4000 1 [0] enableHook v →
      ∃ t, exec (.emissionDisable r) s = .next t ∧ t.emit.enable = false ∧ t.emit.state = s.emit.state ∧
        t.emit.request = (if s.emit.state = .off ∨ s.emit.state = .halted then none else some false)) ∧
    (WriteOk s r 0x4000 3 [1] ackHook v → s.boot.stuck = false →
      ∃ t, exec (.faultAcknowledge r) s = .next t ∧
        t.emit = { s.emit with latched := s.emit.latched &&& s.emit.active }) ∧
    (WriteOk s r 0x4000 3 [1] ackHook v → s.boot.stuck = true → s.boot.ignored = false →
      ∃ t, exec (.faultAcknowledge r) s = .next t ∧ t.boot.stuck = false ∧ t.isl.active.getLsbD 15 = false) ∧
    (WriteOk s r 0x4013 3 (leBytes 8 mask.toNat) diagClearHook v →
      ∃ t, exec (.diagnosisClear r mask) s = .next t ∧ ∀ e < nEmit s,
        (mask.getLsbD e = true → (getEmitter t e).diag = .untested ∧ (getBank t (e / 8)).st = .ok) ∧
        (mask.getLsbD e = false → getEmitter t e = getEmitter s e))

/-- R206, R216, R218: a full window restarts empty and decides the state of an emitter that fired alone; two quiet integrals mark
the group and its bank STUCK_ON and raise the inhibit, which ends with the last stuck group; 64 bad readings turn the bank off
or UNDER. -/
def Obligations.EmitterDiagnosisActs : Prop :=
  ∀ s : State,
    (∀ (g : Fin 16) (i : Nat) (q : Rat), 1024 ≤ (getGroup s g.val).ticks → g.val < nEmit s / 4 →
      windowSolve (getGroup s g.val) = some [(i, q)] →
      ∃ t, exec (.diagnosisWindow g) s = .next t ∧ (getGroup t g.val).ticks = 0 ∧ (getGroup t g.val).fired = 0 ∧
        (getEmitter t (4 * g.val + i)).ratio = satN 16 (roundQ (1024 * q)).toNat ∧
        (diagHeld (getEmitter s (4 * g.val + i)).diag = false → (getEmitter t (4 * g.val + i)).diag = diagOf s q)) ∧
    (∀ g : Fin 16, 2 ≤ (getGroup s g.val).quietRun → (getGroup s g.val).stuck = false → g.val < nEmit s / 4 →
      ∃ t, exec (.stuckOn g) s = .next t ∧ (getGroup t g.val).stuck = true ∧ (getBank t (g.val / 2)).st = .stuckOn ∧
        (getBank t (g.val / 2)).now.uv = 0 ∧
        t.emit.active.getLsbD 7 = true ∧ (s.emit.active.getLsbD 7 = false → t.emit.state = .halted) ∧
        ∀ i < 4, (getEmitter t (4 * g.val + i)).diag = .stuckOn) ∧
    (∀ g : Fin 16, (getGroup s g.val).stuck = true → 64 ≤ (getGroup s g.val).below →
      (tset s.emit.groups g.val { getGroup s g.val with stuck := false }).any (fun p => p.2.stuck) = false →
      ∃ t, exec (.stuckOnClear g) s = .next t ∧ (getGroup t g.val).stuck = false ∧
        t.emit.active = s.emit.active &&& ~~~(1#12 <<< 7)) ∧
    (∀ b : Fin 8, 64 ≤ (getBank s b.val).run → (getBank s b.val).locked = false → b.val < nBank s →
      ∃ t, exec (.bankVoltageFault b) s = .next t ∧ (getBank t b.val).locked = true ∧ (getBank t b.val).run = 0 ∧
        odN t 0x4016 8 = satN 32 (odN s 0x4016 8 + 1) ∧
        ((getBank s b.val).overSeen = true → (getBank t b.val).st = .overVoltage ∧ (getBank t b.val).now.uv = 0) ∧
        ((getBank s b.val).overSeen = false → bankOff (getBank s b.val) = false → (getBank t b.val).st = .under))

/-- R202, R96, R219, R258, R457, R464: a launch while emission is on and EMIT is powered fires the shot once and opens the stack of
each live channel whose first tick it is; a second pulse leaves after its shot, and gated triggers fire nothing; the probe pulse
fires the selected probes; the latch steps the decimators; a conversion writes its slot. R457: a guard conversion has no result, counts in 0xB040:06 and the
conversion runs again, after a further guard where it was out of range and GUARD is set, and with NOGUARD where it was and GUARD
is not. -/
def Obligations.ShotsProbesAndLatch : Prop :=
  ∀ s : State,
    (∀ (e : Fin 64) (col : ColRun) (x : Shot), columnAt s s.tick.num = some col → tget s.emit.shots e.val = some x →
      x.fired = false → emissionOff s = false → s.emit.active = 0 → domOn s .emit = true → (col.chans.map (·.1)).Nodup →
      ∃ t, exec (.shotLaunch ⟨e, false⟩) s = .next t ∧ tget t.emit.shots e.val = some { x with fired := true } ∧
        odN t 0x4016 1 = satN 64 (odN s 0x4016 1 + 1) ∧
        ∀ (c : Nat) (p : StackPlan), c ∈ col.chans.map (·.1) → stackAt s c s.tick.num = some p → p.e = e.val →
          chanLive s c = true →
          ((getChan s c).pair = .idle → s.tick.num = p.first →
            (getChan t c).pair = .opened ∧ (getChan t c).assigned = true ∧ (getChan t c).acc.fired = 1 ∧
            (getChan t c).lambda = 2 * x.launch) ∧
          ((getChan s c).pair = .opened →
            (getChan t c).assigned = true ∧ (getChan t c).acc.fired = (getChan s c).acc.fired + 1 ∧
            (getChan t c).acc.closeTick = s.tick.num)) ∧
    (∀ (e : Fin 64) (x : Shot), tget s.emit.shots e.val = some x → x.fired = true → x.second ≠ 0 → emissionOff s = false →
      s.emit.active = 0 → domOn s .emit = true →
      ∃ t, exec (.shotLaunch ⟨e, true⟩) s = .next t ∧ tget t.emit.shots e.val = some { x with secondOut := true }) ∧
    (∀ (e : Fin 64) (b : Bool), emissionOff s = true ∨ s.emit.active ≠ 0 ∨ domOn s .emit = false →
      ∃ t, exec (.shotLaunch ⟨e, b⟩) s = .next t ∧ t.emit = s.emit ∧ t.rx = s.rx) ∧
    (s.emit.probes ≠ [] → s.emit.active = 0 → domOn s .emit = true →
      ∃ t, exec .probePulse s = .next t ∧ t.emit.probes = [] ∧ t.emit.probed = s.emit.probes ∧
        odN t 0x4016 2 = satN 32 (odN s 0x4016 2 + s.emit.probes.length)) ∧
    (∀ x : LatchInputs, domOn s .servo = true →
      ∃ t, exec (.positionSampleLatch x) s = .next t ∧ t.emit.probed = [] ∧ t.servo.gainNew = 0 ∧
        t.servo.dec = [(0, decLatch s x.sdm 0), (1, decLatch s x.sdm 1), (2, decLatch s x.sdm 2)] ∧
        ∀ a, (getAxis t a).cmd = none ∧ (getAxis t a).gate = axisGate (getAxis t a)) ∧
    (∀ (c : Conv) (raw : Fin 4096) (oor : Bool), s.hk.cur = some c → c.guard = false → c.level = 0 →
      ∃ t, exec (.conversionComplete raw oor) s = .next t ∧
        tget t.hk.slots c.input = some (slotWord s.tick.num s.hk.noGuard oor (hkCode c raw.val oor)) ∧
        odN t 0xB040 1 = satN 64 (odN s 0xB040 1 + 1)) ∧
    ∀ (c : Conv) (raw : Fin 4096) (oor : Bool), s.hk.cur = some c → c.guard = true →
      ∃ t, exec (.conversionComplete raw oor) s = .next t ∧ odN t 0xB040 6 = satN 32 (odN s 0xB040 6 + 1) ∧
        t.hk.slots = s.hk.slots ∧ t.hk.data = s.hk.data ∧
        (oor = false → t.hk.cur = some (withTrim s { c with guard := false }) ∧ t.hk.noGuard = s.hk.noGuard) ∧
        (oor = true → odN s 0xB000 2 = 1 → t.hk.cur = some (withTrim s c) ∧ t.hk.noGuard = s.hk.noGuard) ∧
        (oor = true → odN s 0xB000 2 = 0 → t.hk.cur = some (withTrim s { c with guard := false }) ∧ t.hk.noGuard = true)

/-- R247, R249, R257: an accepted OPEN, CLOSE or PARK keeps its command for the next latch, CLOSE only with SERVO powered and its
checks passed, and an accepted fault clear marks an axis in LOSS with 16 samples in band. -/
def Obligations.LoopCommandsWaitForTheLatch : Prop :=
  ∀ (s : State) (r : Req) (a : Axis) (v : Val),
    (WriteOk s r (axisIx a) 1 [0] (loopHook a) v → ∃ t, exec (.loopCommandOpen r a) s = .next t ∧
      getAxis t a = { getAxis s a with cmd := some 0 } ∧ odN t (axisIx a) 1 = 0) ∧
    (WriteOk s r (axisIx a) 1 [1] (loopHook a) v → ∃ t, exec (.loopCommandClose r a) s = .next t ∧
      getAxis t a = { getAxis s a with cmd := some 1 } ∧ odN t (axisIx a) 1 = 1 ∧
      domUp s .servo = true ∧ closeRefused s a = false) ∧
    (WriteOk s r (axisIx a) 1 [2] (loopHook a) v → ∃ t, exec (.loopCommandPark r a) s = .next t ∧
      getAxis t a = { getAxis s a with cmd := some 2 } ∧ odN t (axisIx a) 1 = 2) ∧
    (WriteOk s r (axisIx a) 0x0F [1] (faultClearHook a) v → ∃ t, exec (.servoFaultClear r a) s = .next t ∧
      getAxis t a = { getAxis s a with clear := true } ∧ (getAxis s a).st = .loss ∧ (getAxis s a).inRun = 16)

/-- R236: a start waits for the latch, a stop acts at once with INVALID set. R241: a pulse period updates the set-point by its duty,
a count gate by its frequency; a source without an update for its timeout keeps its value, is marked and counted. -/
def Obligations.DecimatorsAndSourcesRun : Prop :=
  ∀ (s : State) (r : Req) (d : Fin 3) (v : Val) (high period count : Nat),
    (WriteOk s r (0x5040 + d.val) 1 [1] (decRunHook d.val) v → domOn s .servo = true →
      (tgetD s.servo.dec d.val {}).on = false →
      ∃ t, exec (.decimatorStart r d) s = .next t ∧ odN t (0x5040 + d.val) 1 = 1 ∧
        tget t.servo.dec d.val = some { tgetD s.servo.dec d.val {} with starting := true }) ∧
    (WriteOk s r (0x5040 + d.val) 1 [0] (decRunHook d.val) v →
      ∃ t, exec (.decimatorStop r d) s = .next t ∧ odN t (0x5040 + d.val) 1 = 0 ∧
        tget t.servo.dec d.val = some { tgetD s.servo.dec d.val {} with
          on := false, starting := false, hist := []
          word := ((tgetD s.servo.dec d.val {}).word ||| 0x80000000#32) &&& 0xBFFFFFFF#32 }) ∧
    (domOn s .servo = true → odN s 0x5050 1 = 1 → 0 < period → 20000000 ≤ period * odN s 0x5050 3 →
      period * odN s 0x5050 2 ≤ 20000000 →
      ∃ t, exec (.spPulsePeriod high period) s = .next t ∧
        t.servo.pulse = ⟨2 * ((high : Nat) : Rat) / ((period : Nat) : Rat) - 1, s.tick.num, false⟩) ∧
    (domOn s .servo = true → odN s 0x5050 1 = 2 → 0 < count →
      ∃ t, exec (.countGate count) s = .next t ∧
        t.servo.pulse = ⟨clampU ((((count * 10000000 : Nat) : Rat) / ((odN s 0x5050 4 * 128 : Nat) : Rat) -
          ((odN s 0x5050 5 : Nat) : Rat)) / ((odN s 0x5050 6 : Nat) : Rat)), s.tick.num, false⟩) ∧
    (sourceLate s 0 s.servo.ana = true → sourceLate s 1 s.servo.pulse = false →
      ∃ t, exec .sourceTimeout s = .next t ∧ t.servo.ana = { s.servo.ana with late := true } ∧
        t.servo.pulse = s.servo.pulse ∧ odN t 0x5070 7 = satN 32 (odN s 0x5070 7 + 1)) ∧
    (sourceLate s 0 s.servo.ana = false → sourceLate s 1 s.servo.pulse = true →
      ∃ t, exec .sourceTimeout s = .next t ∧ t.servo.pulse = { s.servo.pulse with late := true } ∧
        t.servo.ana = s.servo.ana ∧ odN t 0x5070 7 = satN 32 (odN s 0x5070 7 + 1))

/-- R259: ARM empties the buffer and records, the manual trigger keeps the pre-trigger records, STOP ends the recording, and
after the records that were left the buffer is done and sets its interrupt. -/
def Obligations.TraceBufferFollowsItsCommands : Prop :=
  ∀ (s : State) (r : Req) (v : Val),
    (WriteOk s r 0x5060 4 [1] traceHook v → ∃ t, exec (.traceArm r) s = .next t ∧
      t.servo.trace.st = .armed ∧ t.servo.trace.recs = []) ∧
    (WriteOk s r 0x5060 4 [2] traceHook v → s.servo.trace.st = .armed → odN s 0x5060 2 = 0 →
      ∃ t, exec (.traceManualTrigger r) s = .next t ∧ t.servo.trace.st = .recording ∧
        t.servo.trace.recs = s.servo.trace.recs.take (odN s 0x5060 3) ∧
        t.servo.trace.left = 4096 - odN s 0x5060 3 ∧ t.servo.trace.tick = s.tick.num) ∧
    (WriteOk s r 0x5060 4 [0] traceHook v → s.servo.trace.st ≠ .done →
      ∃ t, exec (.traceStop r) s = .next t ∧ t.servo.trace = { s.servo.trace with st := .idle }) ∧
    (s.servo.trace.st = .recording → s.servo.trace.left = 0 →
      ∃ t, exec .traceDone s = .next t ∧ t.servo.trace = { s.servo.trace with st := .done } ∧
        t.host.intStatus = s.host.intStatus ||| (1#21 <<< 16))

/-- R228, R229: the shadow takes 0 with idle legs, the open-loop value, the compensator's or the ramp's next value. R256: a feedback loss records its
cause, counts it, raises the emission cause SERVO and the servo interrupt, and starts the park ramp from the drive held. -/
def Obligations.DriveAndFeedbackLoss : Prop :=
  (∀ (s : State), domOn s .servo = true → ∃ t, exec .driveValueWrite s = .next t ∧ ∀ a,
    ((getAxis s a).st = .off → (getAxis t a).shadow = 0) ∧ (getAxis t a).idleNext = ((getAxis s a).st == .off) ∧
    ((getAxis s a).st = .opened → (getAxis t a).shadow = odI s (axisIx a) 3) ∧
    ((getAxis s a).st = .closed → (getAxis t a).shadow = (getAxis s a).want) ∧
    (∀ p, (getAxis s a).st = .parking → (getAxis s a).ramp = some p →
      (getAxis t a).ramp = some { p with i := min p.n (p.i + 1) } ∧
      (getAxis t a).shadow = p.d0 + roundDiv ((p.dp - p.d0) * (min p.n (p.i + 1) : Nat)) p.n)) ∧
  (∀ (s : State) (a : Axis) (c : Nat), (getAxis s a).lossDue = some c →
    ∃ t, exec (.feedbackLoss a) s = .next t ∧
      (getAxis t a).st = .parking ∧ (getAxis t a).lossDue = none ∧ (getAxis t a).cause = c ∧
      (getAxis t a).gate = false ∧
      (getAxis t a).ramp = some ⟨(getAxis s a).drive, odI s (axisIx a) 4, 0, rampSteps s (axisIx a), true⟩ ∧
      odN t 0x5070 (if c = 2 then 2 else 1) = satN 32 (odN s 0x5070 (if c = 2 then 2 else 1) + 1) ∧
      t.host.intStatus.getLsbD 8 = true ∧ t.emit.active.getLsbD 4 = true)

/-- R284, R288, R289, R291, R298: a Frame Start opens a frame with its number, time and size; a Frame End closes it with its
descriptor; a good line enters the input buffer; the waiting line of the camera of higher priority is served; a stored frame
leaves the list for its slot, with its descriptor behind its pixels, and at most n - 1 frames of the ring are candidates (R296);
a frame without lines waits for the reads of its slot. -/
def Obligations.CameraFramesAndLines : Prop :=
  ∀ (s : State) (k : Fin 2),
    (∀ p : FramePacket, camReceives s k.val = true → entryStops s = false → p.ecc = .ok → p.vc.val = odN s (0x6000 + k.val) 4 →
      (getCam s k.val).st ≠ .absent → openFrame (getCam s k.val) = none → (getCam s k.val).lastFs = none →
      ∃ t f, exec (.frameStart k p) s = .next t ∧ (getCam t k.val).frames = (getCam s k.val).frames ++ [f] ∧
        f.seq = (getCam s k.val).seq ∧ f.no = p.no.toNat ∧ f.tfs = timeWhen s (10 * p.ofs) ∧ f.w = odN s (0x6000 + k.val) 6 ∧
        f.h = odN s (0x6000 + k.val) 7 ∧ f.arrived = 0 ∧ f.closed = false ∧
        (getCam t k.val).seq = (getCam s k.val).seq + 1 ∧ (getCam t k.val).armed = s.tick.num) ∧
    (∀ (p : FramePacket) (f : CamFrame), camReceives s k.val = true → p.ecc = .ok → p.vc.val = odN s (0x6000 + k.val) 4 →
      (getCam s k.val).ignore = false → openFrame (getCam s k.val) = some f →
      let g : CamFrame := { f with closed := true, noFe := false, short := frameShort f }
      ∃ t, exec (.frameEnd k p) s = .next t ∧ g ∈ (getCam t k.val).frames ∧ (getCam t k.val).desc = frameDesc k.val g ∧
        odN t (0x6008 + k.val) 2 = satN (odWidth (0x6008 + k.val) 2) (odN s (0x6008 + k.val) 2 + 1)) ∧
    (∀ (p : LinePacket) (f : CamFrame), camReceives s k.val = true → p.ecc = .ok → p.vc.val = odN s (0x6000 + k.val) 4 →
      p.dt.toNat = camType s k.val → (getCam s k.val).ignore = false → openFrame (getCam s k.val) = some f →
      f.arrived < f.h → f.cut = false → (getCam s k.val).buf.length < 4 →
      ∃ t, exec (.linePacket k p) s = .next t ∧
        (getCam t k.val).buf = (getCam s k.val).buf ++ [(f.seq, f.arrived, lineData f p)]) ∧
    (∀ a, camPowered s = true → camWaiting s 0 = some a → camWaiting s 1 = none →
      ∃ t, exec .lineService s = .next t ∧ (getCam t 0).buf = (getCam s 0).buf.drop 1 ∧ getCam t 1 = getCam s 1) ∧
    (∀ a b, camPowered s = true → camWaiting s 0 = some a → camWaiting s 1 = some b → odN s 0x6000 9 < odN s 0x6001 9 →
      ∃ t, exec .lineService s = .next t ∧ (getCam t 1).buf = (getCam s 1).buf.drop 1 ∧ getCam t 0 = getCam s 0) ∧
    (∀ f : CamFrame, camPowered s = true → storable (getCam s k.val) = some f → MemoryWf s →
      f.mem ≠ [] ∨ slotRead s k.val f.slot = false → 2 ≤ odN s (0x6010 + k.val) 2 →
      ((getCam s k.val).slots.map (·.1)).Nodup → (∀ p ∈ (getCam s k.val).slots, p.1 ≠ f.slot → p.2.seq < f.seq) →
      ∃ t, exec (.frameStored k) s = .next t ∧
        (getCam t k.val).frames = (getCam s k.val).frames.filter (fun x => x.seq != f.seq) ∧
        tget (getCam t k.val).slots f.slot = some {
          seq := f.seq, tmid := f.tmid, bad := f.short || f.trunc, base := f.base, w := f.w, px := f.px } ∧
        ((getCam s k.val).slots.length < odN s (0x6010 + k.val) 2 → (getCam t k.val).slots.length < odN s (0x6010 + k.val) 2) ∧
        qdrRead t (f.base + f.w * f.h * f.px) 32 = frameDesc k.val f) ∧
    (∀ f : CamFrame, storable (getCam s k.val) = some f → f.mem = [] → slotRead s k.val f.slot = true →
      exec (.frameStored k) s = .next s)

/-- R287, R285: an enable write starts an OFF port, a disable write stops it; a test request moves a NORMAL port to TEST and back
to STARTUP; a frame timeout leads to ABSENT, with a notification outside TEST, and sets the camera interrupt;
CAM_FSYNC falls in the tick in which its pulse has lasted its width, and not before. -/
def Obligations.CameraPortsAndSync : Prop :=
  ∀ (s : State) (k : Fin 2) (r : Req) (v : Val),
    (WriteOk s r (0x6000 + k.val) 1 [1] (portHook k.val) v → camPowered s = true → (getCam s k.val).st = .off →
      odN s (0x6000 + k.val) 0x0F = 0 →
      ∃ t, exec (.portEnableWrite r k true) s = .next t ∧ (getCam t k.val).st = .startup ∧
        (getCam t k.val).armed = s.tick.num ∧ odN t (0x6000 + k.val) 1 = 1) ∧
    (WriteOk s r (0x6000 + k.val) 1 [0] (portHook k.val) v →
      ∃ t, exec (.portEnableWrite r k false) s = .next t ∧ (getCam t k.val).st = .off ∧
        (getCam t k.val).lastFs = none ∧ odN t (0x6000 + k.val) 1 = 0) ∧
    (WriteOk s r (0x6000 + k.val) 0x0F [1] (testHook k.val) v → (getCam s k.val).st = .normal →
      ∃ t, exec (.testRequestWrite r k true) s = .next t ∧ (getCam t k.val).st = .test ∧ odN t (0x6000 + k.val) 0x0F = 1) ∧
    (WriteOk s r (0x6000 + k.val) 0x0F [0] (testHook k.val) v → (getCam s k.val).st = .test →
      ∃ t, exec (.testRequestWrite r k false) s = .next t ∧ (getCam t k.val).st = .startup ∧
        odN t (0x6000 + k.val) 0x0F = 0) ∧
    (camPowered s = true → msTicks (odN s (0x6000 + k.val) 0x0D) ≤ since s (getCam s k.val).armed →
      (getCam s k.val).st = .startup ∨ (getCam s k.val).st = .recovery →
      ∃ t, exec (.frameTimeout k) s = .next t ∧ (getCam t k.val).st = .absent ∧ t.host.intStatus.getLsbD 17 = true ∧
        odN t (0x6008 + k.val) 0x0B = satN (odWidth (0x6008 + k.val) 0x0B) (odN s (0x6008 + k.val) 0x0B + 1)) ∧
    (camPowered s = true → msTicks (odN s (0x6000 + k.val) 0x0D) ≤ since s (getCam s k.val).armed → (getCam s k.val).st = .test →
      ∃ t, exec (.frameTimeout k) s = .next t ∧ (getCam t k.val).st = .absent ∧
        t.host.intStatus = s.host.intStatus ||| (1#21 <<< 9)) ∧
    ((getCam s k.val).sync = true → fsyncLeft s k.val < 128 →
      ∃ t, exec (.camFsyncPulseEnd k) s = .next t ∧ (getCam t k.val).sync = false ∧
        t.out = .pin (if k.val = 0 then "CAM_FSYNC0" else "CAM_FSYNC1") false :: s.out) ∧
    (128 ≤ fsyncLeft s k.val → exec (.camFsyncPulseEnd k) s = .next s)

/-- R342, R340, R337, R329, R344: an arm command that no reason refuses starts PRETRIG, a refused one stores its reason; a stop
ends the capture with cause 3; a manual trigger waits for the next row; a row in PRETRIG with it triggers; the oldest entry goes
to its address in QDR, an error ends the capture with cause 4; the capture is DONE, and its interrupt set, when all entries
have. The model's choices (log entry 38): cause 4 also for a capture that already drains, and a row that triggers and ends the
capture in one is POSTTRIG in the state's field while 0x7000:02 reads PRETRIG. -/
def Obligations.AcquisitionCaptures : Prop :=
  ∀ (s : State) (r : Req) (v : Val),
    (WriteOk s r 0x7000 1 [1] acqHook v → armRefusal s = none →
      ∃ t, exec (.acqArm r) s = .next t ∧ t.acq.st = .pretrig ∧ t.acq.armed = s.tick.num ∧ t.acq.fifo = [] ∧
        t.acq.ring = [] ∧ odN t 0x7000 3 = 0 ∧ odN t 0x7000 0x0B = 0 ∧ odN t 0x7001 2 = acqSlots s) ∧
    (∀ k c, WriteOk s r 0x7000 1 [1] acqHook v → armRefusal s = some (k, c) →
      ∃ t, exec (.acqArm r) s = .next t ∧ t.acq = s.acq ∧ odN t 0x7000 0x0B = k) ∧
    (WriteOk s r 0x7000 1 [0] acqHook v → capturing s = true →
      ∃ t, exec (.acqStop r) s = .next t ∧ t.acq.ending = true ∧ t.acq.gaps = [] ∧ odN t 0x7000 3 = 3) ∧
    (WriteOk s r 0x7000 1 [2] acqHook v →
      ∃ t, exec (.acqManualTrigger r) s = .next t ∧ t.acq = { s.acq with manual := true }) ∧
    (capturing s = true → s.acq.armed < s.tick.num → s.acq.lastRow < s.tick.num →
      ∃ t, exec .acqRow s = .next t ∧ t.acq.lastRow = s.tick.num ∧ t.acq.manual = false ∧ t.acq.adc = 0 ∧ t.acq.lines = [] ∧
        (s.acq.st = .pretrig → s.acq.manual = true → t.acq.st = .posttrig ∧ odN t 0x7001 6 = s.tick.num) ∧
        (s.acq.st = .posttrig → t.acq.st = .posttrig)) ∧
    (∀ a bs l, domOn s .mem = true → s.acq.fifo = (a, bs) :: l →
      ∃ t, exec (.acqQdrWrite false) s = .next t ∧ t.acq = { s.acq with fifo := l } ∧ t.qdr = memWrite s.qdr a bs) ∧
    (domOn s .mem = true → s.acq.fifo ≠ [] → s.acq.st = .pretrig ∨ s.acq.st = .posttrig →
      ∃ t, exec (.acqQdrWrite true) s = .next t ∧ t.acq.st = .done ∧ t.acq.fifo = [] ∧ t.qdr = s.qdr ∧ odN t 0x7000 3 = 4 ∧
        t.host.intStatus.getLsbD 15 = true) ∧
    (s.acq.ending = true → s.acq.fifo = [] →
      ∃ t, exec .acqDrainComplete s = .next t ∧ t.acq = { s.acq with st := .done, ending := false } ∧
        t.host.intStatus.getLsbD 15 = true)

/-- R303, R305, R306: after its self-test the island enters SERVICE with code 0, activates the paired configuration of its code,
or locks out; the configuration commands wait for their NOR write, whose end applies the oldest; a second differing seal sample
in a row is a selector change and LOCKOUT. -/
def Obligations.IslandStartsAndIsConfigured : Prop :=
  ∀ (s : State) (r : Req) (v : Val),
    (islOn s = true → s.isl.st = .init → s.isl.code = some 0 →
      ∃ t, exec (.islandInitComplete true) s = .next t ∧ t.isl = { s.isl with st := .service } ∧
        t.host.intStatus.getLsbD 4 = true) ∧
    (∀ n c, islOn s = true → s.isl.st = .init → s.isl.code = some n → n ≠ 0 → tget s.isl.stored n = some c →
      pairingHolds s n = true →
      ∃ t, exec (.islandInitComplete true) s = .next t ∧ (t.isl.st = .safe ∨ t.isl.st = .operate) ∧ t.isl.cfgNum = n ∧
        t.isl.cfgCrc = c.crc ∧ t.isl.activated = s.tick.num ∧ t.isl.zones = []) ∧
    (islOn s = true → s.isl.st = .init → s.isl.active.getLsbD 14 = false →
      ∃ t, exec (.islandInitComplete false) s = .next t ∧ t.isl.st = .lockout ∧ t.isl.outA.on = false ∧ t.isl.outB.on = false ∧
        t.isl.lockout.getLsbD 14 = true) ∧
    (∀ n : BitVec 8, WriteOk s r 0x8002 1 [n] (cfgHook r 1) v →
      ∃ t, exec (.storeConfiguration r n) s = .next t ∧
        t.isl = { s.isl with writes := s.isl.writes ++ [.store n.toNat { crc := workingCrc s, vals := workingVals s }] }) ∧
    (∀ (n : BitVec 8) c, WriteOk s r 0x8002 2 [n] (cfgHook r 2) v → tget s.isl.stored n.toNat = some c →
      ∃ t, exec (.pairConfiguration r n) s = .next t ∧
        t.isl = { s.isl with writes := s.isl.writes ++ [.pair n.toNat c.crc] }) ∧
    (∀ n : BitVec 8, WriteOk s r 0x8002 3 [n] (cfgHook r 3) v →
      ∃ t, exec (.deleteConfiguration r n) s = .next t ∧
        t.isl = { s.isl with writes := s.isl.writes ++ [.delete n.toNat] }) ∧
    (∀ w l, s.isl.writes = w :: l →
      (∃ t, exec (.configNorWriteDone true) s = .next t ∧ t.isl = { cfgApply s.isl w with writes := l }) ∧
      (∃ t, exec (.configNorWriteDone false) s = .next t ∧ t.isl = { s.isl with writes := l })) ∧
    (∀ (a b : BitVec 8) (n : Nat), hasSafe s = true → s.isl.code = some n → a.toNat = n → b = ~~~ a →
      ∃ t, exec (.sealSample a b) s = .next t ∧ t.isl = { s.isl with sample := b ++ a, glitches := 0 }) ∧
    (∀ (a b : BitVec 8) (n : Nat), islOn s = true → s.isl.code = some n → a.toNat ≠ n → s.isl.glitches = 1 →
      ∃ t, exec (.sealSample a b) s = .next t ∧ t.isl.st = .lockout ∧ t.isl.lockout.getLsbD 12 = true ∧
        t.isl.outA.on = false ∧ t.isl.outB.on = false ∧ odN t 0x8001 9 = satN (odWidth 0x8001 9) (odN s 0x8001 9 + 1))

/-- R301, R303, R312 to R315, R327: a lockstep fault locks out, in SERVICE at the next start (log entry 81); the supply,
watchdog, evaluation, coverage and output faults raise their causes and take the island from OPERATE to SAFE with its outputs off;
a test pulse that is due, which the tick strobe starts, lowers its output until its width has passed, and a good one only that
(log entry 82); a completed recovery starts the next one. That a completed platform recovery ends WATCHDOG, and that EVAL is
active for the moment of its timeout alone, are the model's choices (log entry 39). -/
def Obligations.IslandFaultsActAtOnce : Prop :=
  ∀ s : State, islOn s = true →
    (s.isl.st ≠ .service → s.isl.active.getLsbD 14 = false →
      ∃ t, exec .lockstepFault s = .next t ∧ t.isl.st = .lockout ∧ t.isl.outA.on = false ∧ t.isl.outB.on = false ∧
        t.isl.lockout.getLsbD 14 = true) ∧
    (s.isl.st = .service → s.isl.active.getLsbD 14 = false →
      ∃ t, exec .lockstepFault s = .next t ∧ t.isl.st = .service ∧ t.isl.lockout.getLsbD 14 = true) ∧
    (s.isl.active.getLsbD 8 = false →
      ∃ t, exec .supplyMonitorFault s = .next t ∧ t.isl.active.getLsbD 8 = true ∧ t.isl.latched.getLsbD 8 = true ∧
        t.isl.railsFrom = some s.tick.num ∧
        (s.isl.st = .operate → t.isl.st = .safe ∧ t.isl.outA.on = false ∧ t.isl.outB.on = false)) ∧
    (s.isl.active.getLsbD 9 = false →
      ∃ t, exec .islandWatchdog s = .next t ∧ t.isl.active.getLsbD 9 = true ∧ t.isl.latched.getLsbD 9 = true ∧
        t.isl.restarted = false ∧
        (s.isl.st = .operate → t.isl.st = .safe ∧ t.isl.outA.on = false ∧ t.isl.outB.on = false)) ∧
    (∀ x l, s.isl.fifo = x :: l → 1 ≤ since s (itemTick x) → s.isl.active.getLsbD 10 = false →
      ∃ t, exec .evalTimeout s = .next t ∧ t.isl.active.getLsbD 10 = false ∧ t.isl.latched.getLsbD 10 = true ∧
        (s.isl.st = .operate → t.isl.st = .safe ∧ t.isl.outA.on = false ∧ t.isl.outB.on = false)) ∧
    (∀ z : Fin 16, z.val ∈ zonesOn s → zoneLate s z.val = true → (getZone s z.val).fault = false →
      ∃ t, exec (.coverageTimeout z) s = .next t ∧ (getZone t z.val).fault = true ∧ t.isl.active.getLsbD 2 = true ∧
        (s.isl.st = .operate → t.isl.st = .safe ∧ t.isl.outA.on = false ∧ t.isl.outB.on = false)) ∧
    (∀ c : Fin 2, s.isl.st = .operate → (getOut s c.val).inPulse = false → pulseDue s c.val = true →
      getOut (pulseStart s c.val) c.val = { getOut s c.val with
        pulsed := some s.tick.num, inPulse := true, changed := s.tick.num, mism := 0 } ∧
      (pulseStart s c.val).out = .pin (outPin c.val) false :: s.out) ∧
    (∀ c : Fin 2, s.isl.st = .operate → pulseEnds s c.val = true →
      (∃ t, exec (.ossdTestPulse c false) s = .next t ∧ (getOut t c.val).inPulse = false ∧
        (getOut t c.val).changed = s.tick.num ∧ t.isl.st = .operate ∧ t.out = .pin (outPin c.val) true :: s.out) ∧
      (s.isl.active.getLsbD 4 = false → ∃ t, exec (.ossdTestPulse c true) s = .next t ∧ t.isl.active.getLsbD 4 = true ∧
        t.isl.st = .safe ∧ t.isl.outA.on = false ∧ t.isl.outB.on = false)) ∧
    (∀ (c : Fin 2) (b : Bool), pulseEnds s c.val = false → exec (.ossdTestPulse c b) s = .next s) ∧
    (∀ c : Fin 2, 78 ≤ since s (getOut s c.val).changed → s.isl.active.getLsbD 4 = false →
      ∃ t, exec (.ossdFeedbackTimeout c) s = .next t ∧ t.isl.active.getLsbD 4 = true ∧ t.isl.latched.getLsbD 4 = true ∧
        (s.isl.st = .operate → t.isl.st = .safe ∧ t.isl.outA.on = false ∧ t.isl.outB.on = false)) ∧
    (∀ g, s.fm.running = some g →
      ∃ t, exec .recoveryComplete s = .next t ∧ t.fm.running = s.fm.queue.head? ∧ t.fm.queue = s.fm.queue.drop 1 ∧
        g ∈ t.fm.held ∧ (g = .platform → t.isl.restarted = true ∧ t.isl.active.getLsbD 9 = false))

/-- R308, R309, R313, R311, R318: the record at the front is evaluated, and one that completes a protective zone's count violates
it, raises ZONE and takes OPERATE to SAFE; the marker at the front starts a column's coverage; both channels of a STOP input
reading safe raise STOP. -/
def Obligations.IslandEvaluatesRecordsAndInputs : Prop :=
  ∀ s : State, islOn s = true →
    (∀ (q : IslRecord) (l : List IslItem), s.isl.fifo = .record q :: l →
      ∃ t, exec .zoneEvaluation s = .next t ∧ t.isl.fifo = l ∧
        ∀ z ∈ zonesOn s,
          let x := zoneColumn (getZone s z) q.col
          x.col = some q.col → classCounted s z q = true → inZone s z q = true → x.colBad = false →
          odN s (0x8200 + z) 2 ≤ ((List.range 512).filter fun c => (x.chans ||| (1#512 <<< q.chan)).getLsbD c).length →
          (getZone t z).violated = true ∧
          (zoneProtective s z = true → cfgActive s = true → t.isl.active.getLsbD 0 = true ∧
            (s.isl.active.getLsbD 0 = false → s.isl.st = .operate →
              t.isl.st = .safe ∧ t.isl.outA.on = false ∧ t.isl.outB.on = false))) ∧
    (∀ (m : IslMarker) (l : List IslItem), s.isl.fifo = .marker m :: l →
      ∃ t, exec .coverageMarker s = .next t ∧ t.isl.fifo = l ∧
        ∀ z ∈ zonesOn s, (getZone s z).mCol = none →
          (getZone t z).mCol = some m.col ∧ (getZone t z).mSpans = [(m.lo, m.hi)]) ∧
    (∀ (x : SafetyInputs) (i : Fin 4), s.isl.st ≠ .init → odN s (0x8300 + i.val) 1 = 1 → odN s (0x8300 + i.val) 2 = 0 →
      x.a.getLsbD i.val = false → x.b.getLsbD i.val = false →
      ∃ t, exec (.safetyInputSample x) s = .next t ∧ (tgetD t.isl.inputs i.val {}).value = false ∧
        t.isl.active.getLsbD 1 = true)

/-- R322 to R326: at its cycle a producer sends CONNECT, or in DATA the status telegram with the next sequence number; a second
after REJECT it connects again; a consumer counts a telegram with a wrong code and takes a DATA telegram in sequence; its
watchdog brings it DOWN. What a connection sends goes out as process data too, while the network stack runs (R414). That CONNECT
is of VER 1 without a MAC is the model's choice (log entry 41), and the layout of the process data is taken from TRDP (log entry
44). -/
def Obligations.SafetyLayerConnections : Prop :=
  ∀ (s : State) (c : Fin 4), bslOn s c.val = true →
    let sent (tel : Bytes) : List Out := (if netUp s then [.datagram (Config.bslAddress c.val) 17224
      (pdTelegram (tgetD s.net.bslSeq c.val 0) (odN s (0x8400 + c.val) 5) tel)] else []) ++ .bsl c.val tel :: s.out
    (bslConsumer s c.val = false → (getBsl s c.val).sent = none → (getBsl s c.val).rejected = none →
      ((getBsl s c.val).st = .data →
        ∃ t, exec (.bslCycle c) s = .next t ∧ t.out = sent (bslTelegram s c.val (getBsl s c.val).version 3
            (getBsl s c.val).nextSeq (getBsl s c.val).mac (statusPayload s)) ∧
          getBsl t c.val = { getBsl s c.val with
            nextSeq := ((getBsl s c.val).nextSeq + 1) % 2 ^ 32, sent := some s.tick.num }) ∧
      ((getBsl s c.val).st ≠ .data →
        ∃ t, exec (.bslCycle c) s = .next t ∧ t.out = sent (bslTelegram s c.val 1 0 0 false
            (leBytes 1 3 ++ leBytes 1 (odN s (0x8400 + c.val) 9))) ∧
          getBsl t c.val = { getBsl s c.val with st := .connecting, sent := some s.tick.num })) ∧
    (∀ u, (getBsl s c.val).rejected = some u → msTicks 1000 ≤ since s u →
      ∃ t, exec (.bslRetry c) s = .next t ∧
        getBsl t c.val = { getBsl s c.val with st := .connecting, rejected := none, sent := some s.tick.num }) ∧
    (∀ (b : Bytes), b.length = 25 → fieldN b 2 1 = 1 → fieldN b 3 1 = 0 → slice b 21 4 ≠ bslCode32 s c.val (b.take 21) →
      ∃ t, exec (.bslTelegramReceive c b) s = .next t ∧ t.isl = s.isl ∧
        odN t 0x8001 4 = satN (odWidth 0x8001 4) (odN s 0x8001 4 + 1)) ∧
    (∀ (b : Bytes), b.length = 25 → fieldN b 2 1 = 1 → fieldN b 3 1 = 0 → slice b 21 4 = bslCode32 s c.val (b.take 21) →
      fieldN b 4 4 = odN s (0x8400 + c.val) 4 → fieldN b 8 4 = odN s (0x8400 + c.val) 3 → fieldN b 1 1 = 3 →
      fieldN b 0 1 = (getBsl s c.val).version → (getBsl s c.val).version = 1 ∨ (getBsl s c.val).version = 2 →
      bslConsumer s c.val = true → (getBsl s c.val).st = .data → (getBsl s c.val).mac = false →
      fieldN b 12 4 = (getBsl s c.val).lastSeq + 1 →
      fieldN b 16 4 = (getBsl s c.val).lastTime →
      ∃ t, exec (.bslTelegramReceive c b) s = .next t ∧ getBsl t c.val = { getBsl s c.val with
        lastSeq := fieldN b 12 4, heard := s.tick.num, payload := BitVec.ofNat 8 (fieldN b 20 1) }) ∧
    (bslConsumer s c.val = true → (getBsl s c.val).st ≠ .down →
      odN s (0x8400 + c.val) 7 * 10000 ≤ since s (getBsl s c.val).heard * 128 →
      ∃ t, exec (.bslWatchdog c) s = .next t ∧ (getBsl t c.val).st = .down ∧ (getBsl t c.val).payload = 0 ∧
        odN t 0x8001 6 = satN (odWidth 0x8001 6) (odN s 0x8001 6 + 1) ∧
        (bslRequired s c.val = true → t.isl.active.getLsbD 5 = true))

/-- R420 to R424: a Sync at the slave port, a delay exchange and a PPS edge each give one measurement of the offset of C; the
first one steps C (log entry 87) and leads to ACQUIRING; a port that is down is no slave port, and a Sync is relayed, with the
time that it took, where the other port is up; an open exchange gives the neighbour's delay, half the turnaround less the
neighbour's, and its rate (the formula is that of IEEE 802.1AS, log entry 43); a Delay_Req leaves once it is due; 3 s without a
measurement lead to HOLDOVER. -/
def Obligations.TimeFollowsItsSource : Prop :=
  ∀ s : State,
    (∀ m : SyncMeas, portUp s m.port.val = false ∨ slavePort s ≠ m.port.val ∨ m.interval < -3 ∨ 0 < m.interval →
      exec (.gptpSync m) s = .next s) ∧
    (∀ m : SyncMeas, running s = true → odN s 0xD031 1 = 1 → m.port.val ≠ 0 → slavePort s = m.port.val →
      -3 ≤ m.interval → m.interval ≤ 0 →
      let o : Int := (m.origin : Int) - 1577836800000000000 + m.corr + odN s 0xD032 (2 + m.port.val) - timeAt s m.cycle
      let ratio := m.rate + tgetD s.time.ratios m.port.val 0
      ∃ t, exec (.gptpSync m) s = .next t ∧ t.time.lastOffset = o ∧ t.time.lastMeas = s.tick.num ∧
        t.out = (if portUp s (3 - m.port.val) then [.syncRelay (3 - m.port.val) m.origin (m.corr +
          odN s 0xD032 (2 + m.port.val) + (m.stay + roundDiv (m.stay * ratio) 1000000000)) ratio m.interval] else []) ++ s.out ∧
        (s.time.stepped = false → t.time.step = some o ∧ t.time.stepped = true) ∧
        (s.time.state = .unsync → t.time.state = .acquiring) ∧
        (s.time.state = .holdover → t.time.state = .acquiring) ∧
        (s.time.state = .acquiring → t.time.state = if iabs o < 1000 ∧ 7 ≤ s.time.near then .locked else .acquiring)) ∧
    (∀ (m : DelayMeas) (n : Nat), running s = true → odN s 0xD031 1 = 1 → m.port.val ≠ 0 →
      tget s.time.pdelays m.port.val = some (n, true) →
      ∃ t, exec (.neighbourDelayMeasurement m) s = .next t ∧ tget t.time.ratios m.port.val = some m.rate ∧
        tget t.time.pdelays m.port.val = some (n, false) ∧ odN t 0xD032 (2 + m.port.val) = satN 32
        (roundDiv ((m.turn : Int) * (1000000000 + m.rate) - (m.resp : Int) * 1000000000) 2000000000).toNat) ∧
    (∀ n : Nat, running s = true → odN s 0xD031 1 = 2 → delayReqDue s = true →
      ∃ t, exec (.delayReqSend n) s = .next t ∧ t.time = { s.time with
          delayReq := some (timeAt s n)
          ptp := { s.time.ptp with delayTick := some s.tick.num, delaySeq := (s.time.ptp.delaySeq + 1) % 2 ^ 16 } } ∧
        t.out = .delayReq :: s.out) ∧
    (∀ n : Nat, delayReqDue s = false → exec (.delayReqSend n) s = .next s) ∧
    (∀ (m : DelayExch) (t3 : Nat), s.time.delayReq = some t3 → running s = true → odN s 0xD031 1 = 2 →
      ∃ t, exec (.delayExchange m) s = .next t ∧ t.time.delayReq = none ∧ t.time.lastMeas = s.tick.num ∧
        t.time.lastOffset = roundDiv (((m.t1 : Int) - 1577836800000000000 + m.corr1 - m.t2) +
          ((m.t4 : Int) - 1577836800000000000 - m.corr4 - t3)) 2) ∧
    (∀ n : Nat, running s = true → odN s 0xD031 1 = 3 → s.time.ppsWritten = none → s.time.ppsNext = none →
      s.time.state ≠ .locked →
      ∃ t, exec (.ppsEdge n) s = .next t ∧ t.time.lastMeas = s.tick.num ∧
        t.time.lastOffset = (roundDivN (timeAt s n) 1000000000 : Int) * 1000000000 - timeAt s n) ∧
    (s.time.state = .acquiring ∨ s.time.state = .locked → msTicks 3000 ≤ since s s.time.lastMeas →
      ∃ t, exec .timeHoldover s = .next t ∧ t.time = { s.time with state := .holdover, near := 0, far := 0 })

/-- R356 to R358: a searching lane probes, a partner's probe is answered by a burst, unless one runs, and EQ starts at its end (a
strobe of the tick: log entry 83); TRAIN blocks set the taps and are answered with their status, the eye and the partner lead to
FEC alignment and DESKEW, matched lanes to CAPS, the third identical CAPS with ACK to DATA; a step beyond its limit or a loss in
DATA brings every enabled lane of the link to ABSENT with the reason. -/
def Obligations.LanesTrainToData : Prop :=
  ∀ (s : State) (l : Fin 16) (w : BitVec 64),
    (laneSeeks (getLane s l.val) = true → (getLane s l.val).probed = none →
      ∃ t, exec (.probeBurst l) s = .next t ∧ getLane t l.val = { getLane s l.val with probed := some s.tick.num } ∧
        t.out = .lane l.val (List.replicate 4096 (probeBlock s l.val)) :: s.out) ∧
    (laneSeeks (getLane s l.val) = true → w.toNat % 256 = 0x55 →
      ∃ t, exec (.partnerProbeReceived l w) s = .next t ∧ getLane t l.val = { getLane s l.val with
          probed := some s.tick.num, partner := w.toNat / 2 ^ 32, answer := true } ∧
        t.out = (if (getLane s l.val).probed = some s.tick.num then s.out
          else .lane l.val (List.replicate 4096 (probeBlock s l.val)) :: s.out)) ∧
    (laneSeeks (getLane s l.val) = true → (getLane s l.val).answer = true →
      (getLane (laneTick s l.val) l.val).st = .eq ∧ (getLane (laneTick s l.val) l.val).ready = false) ∧
    ((getLane s l.val).st = .eq → w.toNat % 256 = 0x66 → w.toNat / 2 ^ 14 % 4 = 0 → (getLane s l.val).stat = [0, 0, 0] →
      let rs := [w.toNat / 2 ^ 8 % 4, w.toNat / 2 ^ 10 % 4, w.toNat / 2 ^ 12 % 4]
      ∃ t, exec (.trainRequest l w) s = .next t ∧ getLane t l.val = { getLane s l.val with
          taps := (getLane s l.val).taps.zipWith tapStep rs, stat := (getLane s l.val).taps.zipWith tapStatus rs
          preReq := w.toNat.testBit 22, ready := w.toNat.testBit 23
          req := (getLane t l.val).req, preset := (getLane t l.val).preset } ∧
        t.out = .lane l.val [trainBlock t l.val] :: s.out) ∧
    (∀ h e : BitVec 16, (getLane s l.val).st = .eq → (getLane s l.val).ready = true →
      odN s 0xC000 7 % 2 ^ 16 ≤ h.toNat → odN s 0xC000 7 / 2 ^ 16 ≤ e.toNat →
      ∃ t, exec (.eqComplete l h e) s = .next t ∧ getLane t l.val = { getLane s l.val with
        st := .fecAlign, since := s.tick.num, eyeH := h.toNat, eyeW := e.toNat, eyeOk := true
        precode := b2n (getLane s l.val).preReq + 2 * b2n ((odN s 0xC000 3).testBit l.val) }) ∧
    ((getLane s l.val).st = .fecAlign →
      ∃ t, exec (.fecAlignComplete l) s = .next t ∧
        getLane t l.val = { getLane s l.val with st := .deskew, since := s.tick.num }) ∧
    (∀ ks : List Nat, linkLanes s l.val ≠ [] → (∀ i ∈ linkLanes s l.val, (getLane s i).st = .deskew) →
      ks.length = (linkLanes s l.val).length → (∀ k ∈ ks, k - ks.foldl min (ks.headD 0) ≤ 64) →
      ∃ t, exec (.deskewComplete l ks) s = .next t ∧
        ∀ i < ks.length, (getLane t (l.val + i)).st = .caps ∧ (getLane t (l.val + i)).capsRun = 0 ∧
          (getLane t (l.val + i)).skew = ks.getD i 0 - ks.foldl min (ks.headD 0)) ∧
    ((getLane s l.val).st = .caps → w.toNat % 256 = 0x78 → w.getLsbD 21 = true →
      (getLane s l.val).caps = w &&& ~~~(1#64 <<< 21) → 2 ≤ (getLane s l.val).capsRun → capsReason s l.val w = 0 →
      ∃ t, exec (.capsReceived l w) s = .next t ∧ (getLane t l.val).st = .data ∧ (getLane t l.val).k = 0 ∧
        (getLink t (linkOf s l.val)).version =
          (if ((odN s 0xC000 4 &&& 3) &&& (w.toNat / 2 ^ 8 % 4)).testBit 1 then 2 else 1) ∧
        (getLink t (linkOf s l.val)).leader = w.getLsbD 19) ∧
    (∀ us r, stepLimit (getLane s l.val).st = some (us, r) → (getLane s l.val).st ≠ .deskew →
      usSince s (getLane s l.val).since us = true →
      ∃ t, exec (.trainingTimeout l) s = .next t ∧ ∀ i ∈ linkLanes s (linkOf s l.val), (getLane s i).st ≠ .disabled →
        (getLane t i).st = .absent ∧ (getLane t i).reason = r ∧ (getLane t i).k = (getLane s i).k + 1) ∧
    (∀ c : LossCause, (getLane s l.val).st = .data →
      ∃ t, exec (.linkLoss l c) s = .next t ∧ ∀ i ∈ linkLanes s (linkOf s l.val), (getLane s i).st ≠ .disabled →
        (getLane t i).st = .absent ∧ (getLane t i).reason = 10 ∧ (getLane t i).k = (getLane s i).k + 1)

/-- R359 to R368: a link in DATA whose idle bit is set takes its lanes to IDLE, an exit within the retention limit brings them
back to DATA; a superframe sends fill or the next stream's words, striped over the lanes; a TICK is captured; DSTATE is kept for
the own tick that the latest TICK and the latest valid pair give, DMASK and CREDIT are taken, and a segment that is not fill is discarded and counted. -/
def Obligations.LinksCarryTraffic : Prop :=
  ∀ (s : State) (j : Fin 16) (a : BitVec 32),
    (linkState s j.val = 2 → (odN s 0xC000 6).testBit j.val = true →
      ∃ t, exec (.idleEntry j) s = .next t ∧ (getLink t j.val).idleFrom = s.tick.num ∧
        ∀ i ∈ linkLanes s j.val, (getLane t i).st = .idle) ∧
    (linkState s j.val = 3 →
      ∃ t, exec (.idleExit j) s = .next t ∧ (getLink t j.val).credits = [] ∧
        (since s (getLink s j.val).idleFrom * 128 ≤ odN s 0xC000 5 * 10000 →
          ∀ i ∈ linkLanes s j.val, (getLane t i).st = .data) ∧
        (odN s 0xC000 5 * 10000 < since s (getLink s j.val).idleFrom * 128 →
          (getLink t j.val).version = 0 ∧ ∀ i ∈ linkLanes s j.val, (getLane t i).st = .eq)) ∧
    (∀ o : BitVec 12, linkState s j.val = 2 → (getLink s j.val).queues = [] →
      ∃ t, exec (.superframe j o) s = .next t ∧ (getLink t j.val).marks = framePlace (getLink s j.val) o.toNat + 1 ∧
        t.out = ((linkLanes s j.val).map fun l => Out.lane l ((if (getLink s j.val).cwmDue < 64 * 66 then
            [cwmBlock (l - j.val) (getLink s j.val).cwm] else []) ++
          laneBlocks s.free (linkWidth s j.val) (l - j.val) 31 0 (auxItem s j.val (getLink s j.val) o.toNat).1
            (auxItem s j.val (getLink s j.val) o.toNat).2 [])).reverse ++ s.out) ∧
    (∀ (o : BitVec 12) (n : Nat) (u : OutUnit), linkState s j.val = 2 → (getLink s j.val).version = 1 →
      (getLink s j.val).queues = [(n, [u])] → (getLink s j.val).sent = [] → n < 31 →
      u.words.length + 1 < 63 * linkWidth s j.val →
      ∃ t, exec (.superframe j o) s = .next t ∧ (getLink t j.val).queues = [(n, [])] ∧ (getLink t j.val).rr = n ∧
        t.out = ((linkLanes s j.val).map fun l => Out.lane l ((if (getLink s j.val).cwmDue < 64 * 66 then
            [cwmBlock (l - j.val) (getLink s j.val).cwm] else []) ++
          laneBlocks s.free (linkWidth s j.val) (l - j.val) n (u.words.length + 1)
            (auxItem s j.val (getLink s j.val) o.toNat).1 (auxItem s j.val (getLink s j.val) o.toNat).2
            (u.word :: u.words))).reverse ++ s.out) ∧
    (∀ m : MarkerItem, linkState s j.val = 2 → m.rx = false →
      ∃ t, exec (.tickMarker j m) s = .next t ∧ (getLink t j.val).rxTick =
        some (m.aux.toNat / 2 ^ 17, m.rxOfs.toNat, m.aux.toNat % 2 ^ 12, s.tick.num)) ∧
    (∀ (lead own n r o u : Nat), s.lane.follow.corr = some (lead, own) → (getLink s j.val).rxTick = some (n, r, o, u) →
      ditherLink s j.val = true →
      ∃ t, exec (.dstateItem j a) s = .next t ∧ t.rx = { s.rx with
        adopt := tset s.rx.adopt (own + (n + 2 ^ 15 - lead) % 2 ^ 15 + 4) (BitVec.ofNat 31 (a.toNat % 2 ^ 31)) }) ∧
    (ditherLink s j.val = true → ∃ t, exec (.dmaskItem j a) s = .next t ∧ t.rx = { s.rx with dmask := a.toNat % 256 }) ∧
    (linkState s j.val = 2 → (getLink s j.val).version = 2 →
      ∃ t, exec (.creditItem j a) s = .next t ∧ tgetD (getLink t j.val).credits (a.toNat % 32) 0 =
        tgetD (getLink s j.val).credits (a.toNat % 32) 0 + a.toNat / 32 % 65536) ∧
    (∀ (n : Fin 32) (c : CodewordCount), linkState s j.val = 2 → n.val ≠ 31 → laneCoded (getLane s c.lane.val) = true →
      ∃ t, exec (.segmentReceived j n [c]) s = .next t ∧
        odN t (0xC020 + j.val) 8 = satN (odWidth (0xC020 + j.val) 8) (odN s (0xC020 + j.val) 8 + 1) ∧
        odN t (0xC010 + c.lane.val) 9 = satN (odWidth (0xC010 + c.lane.val) 9)
          (odN s (0xC010 + c.lane.val) 9 + c.corrected))

/-- R372, R374, R378, R379: the link takes what was trained; a reset clears the host window, disables the rings and closes the
mailbox sessions; a LATCH holds C, its completion writes TIME and sets the interrupt, the read of TIME_HI clears VALID; a vote
write starts the handshake or is held behind a running one. That a reset takes the link, Bus Master Enable and the pending bits
with it is the model's choice (log entry 52). -/
def Obligations.HostLinkTimeAndVotes : Prop :=
  ∀ s : State,
    (∀ (sp : Fin 5) (w : Fin 9) (bme : Bool) (mps : Fin 513), domUp s .host = true → 1 ≤ sp.val →
      w.val ∈ [1, 2, 4, 8] → mps.val ∈ [128, 256, 512] →
      ∃ t, exec (.pcieLinkTrained sp w bme mps) s = .next t ∧ t.host.linkUp = true ∧ t.host.speed = sp.val ∧
        t.host.width = w.val ∧ t.host.bme = bme ∧ t.host.mps = mps.val) ∧
    (∃ t, exec .pcieReset s = .next t ∧ t.host.linkUp = false ∧ t.host.bme = false ∧ t.host.intStatus = 0 ∧
      t.host.ringInt = 0 ∧ t.host.pba = 0 ∧ t.host.caps = [] ∧ t.host.mbox = {} ∧ t.host.vote = 0 ∧ t.host.dp.enable = false ∧
      (∀ r : Fin 16, (getRing t r.val).enable = false ∧ (getRing t r.val).staged = if (getRing s r.val).enable then [] else
        (getRing s r.val).staged) ∧ ∀ x ∈ t.odx.sessions, x.via ≠ .mailbox) ∧
    (∀ cyc : Nat, hostReach s = true → s.host.latching = none →
      ∃ t, exec (.timeLatch cyc) s = .next t ∧ t.host.latching = some (timeAt s cyc % 2 ^ 60) ∧
        t.host.timeValid = false) ∧
    (∀ c : Nat, s.host.latching = some c →
      ∃ t, exec .latchComplete s = .next t ∧ t.host.timeLo = c % 2 ^ 32 ∧ t.host.timeHi = c / 2 ^ 32 ∧
        t.host.timeValid = true ∧ t.host.latching = none ∧ t.host.intStatus.getLsbD 18 = true) ∧
    (hostReach s = true → ∃ t, exec .timeHiRead s = .next t ∧ t.host.timeValid = false ∧
      t.out = .readData (leBytes 4 (b2n s.host.timeValid * 2 ^ 31 + s.host.timeHiLatch.getD s.host.timeHi)) :: s.out) ∧
    (∀ v : BitVec 32, hostReach s = true →
      let w := presentVotes s (v.setWidth 9)
      ∃ t, exec (.voteWrite v) s = .next t ∧ t.host.vote = w ∧
        (tget s.pwr.sending 0 = none → tget t.pwr.sending 0 = some w) ∧
        (∀ u, tget s.pwr.sending 0 = some u → tget t.pwr.sending 0 = some u ∧ tget t.pwr.held 0 = some w))

/-- R381, R382, R383: a write to INT_STATUS or RING_INT clears bits and each vector still asserted sends again; an unmasked
pending vector sends its message; GO queues a request of 1 to 4096 bytes and else ends it with bad length, ABORT removes a
queued one, a queued READ is answered into the response buffer, and the read of the result clears VALID. That MBX_DONE is set
after a bad length and after ABORT is the model's choice (log entry 57). -/
def Obligations.InterruptsAndMailbox : Prop :=
  ∀ s : State, hostReach s = true → hostIdle s = false →
    (∀ v : BitVec 32, ∃ t, exec (.interruptStatusClear false v) s = .next t ∧
      t.host.intStatus = s.host.intStatus &&& ~~~v.setWidth 21 ∧ t.host.ringInt = s.host.ringInt ∧
      ∀ i : Nat, (asserted t).getLsbD i = true → s.host.funMask = false → s.host.vecMask.getLsbD i = false →
        .msix i ∈ t.out) ∧
    (∀ v : BitVec 32, ∃ t, exec (.interruptStatusClear true v) s = .next t ∧
      t.host.ringInt = s.host.ringInt &&& ~~~v.setWidth 16 ∧ t.host.intStatus = s.host.intStatus ∧
      ∀ i : Nat, (asserted t).getLsbD i = true → (s.host.funMask = true ∨ s.host.vecMask.getLsbD i = true) →
        t.host.pba.getLsbD i = true) ∧
    (∀ v : Fin 64, ∃ t, exec (.msixUnmask (some v)) s = .next t ∧ t.host.vecMask.getLsbD v.val = false ∧
      (s.host.funMask = false → s.host.pba.getLsbD v.val = true → t.host.pba.getLsbD v.val = false ∧ .msix v.val ∈ t.out)) ∧
    (∃ t, exec (.msixUnmask none) s = .next t ∧ t.host.funMask = false ∧
      ∀ i : Nat, s.host.pba.getLsbD i = true → s.host.vecMask.getLsbD i = false → .msix i ∈ t.out) ∧
    (mboxFree s = true → 1 ≤ s.host.mbox.reqLen → s.host.mbox.reqLen ≤ 4096 →
      ∃ t, exec .mailboxGo s = .next t ∧ t.host.mbox = { s.host.mbox with state := .queued }) ∧
    (mboxFree s = true → s.host.mbox.reqLen = 0 ∨ 4096 < s.host.mbox.reqLen →
      ∃ t, exec .mailboxGo s = .next t ∧ t.host.mbox.state = .done ∧ t.host.mbox.status = 1 ∧ t.host.mbox.valid = true ∧
        t.host.intStatus.getLsbD 0 = true) ∧
    (s.host.mbox.state = .queued →
      ∃ t, exec .mailboxAbort s = .next t ∧ t.host.mbox.state = .done ∧ t.host.mbox.status = 2 ∧ t.host.mbox.valid = true ∧
        t.host.intStatus.getLsbD 0 = true) ∧
    (s.host.mbox.state = .queued → taking s = true → s.odx.netQ = [] → ∀ (x : Session) (b : Bytes),
      let msg := mboxRequest s
      let r := reqOf .mailbox msg
      let busy := { s with
        odx := { s.odx with turnMbx := false }, host := { s.host with mbox := { s.host.mbox with state := .busy } } }
      headerOk msg 4096 = true → fieldN msg 1 1 = 3 → fieldN msg 2 1 = 0 → sessionOf s r = some x → b.length ≤ 4080 →
      readObject (taken busy r) x (fieldN msg 12 2) (fieldN msg 14 1) = .ok b →
      ∃ t, exec .mailboxResponse s = .next t ∧ t.host.mbox.state = .done ∧ t.host.mbox.status = 0 ∧
        t.host.mbox.valid = true ∧ t.host.mbox.respLen = 16 + b.length ∧ t.host.intStatus.getLsbD 0 = true ∧
        t.host.mbox.resp = splice s.host.mbox.resp 0 (odxMessage (0x20 + x.version) 3 1 r.session.toNat r.tag.toNat
          (fieldN msg 12 2) (fieldN msg 14 1) b)) ∧
    (∃ t, exec .mailboxStatusRead s = .next t ∧ t.host.mbox = { s.host.mbox with valid := false } ∧
      t.out = .readData (leBytes 4 (b2n s.host.mbox.valid * 2 ^ 31 + s.host.mbox.status * 2 ^ 28 + s.host.mbox.respLen)) ::
        s.out)

/-- R388 to R392: ENABLE starts a ring at 0 and 0, disabling drops and counts what is staged, a TAIL in the cyclic interval is
taken and any other sets TAIL_ERR; the oldest staged unit that fits is written and HEAD advances, without a link it is dropped;
INT_USEC sets RING_INT; a drop counter reads and clears; a pull read returns and consumes the front of the staging. -/
def Obligations.PushRingsStageAndPublish : Prop :=
  ∀ (s : State) (r : Fin 16), let x := getRing s r.val
    (hostReach s = true → hostIdle s = false →
      (x.enable = false → ∃ t, exec (.ringEnable r) s = .next t ∧ getRing t r.val = { x with
        enable := true, head := 0, tail := 0, staged := [], pulled := 0, sinceInt := 0, unsignalled := none }) ∧
      (x.enable = true → x.dropUnits < 2 ^ 32 → ∃ t, exec (.ringDisable r) s = .next t ∧ (getRing t r.val).enable = false ∧
        (getRing t r.val).staged = [] ∧ (getRing t r.val).dropUnits = satN 32 (x.dropUnits + x.staged.length)) ∧
      (∀ v : BitVec 32, tailOk x v.toNat = true →
        ∃ t, exec (.tailWrite r v) s = .next t ∧ getRing t r.val = { x with tail := v.toNat }) ∧
      (∀ v : BitVec 32, tailOk x v.toNat = false →
        ∃ t, exec (.tailWrite r v) s = .next t ∧ getRing t r.val = { x with tailErr := true } ∧
          t.host.intStatus.getLsbD 1 = true ∧ t.host.intStatus.getLsbD 2 = true) ∧
      (∃ t, exec (.ringDropCounterRead r false) s = .next t ∧ getRing t r.val = { x with dropUnits := 0 } ∧
        t.out = .readData (leBytes 4 x.dropUnits) :: s.out) ∧
      (∃ t, exec (.ringDropCounterRead r true) s = .next t ∧ getRing t r.val = { x with dropRecords := 0 } ∧
        t.out = .readData (leBytes 4 x.dropRecords) :: s.out) ∧
      (∀ n : Nat, s.host.dp.enable = true → s.host.dp.sel.toNat = 0x10 + r.val → s.host.dp.window = false → x.pull = true →
        0 < n → n ≤ 4096 → n % 8 = 0 → n ≤ ringAvail x → (∀ u, x.staged.head? = some u → x.pulled ≤ entryLen u) →
        let all := (x.staged.flatMap entryBytes).drop x.pulled
        ∃ t, exec (.pullRead r n) s = .next t ∧ t.out = .readData (all.take n) :: s.out ∧
          ((getRing t r.val).staged.flatMap entryBytes).drop (getRing t r.val).pulled = all.drop n)) ∧
    (domOn s .host = true →
      (∀ (u : OutUnit) (rest : List OutUnit), x.staged = u :: rest → x.enable = true → x.pull = false → hostReady s = true →
        entryLen u ≤ ringFree x →
        ∃ t, exec (.ringEntryPublish r) s = .next t ∧ (getRing t r.val).staged = rest ∧
          (getRing t r.val).head = (x.head + entryLen u) % ringBytes x ∧
          (entryLen u ≤ ringBytes x - x.head → .hostWrite (x.base + BitVec.ofNat 64 x.head) (entryBytes u) ∈ t.out) ∧
          (x.hwb = true → .hostWrite x.hwbAddr (leBytes 8 ((x.head + entryLen u) % ringBytes x)) ∈ t.out) ∧
          (x.intBytes ≤ x.sinceInt + entryLen u → t.host.ringInt.getLsbD r.val = true)) ∧
      (∀ (u : OutUnit) (rest : List OutUnit), x.staged = u :: rest → x.enable = true → x.pull = false → hostReady s = false →
        ∃ t, exec (.ringEntryPublish r) s = .next t ∧ (getRing t r.val).staged = rest ∧
          (getRing t r.val).head = x.head ∧ (getRing t r.val).dropUnits = satN 32 (x.dropUnits + 1) ∧
          (getRing t r.val).dropRecords = satN 32 (x.dropRecords + u.records)) ∧
      (∀ t0 : Nat, x.unsignalled = some t0 → x.intUsec ≠ 0 → x.intUsec * 10 ≤ since s t0 * 128 →
        ∃ t, exec (.ringSignalTimer r) s = .next t ∧ t.host.ringInt.getLsbD r.val = true ∧
          (getRing t r.val).unsignalled = none ∧ (getRing t r.val).sinceInt = 0))

/-- R373, R375, R384 to R387, R49, R50, R393, R394: aligned 32-bit accesses reach the register window, a lower half latches its
upper half, others are logged; the configuration space gives the class code; the enabled data port and the controllers read and
write the QDR memory, INC mode advances ADDR, the disabled port answers all ones; an unmapped access of a controller is a bus
error; POP and the status read act on the log. Where the class code lies is taken from PCI (log entry 61), and that the disabled
port sets FAULT and HOST_ERR is the model's choice (log entry 58). -/
def Obligations.RegisterWindowAndDataPort : Prop :=
  ∀ s : State, hostReach s = true → hostIdle s = false → MemoryWf s →
    (∀ v : BitVec 32, ∃ t, exec (.registerWrite { off := 0x84, size := 4, full := true, v := v }) s = .next t ∧ t.host.intEnable = v.setWidth 21) ∧
    (∀ v : BitVec 32, ∃ t, exec (.registerWrite { off := 0x200, size := 4, full := true, v := v }) s = .next t ∧
      t.host.dp.addr.toNat = s.host.dp.addr.toNat / 2 ^ 32 * 2 ^ 32 + v.toNat) ∧
    (∀ a : RegWrite, a.cfg = false → a.size ≠ 4 ∨ a.off.toNat % 4 ≠ 0 ∨ a.full = false → s.host.log.length < 32 →
      ∃ t, exec (.registerWrite a) s = .next t ∧ t.host.log = s.host.log ++ [⟨a.off.toNat, 1, 5, true, s.tick.num⟩] ∧
        t.host.intStatus.getLsbD 2 = true) ∧
    (∃ t, exec (.upperHalfLatchRead { off := 0x24, size := 4, full := true }) s = .next t ∧ t.host.tickHi = some (s.tick.num / 2 ^ 32 % 2 ^ 32) ∧
      t.out = .readData (leBytes 4 (s.tick.num % 2 ^ 32)) :: s.out) ∧
    (∀ hi : Nat, s.host.tickHi = some hi → ∃ t, exec (.upperHalfLatchRead { off := 0x28, size := 4, full := true }) s = .next t ∧
      t.host.tickHi = none ∧ t.out = .readData (leBytes 4 hi) :: s.out) ∧
    (∀ (off : BitVec 20) (n : Nat), n = 8 → off.toNat % 8 ≠ 0 →
      ∃ t, exec (.upperHalfLatchRead { off := off, size := n, full := true }) s = .next t ∧
        .readData (List.replicate 8 0xFF) ∈ t.out) ∧
    (∃ t, exec (.upperHalfLatchRead { off := 0x08, size := 4, full := true, cfg := true }) s = .next t ∧
      t.out = .readData (leBytes 4 (0x118000 * 256 + s.fuses.step.toNat)) :: s.out) ∧
    (∀ (off : BitVec 24) (b : Bytes), s.host.dp.enable = true → s.host.dp.sel = 0 → s.host.dp.window = false →
      off.toNat % 4 = 0 → b.length % 4 = 0 → 0 < b.length → b.length ≤ s.host.mps → domOn s .mem = true →
      s.host.dp.addr.toNat + b.length ≤ min s.fuses.qdr 0x4800000 →
      ∃ t, exec (.dataPortAccess off b.length (some b) true) s = .next t ∧
        t.host.dp.addr = s.host.dp.addr + BitVec.ofNat 40 b.length ∧
        (∀ i (h : i < b.length), memGet t.qdr (s.host.dp.addr.toNat + i) = b[i]) ∧
        ∀ a, a < s.host.dp.addr.toNat ∨ s.host.dp.addr.toNat + b.length ≤ a → memGet t.qdr a = memGet s.qdr a) ∧
    (∀ (off : BitVec 24) (n : Nat), s.host.dp.enable = true → s.host.dp.sel = 0 → s.host.dp.window = true →
      off.toNat % 4 = 0 → n % 4 = 0 → 0 < n → n ≤ 4096 → domOn s .mem = true →
      s.host.dp.addr.toNat + off.toNat + n ≤ min s.fuses.qdr 0x4800000 →
      ∃ t, exec (.dataPortAccess off n none true) s = .next t ∧ t.qdr = s.qdr ∧ t.host.dp.addr = s.host.dp.addr ∧
        t.out = .readData ((List.range n).map fun i => memGet s.qdr (s.host.dp.addr.toNat + off.toNat + i)) :: s.out) ∧
    (∀ (off : BitVec 24) (n : Nat), s.host.dp.enable = false →
      ∃ t, exec (.dataPortAccess off n none true) s = .next t ∧ t.host.dp.errFault = true ∧
        .readData (List.replicate n 0xFF) ∈ t.out ∧ t.host.intStatus.getLsbD 1 = true) ∧
    (∀ (c : BusClient) (a : BitVec 40) (b : Bytes), c ≠ .host → s.boot.phase ≠ .held → domOn s .core = true →
      domOn s .mem = true → a.toNat + b.length ≤ min s.fuses.qdr 0x4800000 →
      ∃ t, exec (.internalBusAccess c a b.length (some b)) s = .next t ∧ t.out = s.out ∧
        ∀ i (h : i < b.length), memGet t.qdr (a.toNat + i) = b[i]) ∧
    (∀ (c : BusClient) (a : BitVec 40), c ≠ .host → s.boot.phase ≠ .held → domOn s .core = true →
      5 * 2 ^ 32 ≤ a.toNat →
      ∃ t, exec (.internalBusAccess c a 1 none) s = .next t ∧ t.qdr = s.qdr ∧ .busError c ∈ t.out ∧
        .readData [0xFF] ∈ t.out ∧ t.host.intStatus.getLsbD 2 = true) ∧
    (∃ t, exec .faultLogPop s = .next t ∧ t.host.log = s.host.log.drop 1) ∧
    (∃ t, exec .accessFaultLogRead s = .next t ∧ t.host.lost = 0 ∧ t.host.log = s.host.log ∧
      t.out = .readData (leBytes 4 (s.host.lost * 2 ^ 16 + s.host.log.length)) :: s.out)

/-- R401, R402, R404, R407: OPEN negotiates the highest common version and gives the transport's base role under a number that
no open session has; CLOSE ends the session after its answer; KEEPALIVE restarts the idle timer of a 2.3 session; an idle
network session closes, and a transfer without a segment for 5 s is discarded; other messages of an unknown session abort. A
request of the network that the controller cannot take yet waits in its queue (R405; log entry 85) and restarts the idle timer
as it arrives. The number that OPEN gives is free (log entry 33), and the VER 2.0 of an abort to an unknown session is the model's
choice (log entry 55). -/
def Obligations.SessionsOpenCloseAndTimeOut : Prop :=
  ∀ (s : State) (r : Req),
    (∀ (ver : BitVec 8) (p : Bytes), netWaits s r = true → sessionOf s r = none →
      ∃ t, exec (.odxOpen r ver p) s = .next t ∧ t = { s with
        odx := { s.odx with netQ := s.odx.netQ ++
          [(r.via, odxMessage ver.toNat 1 0 r.session.toNat r.tag.toNat 0 0 p)] } }) ∧
    (∀ x : Session, netWaits s r = true → sessionOf s r = some x →
      ∃ t y, exec (.odxKeepalive r) s = .next t ∧ t.odx.netQ = s.odx.netQ ++
        [(r.via, odxMessage (verOf s r) 10 0 r.session.toNat r.tag.toNat 0 0 [])] ∧
        sessionOf t r = some y ∧ y.lastReq = s.tick.num ∧ t.out = s.out ∧ t.od = s.od) ∧
    (∀ (ver m : BitVec 8) (v : Nat), taking s = true → netWaits s r = false → s.boot.phase ≠ .recovery → r.via ≠ .mailbox →
      ver.toNat / 16 = 2 →
      topVersion (m.toNat &&& 15) = some v → s.odx.sessions.length < 8 →
      ∃ (t : State) (x : Session), exec (.odxOpen r ver [m]) s = .next t ∧ t.odx.sessions = s.odx.sessions ++ [x] ∧
        x.via = r.via ∧ x.role = .net ∧ x.version = v ∧ x.lastReq = s.tick.num ∧ x.number ≠ 0 ∧
        (∀ y ∈ s.odx.sessions, y.number ≠ x.number) ∧
        let msg := odxMessage (0x20 + v) 1 1 x.number r.tag.toNat 0 0
          (leBytes 1 1 ++ leBytes 2 1024 ++ leBytes 2 (odN s 0x1F20 2))
        t.out = (carry { s with out := .response r msg :: s.out } r msg).out) ∧
    (∀ (ver m : BitVec 8) (v : Nat), taking s = true → s.boot.phase ≠ .recovery → r.via = .mailbox → ver.toNat / 16 = 2 →
      topVersion (m.toNat &&& 15) = some v → (∀ y ∈ s.odx.sessions, y.via ≠ .mailbox) → s.odx.sessions.length < 8 →
      ∃ (t : State) (x : Session), exec (.odxOpen r ver [m]) s = .next t ∧ t.odx.sessions = s.odx.sessions ++ [x] ∧
        x.via = .mailbox ∧ x.role = .host ∧ x.version = v) ∧
    (∀ x : Session, Fresh s r x →
      ∃ t, exec (.odxClose r) s = .next t ∧ (∀ y ∈ t.odx.sessions, y.number ≠ x.number) ∧
        .response r (odxMessage (0x20 + x.version) 2 1 r.session.toNat r.tag.toNat 0 0 []) ∈ t.out) ∧
    (∀ x : Session, Fresh s r x → 3 ≤ x.version →
      ∃ t y, exec (.odxKeepalive r) s = .next t ∧ sessionOf t r = some y ∧ y.lastReq = s.tick.num ∧
        .response r (odxMessage (0x20 + x.version) 10 1 r.session.toNat r.tag.toNat 0 0 []) ∈ t.out) ∧
    (taking s = true → netWaits s r = false → s.boot.phase ≠ .recovery → sessionOf s r = none → ∀ data ix sub,
      ∃ t, exec (.odxWrite r ix sub data false) s = .next t ∧ t.od = s.od ∧
        .response r (odxMessage 0x20 4 3 r.session.toNat r.tag.toNat ix.toNat sub.toNat (leBytes 4 abSession)) ∈ t.out) ∧
    (∀ (k : Fin 8) (x : Session), s.odx.sessions[k.val]? = some x → x.via ≠ .mailbox →
      odN s 0x1F20 2 * 1000 * 10000 ≤ since s x.lastReq * 128 →
      ∃ t, exec (.sessionIdleTimeout k) s = .next t ∧ ∀ y ∈ t.odx.sessions, y.number ≠ x.number) ∧
    (∀ (k : Fin 8) (x : Session) (f : Xfer), s.odx.sessions[k.val]? = some x → x.xfer = some f →
      390625 ≤ since s f.tick →
      ∃ t, exec (.segmentTransferTimeout k) s = .next t ∧
        ∀ y ∈ t.odx.sessions, y.number = x.number → y.xfer = none)

/-- R403: CHALLENGE answers with 16 random bytes kept for the role; an AUTH whose code matches raises the session's role and
uses the nonce up; one that does not match aborts with AUTH_FAILED, is counted, and leaves the role; the lockout of a
transport ends after 60 s. -/
def Obligations.ChallengeAndAuthRaiseARole : Prop :=
  ∀ (s : State) (r : Req) (x : Session) (role : Role) (b : Byte), Fresh s r x → 1 ≤ x.version → raisedRole b.toNat = some role →
    (∃ t y, exec (.odxChallenge r [b]) s = .next t ∧ sessionOf t r = some y ∧ y.role = x.role ∧
      y.nonce = some { role := role, val := (List.range 16).map (Config.randomByte s.free), tick := s.tick.num } ∧
      .response r (odxMessage (0x20 + x.version) 7 1 r.session.toNat r.tag.toNat 0 0
        ((List.range 16).map (Config.randomByte s.free))) ∈ t.out) ∧
    (∀ code : Bytes, code.length = 16 → (authOf s r).lockout = none → authMatches s r x role code = true →
      ∃ t y, exec (.odxAuth r (b :: code)) s = .next t ∧ sessionOf t r = some y ∧ y.role = role ∧ y.nonce = none ∧
        .response r (odxMessage (0x20 + x.version) 8 1 r.session.toNat r.tag.toNat 0 0 (leBytes 1 (roleCode role))) ∈ t.out) ∧
    (∀ code : Bytes, code.length = 16 → (authOf s r).lockout = none → authMatches s r x role code = false →
      ∃ t y, exec (.odxAuth r (b :: code)) s = .next t ∧ sessionOf t r = some y ∧ y.role = x.role ∧ y.nonce = none ∧
        odN t 0x1F20 5 = satN 32 (odN s 0x1F20 5 + 1) ∧
        .response r (odxMessage (0x20 + x.version) 8 3 r.session.toNat r.tag.toNat 0 0 (leBytes 4 abAuth)) ∈ t.out) ∧
    (∀ t0 : Nat, (authOf s r).lockout = some t0 → lockTicks ≤ since s t0 →
      ∃ t, exec (.authLockoutEnd r.via) s = .next t ∧ (authOf t r).lockout = none ∧ (authOf t r).fails = (authOf s r).fails)

/-- R401, R407, R408: READ answers the value, or its length with a first chunk and a snapshot; READ_SEG answers a chunk;
READ_MULTI answers its entries; WRITE and the completing WRITE_SEG put the value in effect or abort with the first check
that fails; a WRITE with SEG opens a transfer with its first chunk, or aborts where the object is busy or the message too short;
a further chunk joins its transfer. That the answers to a READ by segments carry FLAGS 5 and those to READ_SEG 1 is the model's
choice (log entry 55). -/
def Obligations.ObjectsAreReadAndWritten : Prop :=
  ∀ (s : State) (r : Req) (x : Session) (ix : BitVec 16) (sub : BitVec 8), Fresh s r x →
    let msg := fun cmd flags payload => Out.response r
      (odxMessage (0x20 + x.version) cmd flags r.session.toNat r.tag.toNat ix.toNat sub.toNat payload)
    (∀ b : Bytes, readObject (taken s r) x ix.toNat sub.toNat = .ok b → b.length ≤ maxMessage r - 16 →
      ∃ t, exec (.odxRead r ix sub false) s = .next t ∧ t.od = s.od ∧ msg 3 1 b ∈ t.out) ∧
    (∀ b : Bytes, readObject (taken s r) x ix.toNat sub.toNat = .ok b → maxMessage r - 16 < b.length →
      ∃ t y, exec (.odxRead r ix sub false) s = .next t ∧ sessionOf t r = some y ∧
        y.snap = some { index := ix.toNat, sub := sub.toNat, value := b, read := [(0, maxMessage r - 20)], tick := s.tick.num } ∧
        msg 3 5 (leBytes 4 b.length ++ b.take (maxMessage r - 20)) ∈ t.out) ∧
    (∀ c : Nat, readObject (taken s r) x ix.toNat sub.toNat = .error c →
      ∃ t, exec (.odxRead r ix sub false) s = .next t ∧ t.od = s.od ∧ msg 3 3 (leBytes 4 c) ∈ t.out) ∧
    (∀ (p : Bytes) (y : Snapshot), p.length = 4 → x.snap = some y → y.index = ix.toNat → y.sub = sub.toNat →
      leNat p < y.value.length →
      ∃ t, exec (.odxReadSeg r ix sub p) s = .next t ∧ msg 5 1 (p ++ slice y.value (leNat p) (maxMessage r - 20)) ∈ t.out) ∧
    (∀ p : Bytes, 2 ≤ x.version → multiOk p = true →
      ∃ t, exec (.odxReadMulti r p) s = .next t ∧ t.od = s.od ∧
        .response r (odxMessage (0x20 + x.version) 9 1 r.session.toNat r.tag.toNat 0 0
          (readMulti x (maxMessage r - 16 - 6 * (p.length / 4)) (p.length / 4) p (taken s r)).1) ∈ t.out) ∧
    (∀ (data : Bytes) (v : Val), hookAll r ix.toNat sub.toNat = plainHook ix.toNat sub.toNat →
      writeChecks (taken s r) x ix.toNat sub.toNat data (hookAll r ix.toNat sub.toNat) = .ok v →
      ∃ t, exec (.odxWrite r ix sub data false) s = .next t ∧ odGet t ix.toNat sub.toNat = v ∧ msg 4 1 [] ∈ t.out) ∧
    (∀ (data : Bytes) (c : Nat), writeChecks (taken s r) x ix.toNat sub.toNat data (hookAll r ix.toNat sub.toNat) =
        .error (c, taken s r) →
      ∃ t, exec (.odxWrite r ix sub data false) s = .next t ∧ t.od = s.od ∧ msg 4 3 (leBytes 4 c) ∈ t.out) ∧
    (∀ (total chunk got : Bytes), total.length = 4 → (ix.toNat = 0x1F50 && sub.toNat = 1) = false →
      writeBusy (taken s r) x.number ix.toNat sub.toNat = false → segJoin x.version (leNat total) [] chunk = .more got →
      ∃ t y, exec (.odxWrite r ix sub (total ++ chunk) true) s = .next t ∧ sessionOf t r = some y ∧ y.xfer = some {
          index := ix.toNat, sub := sub.toNat, total := leNat total, got := got, prev := 0, tick := s.tick.num } ∧
        msg 4 1 [] ∈ t.out) ∧
    (∀ (total chunk value : Bytes) (v : Val), total.length = 4 → (ix.toNat = 0x1F50 && sub.toNat = 1) = false →
      writeBusy (taken s r) x.number ix.toNat sub.toNat = false → segJoin x.version (leNat total) [] chunk = .whole value →
      hookAll r ix.toNat sub.toNat = plainHook ix.toNat sub.toNat →
      writeChecks (updSession (dropXfer (taken s r) x.number) x.number fun y => { y with xfer := none }) x ix.toNat sub.toNat
        value (hookAll r ix.toNat sub.toNat) = .ok v →
      ∃ t, exec (.odxWrite r ix sub (total ++ chunk) true) s = .next t ∧ odGet t ix.toNat sub.toNat = v ∧ msg 4 1 [] ∈ t.out) ∧
    (∀ data : Bytes, data.length < 4 →
      ∃ t, exec (.odxWrite r ix sub data true) s = .next t ∧ t.od = s.od ∧ msg 4 3 (leBytes 4 abMessage) ∈ t.out) ∧
    (∀ (data : Bytes) (c : Nat), 4 ≤ data.length → writeBusy (taken s r) x.number ix.toNat sub.toNat = true →
      writeGrant (taken s r) x ix.toNat sub.toNat = .error c →
      ∃ t, exec (.odxWrite r ix sub data true) s = .next t ∧ t.od = s.od ∧ msg 4 3 (leBytes 4 c) ∈ t.out) ∧
    (∀ (f : Xfer) (chunk got : Bytes) (o : Bytes), x.xfer = some f → f.index = ix.toNat → f.sub = sub.toNat →
      (f.index = 0x1F50 && f.sub = 1) = false → o.length = 4 → leNat o = f.got.length →
      segJoin x.version f.total f.got chunk = .more got →
      ∃ t y, exec (.odxWriteSeg r ix sub (o ++ chunk)) s = .next t ∧ t.od = s.od ∧ sessionOf t r = some y ∧
        y.xfer = some { f with got := got, prev := f.got.length, tick := s.tick.num } ∧ msg 6 1 [] ∈ t.out) ∧
    (∀ (f : Xfer) (chunk o value : Bytes) (v : Val), x.xfer = some f → f.index = ix.toNat → f.sub = sub.toNat →
      (f.index = 0x1F50 && f.sub = 1) = false → o.length = 4 → leNat o = f.got.length →
      segJoin x.version f.total f.got chunk = .whole value →
      hookAll r ix.toNat sub.toNat = plainHook ix.toNat sub.toNat →
      writeChecks (updSession (taken s r) x.number fun y => { y with xfer := none }) x ix.toNat sub.toNat value
        (hookAll r ix.toNat sub.toNat) = .ok v →
      ∃ t y, exec (.odxWriteSeg r ix sub (o ++ chunk)) s = .next t ∧ odGet t ix.toNat sub.toNat = v ∧
        sessionOf t r = some y ∧ y.xfer = none ∧ msg 6 1 [] ∈ t.out)

/-- R411, R412: a good frame teaches its source and leaves on its egress ports, at once where the line is free and else from the
queue of its PCP (log entry 84); a cut-through frame with a bad FCS leaves with an invalid one and is counted; a frame longer than
1518 bytes is dropped and counted; a link change and a flush frame empty the address table, an entry goes after 300 s, and a
blocked port drops the flush frame; the breaker opens after three periods without its check, closes after three with it, and
sends its next check. -/
def Obligations.SwitchAndRing : Prop :=
  ∀ s : State,
    let idle (q : Nat) : Prop := 0 < lineRoom s q ∧ ∀ k < 4, egressQueue s q k = []
    (∀ (p : Fin 3) (f : EthFrame), switchOn s = true → portUp s p.val = true → ringBlocks s p.val f.data = false →
      14 ≤ f.data.length → f.data.length ≤ 1518 → f.fcsOk = true →
      let u := learn s (BitVec.ofNat 48 (beField f.data 6 6)) p.val
      egress u p.val f.data ≠ [] → 0 ∉ egress u p.val f.data → (∀ q ∈ egress u p.val f.data, queueRoom f q = true) →
      ∃ t, exec (.ethernetFrame p f) s = .next t ∧ odN t 0xD000 6 = satN 64 (odN s 0xD000 6 + 1) ∧
        (∀ q ∈ egress u p.val f.data, idle q → .frame q (transparent s p.val f) ∈ t.out) ∧
        (∀ q ∈ egress u p.val f.data, ¬idle q → egressQueue t q (queueOf (transparent s p.val f)) =
          egressQueue s q (queueOf (transparent s p.val f)) ++ [(transparent s p.val f, false)]) ∧
        (isGroup (beField f.data 6 6) = false → s.net.addrs.length < 1024 →
          ⟨BitVec.ofNat 48 (beField f.data 6 6), p.val, s.tick.num⟩ ∈ t.net.addrs)) ∧
    (∀ (p : Fin 3) (f : EthFrame), switchOn s = true → portUp s p.val = true → ringBlocks s p.val f.data = false →
      1518 < f.data.length →
      ∃ t, exec (.ethernetFrame p f) s = .next t ∧ odN t 0xD000 8 = satN 32 (odN s 0xD000 8 + 1) ∧ t.net = s.net ∧
        t.out = s.out) ∧
    (∀ (p : Fin 3) (f : EthFrame) (q : Nat), switchOn s = true → portUp s p.val = true → ringBlocks s p.val f.data = false →
      14 ≤ f.data.length → f.data.length ≤ 1518 → f.fcsOk = false → s.net.link1 = 3 → s.net.link2 = 3 → p.val ≠ 0 →
      q ∈ egress s p.val f.data → q ≠ 0 → queueRoom f q = true → idle q →
      ∃ t, exec (.ethernetFrame p f) s = .next t ∧ .badFrame q (transparent s p.val f) ∈ t.out ∧
        odN t 0xD000 7 = satN 32 (odN s 0xD000 7 + 1) ∧ t.net.addrs = s.net.addrs) ∧
    (∀ (p : Fin 3) (sp : Fin 4) (full : Bool), switchOn s = true → p.val ≠ 0 →
      netLink s p.val ≠ (if full then sp.val else 0) →
      ∃ t, exec (.ethLinkChange p sp full) s = .next t ∧ netLink t p.val = (if full then sp.val else 0) ∧
        netLink t (3 - p.val) = netLink s (3 - p.val) ∧ t.net.addrs = []) ∧
    (∀ mac : BitVec 48, ∃ t, exec (.addressAgeing mac) s = .next t ∧ ∀ a,
      a ∈ t.net.addrs ↔ a ∈ s.net.addrs ∧ (a.mac ≠ mac ∨ since s a.tick < 23437500)) ∧
    (∀ p : Fin 3, flushBlocked s p.val = true → exec (.flushFrame p) s = .next s) ∧
    (∀ p : Fin 3, switchOn s = true → p.val ≠ 0 → portUp s p.val = true → flushBlocked s p.val = false →
      ∃ t, exec (.flushFrame p) s = .next t ∧ t.net.addrs = [] ∧
        (portUp s (3 - p.val) = true → flushBlocked s (3 - p.val) = false → idle (3 - p.val) →
          .frame (3 - p.val) Config.flushFrame ∈ t.out)) ∧
    (switchOn s = true → odN s 0xD000 4 = 2 → 100000 ≤ since s s.net.lastRing * 128 → portUp s 1 = true → idle 1 →
      (s.net.ring = 1 → 2 ≤ s.net.missRun → ∃ t, exec (.ringCheck false) s = .next t ∧ t.net.ring = 2 ∧ t.net.addrs = [] ∧
        odN t 0xD000 9 = satN 32 (odN s 0xD000 9 + 1) ∧ .frame 1 Config.flushFrame ∈ t.out) ∧
      (s.net.ring = 2 → 2 ≤ s.net.seenRun → ∃ t, exec (.ringCheck true) s = .next t ∧ t.net.ring = 1 ∧ t.net.addrs = [] ∧
        odN t 0xD000 9 = satN 32 (odN s 0xD000 9 + 1) ∧ .frame 1 Config.flushFrame ∈ t.out) ∧
      (s.net.ring = 2 → s.net.seenRun < 2 → ∃ t, exec (.ringCheck true) s = .next t ∧ t.net.ring = 2 ∧
        t.net.seenRun = s.net.seenRun + 1 ∧ t.net.lastRing = s.tick.num ∧ .frame 1 (ringCheckFrame s) ∈ t.out))

/-- R414 to R417: an Mr with the ODX ComId, and an enabled direct datagram, carry an ODX message that is answered to its
sender's address and port, in an Mp (log entry 86) or a direct datagram; the sender is then a peer. A due announcement is
published; a speed dataset that fits writes the speed and is counted, one that does not is counted apart; a peer not heard from
for the age limit leaves the table. That the first announcement leaves at once and that a dataset is taken by its group address
are the model's choices (log entry 46); the headers' layouts are taken from TRDP (log entry 44). -/
def Obligations.NetworkMessagesAndPeers : Prop :=
  ∀ (s : State) (src : NetFrom),
    (netUp s = true → s.net.peers.length < 32 →
      (∀ (tel : Bytes) (x : Session), mdHeaderOk tel = true → fieldN tel 7 1 = 0x72 → beField tel 8 4 = odN s 0xD010 1 →
        let msg := slice tel 116 (beField tel 20 4)
        let r := reqOf (.trdp src.ip src.udp (mdCall tel)) msg
        let ack := odxMessage (0x20 + x.version) 10 1 r.session.toNat r.tag.toNat (fieldN msg 12 2) (fieldN msg 14 1) []
        16 ≤ msg.length → headerOk msg 1024 = true → fieldN msg 1 1 = 10 → Fresh s r x → 3 ≤ x.version →
        ∃ t, exec (.trdpMessageRequest src tel) s = .next t ∧ (∃ p ∈ t.net.peers, p.ip = src.ip ∧ p.tick = s.tick.num) ∧
          .response r ack ∈ t.out ∧ .datagram src.ip src.udp.toNat (mdReply s (mdCall tel) ack) ∈ t.out) ∧
      (∀ (d : Bytes) (x : Session), mdHeaderOk d = false → d.take 4 = [0x4F, 0x44, 0x58, 0x32] → odB s 0xD010 2 = true →
        let msg := d.drop 4
        let r := reqOf (.udp src.ip src.udp) msg
        let ack := odxMessage (0x20 + x.version) 10 1 r.session.toNat r.tag.toNat (fieldN msg 12 2) (fieldN msg 14 1) []
        16 ≤ msg.length → headerOk msg 1024 = true → fieldN msg 1 1 = 10 → Fresh s r x → 3 ≤ x.version →
        ∃ t, exec (.directOdx src d) s = .next t ∧ (∃ p ∈ t.net.peers, p.ip = src.ip ∧ p.tick = s.tick.num) ∧
          .response r ack ∈ t.out ∧ .datagram src.ip src.udp.toNat ([0x4F, 0x44, 0x58, 0x32] ++ ack) ∈ t.out) ∧
      (∀ d : Bytes, mdHeaderOk d = false → d.take 4 ≠ [0x4F, 0x44, 0x58, 0x32] →
        ∃ t, exec (.directOdx src d) s = .next t ∧ odN t 0xD010 3 = satN 32 (odN s 0xD010 3 + 1))) ∧
    (netUp s = true → odN s 0xD011 1 ≠ 0 → s.net.lastAnn = none →
      ∃ t, exec .announcement s = .next t ∧ t.net.lastAnn = some s.tick.num ∧
        t.out = .datagram (BitVec.ofNat 32 (odN s 0xD011 3)) 17224
          (pdTelegram (s.net.annSeq % 2 ^ 32) (odN s 0xD011 1) (announcementData s)) :: s.out) ∧
    (∀ t0 : Nat, netUp s = true → odN s 0xD011 1 ≠ 0 → s.net.lastAnn = some t0 →
      odN s 0xD011 2 * 10000 ≤ since s t0 * 128 →
      ∃ t, exec .announcement s = .next t ∧ t.net.lastAnn = some s.tick.num ∧ t.net.annSeq = s.net.annSeq + 1) ∧
    (∀ (com : BitVec 32) (d b : Bytes) (u : State), netUp s = true → odN s 0xD012 1 ≠ 0 → com.toNat = odN s 0xD012 1 →
      src.dst.toNat = odN s 0xD012 5 → odN s 0xD012 3 = 0xFFFF → speedField s d (odN s 0xD012 2) = some b →
      netWrite (hearPeer s src com.toNat none) src.ip 1 b = some u →
      ∃ t, exec (.speedDataset src com d) s = .next t ∧ odN t 0xD012 6 = satN 32 (odN s 0xD012 6 + 1) ∧
        odGet t 0x2110 1 = .num (leNat b) ∧ t.plan.stale = false ∧ t.plan.speedTick = some s.tick.num) ∧
    (∀ (com : BitVec 32) (d : Bytes), netUp s = true → odN s 0xD012 1 ≠ 0 → com.toNat = odN s 0xD012 1 →
      src.dst.toNat = odN s 0xD012 5 → speedField s d (odN s 0xD012 2) = none →
      ∃ t, exec (.speedDataset src com d) s = .next t ∧ odN t 0xD012 7 = satN 32 (odN s 0xD012 7 + 1) ∧ t.plan = s.plan) ∧
    (∀ ip : BitVec 32, ∃ t, exec (.peerAgeOut ip) s = .next t ∧ ∀ p,
      p ∈ t.net.peers ↔ p ∈ s.net.peers ∧ (p.ip ≠ ip ∨ since s p.tick * 128 < odN s 0xD020 2 * 10000000))

/-- R399: a store takes a snapshot and is answered when the older copy is valid, or aborts with the other copy in force; the
restore makes both invalid. R484 to R486: BEGIN erases the target, the erase opens or fails the update, ACTIVATE sets the
trial, CONFIRM ends it and raises the counter, CANCEL takes the trial or the update back. R410, R478: a role key is stored, a
boot key revoked. That BEGIN empties the target slot and that CONFIRM leaves mode 0, and that the first store goes to copy A, are
the model's choices (log entry 53). -/
def Obligations.PersistentValuesAndUpdate : Prop :=
  ∀ (s : State) (r : Req) (v : Val),
    let done := fun (ix sub : Nat) (t : State) =>
      ∃ ver, Out.response r (odxMessage ver 4 1 r.session.toNat r.tag.toNat ix sub []) ∈ t.out
    (WriteOk s r 0x1010 1 [1] (storeHook r) v →
      ∃ t, exec (.storePersistentValues r) s = .next t ∧ t.odx.storing = some (persistentValues s) ∧ t.out = s.out ∧
        t.odx.longs = s.odx.longs ++ [{ kind := .persist, req := r, index := 0x1010, sub := 1, cmd := 4 }]) ∧
    (∀ l : Tbl Val, s.odx.storing = some l →
      (∃ t, exec (.storeComplete true) s = .next t ∧ t.odx.storing = none ∧ odN t 0x1010 3 = 0 ∧
        odN t 0x1010 2 = satN 32 (odN s 0x1010 2 + 1) ∧
        (∀ c, storeInForce s = some (c, 1) → t.odx.copyA = s.odx.copyA ∧ t.odx.copyB = some ⟨c.count + 1, l⟩) ∧
        (∀ c, storeInForce s = some (c, 2) → t.odx.copyB = s.odx.copyB ∧ t.odx.copyA = some ⟨c.count + 1, l⟩) ∧
        (storeInForce s = none → t.odx.copyA = some ⟨1, l⟩)) ∧
      (∃ t, exec (.storeComplete false) s = .next t ∧ t.odx.storing = none ∧ odN t 0x1010 3 = abStore ∧
        t.odx.copyA = s.odx.copyA ∧ t.odx.copyB = s.odx.copyB)) ∧
    (WriteOk s r 0x1011 1 [1] restoreHook v →
      ∃ t, exec (.restoreDefaults r) s = .next t ∧ t.odx.copyA = none ∧ t.odx.copyB = none ∧ t.od = s.od ∧ done 0x1011 1 t) ∧
    (WriteOk s r 0x1F50 2 [1] (updateHook r) v → s.boot.upd = .idle ∨ s.boot.upd = .failed → s.boot.mode ≠ 1 →
      ∃ t, exec (.updateBegin r) s = .next t ∧ t.boot.upd = .erasing ∧ t.boot.nor = .erase ∧
        t.boot.target = targetSlot s ∧ slotOf t (targetSlot s) = {} ∧ t.host.intStatus.getLsbD 20 = true ∧ done 0x1F50 2 t) ∧
    (s.boot.upd = .erasing →
      (∃ t, exec (.eraseComplete true) s = .next t ∧ t.boot.upd = .opened ∧ t.boot.nor = .idle ∧
        t.host.intStatus.getLsbD 20 = true) ∧
      (∃ t, exec (.eraseComplete false) s = .next t ∧ t.boot.upd = .failed ∧ t.boot.reason = 10 ∧
        t.host.intStatus.getLsbD 20 = true)) ∧
    (WriteOk s r 0x1F50 2 [2] (updateHook r) v → s.boot.upd = .verified → cfgActive s = false →
      ∃ t, exec (.updateActivate r) s = .next t ∧ t.boot.upd = .activated ∧ (bootCtl t).trial = some s.boot.target ∧
        (bootCtl t).tried = false ∧ (bootCtl t).active = (bootCtl s).active ∧ done 0x1F50 2 t) ∧
    (WriteOk s r 0x1F50 2 [3] (updateHook r) v → s.boot.mode = 1 →
      ∃ t, exec (.updateConfirm r) s = .next t ∧ t.out = s.out ∧
        t.odx.longs = s.odx.longs ++ [{ kind := .confirm, req := r, index := 0x1F50, sub := 2, cmd := 4 }]) ∧
    (WriteOk s r 0x1F50 2 [4] (updateHook r) v → s.boot.upd = .activated →
      ∃ t, exec (.updateCancel r) s = .next t ∧ t.boot.upd = .verified ∧ (bootCtl t).trial = none ∧ done 0x1F50 2 t) ∧
    (WriteOk s r 0x1F50 2 [4] (updateHook r) v → s.boot.upd = .opened →
      ∃ t, exec (.updateCancel r) s = .next t ∧ t.boot.upd = .idle ∧ t.boot.nor = .idle ∧
        (slotOf t s.boot.target).header = [] ∧ done 0x1F50 2 t) ∧
    (s.boot.nor ≠ .program → waits s .keySafe = false → waits s .keyService = false → waits s .confirm = true →
      ∃ t, exec (.nonVolatileWriteDone true) s = .next t ∧ t.boot.mode = 0 ∧ (bootCtl t).active = s.boot.slot ∧
        (bootCtl t).trial = none ∧ waits t .confirm = false ∧
        (rollbackCount s < fieldN (slotOf s s.boot.slot).header 7 1 →
          ∀ i < fieldN (slotOf s s.boot.slot).header 7 1, i < 64 → t.boot.rollback.getLsbD i = true)) ∧
    (s.boot.nor ≠ .program → waits s .keySafe = true →
      ∃ t, exec (.nonVolatileWriteDone true) s = .next t ∧ t.odx.keySafe = s.odx.keyNew ∧ t.odx.keyServ = s.odx.keyServ ∧
        waits t .keySafe = false) ∧
    (s.boot.nor = .program → s.boot.upd = .opened → s.boot.headerDue = true →
      ∃ t, exec (.nonVolatileWriteDone true) s = .next t ∧ t.boot.upd = .verified ∧
        (slotOf t s.boot.target).header = s.boot.updHeader ∧ t.boot.nor = .idle) ∧
    (∀ k : BitVec 8, WriteOk s r 0x1F40 0x0A [k] revokeHook v →
      ∃ t, exec (.keyRevocation r k) s = .next t ∧ t.boot.revoked = s.boot.revoked ||| k.setWidth 4 ∧ done 0x1F40 0x0A t)

/-- R471 to R475, R443, R446, R47, R492, R493: RESET_N, a software reset, WDT_SVC and brown-outs hold the device, switch the
domains off and record the cause, with a cause already there where they coincide; a stuck pin is ignored and attended later; after
the release the boot control's slots are tried in their order, a trial first and once, and else ACTIVE and the other, the first
that passes its checks is chosen, or recovery follows; TEST_EN high holds the device; the firmware starts in its start-up state;
WDT_PLAN and WDT_CAL are noted for the next strobe, which inhibits emission and forces QUIET (TickStrobeAndShadow; log entry 68);
rails and VAON are recorded, and a VAON power-on is one only after VAON was below its threshold. The cause in 0x1F30:02 after VAON
power-on and RESET_STUCK in it are the model's choices (log entry 52). -/
def Obligations.ResetsBootAndWatchdogs : Prop :=
  ∀ s : State,
    let held := fun (t : State) (c : BitVec 16) => t.boot.phase = .held ∧ t.pwr.on = 0 ∧ t.boot.causes = s.boot.causes ||| c ∧
      (s.boot.phase ≠ .held → t.boot.last = c ∧ odN t 0x1F30 3 = satN 32 (odN s 0x1F30 3 + 1)) ∧
      (s.boot.phase = .held → t.boot.last = s.boot.last ||| c ∧ odN t 0x1F30 3 = odN s 0x1F30 3)
    (s.boot.ignored = false → s.boot.resetLow = false → ∃ t, exec .resetN s = .next t ∧ held t 16 ∧ t.boot.resetLow = true) ∧
    (serving s = true → ∃ t, exec .wdtSvc s = .next t ∧ held t 128) ∧
    (∀ (r : Req) (v : Val), WriteOk s r 0x1F30 5 [1] softResetHook v →
      ∃ t, exec (.softwareReset r) s = .next t ∧ held t 256 ∧
        ∃ ver, .response r (odxMessage ver 4 1 r.session.toNat r.tag.toNat 0x1F30 5 []) ∈ t.out) ∧
    (∃ t, exec (.brownOut 0) s = .next t ∧ held t 4 ∧ t.pwr.supply = s.pwr.supply ||| 1) ∧
    (∃ t, exec (.brownOut 7) s = .next t ∧ held t 8 ∧ t.pwr.supply = s.pwr.supply ||| 4) ∧
    (hasSafe s = true → ∃ t, exec (.brownOut 1) s = .next t ∧ t.isl.active.getLsbD 8 = true ∧
      t.pwr.supply = s.pwr.supply ||| 2) ∧
    (∃ t, exec .aonBrownOut s = .next t ∧ t.boot.phase = .held ∧ t.boot.last = 2 ∧ t.boot.causes = 2 ∧ t.pwr.on = 0 ∧
      t.pwr.supply = s.pwr.supply ||| 16) ∧
    (s.pwr.supply.getLsbD 31 = true → exec .vaonPowerOn s = .next s) ∧
    (s.pwr.supply.getLsbD 31 = false → ∃ t, exec .vaonPowerOn s = .next t ∧ t.boot.phase = .held ∧ t.boot.last = 1 ∧ t.boot.causes = 1 ∧ t.pwr.on = 0 ∧
      t.pwr.supply = 0x80000000 ∧ t.pwr.record = List.replicate 24 0 ∧ t.isl.lockout = 0) ∧
    (∃ t, exec .vaonPowerLoss s = .next t ∧ t.boot.phase = .held ∧ t.pwr.on = 0 ∧ t.pwr.supply = 0 ∧ t.pwr.vaonOk = false) ∧
    (∃ t, exec .vaonLow s = .next t ∧ t.pwr = { s.pwr with supply := s.pwr.supply ||| 8, vaonOk := false }) ∧
    (s.pwr.state = .standby → ∃ t, exec .lprLimit s = .next t ∧ t.pwr = { s.pwr with supply := s.pwr.supply ||| 32 }) ∧
    (∀ (rl : Fin 16) (d : Dom), d ∈ railDomains rl.val → domUp s d = true → ∃ t, exec (.railOutOfWindow rl) s = .next t ∧
      domUp t d = true ∧ (odN t 0x1F40 0x0F).testBit (domBit d) = true ∧ t.host.intStatus.getLsbD 17 = true) ∧
    (s.boot.resetLow = true → s.boot.ignored = false → ∃ t, exec .resetStuck s = .next t ∧
      t.boot = { s.boot with causes := s.boot.causes ||| 32, last := s.boot.last ||| 32, stuck := true, ignored := true }) ∧
    (s.boot.ignored = true → ∃ t, exec .resetNAttended s = .next t ∧
      t.boot = { s.boot with ignored := false, resetLow := false } ∧ t.emit.active.getLsbD 11 = false) ∧
    (s.boot.phase = .held → s.pwr.supply.getLsbD 31 = true → s.boot.testEn = false →
      let c := bootCtl s
      let first := match c.trial with
        | some k => if c.tried then c.active else k
        | none => c.active
      let other := match c.trial with
        | some k => if c.tried then k else c.active
        | none => 1 - c.active
      let mode := if c.trial = none then 0 else if c.tried then 2 else 1
      let st := fun k => imageStatus s (slotOf s k)
      ∃ t, exec .resetRelease s = .next t ∧ t.boot.status0 = st 0 ∧ t.boot.status1 = st 1 ∧
        (c.trial.isSome = true → c.tried = false → (bootCtl t).tried = true ∧ (bootCtl t).trial = c.trial) ∧
        (c.trial.isSome = true → c.tried = true → (bootCtl t).trial = none ∧ t.boot.unconfirmed = true ∧
          odN t 0x1F40 0x0E = satN (odWidth 0x1F40 0x0E) (odN s 0x1F40 0x0E + 1)) ∧
        if st first = 0 then t.boot.phase = .rom ∧ t.boot.slot = first ∧ t.boot.mode = mode
        else if st other = 0 then t.boot.phase = .rom ∧ t.boot.slot = other ∧ t.boot.mode = 2
        else t.boot.phase = .recovery ∧ t.boot.slot = 0xFF ∧ t.boot.mode = 3 ∧ domUp t .host = true) ∧
    (s.boot.testEn = true → exec .resetRelease s = .next s) ∧
    (s.boot.phase = .rom → storeInForce s = none → s.boot.wakeBoot = false → s.pwr.exit = none →
      ∃ t, exec .firmwareStart s = .next t ∧ t.boot.phase = .firmware ∧ t.pwr.state = pOf (odN s 0x9000 3) ∧
        t.pwr.fwV = BitVec.ofNat 9 (odN s 0x1F40 0x10)) ∧
    (∀ phy : Bool, s.boot.phase ≠ .held → (if phy then s.boot.phyRst else s.boot.qspiRst) = false →
      ∃ t, exec (.resetOutputRelease phy) s = .next t ∧ (if phy then t.boot.phyRst else t.boot.qspiRst) = true ∧
        t.out = .pin (if phy then "ETH_PHY_RST_N" else "QSPI_RST_N") true :: s.out) ∧
    (serving s = true →
      (∃ t, exec .wdtPlan s = .next t ∧ t.emit.wdtDue = s.emit.wdtDue ||| 2 ∧
        t.emit.active.getLsbD 1 = s.emit.active.getLsbD 1 ∧ t.pwr.entry = s.pwr.entry) ∧
      (∃ t, exec .wdtCal s = .next t ∧ t.emit.wdtDue = s.emit.wdtDue ||| 4 ∧
        t.emit.active.getLsbD 2 = s.emit.active.getLsbD 2 ∧ t.pwr.entry = s.pwr.entry))

/-- R431, R433, R442, R440: a registered vote counts and the next held one follows, a wanted domain begins to rise; power good
switches the first rising domain on; a start-up ends; a domain without votes is dropped, one that an exit from DOZE left idle too;
an alarm, WAKE_REQ, a frame and a HOST vote wake from DOZE with their code, and in RUN an alarm disarms; while an entry runs a
frame is latched, or counted where its target does not wake by it (R441). That a fall of WAKE_REQ leaves the registered votes as
they are, and that the votes of FW, PIN and SAFE are taken at VOTE_REGISTERED, is the model's choice (log entry 47). -/
def Obligations.VotesAndDomains : Prop :=
  ∀ s : State,
    (∀ v : BitVec 9, tget s.pwr.sending 0 = some v →
      ∃ t, exec (.voteRegistered .host) s = .next t ∧ t.pwr.hostV = v ∧ tget t.pwr.sending 0 = tget s.pwr.held 0 ∧
        tget t.pwr.held 0 = none ∧
        (s.boot.phase = .firmware → s.pwr.entry = none → s.pwr.exit = none → ∀ d : Dom, d ≠ .aon → domUp s d = false →
          wanted t s.pwr.state d = true → t.pwr.rising.getLsbD (domBit d) = true)) ∧
    (∃ t, exec (.voteRegistered .fw) s = .next t ∧ t.pwr.fwV = BitVec.ofNat 9 (odN s 0x1F40 0x10)) ∧
    (∀ d : Dom, upOrder.find? (fun x => s.pwr.rising.getLsbD (domBit x)) = some d →
      ∃ t, exec (.domainPowerGood d) s = .next t ∧ domUp t d = true ∧ t.pwr.rising.getLsbD (domBit d) = false ∧
        t.pwr.idle.getLsbD (domBit d) = false) ∧
    (∀ d : Dom, s.pwr.starting.getLsbD (domBit d) = true →
      ∃ t, exec (.domainStartUpDone d) s = .next t ∧ t.pwr.starting.getLsbD (domBit d) = false ∧ t.pwr.on = s.pwr.on) ∧
    (∀ d : Dom, s.pwr.entry = none → s.pwr.exit = none → domUp s d = true →
      s.pwr.idle.getLsbD (domBit d) = false ∨ s.pwr.state ≠ .doze → d ≠ .core → wanted s s.pwr.state d = false → (implicitMask s).getLsbD (domBit d) = false →
      ∃ t, exec (.domainDrop d) s = .next t ∧ domUp t d = false) ∧
    (odB s 0x9003 3 = true → s.pwr.entry = none → s.pwr.exit = none → s.pwr.state = .run ∨ s.pwr.state = .quiet →
      ∃ t, exec .rtcAlarm s = .next t ∧ odN t 0x9003 3 = 0 ∧ odN t 0x9002 6 = satN 32 (odN s 0x9002 6 + 1) ∧
        t.pwr.state = s.pwr.state) ∧
    (s.pwr.state = .doze → s.pwr.entry = none → s.pwr.exit = none →
      (odB s 0x9003 3 = true → ∃ t, exec .rtcAlarm s = .next t ∧ odN t 0x9003 5 = 1 ∧
        odN t 0x9000 1 = odN s 0x9003 4 ∧ (t.pwr.exit.isSome = true ∨ t.pwr.state = pOf (odN s 0x9003 4))) ∧
      (s.pwr.wakePin = false → s.boot.phase = .firmware → ∃ t, exec (.wakeReq true) s = .next t ∧ t.pwr.wakePin = true ∧
        odN t 0x9003 5 = 2 ∧ odN t 0x9000 1 = odN s 0x9003 4) ∧
      (∃ t, exec .networkWake s = .next t ∧ odN t 0x9003 5 = 3 ∧ odN t 0x9000 1 = odN s 0x9003 4 ∧
        (t.pwr.exit.isSome = true ∨ t.pwr.state = pOf (odN s 0x9003 4)))) ∧
    (∀ (v : BitVec 32), s.pwr.state = .doze → s.pwr.entry = none → s.pwr.exit = none → s.boot.phase = .firmware →
      hostReach s = true → presentVotes s (v.setWidth 9) &&& ~~~s.host.vote ≠ 0 →
      ∃ t, exec (.voteWrite v) s = .next t ∧ odN t 0x9003 5 = 4 ∧ odN t 0x9000 1 = odN s 0x9003 4) ∧
    (∀ e : Entry, s.pwr.entry = some e →
      (wakesFrom e.final 3 = true → ∃ t, exec .networkWake s = .next t ∧
        t.pwr = { s.pwr with entry := some { e with wake := some (e.wake.getD 3) } }) ∧
      (wakesFrom e.final 3 = false → ∃ t, exec .networkWake s = .next t ∧ t.pwr = s.pwr ∧
        odN t 0x9002 6 = satN 32 (odN s 0x9002 6 + 1))) ∧
    (∀ level : Bool, (level && !s.pwr.wakePin) = false → ∃ t, exec (.wakeReq level) s = .next t ∧
      t.pwr = { s.pwr with wakePin := level })

/-- R432 to R437: an accepted request is answered and the entry one step down starts with POWER active; after three ticks with
the axes open it drains; without an implicit vote it drops its domains and takes the state; an implicit vote that lasts 1 ms
aborts it with the vote's code, and a forced entry drops anyway; in DOZE nothing rises that its row of R427 has off. That the first
vote of several, the one with the lowest code, is named is the model's choice (log entry 47). -/
def Obligations.PowerStatesAreEntered : Prop :=
  ∀ s : State,
    (∀ (r : Req) (v : Val), WriteOk s r 0x9000 1 [1] powerHook v → s.pwr.state = .run →
      ∃ t e, exec (.powerStateRequest r 1) s = .next t ∧ t.pwr.entry = some e ∧ e.dest = .quiet ∧ e.final = .quiet ∧
        e.phase = .stop ∧ e.forced = false ∧ e.start = s.tick.num ∧ t.emit.active.getLsbD 9 = true ∧ odN t 0x9000 1 = 1 ∧
        ∃ ver, .response r (odxMessage ver 4 1 r.session.toNat r.tag.toNat 0x9000 1 []) ∈ t.out) ∧
    (∀ (r : Req) (v : Val), WriteOk s r 0x9000 1 [0] powerHook v → s.pwr.state = .quiet →
      ∃ t, exec (.powerStateRequest r 0) s = .next t ∧ (t.pwr.exit.isSome = true ∨ t.pwr.state = .run ∨
        s.boot.phase ≠ .firmware) ∧ odN t 0x9000 1 = 0) ∧
    (∀ e : Entry, s.pwr.entry = some e →
      (e.phase = .stop → 3 ≤ since s e.start → affected s e.dest .servo = false →
        ∃ t, exec .phaseAEnd s = .next t ∧ t.pwr = { s.pwr with entry := some { e with phase := .drain, phaseB := s.tick.num } }) ∧
      (e.phase = .stop → 3 ≤ since s e.start → s.servo.h.st = .opened → s.servo.v.st = .opened →
        ∃ t, exec .phaseAEnd s = .next t ∧ t.pwr = { s.pwr with entry := some { e with phase := .drain, phaseB := s.tick.num } }) ∧
      (e.phase = .stop → since s e.start < 3 → domUp s .core = true → ∃ t, exec .phaseAEnd s = .next t ∧ t.pwr = s.pwr) ∧
      (e.phase = .drain → (entryVotes s e.dest).isEmpty = true → e.final = e.dest → e.wake = none → s.pwr.exit = none →
        ∃ t, exec .drainComplete s = .next t ∧ t.pwr.state = e.dest ∧ odN t 0x9002 8 = satN 32 (odN s 0x9002 8 + 1) ∧
          (e.dest = .doze → ∀ d, domMode .doze d = .off → t.pwr.rising.getLsbD (domBit d) = false) ∧
          ∀ d, domUp s d = true → domMode e.dest d = .off → domUp t d = false) ∧
      (∀ w ws, e.phase = .drain → entryVotes s e.dest = w :: ws → 10000 ≤ since s e.phaseB * 128 → e.forced = false →
        s.pwr.forced = false →
        ∃ t, exec .drainTimeout s = .next t ∧ t.pwr.entry = none ∧ odN t 0x9002 3 = satN 32 (odN s 0x9002 3 + 1) ∧
          odN t 0x9002 4 = w.1 * 256 + w.2.1 ∧ t.host.intStatus.getLsbD 13 = true) ∧
      (∀ w ws, e.phase = .drain → entryVotes s e.dest = w :: ws → 10000 ≤ since s e.phaseB * 128 → e.forced = true →
        e.final = e.dest → e.wake = none → s.pwr.exit = none →
        ∃ t, exec .drainTimeout s = .next t ∧ t.pwr.state = e.dest ∧ odN t 0x9002 7 = satN 32 (odN s 0x9002 7 + 1)))

/-- R447 to R451: PWR_FAIL_N low halts emission, raises SUPPLY and holds QUIET, in an exit from DOZE too; in DOZE only the record
is written, and an entry is aborted; at 50 µs five domains are off; a page program at its limit is ended, and one that ends by
itself is recorded; the record tells the steps as they complete; with the domains off and the NOR idle it is complete; a rise
starts the release time or counts a short pulse; after the release time the causes go. That a quiesce starts anew while the
release time runs, and the record's times by ticks, are the model's choices (log entry 50). -/
def Obligations.QuiesceRunsToItsRecord : Prop :=
  ∀ s : State,
    (∀ edge : Int, s.boot.phase ≠ .held → s.pwr.state = .run ∨ s.pwr.state = .quiet ∨ s.pwr.exit.isSome = true →
      s.pwr.pfState ≠ 1 →
      ∃ t q, exec (.quiesceStart edge) s = .next t ∧ t.pwr.pfState = 1 ∧ t.pwr.pwrFailN = false ∧ t.pwr.state = .quiet ∧
        t.pwr.entry = none ∧ t.pwr.exit = none ∧ t.pwr.rising = 0 ∧ t.pwr.quiesce = some q ∧
        q.steps = (if norBusy t then 3 else 11) ∧ t.pwr.record = quiesceBytes q q.steps 0 ∧
        q.pBefore = pCode s.pwr.state ∧ q.eBefore = emissionCode s ∧ t.emit.active.getLsbD 10 = true ∧
        (hasSafe s = true → t.isl.active.getLsbD 8 = true) ∧
        t.host.intStatus.getLsbD 14 = true ∧ odN t 0x9004 2 = satN 32 (odN s 0x9004 2 + 1)) ∧
    (∀ edge : Int, s.boot.phase ≠ .held → s.pwr.state = .doze → s.pwr.exit = none → s.pwr.pfState ≠ 1 →
      ∃ t, exec (.quiesceStart edge) s = .next t ∧ t.pwr.pfState = s.pwr.pfState ∧ t.pwr.state = .doze ∧
        t.pwr.supply = s.pwr.supply ||| 64 ∧ t.pwr.entry = none ∧ t.pwr.on = s.pwr.on ∧
        (s.pwr.entry.isSome = true → odN t 0x9002 4 = 10 * 256 ∧ odN t 0x9002 3 = satN 32 (odN s 0x9002 3 + 1))) ∧
    (∀ q : Quiesce, s.pwr.quiesce = some q → q.steps &&& 4 = 0 →
      let p : Quiesce := { q with steps := if norBusy s then q.steps ||| 4 else (q.steps ||| 4) ||| 8 }
      ∃ t, exec .quiesceDrop s = .next t ∧ t.pwr.quiesce = some p ∧ t.pwr.record = quiesceBytes p p.steps 0 ∧
        ∀ d ∈ quiesceOrder, domUp t d = false) ∧
    (∀ q : Quiesce, s.pwr.quiesce = some q → norBusy s = true →
      ∃ t, exec .norProgramLimit s = .next t ∧ t.pwr.quiesce = some { q with nor := 2, steps := q.steps ||| 8 } ∧
        norBusy t = false) ∧
    (∀ (q : Quiesce) (l : Tbl Val), s.pwr.quiesce = some q → q.nor = 0 → s.odx.storing = some l →
      norBusy { s with odx := { s.odx with storing := none } } = false →
      ∃ t, exec (.storeComplete true) s = .next t ∧ t.pwr.quiesce = some { q with nor := 1, steps := q.steps ||| 8 }) ∧
    (∀ q : Quiesce, s.pwr.quiesce = some q → q.steps &&& 4 ≠ 0 → norBusy s = false →
      ∃ t, exec .quiesceDone s = .next t ∧ t.pwr.pfState = 2 ∧ t.pwr.quiesce = none ∧
        t.pwr.record = quiesceBytes q 31 (tickUs (since s q.tick)) ∧ t.pwr.stopRec = some (odN s 0x9003 1)) ∧
    (s.pwr.pwrFailN = false → ∃ t, exec .pwrFailNRise s = .next t ∧
      t.pwr = { s.pwr with pwrFailN := true, pfRise := if s.pwr.pfState = 0 then none else some s.tick.num }) ∧
    (s.pwr.pwrFailN = true → domUp s .core = true → ∃ t, exec .pwrFailNRise s = .next t ∧
      odN t 0x9004 3 = satN 32 (odN s 0x9004 3 + 1)) ∧
    (∀ t0 : Nat, s.pwr.pfRise = some t0 → s.pwr.pfState = 2 → msTicks (odN s 0x9004 4) ≤ since s t0 →
      ∃ t, exec .pwrFailRelease s = .next t ∧ t.pwr.pfState = 0 ∧ t.pwr.pfRise = none ∧
        t.emit.active.getLsbD 10 = false ∧ t.isl.active.getLsbD 8 = false)

/-- R458, R461 to R463, R465, R468: the trigger submits the host's entries as a level-1 group behind those that wait; on a
running converter a check that is due (every 256 ticks, by turns of inputs 25 and 26) starts at level 2, aborts a running
conversion of a lower level, whose group starts again after it, and waits behind another check; a third one is counted as lost,
and one that is not due does nothing; a read of the data register returns it and clears VALID and OVR. That the first check of
all may be of either input is the model's choice (log entry 88). -/
def Obligations.ConverterGroupsAndChecks : Prop :=
  ∀ s : State,
    (∀ (r : Req) (v : Val), WriteOk s r 0xB002 2 [1] hostTriggerHook v →
      ∃ t, exec (.hostGroupTrigger r) s = .next t ∧ hostGroupBusy t = true ∧ t.hk.slots = s.hk.slots ∧
        (t.hk.groups.map (·.items)) = (s.hk.groups.map (·.items)) ++ [hostItems s] ∧
        ∃ ver, .response r (odxMessage ver 4 1 r.session.toNat r.tag.toNat 0xB002 2 []) ∈ t.out) ∧
    (∀ i : Fin 32, i.val = 25 ∨ i.val = 26 → s.tick.num % 256 = 0 →
      (s.hk.checked.all fun x => x.1 != i.val && x.2 != s.tick.num) = true → s.hk.st = .run → s.hk.level2 = none →
      s.hk.cur = none →
      ∃ t c, exec (.converterCheck i) s = .next t ∧ t.hk.cur = some c ∧ c.level = 2 ∧ c.input = i.val ∧
        t.hk.level2 = none ∧ t.hk.checked = some (i.val, s.tick.num)) ∧
    (∀ (i : Fin 32) (c : Conv), checkDue s i.val = true → s.hk.st = .run → s.hk.level2 = none → s.hk.cur = some c → c.level ≠ 2 →
      ∃ t d, exec (.converterCheck i) s = .next t ∧ t.hk.cur = some d ∧ d.level = 2 ∧ d.input = i.val ∧ t.hk.level2 = none ∧
        t.hk.slots = s.hk.slots ∧ t.hk.checked = some (i.val, s.tick.num) ∧
        ∀ g l, c.level = 1 → s.hk.groups = g :: l → t.hk.groups = { g with pos := 0, again := true } :: l) ∧
    (∀ (i : Fin 32) (c : Conv), checkDue s i.val = true → s.hk.st = .run → s.hk.level2 = none → s.hk.cur = some c → c.level = 2 →
      ∃ t, exec (.converterCheck i) s = .next t ∧
        t.hk = { s.hk with level2 := some i.val, checked := some (i.val, s.tick.num) }) ∧
    (∀ (i : Fin 32) (k : Nat), checkDue s i.val = true → s.hk.st = .run → s.hk.level2 = some k →
      ∃ t, exec (.converterCheck i) s = .next t ∧ t.hk = { s.hk with checked := some (i.val, s.tick.num) } ∧ odN t 0xB040 8 = satN 32 (odN s 0xB040 8 + 1)) ∧
    (∀ i : Fin 32, checkDue s i.val = false ∨ s.hk.st ≠ .run → exec (.converterCheck i) s = .next s) ∧
    (∃ t, exec .hkDataRegisterRead s = .next t ∧ t.hk = { s.hk with data := s.hk.data &&& 0x3FFFFFFF } ∧
      t.out = .readData (leBytes 4 s.hk.data.toNat) :: s.out)

/-- In every state, the next state of each of these 23 commands differs from it in the named parts at most: the stored objects
of the named indexes and the named units. Every other object, unit, the fuses and the queue stay. A strobe that takes waiting requests of the network does what they say, too; with none it spares all but its own parts, the QDR memory among
them. -/
def Obligations.FrameOfTicksAndServo : Prop :=
  (∀ s, OutcomeOnly
      [.tick, .pwr, .time, .lane, .rings, .irq, .out, .points, .emit, .cams, .acq, .rx, .servo, .weir, .plan, .hk, .net,
       .free, .fsync, .isl, .od, .mbox, .dp, .log, .host, .sessions, .odx, .boot, .fm, .qdr]
      s (exec .tickStrobe s)) ∧
  (∀ s, s.odx.netQ = [] → OutcomeOnly
      [.tick, .pwr, .regs 0x9003 1, .regs 0xD031 1, .time, .regs 0xC020 16, .lane, .rings, .irq, .out, .regs 0x3301 1,
       .points, .emit, .regs 0x9000 1, .regs 0x4000 1, .regs 0x6008 2, .cams, .acq, .regs 0x7001 1, .regs 0x7000 1, .rx,
       .regs 0x3138 8, .regs 0x3050 8, .regs 0x3068 8, .servo, .regs 0xC030 1, .weir, .regs 0x4028 1, .plan, .regs 0x2120 1,
       .regs 0x2000 1, .hk, .regs 0xB040 1, .net, .regs 0xD032 1, .free, .regs 0x6012 1, .fsync, .isl]
      s (exec .tickStrobe s)) ∧
  (∀ s, OutcomeOnly
      [.regs 0x4028 1, .weir, .emit, .pwr, .plan, .regs 0x4016 1, .regs 0x5070 1, .rx, .regs 0x3080 1]
      s (exec .shadowLoad s)) ∧
  (∀ s, OutcomeOnly
      [.servo]
      s (exec .driveValueWrite s)) ∧
  (∀ ref s, OutcomeOnly
      [.tick, .regs 0x2000 1, .irq, .out, .lane]
      s (exec (.shotSyncEdge ref) s)) ∧
  (∀ s, OutcomeOnly
      [.regs 0x2000 1, .tick, .irq, .out]
      s (exec .missedEdge s)) ∧
  (∀ s, OutcomeOnly
      [.regs 0x2000 1, .tick, .lane, .irq, .out]
      s (exec .tickStretch s)) ∧
  (∀ noStrobe s, OutcomeOnly
      [.isl, .fm, .out, .irq, .emit, .regs 0x4000 1, .pwr, .regs 0x8001 1]
      s (exec (.tickMonitorFault noStrobe) s)) ∧
  (∀ req a s, OutcomeOnly
      [.sessions, .out, .mbox, .irq, .regs 0x5070 1, .regs 0x5010 2, .servo]
      s (exec (.loopCommandOpen req a) s)) ∧
  (∀ req a s, OutcomeOnly
      [.sessions, .out, .mbox, .irq, .regs 0x5070 1, .regs 0x5010 2, .servo]
      s (exec (.loopCommandClose req a) s)) ∧
  (∀ req a s, OutcomeOnly
      [.sessions, .out, .mbox, .irq, .regs 0x5070 1, .regs 0x5010 2, .servo]
      s (exec (.loopCommandPark req a) s)) ∧
  (∀ a s, OutcomeOnly
      [.servo, .regs 0x5070 1, .emit, .regs 0x4000 1, .pwr, .irq, .out, .isl, .fm, .regs 0x8001 1]
      s (exec (.feedbackLoss a) s)) ∧
  (∀ req a s, OutcomeOnly
      [.sessions, .out, .mbox, .irq, .servo]
      s (exec (.servoFaultClear req a) s)) ∧
  (∀ req d s, OutcomeOnly
      [.sessions, .out, .mbox, .irq, .servo, .regs 0x5040 3]
      s (exec (.decimatorStart req d) s)) ∧
  (∀ req d s, OutcomeOnly
      [.sessions, .out, .mbox, .irq, .servo, .regs 0x5040 3]
      s (exec (.decimatorStop req d) s)) ∧
  (∀ high period s, OutcomeOnly
      [.servo]
      s (exec (.spPulsePeriod high period) s)) ∧
  (∀ count s, OutcomeOnly
      [.servo]
      s (exec (.countGate count) s)) ∧
  (∀ s, OutcomeOnly
      [.servo, .regs 0x5070 1]
      s (exec .sourceTimeout s)) ∧
  (∀ req s, OutcomeOnly
      [.sessions, .out, .mbox, .irq, .servo]
      s (exec (.traceArm req) s)) ∧
  (∀ req s, OutcomeOnly
      [.sessions, .out, .mbox, .irq, .servo]
      s (exec (.traceManualTrigger req) s)) ∧
  (∀ req s, OutcomeOnly
      [.sessions, .out, .mbox, .irq, .servo]
      s (exec (.traceStop req) s)) ∧
  (∀ s, OutcomeOnly
      [.servo, .irq, .out]
      s (exec .traceDone s)) ∧
  (∀ s, OutcomeOnly
      [.tick, .out]
      s (exec .shotSyncOutPulse s)) ∧
  (∀ s, OutcomeOnly
      [.tick, .out]
      s (exec .shotSyncOutPulseEnd s))

/-- In every state, the next state of each of these 21 commands differs from it in the named parts at most: the stored objects
of the named indexes and the named units. Every other object, unit, the fuses and the queue stay. The QDR memory is unchanged by all of them. -/
def Obligations.FrameOfTheReceivePath : Prop :=
  (∀ e s, OutcomeOnly
      [.emit, .regs 0x4016 1, .rx, .regs 0x3050 8, .regs 0x3068 8, .regs 0x3108 1, .regs 0x2120 1]
      s (exec (.shotLaunch e) s)) ∧
  (∀ s, OutcomeOnly
      [.rx, .regs 0x3138 8, .regs 0x3050 8, .regs 0x3068 8, .regs 0x3110 8, .regs 0x3108 1, .regs 0x3118 8, .regs 0x3140 8,
       .regs 0x3148 8]
      s (exec .swapPointBSlot s)) ∧
  (∀ c p s, OutcomeOnly
      [.rx, .regs 0x3080 1, .regs 0x3138 8, .regs 0x3050 8, .regs 0x3068 8, .irq, .out, .regs 0x8001 1, .fm, .isl, .emit,
       .regs 0x4000 1, .pwr, .regs 0x3058 8]
      s (exec (.frontEndEvent c p) s)) ∧
  (∀ c s, OutcomeOnly
      [.rx, .regs 0x3080 1, .regs 0x3138 8, .regs 0x3050 8, .regs 0x3068 8, .irq, .out, .regs 0x8001 1, .fm, .isl, .emit,
       .regs 0x4000 1, .pwr]
      s (exec (.stuckTick c) s)) ∧
  (∀ c s, OutcomeOnly
      [.rx]
      s (exec (.blankingIntervalEnd c) s)) ∧
  (∀ c time cycle s, OutcomeOnly
      [.rx, .regs 0x3120 8, .regs 0x3128 8, .regs 0x3130 8, .regs 0x3108 1]
      s (exec (.coincidenceDecision c time cycle) s)) ∧
  (∀ s, OutcomeOnly
      [.rx, .regs 0x3110 8, .regs 0x3140 8, .regs 0x3148 8, .regs 0x3108 1]
      s (exec .gateClose s)) ∧
  (∀ s, OutcomeOnly
      [.regs 0x3118 8, .rx, .regs 0x3110 8, .regs 0x3140 8, .regs 0x3148 8, .regs 0x3108 1, .regs 0xC020 16, .lane, .rings,
       .irq, .out, .plan, .weir, .regs 0x2120 1]
      s (exec .earlyTerminationTest s)) ∧
  (∀ h s, OutcomeOnly
      [.rx]
      s (exec (.calibrationHits h) s)) ∧
  (∀ late s, OutcomeOnly
      [.rx, .regs 0x3110 8, .regs 0x3108 1, .regs 0x3118 8, .regs 0x3140 8, .regs 0x3148 8, .tick, .regs 0x2000 1, .emit,
       .regs 0x4000 1, .pwr, .irq, .out, .isl, .fm, .regs 0x8001 1]
      s (exec (.shadowFreeze late) s)) ∧
  (∀ osc s, OutcomeOnly
      [.rx, .regs 0x3080 1, .regs 0x3060 8, .regs 0x3138 8, .regs 0x3050 8, .regs 0x3068 8, .irq, .out, .regs 0x8001 1, .fm,
       .isl, .emit, .regs 0x4000 1, .pwr, .regs 0x3000 1]
      s (exec (.calibrationPeriodEnd osc) s)) ∧
  (∀ req s, OutcomeOnly
      [.sessions, .out, .mbox, .irq, .rx, .regs 0x3138 8, .regs 0x3050 8, .regs 0x3068 8, .emit, .regs 0x4000 1, .pwr]
      s (exec (.fullCalibrationRequest req) s)) ∧
  (∀ r s, OutcomeOnly
      [.rx, .regs 0x3138 8, .regs 0x3050 8, .regs 0x3068 8, .irq, .out, .regs 0x8001 1, .fm, .isl, .emit, .regs 0x4000 1,
       .pwr, .regs 0x3108 1, .regs 0x3000 1, .odx, .plan]
      s (exec (.fullCalibrationEnd r) s)) ∧
  (∀ c corrected bad s, OutcomeOnly
      [.rx, .regs 0x3108 1, .regs 0xC020 16, .lane, .rings, .irq, .out, .acq, .regs 0x8001 1, .fm, .isl, .emit,
       .regs 0x4000 1, .pwr]
      s (exec (.readPassComplete c corrected bad) s)) ∧
  (∀ c s, OutcomeOnly
      [.rx, .regs 0x3108 1, .tick, .regs 0x2000 1, .emit, .regs 0x4000 1, .pwr, .irq, .out, .isl, .fm, .regs 0x8001 1]
      s (exec (.readPassOverrun c) s)) ∧
  (∀ c s, OutcomeOnly
      [.rx, .regs 0x3240 1]
      s (exec (.echoExtraction c) s)) ∧
  (∀ c s, OutcomeOnly
      [.isl, .points, .regs 0x3301 1, .rx, .regs 0x2120 1, .plan, .regs 0x2130 8]
      s (exec (.oxbowDecision c) s)) ∧
  (∀ s, OutcomeOnly
      [.points, .regs 0x6044 1, .regs 0xC020 16, .lane, .rings, .irq, .out, .regs 0x3301 1]
      s (exec .confluence s)) ∧
  (∀ s, OutcomeOnly
      [.points, .regs 0x6044 1, .regs 0xC020 16, .lane, .rings, .irq, .out, .regs 0x3301 1]
      s (exec .pixelReadReturn s)) ∧
  (∀ s, OutcomeOnly
      [.points, .regs 0x6044 1, .regs 0xC020 16, .lane, .rings, .irq, .out, .regs 0x3301 1]
      s (exec .memLate s)) ∧
  (∀ req sub v s, OutcomeOnly
      [.sessions, .out, .mbox, .irq, .regs 0x1F12 1]
      s (exec (.pr32VersionWrite req sub v) s))

/-- In every state, the next state of each of these 22 commands differs from it in the named parts at most: the stored objects
of the named indexes and the named units. Every other object, unit, the fuses and the queue stay. The QDR memory is unchanged by all of them. -/
def Obligations.FrameOfPlansAndEmission : Prop :=
  (∀ x s, OutcomeOnly
      [.tick, .servo, .regs 0x5010 2, .regs 0x5070 1, .emit, .isl, .regs 0x4000 1, .pwr, .irq, .out, .plan, .points, .weir,
       .regs 0x4028 1]
      s (exec (.positionSampleLatch x) s)) ∧
  (∀ s, OutcomeOnly
      [.emit, .hk, .regs 0xB040 1, .regs 0x4016 1]
      s (exec .probePulse s)) ∧
  (∀ req plan s, OutcomeOnly
      [.sessions, .out, .mbox, .irq, .regs 0x2101 1, .regs 0x2102 1, .plan, .odx]
      s (exec (.planWrite req plan) s)) ∧
  (∀ s, OutcomeOnly
      [.plan, .regs 0x2101 1, .irq, .out, .regs 0x2102 1, .odx, .mbox, .sessions, .emit, .weir, .regs 0x4028 1]
      s (exec .admissionEnd s)) ∧
  (∀ s, OutcomeOnly
      [.odx, .plan, .irq, .out]
      s (exec .planSwitch s)) ∧
  (∀ req s, OutcomeOnly
      [.sessions, .out, .mbox, .irq, .regs 0x2102 1, .plan, .emit, .weir, .regs 0x4028 1]
      s (exec (.stopRunningPlan req) s)) ∧
  (∀ s, OutcomeOnly
      [.plan, .irq, .out]
      s (exec .planStopEffect s)) ∧
  (∀ req sub bits s, OutcomeOnly
      [.sessions, .out, .mbox, .irq, .regs 0x2110 1, .plan]
      s (exec (.vehicleSpeedWrite req sub bits) s)) ∧
  (∀ s, OutcomeOnly
      [.plan]
      s (exec .speedTimeout s)) ∧
  (∀ s, OutcomeOnly
      [.weir]
      s (exec .weirHoldOffEnd s)) ∧
  (∀ req s, OutcomeOnly
      [.sessions, .out, .mbox, .irq, .emit]
      s (exec (.emissionEnable req) s)) ∧
  (∀ req s, OutcomeOnly
      [.sessions, .out, .mbox, .irq, .emit]
      s (exec (.emissionDisable req) s)) ∧
  (∀ req s, OutcomeOnly
      [.sessions, .out, .mbox, .irq, .boot, .emit, .isl, .regs 0x4000 1, .pwr]
      s (exec (.faultAcknowledge req) s)) ∧
  (∀ b s, OutcomeOnly
      [.emit, .regs 0x4016 1]
      s (exec (.bankVoltageFault b) s)) ∧
  (∀ g s, OutcomeOnly
      [.emit, .regs 0x4016 1, .irq, .out, .regs 0x8001 1, .fm, .isl, .regs 0x4000 1, .pwr]
      s (exec (.diagnosisWindow g) s)) ∧
  (∀ g s, OutcomeOnly
      [.emit, .regs 0x4016 1, .irq, .out, .regs 0x8001 1, .fm, .isl, .regs 0x4000 1, .pwr]
      s (exec (.stuckOn g) s)) ∧
  (∀ g s, OutcomeOnly
      [.emit]
      s (exec (.stuckOnClear g) s)) ∧
  (∀ req mask s, OutcomeOnly
      [.sessions, .out, .mbox, .irq, .emit]
      s (exec (.diagnosisClear req mask) s)) ∧
  (∀ raw oor s, OutcomeOnly
      [.regs 0xB040 1, .hk, .acq, .pwr, .irq, .out, .regs 0x8001 1, .fm, .isl, .emit, .regs 0x4000 1, .free, .regs 0x4016 1]
      s (exec (.conversionComplete raw oor) s)) ∧
  (∀ req s, OutcomeOnly
      [.sessions, .out, .mbox, .irq, .regs 0xB040 1, .hk]
      s (exec (.hostGroupTrigger req) s)) ∧
  (∀ input s, OutcomeOnly
      [.regs 0xB040 1, .hk]
      s (exec (.converterCheck input) s)) ∧
  (∀ s, OutcomeOnly
      [.hk, .out]
      s (exec .hkDataRegisterRead s))

/-- In every state, the next state of each of these 15 commands differs from it in the named parts at most: the stored objects
of the named indexes and the named units. Every other object, unit, the fuses and the queue stay. The memory is spared by all but the line service, the stored frame and the write of ACQ. -/
def Obligations.FrameOfCamerasAndAcquisition : Prop :=
  (∀ k p s, OutcomeOnly
      [.regs 0x6008 2, .cams, .irq, .out, .regs 0x6004 2]
      s (exec (.frameStart k p) s)) ∧
  (∀ k p s, OutcomeOnly
      [.regs 0x6008 2, .cams, .irq, .out]
      s (exec (.frameEnd k p) s)) ∧
  (∀ k p s, OutcomeOnly
      [.regs 0x6008 2, .cams]
      s (exec (.linePacket k p) s)) ∧
  (∀ s, OutcomeOnly
      [.cams, .regs 0xC020 16, .lane, .rings, .irq, .out, .free, .acq, .qdr]
      s (exec .lineService s)) ∧
  (∀ k s, OutcomeOnly
      [.free, .acq, .qdr, .regs 0xC020 16, .lane, .rings, .irq, .out, .cams]
      s (exec (.frameStored k) s)) ∧
  (∀ k s, OutcomeOnly
      [.regs 0x6008 2, .irq, .out, .regs 0x8001 1, .fm, .isl, .emit, .regs 0x4000 1, .pwr, .cams]
      s (exec (.frameTimeout k) s)) ∧
  (∀ req k v s, OutcomeOnly
      [.sessions, .out, .mbox, .irq, .regs 0x6000 2, .regs 0x6008 2, .cams]
      s (exec (.portEnableWrite req k v) s)) ∧
  (∀ req k v s, OutcomeOnly
      [.sessions, .out, .mbox, .irq, .regs 0x6000 2, .cams]
      s (exec (.testRequestWrite req k v) s)) ∧
  (∀ k s, OutcomeOnly
      [.out, .cams]
      s (exec (.camFsyncPulseEnd k) s)) ∧
  (∀ req s, OutcomeOnly
      [.sessions, .out, .mbox, .irq, .acq, .regs 0x7001 1, .regs 0x7000 1]
      s (exec (.acqArm req) s)) ∧
  (∀ req s, OutcomeOnly
      [.sessions, .out, .mbox, .irq, .acq, .regs 0x7001 1, .regs 0x7000 1]
      s (exec (.acqStop req) s)) ∧
  (∀ req s, OutcomeOnly
      [.sessions, .out, .mbox, .irq, .acq, .regs 0x7001 1, .regs 0x7000 1]
      s (exec (.acqManualTrigger req) s)) ∧
  (∀ s, OutcomeOnly
      [.acq, .regs 0x7001 1, .regs 0x7000 1]
      s (exec .acqRow s)) ∧
  (∀ s, OutcomeOnly
      [.acq, .irq, .out]
      s (exec .acqDrainComplete s)) ∧
  (∀ bad s, OutcomeOnly
      [.acq, .regs 0x7000 1, .irq, .out, .qdr]
      s (exec (.acqQdrWrite bad) s))

/-- In every state, the next state of each of these 27 commands differs from it in the named parts at most: the stored objects
of the named indexes and the named units. Every other object, unit, the fuses and the queue stay. The QDR memory is unchanged by all of them. -/
def Obligations.FrameOfTheIslandAndTime : Prop :=
  (∀ ok s, OutcomeOnly
      [.regs 0x8001 1, .isl, .fm, .out, .irq, .emit, .regs 0x4000 1, .pwr, .regs 0x8200 16, .regs 0x8300 4, .regs 0x8310 1,
       .regs 0x8400 4]
      s (exec (.islandInitComplete ok) s)) ∧
  (∀ s, OutcomeOnly
      [.regs 0x8001 1, .isl, .fm, .out, .irq, .emit, .regs 0x4000 1, .pwr]
      s (exec .lockstepFault s)) ∧
  (∀ s, OutcomeOnly
      [.isl, .fm, .out, .irq, .emit, .regs 0x4000 1, .pwr, .regs 0x8001 1]
      s (exec .supplyMonitorFault s)) ∧
  (∀ s, OutcomeOnly
      [.isl, .fm, .out, .irq, .emit, .regs 0x4000 1, .pwr, .regs 0x8001 1]
      s (exec .islandWatchdog s)) ∧
  (∀ s, OutcomeOnly
      [.isl, .fm, .out, .irq, .emit, .regs 0x4000 1, .pwr, .regs 0x8001 1]
      s (exec .evalTimeout s)) ∧
  (∀ a b s, OutcomeOnly
      [.isl, .regs 0x8001 1, .fm, .out, .irq, .emit, .regs 0x4000 1, .pwr]
      s (exec (.sealSample a b) s)) ∧
  (∀ req n s, OutcomeOnly
      [.sessions, .out, .mbox, .irq, .isl, .odx]
      s (exec (.storeConfiguration req n) s)) ∧
  (∀ req n s, OutcomeOnly
      [.sessions, .out, .mbox, .irq, .isl, .odx]
      s (exec (.pairConfiguration req n) s)) ∧
  (∀ req n s, OutcomeOnly
      [.sessions, .out, .mbox, .irq, .isl, .odx]
      s (exec (.deleteConfiguration req n) s)) ∧
  (∀ ok s, OutcomeOnly
      [.isl, .odx, .out, .mbox, .irq, .sessions, .pwr]
      s (exec (.configNorWriteDone ok) s)) ∧
  (∀ s, OutcomeOnly
      [.isl, .fm, .out, .irq, .emit, .regs 0x4000 1, .pwr, .regs 0x8001 1]
      s (exec .zoneEvaluation s)) ∧
  (∀ s, OutcomeOnly
      [.isl, .fm, .out, .irq, .emit, .regs 0x4000 1, .pwr, .regs 0x8001 1]
      s (exec .coverageMarker s)) ∧
  (∀ z s, OutcomeOnly
      [.isl, .fm, .out, .irq, .emit, .regs 0x4000 1, .pwr, .regs 0x8001 1]
      s (exec (.coverageTimeout z) s)) ∧
  (∀ ch fb s, OutcomeOnly
      [.isl, .out, .regs 0x8001 1, .fm, .irq, .emit, .regs 0x4000 1, .pwr]
      s (exec (.ossdTestPulse ch fb) s)) ∧
  (∀ ch s, OutcomeOnly
      [.isl, .regs 0x8001 1, .fm, .out, .irq, .emit, .regs 0x4000 1, .pwr]
      s (exec (.ossdFeedbackTimeout ch) s)) ∧
  (∀ x s, OutcomeOnly
      [.isl, .regs 0x8001 1, .fm, .out, .irq, .emit, .regs 0x4000 1, .pwr]
      s (exec (.safetyInputSample x) s)) ∧
  (∀ c s, OutcomeOnly
      [.isl, .out, .net]
      s (exec (.bslCycle c) s)) ∧
  (∀ c t s, OutcomeOnly
      [.regs 0x8001 1, .out, .net, .isl, .fm, .irq, .emit, .regs 0x4000 1, .pwr]
      s (exec (.bslTelegramReceive c t) s)) ∧
  (∀ c s, OutcomeOnly
      [.isl, .regs 0x8001 1, .fm, .out, .irq, .emit, .regs 0x4000 1, .pwr]
      s (exec (.bslWatchdog c) s)) ∧
  (∀ c s, OutcomeOnly
      [.isl, .out, .net]
      s (exec (.bslRetry c) s)) ∧
  (∀ s, OutcomeOnly
      [.fm, .isl, .emit, .regs 0x4000 1, .pwr, .irq, .out]
      s (exec .recoveryComplete s)) ∧
  (∀ m s, OutcomeOnly
      [.time, .free, .out]
      s (exec (.gptpSync m) s)) ∧
  (∀ m s, OutcomeOnly
      [.time, .regs 0xD032 1]
      s (exec (.neighbourDelayMeasurement m) s)) ∧
  (∀ m s, OutcomeOnly
      [.regs 0xD032 1, .regs 0xD031 1, .time, .free]
      s (exec (.delayExchange m) s)) ∧
  (∀ c s, OutcomeOnly
      [.regs 0xD033 1, .time, .free]
      s (exec (.ppsEdge c) s)) ∧
  (∀ s, OutcomeOnly
      [.time]
      s (exec .timeHoldover s)) ∧
  (∀ cycle s, OutcomeOnly
      [.time, .out]
      s (exec (.delayReqSend cycle) s))

/-- In every state, the next state of each of these 27 commands differs from it in the named parts at most: the stored objects
of the named indexes and the named units. Every other object, unit, the fuses and the queue stay. What becomes of the QDR memory
where it is named, as a message may reset the device, StoresStayInTheirPlaces says. -/
def Obligations.FrameOfLanesAndNetwork : Prop :=
  (∀ l s, OutcomeOnly
      [.lane, .out]
      s (exec (.probeBurst l) s)) ∧
  (∀ l w s, OutcomeOnly
      [.lane, .out]
      s (exec (.partnerProbeReceived l w) s)) ∧
  (∀ l w s, OutcomeOnly
      [.free, .lane, .out, .irq]
      s (exec (.trainRequest l w) s)) ∧
  (∀ l eyeH eyeW s, OutcomeOnly
      [.lane, .out, .irq]
      s (exec (.eqComplete l eyeH eyeW) s)) ∧
  (∀ l s, OutcomeOnly
      [.lane, .irq, .out]
      s (exec (.fecAlignComplete l) s)) ∧
  (∀ j skews s, OutcomeOnly
      [.regs 0xC020 16, .lane, .regs 0xC010 16, .out, .irq]
      s (exec (.deskewComplete j skews) s)) ∧
  (∀ l w s, OutcomeOnly
      [.lane, .regs 0xC020 16, .regs 0xC010 16, .out, .irq]
      s (exec (.capsReceived l w) s)) ∧
  (∀ l s, OutcomeOnly
      [.regs 0xC020 16, .lane, .regs 0xC010 16, .irq, .out]
      s (exec (.trainingTimeout l) s)) ∧
  (∀ l cause s, OutcomeOnly
      [.regs 0xC010 16, .regs 0xC020 16, .lane, .irq, .out]
      s (exec (.linkLoss l cause) s)) ∧
  (∀ j s, OutcomeOnly
      [.lane, .out, .irq]
      s (exec (.idleEntry j) s)) ∧
  (∀ j s, OutcomeOnly
      [.out, .free, .lane, .irq]
      s (exec (.idleExit j) s)) ∧
  (∀ j ofs s, OutcomeOnly
      [.lane, .out, .free]
      s (exec (.superframe j ofs) s)) ∧
  (∀ j m s, OutcomeOnly
      [.lane, .tick, .regs 0x2000 1, .irq, .out]
      s (exec (.tickMarker j m) s)) ∧
  (∀ j aux s, OutcomeOnly
      [.rx]
      s (exec (.dstateItem j aux) s)) ∧
  (∀ j aux s, OutcomeOnly
      [.rx]
      s (exec (.dmaskItem j aux) s)) ∧
  (∀ j aux s, OutcomeOnly
      [.lane]
      s (exec (.creditItem j aux) s)) ∧
  (∀ port f s, OutcomeOnly
      [.net, .out, .time, .pwr, .emit, .irq, .boot, .isl, .cams, .od, .tick, .mbox, .rings, .dp, .log, .host, .sessions,
       .odx, .weir, .fm, .rx, .plan, .servo, .fsync, .points, .acq, .qdr, .lane, .hk, .free]
      s (exec (.ethernetFrame port f) s)) ∧
  (∀ port speed full s, OutcomeOnly
      [.net, .time, .out]
      s (exec (.ethLinkChange port speed full) s)) ∧
  (∀ mac s, OutcomeOnly
      [.net]
      s (exec (.addressAgeing mac) s)) ∧
  (∀ arrived s, OutcomeOnly
      [.net, .regs 0xD000 1, .out]
      s (exec (.ringCheck arrived) s)) ∧
  (∀ port s, OutcomeOnly
      [.net, .out]
      s (exec (.flushFrame port) s)) ∧
  (∀ src tel s, OutcomeOnly
      [.net, .sessions, .out, .mbox, .irq, .boot, .odx, .free, .hk, .od, .tick, .rings, .dp, .log, .host, .time, .pwr, .emit,
       .weir, .isl, .fm, .rx, .plan, .servo, .cams, .fsync, .points, .acq, .qdr, .lane]
      s (exec (.trdpMessageRequest src tel) s)) ∧
  (∀ src dgram s, OutcomeOnly
      [.net, .sessions, .out, .mbox, .irq, .boot, .odx, .free, .hk, .od, .tick, .rings, .dp, .log, .host, .time, .pwr, .emit,
       .weir, .isl, .fm, .rx, .plan, .servo, .cams, .fsync, .points, .acq, .qdr, .lane]
      s (exec (.directOdx src dgram) s)) ∧
  (∀ s, OutcomeOnly
      [.net, .out]
      s (exec .announcement s)) ∧
  (∀ src comId data s, OutcomeOnly
      [.regs 0xD012 1, .net, .regs 0x2110 1, .plan, .regs 0xD020 1]
      s (exec (.speedDataset src comId data) s)) ∧
  (∀ ip s, OutcomeOnly
      [.net]
      s (exec (.peerAgeOut ip) s)) ∧
  (∀ j stream fec s, OutcomeOnly
      [.regs 0xC010 16, .regs 0xC020 16]
      s (exec (.segmentReceived j stream fec) s))

/-- In every state, the next state of each of these 25 commands differs from it in the named parts at most: the stored objects
of the named indexes and the named units. Every other object, unit, the fuses and the queue stay. The memory is spared by all but the accesses of the data port and the internal bus. -/
def Obligations.FrameOfTheHostInterface : Prop :=
  (∀ client addr len wr s, OutcomeOnly
      [.boot, .qdr, .log, .irq, .out, .dp, .hk, .free]
      s (exec (.internalBusAccess client addr len wr) s)) ∧
  (∀ s, OutcomeOnly
      [.rings, .sessions, .boot, .irq, .out, .odx, .mbox, .dp, .host, .pwr]
      s (exec .pcieReset s)) ∧
  (∀ a s, OutcomeOnly
      [.out, .host, .irq, .mbox, .rings, .dp, .log, .sessions, .boot, .odx, .pwr, .emit, .isl, .cams, .od, .tick, .net,
       .time, .weir, .fm, .rx, .plan, .servo, .fsync, .points, .acq, .lane, .hk]
      s (exec (.registerWrite a) s)) ∧
  (∀ a s, OutcomeOnly
      [.out, .free, .log, .irq, .host, .mbox, .rings]
      s (exec (.upperHalfLatchRead a) s)) ∧
  (∀ cycle s, OutcomeOnly
      [.out, .log, .irq, .host]
      s (exec (.timeLatch cycle) s)) ∧
  (∀ s, OutcomeOnly
      [.out, .log, .irq, .host]
      s (exec .timeHiRead s)) ∧
  (∀ v s, OutcomeOnly
      [.out, .log, .irq, .host, .pwr, .emit, .boot, .isl, .cams, .od, .tick, .mbox, .rings, .dp, .sessions, .odx, .net,
       .time, .weir, .fm, .rx, .plan, .servo, .fsync, .points, .acq, .lane, .hk]
      s (exec (.voteWrite v) s)) ∧
  (∀ ring v s, OutcomeOnly
      [.out, .log, .irq]
      s (exec (.interruptStatusClear ring v) s)) ∧
  (∀ vec s, OutcomeOnly
      [.out, .log, .irq, .host]
      s (exec (.msixUnmask vec) s)) ∧
  (∀ s, OutcomeOnly
      [.out, .log, .irq, .mbox]
      s (exec .mailboxGo s)) ∧
  (∀ s, OutcomeOnly
      [.out, .log, .irq, .mbox]
      s (exec .mailboxAbort s)) ∧
  (∀ s, OutcomeOnly
      [.od, .tick, .irq, .mbox, .rings, .dp, .log, .host, .sessions, .odx, .net, .time, .pwr, .boot, .emit, .weir, .isl, .fm,
       .rx, .plan, .servo, .cams, .fsync, .points, .acq, .qdr, .lane, .hk, .free, .out]
      s (exec .mailboxResponse s)) ∧
  (∀ s, OutcomeOnly
      [.out, .log, .irq, .mbox]
      s (exec .mailboxStatusRead s)) ∧
  (∀ off len wr full s, OutcomeOnly
      [.log, .irq, .out, .dp, .rings, .boot, .qdr, .hk, .free]
      s (exec (.dataPortAccess off len wr full) s)) ∧
  (∀ r len s, OutcomeOnly
      [.log, .irq, .out, .dp, .rings, .boot, .qdr, .hk, .free]
      s (exec (.pullRead r len) s)) ∧
  (∀ r s, OutcomeOnly
      [.out, .log, .irq, .rings]
      s (exec (.ringEnable r) s)) ∧
  (∀ r s, OutcomeOnly
      [.out, .log, .irq, .rings]
      s (exec (.ringDisable r) s)) ∧
  (∀ r v s, OutcomeOnly
      [.out, .log, .irq, .rings]
      s (exec (.tailWrite r v) s)) ∧
  (∀ r s, OutcomeOnly
      [.rings, .out, .irq]
      s (exec (.ringEntryPublish r) s)) ∧
  (∀ r s, OutcomeOnly
      [.rings, .irq, .out]
      s (exec (.ringSignalTimer r) s)) ∧
  (∀ r records s, OutcomeOnly
      [.out, .log, .irq, .rings]
      s (exec (.ringDropCounterRead r records) s)) ∧
  (∀ s, OutcomeOnly
      [.out, .log, .irq]
      s (exec .faultLogPop s)) ∧
  (∀ s, OutcomeOnly
      [.out, .log, .irq]
      s (exec .accessFaultLogRead s)) ∧
  (∀ speed width bme mps s, OutcomeOnly
      [.host]
      s (exec (.pcieLinkTrained speed width bme mps) s)) ∧
  (∀ s, OutcomeOnly
      [.host, .irq, .out]
      s (exec .latchComplete s))

/-- In every state, the next state of each of these 26 commands differs from it in the named parts at most: the stored objects
of the named indexes and the named units. Every other object, unit, the fuses and the queue stay. What becomes of the QDR memory
where it is named, as a write may reset the device, StoresStayInTheirPlaces says. -/
def Obligations.FrameOfObjectsAndUpdate : Prop :=
  (∀ req version payload s, OutcomeOnly
      [.sessions, .out, .mbox, .irq, .boot, .odx, .free]
      s (exec (.odxOpen req version payload) s)) ∧
  (∀ req s, OutcomeOnly
      [.sessions, .out, .mbox, .irq, .boot, .odx]
      s (exec (.odxClose req) s)) ∧
  (∀ req index sub seg s, OutcomeOnly
      [.sessions, .out, .mbox, .irq, .hk, .free]
      s (exec (.odxRead req index sub seg) s)) ∧
  (∀ req index sub data seg s, OutcomeOnly
      [.sessions, .out, .mbox, .irq, .od, .tick, .rings, .dp, .log, .host, .odx, .net, .time, .pwr, .boot, .emit, .weir,
       .isl, .fm, .rx, .plan, .servo, .cams, .fsync, .points, .acq, .qdr, .lane, .hk, .free]
      s (exec (.odxWrite req index sub data seg) s)) ∧
  (∀ req index sub payload s, OutcomeOnly
      [.sessions, .out, .mbox, .irq]
      s (exec (.odxReadSeg req index sub payload) s)) ∧
  (∀ req index sub payload s, OutcomeOnly
      [.sessions, .out, .mbox, .irq, .boot, .odx, .od, .tick, .rings, .dp, .log, .host, .net, .time, .pwr, .emit, .weir,
       .isl, .fm, .rx, .plan, .servo, .cams, .fsync, .points, .acq, .qdr, .lane, .hk, .free]
      s (exec (.odxWriteSeg req index sub payload) s)) ∧
  (∀ req payload s, OutcomeOnly
      [.sessions, .out, .mbox, .irq, .free]
      s (exec (.odxChallenge req payload) s)) ∧
  (∀ req payload s, OutcomeOnly
      [.sessions, .out, .mbox, .irq, .odx, .regs 0x1F20 1]
      s (exec (.odxAuth req payload) s)) ∧
  (∀ req payload s, OutcomeOnly
      [.sessions, .out, .mbox, .irq, .hk, .free]
      s (exec (.odxReadMulti req payload) s)) ∧
  (∀ req s, OutcomeOnly
      [.sessions, .out, .mbox, .irq]
      s (exec (.odxKeepalive req) s)) ∧
  (∀ sess s, OutcomeOnly
      [.sessions, .boot, .irq, .out, .odx, .mbox]
      s (exec (.sessionIdleTimeout sess) s)) ∧
  (∀ sess s, OutcomeOnly
      [.sessions, .boot, .irq, .out, .odx, .mbox]
      s (exec (.segmentTransferTimeout sess) s)) ∧
  (∀ via s, OutcomeOnly
      [.sessions, .odx]
      s (exec (.authLockoutEnd via) s)) ∧
  (∀ req s, OutcomeOnly
      [.sessions, .out, .mbox, .irq, .odx]
      s (exec (.storePersistentValues req) s)) ∧
  (∀ ok s, OutcomeOnly
      [.odx, .regs 0x1010 1, .out, .mbox, .irq, .sessions, .pwr]
      s (exec (.storeComplete ok) s)) ∧
  (∀ req s, OutcomeOnly
      [.sessions, .out, .mbox, .irq, .odx]
      s (exec (.restoreDefaults req) s)) ∧
  (∀ s, OutcomeOnly
      [.boot, .pwr, .regs 0xB010 1, .regs 0xB011 1, .hk, .rx, .regs 0x1F40 1]
      s (exec .resetRelease s)) ∧
  (∀ s, OutcomeOnly
      [.boot, .od, .tick, .irq, .out, .net, .odx, .pwr, .emit, .isl, .fm]
      s (exec .firmwareStart s)) ∧
  (∀ req s, OutcomeOnly
      [.sessions, .out, .mbox, .irq, .boot, .odx]
      s (exec (.updateBegin req) s)) ∧
  (∀ ok s, OutcomeOnly
      [.boot, .irq, .out, .odx, .mbox, .sessions]
      s (exec (.eraseComplete ok) s)) ∧
  (∀ req s, OutcomeOnly
      [.sessions, .out, .mbox, .irq, .boot, .odx]
      s (exec (.updateActivate req) s)) ∧
  (∀ req s, OutcomeOnly
      [.sessions, .out, .mbox, .irq, .boot, .odx]
      s (exec (.updateConfirm req) s)) ∧
  (∀ req s, OutcomeOnly
      [.sessions, .out, .mbox, .irq, .boot, .odx]
      s (exec (.updateCancel req) s)) ∧
  (∀ req v s, OutcomeOnly
      [.sessions, .out, .mbox, .irq, .boot]
      s (exec (.keyRevocation req v) s)) ∧
  (∀ ok s, OutcomeOnly
      [.boot, .odx, .out, .mbox, .irq, .sessions, .pwr]
      s (exec (.nonVolatileWriteDone ok) s)) ∧
  (∀ phy s, OutcomeOnly
      [.boot, .out]
      s (exec (.resetOutputRelease phy) s))

/-- In every state, the next state of each of these 31 commands differs from it in the named parts at most: the stored objects
of the named indexes and the named units. Every other object, unit, the fuses and the queue stay. What becomes of the QDR memory
where it is named, StoresStayInTheirPlaces says. -/
def Obligations.FrameOfPowerAndResets : Prop :=
  (∀ s, OutcomeOnly
      [.pwr, .isl, .out, .cams, .od, .tick, .irq, .mbox, .rings, .dp, .log, .host, .sessions, .odx, .net, .time, .boot,
       .emit, .weir, .fm, .rx, .plan, .servo, .fsync, .points, .acq, .qdr, .lane, .hk]
      s (exec .wdtSvc s)) ∧
  (∀ s, OutcomeOnly
      [.emit, .isl, .fm, .out, .irq, .regs 0x4000 1, .pwr, .regs 0x8001 1]
      s (exec .wdtPlan s)) ∧
  (∀ s, OutcomeOnly
      [.emit, .isl, .fm, .out, .irq, .regs 0x4000 1, .pwr, .regs 0x8001 1]
      s (exec .wdtCal s)) ∧
  (∀ client s, OutcomeOnly
      [.pwr, .emit, .regs 0x4000 1, .irq, .out, .regs 0x9002 1]
      s (exec (.voteRegistered client) s)) ∧
  (∀ req v s, OutcomeOnly
      [.sessions, .out, .mbox, .irq, .regs 0x9002 1, .regs 0x9000 1, .pwr, .emit, .regs 0x4000 1, .regs 0x6008 2, .cams,
       .acq, .regs 0x7001 1, .regs 0x7000 1]
      s (exec (.powerStateRequest req v) s)) ∧
  (∀ s, OutcomeOnly
      [.pwr]
      s (exec .phaseAEnd s)) ∧
  (∀ s, OutcomeOnly
      [.pwr, .emit, .isl, .irq, .out, .servo, .rx, .cams, .acq, .points, .qdr, .lane, .rings, .sessions, .boot, .odx, .mbox,
       .dp, .host, .fm, .plan, .weir, .hk, .od, .tick, .log, .net, .time, .fsync]
      s (exec .drainComplete s)) ∧
  (∀ s, OutcomeOnly
      [.pwr, .emit, .isl, .irq, .out, .servo, .rx, .cams, .acq, .points, .qdr, .lane, .rings, .sessions, .boot, .odx, .mbox,
       .dp, .host, .fm, .plan, .weir, .hk, .od, .tick, .log, .net, .time, .fsync]
      s (exec .drainTimeout s)) ∧
  (∀ d s, OutcomeOnly
      [.pwr, .regs 0xB010 1, .regs 0xB011 1, .hk, .plan, .isl, .out, .irq, .fm, .emit, .regs 0x4000 1, .weir, .rx,
       .regs 0x3138 8, .regs 0x3050 8, .regs 0x3068 8, .regs 0x9002 1, .regs 0x9000 1, .regs 0x6008 2, .cams, .acq,
       .regs 0x7001 1, .regs 0x7000 1]
      s (exec (.domainPowerGood d) s)) ∧
  (∀ d s, OutcomeOnly
      [.pwr, .emit, .isl, .regs 0x4000 1, .irq, .out, .servo, .regs 0x3118 8, .rx, .regs 0x3138 8, .regs 0x3050 8,
       .regs 0x3068 8, .regs 0x6008 2, .cams, .regs 0x6004 2, .acq, .regs 0x7000 1, .points, .qdr, .regs 0xC020 16, .lane,
       .rings, .sessions, .boot, .odx, .mbox, .dp, .host, .fm, .plan, .regs 0x2000 1, .weir, .hk]
      s (exec (.domainDrop d) s)) ∧
  (∀ s, OutcomeOnly
      [.pwr, .emit, .irq, .out, .boot, .isl, .cams, .od, .tick, .mbox, .rings, .dp, .log, .host, .sessions, .odx, .net,
       .time, .weir, .fm, .rx, .plan, .servo, .fsync, .points, .acq, .qdr, .lane, .hk]
      s (exec .rtcAlarm s)) ∧
  (∀ level s, OutcomeOnly
      [.pwr, .emit, .irq, .out, .boot, .isl, .cams, .od, .tick, .mbox, .rings, .dp, .log, .host, .sessions, .odx, .net,
       .time, .weir, .fm, .rx, .plan, .servo, .fsync, .points, .acq, .lane, .hk]
      s (exec (.wakeReq level) s)) ∧
  (∀ s, OutcomeOnly
      [.pwr, .emit, .irq, .out, .boot, .isl, .cams, .od, .tick, .mbox, .rings, .dp, .log, .host, .sessions, .odx, .net,
       .time, .weir, .fm, .rx, .plan, .servo, .fsync, .points, .acq, .lane, .hk]
      s (exec .networkWake s)) ∧
  (∀ edge s, OutcomeOnly
      [.pwr, .emit, .regs 0x4000 1, .irq, .out, .regs 0x9002 1, .regs 0x9000 1, .regs 0x9004 1, .isl, .fm, .regs 0x8001 1,
       .odx, .mbox, .sessions, .boot, .regs 0x1010 1]
      s (exec (.quiesceStart edge) s)) ∧
  (∀ s, OutcomeOnly
      [.pwr, .emit, .isl, .regs 0x4000 1, .irq, .out, .servo, .regs 0x3118 8, .rx, .regs 0x3138 8, .regs 0x3050 8,
       .regs 0x3068 8, .regs 0x6008 2, .cams, .regs 0x6004 2, .acq, .regs 0x7000 1, .points, .qdr, .regs 0xC020 16, .lane,
       .rings, .sessions, .boot, .odx, .mbox, .dp, .host, .fm, .plan, .regs 0x2000 1, .weir, .hk, .regs 0x9002 1]
      s (exec .quiesceDrop s)) ∧
  (∀ s, OutcomeOnly
      [.odx, .out, .mbox, .irq, .sessions, .boot, .regs 0x1010 1, .isl, .pwr]
      s (exec .norProgramLimit s)) ∧
  (∀ s, OutcomeOnly
      [.pwr]
      s (exec .quiesceDone s)) ∧
  (∀ s, OutcomeOnly
      [.pwr, .regs 0x9004 1]
      s (exec .pwrFailNRise s)) ∧
  (∀ s, OutcomeOnly
      [.pwr, .emit, .isl, .regs 0x4000 1, .irq, .out, .regs 0x9002 1]
      s (exec .pwrFailRelease s)) ∧
  (∀ r s, OutcomeOnly
      [.pwr, .isl, .out, .cams, .od, .tick, .irq, .mbox, .rings, .dp, .log, .host, .sessions, .odx, .net, .time, .boot,
       .emit, .weir, .fm, .rx, .plan, .servo, .fsync, .points, .acq, .qdr, .lane, .hk]
      s (exec (.brownOut r) s)) ∧
  (∀ r s, OutcomeOnly
      [.regs 0x1F40 1, .pwr, .irq, .out, .regs 0x8001 1, .fm, .isl, .emit, .regs 0x4000 1, .regs 0x9002 1]
      s (exec (.railOutOfWindow r) s)) ∧
  (∀ s, OutcomeOnly
      [.pwr, .isl, .out, .cams, .od, .tick, .irq, .mbox, .rings, .dp, .log, .host, .sessions, .odx, .net, .time, .boot,
       .emit, .weir, .fm, .rx, .plan, .servo, .fsync, .points, .acq, .qdr, .lane, .hk]
      s (exec .aonBrownOut s)) ∧
  (∀ s, OutcomeOnly
      [.pwr, .isl, .out, .cams, .od, .tick, .irq, .mbox, .rings, .dp, .log, .host, .sessions, .odx, .net, .time, .boot,
       .emit, .weir, .fm, .rx, .plan, .servo, .fsync, .points, .acq, .qdr, .lane, .hk]
      s (exec .vaonPowerOn s)) ∧
  (∀ s, OutcomeOnly
      [.boot, .pwr, .isl, .out, .cams, .od, .tick, .irq, .mbox, .rings, .dp, .log, .host, .sessions, .odx, .net, .time,
       .emit, .weir, .fm, .rx, .plan, .servo, .fsync, .points, .acq, .qdr, .lane, .hk]
      s (exec .resetN s)) ∧
  (∀ s, OutcomeOnly
      [.boot]
      s (exec .resetStuck s)) ∧
  (∀ s, OutcomeOnly
      [.boot, .emit]
      s (exec .resetNAttended s)) ∧
  (∀ req s, OutcomeOnly
      [.sessions, .out, .mbox, .irq, .pwr, .isl, .cams, .od, .tick, .rings, .dp, .log, .host, .odx, .net, .time, .boot,
       .emit, .weir, .fm, .rx, .plan, .servo, .fsync, .points, .acq, .qdr, .lane, .hk]
      s (exec (.softwareReset req) s)) ∧
  (∀ d s, OutcomeOnly
      [.pwr, .lane, .irq, .out, .cams, .regs 0x6004 2, .regs 0x6000 2, .regs 0x5040 3, .servo, .emit, .regs 0x4016 1]
      s (exec (.domainStartUpDone d) s)) ∧
  (∀ s, OutcomeOnly
      [.pwr]
      s (exec .lprLimit s)) ∧
  (∀ s, OutcomeOnly
      [.pwr]
      s (exec .vaonLow s)) ∧
  (∀ s, OutcomeOnly
      [.pwr, .isl, .out, .cams, .od, .tick, .irq, .mbox, .rings, .dp, .log, .host, .sessions, .odx, .net, .time, .boot,
       .emit, .weir, .fm, .rx, .plan, .servo, .fsync, .points, .acq, .qdr, .lane, .hk]
      s (exec .vaonPowerLoss s))

end
end

