-- ==== Sys2Proof/Laws/Frame.lean ====
section
/-! SUPPORT. The calculus of frames: how "changes these parts at most" composes, and what one update of the state changes. -/

namespace Sys2Proof.Machine

theorem Part.spares_within {ps : List Part} {p : Part} {k : Nat} (h : p.within ps = true) (hk : ps.all (Part.spares k) = true) :
    p.spares k = true := by
  have hk := List.all_eq_true.mp hk
  cases p with
  | regs ix n =>
    simp only [within, List.any_eq_true] at h
    obtain ⟨q, hq, h⟩ := h
    have := hk q hq
    cases q <;> simp_all [spares]
    omega
  | od => exact absurd (hk .od (by simpa [within] using h)) (by simp [spares])
  | _ => rfl

theorem Part.same_trans {p : Part} {s t u : State} (a : p.same t u) (b : p.same s t) : p.same s u := by
  cases p with
  | irq => exact ⟨a.1.trans b.1, a.2.1.trans b.2.1, a.2.2.trans b.2.2⟩
  | sessions => exact ⟨a.1.trans b.1, a.2.1.trans b.2.1, a.2.2.trans b.2.2⟩
  | log => exact ⟨a.1.trans b.1, a.2.trans b.2⟩
  | host => simp only [Part.same] at *; rw [a, b]
  | odx => simp only [Part.same] at *; rw [a, b]
  | regs => trivial
  | od => trivial
  | _ => exact Eq.trans a b

theorem Only.refl (C : List Part) (s : State) : Only C s s :=
  ⟨fun p _ => by cases p <;> first | rfl | trivial | exact ⟨rfl, rfl, rfl⟩ | exact ⟨rfl, rfl⟩, fun _ _ => rfl, fun _ => rfl⟩

theorem Only.step {C B : List Part} {s t u : State} (h : Only B t u) (hB : (B.all (Part.within C)) = true)
    (h1 : Only C s t) : Only C s u := by
  have hB := List.all_eq_true.mp hB
  constructor
  · intro p hp
    cases hq : B.contains p with
    | false =>
      exact Part.same_trans (h.same p hq) (h1.same p hp)
    | true =>
      have := hB p (by simpa using hq)
      cases p <;> first | exact trivial | (simp only [Part.within] at this; rw [this] at hp; cases hp)
  case store =>
    intro hc
    have hb : B.any Part.stores = false := by
      rw [List.any_eq_false] at hc ⊢
      intro p hp hs
      have hw := hB p hp
      cases p with
      | regs a m =>
        simp only [Part.within, List.any_eq_true] at hw
        obtain ⟨q, hq, h⟩ := hw
        cases q <;> first | exact hc _ hq rfl | cases h
      | od => exact hc .od (by simpa [Part.within] using hw) rfl
      | _ => cases hs
    rw [h.store hb, h1.store hc]
  · intro k hk
    rw [h.regs k (List.all_eq_true.mpr fun p hp => Part.spares_within (hB p hp) hk), h1.regs k hk]

theorem Only.foldl {α : Type} {C : List Part} {s0 s : State} (F : State → α → State) (l : List α)
    (h : ∀ t x, Only C t (F t x)) (h1 : Only C s0 s) : Only C s0 (l.foldl F s) := by
  induction l generalizing s with
  | nil => exact h1
  | cons x l ih => exact ih (Only.step (h s x) (by
      apply List.all_eq_true.mpr; intro p hp
      cases p with
      | regs a m => exact List.any_eq_true.mpr ⟨_, hp, by simp⟩
      | _ => simpa [Part.within] using hp) h1)

theorem Only.ite {C : List Part} {s a b : State} {c : Prop} [Decidable c] (ha : Only C s a) (hb : Only C s b) :
    Only C s (if c then a else b) := by split <;> assumption

theorem tget_tset {α : Type} (t : Tbl α) (k j : Nat) (v : α) : tget (tset t k v) j = if j = k then some v else tget t j := by
  induction t with
  | nil => simp only [tset, tget]; split <;> split <;> first | rfl | omega
  | cons p t ih =>
    obtain ⟨a, w⟩ := p
    simp only [tset]
    split
    · simp only [tget]; split <;> split <;> first | rfl | omega | (split <;> first | rfl | omega)
    · split
      · simp only [tget]; split <;> split <;> first | rfl | omega | (split <;> first | rfl | omega)
      · simp only [tget, ih]; split <;> first | rfl | (split <;> first | rfl | omega)

theorem odSet_only (s : State) {ix sub : Nat} (v : Val) (h : sub < 256) : Only [.regs ix 1] s (odSet s ix sub v) := by
  constructor
  · intro p hp; cases p <;> first | exact trivial | rfl | exact ⟨rfl, rfl, rfl⟩ | exact ⟨rfl, rfl⟩
  · intro k hk
    simp [Part.spares] at hk
    simp only [odSet, tget_tset, odKey]
    rw [if_neg (by omega)]
  · intro h; cases h

theorem Only.set_acq {C : List Part} {s0 s : State} {v_acq} (hC : (Part.within C .acq) = true)
    (h : Only C s0 s) : Only C s0 { s with acq := v_acq } :=
  Only.step (s := s0) (t := s) (B := [.acq]) ⟨fun p hp => by
    cases p <;> first | exact trivial | rfl | exact ⟨rfl, rfl, rfl⟩ | exact ⟨rfl, rfl⟩ | exact absurd hp (by decide), fun _ _ => rfl, fun _ => rfl⟩
    (by simpa [and_assoc] using hC) h
theorem Only.set_acq_hk {C : List Part} {s0 s : State} {v_acq v_hk} (hC : (Part.within C .acq && Part.within C .hk) = true)
    (h : Only C s0 s) : Only C s0 { s with acq := v_acq, hk := v_hk } :=
  Only.step (s := s0) (t := s) (B := [.acq, .hk]) ⟨fun p hp => by
    cases p <;> first | exact trivial | rfl | exact ⟨rfl, rfl, rfl⟩ | exact ⟨rfl, rfl⟩ | exact absurd hp (by decide), fun _ _ => rfl, fun _ => rfl⟩
    (by simpa [and_assoc] using hC) h
theorem Only.set_boot {C : List Part} {s0 s : State} {v_boot} (hC : (Part.within C .boot) = true)
    (h : Only C s0 s) : Only C s0 { s with boot := v_boot } :=
  Only.step (s := s0) (t := s) (B := [.boot]) ⟨fun p hp => by
    cases p <;> first | exact trivial | rfl | exact ⟨rfl, rfl, rfl⟩ | exact ⟨rfl, rfl⟩ | exact absurd hp (by decide), fun _ _ => rfl, fun _ => rfl⟩
    (by simpa [and_assoc] using hC) h
theorem Only.set_boot_emit {C : List Part} {s0 s : State} {v_boot v_emit} (hC : (Part.within C .boot && Part.within C .emit) = true)
    (h : Only C s0 s) : Only C s0 { s with boot := v_boot, emit := v_emit } :=
  Only.step (s := s0) (t := s) (B := [.boot, .emit]) ⟨fun p hp => by
    cases p <;> first | exact trivial | rfl | exact ⟨rfl, rfl, rfl⟩ | exact ⟨rfl, rfl⟩ | exact absurd hp (by decide), fun _ _ => rfl, fun _ => rfl⟩
    (by simpa [and_assoc] using hC) h
theorem Only.set_boot_qdr {C : List Part} {s0 s : State} {v_boot v_qdr} (hC : (Part.within C .boot && Part.within C .qdr) = true)
    (h : Only C s0 s) : Only C s0 { s with boot := v_boot, qdr := v_qdr } :=
  Only.step (s := s0) (t := s) (B := [.boot, .qdr]) ⟨fun p hp => by
    cases p <;> first | exact trivial | rfl | exact ⟨rfl, rfl, rfl⟩ | exact ⟨rfl, rfl⟩ | exact absurd hp (by decide), fun _ _ => rfl, fun _ => rfl⟩
    (by simpa [and_assoc] using hC) h
theorem Only.set_cams {C : List Part} {s0 s : State} {v_cams} (hC : (Part.within C .cams) = true)
    (h : Only C s0 s) : Only C s0 { s with cams := v_cams } :=
  Only.step (s := s0) (t := s) (B := [.cams]) ⟨fun p hp => by
    cases p <;> first | exact trivial | rfl | exact ⟨rfl, rfl, rfl⟩ | exact ⟨rfl, rfl⟩ | exact absurd hp (by decide), fun _ _ => rfl, fun _ => rfl⟩
    (by simpa [and_assoc] using hC) h
theorem Only.set_cams_points_qdr {C : List Part} {s0 s : State} {v_cams v_points v_qdr} (hC : (Part.within C .cams && Part.within C .points && Part.within C .qdr) = true)
    (h : Only C s0 s) : Only C s0 { s with cams := v_cams, points := v_points, qdr := v_qdr } :=
  Only.step (s := s0) (t := s) (B := [.cams, .points, .qdr]) ⟨fun p hp => by
    cases p <;> first | exact trivial | rfl | exact ⟨rfl, rfl, rfl⟩ | exact ⟨rfl, rfl⟩ | exact absurd hp (by decide), fun _ _ => rfl, fun _ => rfl⟩
    (by simpa [and_assoc] using hC) h
theorem Only.set_dp {C : List Part} {s0 s : State} {v_dp} (hC : (Part.within C .dp) = true)
    (h : Only C s0 s) : Only C s0 { s with host := { s.host with dp := v_dp } } :=
  Only.step (s := s0) (t := s) (B := [.dp]) ⟨fun p hp => by
    cases p <;> first | exact trivial | rfl | exact ⟨rfl, rfl, rfl⟩ | exact ⟨rfl, rfl⟩ | exact absurd hp (by decide), fun _ _ => rfl, fun _ => rfl⟩
    (by simpa [and_assoc] using hC) h
theorem Only.set_emit {C : List Part} {s0 s : State} {v_emit} (hC : (Part.within C .emit) = true)
    (h : Only C s0 s) : Only C s0 { s with emit := v_emit } :=
  Only.step (s := s0) (t := s) (B := [.emit]) ⟨fun p hp => by
    cases p <;> first | exact trivial | rfl | exact ⟨rfl, rfl, rfl⟩ | exact ⟨rfl, rfl⟩ | exact absurd hp (by decide), fun _ _ => rfl, fun _ => rfl⟩
    (by simpa [and_assoc] using hC) h
theorem Only.set_emit_hk {C : List Part} {s0 s : State} {v_emit v_hk} (hC : (Part.within C .emit && Part.within C .hk) = true)
    (h : Only C s0 s) : Only C s0 { s with emit := v_emit, hk := v_hk } :=
  Only.step (s := s0) (t := s) (B := [.emit, .hk]) ⟨fun p hp => by
    cases p <;> first | exact trivial | rfl | exact ⟨rfl, rfl, rfl⟩ | exact ⟨rfl, rfl⟩ | exact absurd hp (by decide), fun _ _ => rfl, fun _ => rfl⟩
    (by simpa [and_assoc] using hC) h
theorem Only.set_emit_weir_plan {C : List Part} {s0 s : State} {v_emit v_weir v_plan} (hC : (Part.within C .emit && Part.within C .weir && Part.within C .plan) = true)
    (h : Only C s0 s) : Only C s0 { s with emit := v_emit, weir := v_weir, plan := v_plan } :=
  Only.step (s := s0) (t := s) (B := [.emit, .weir, .plan]) ⟨fun p hp => by
    cases p <;> first | exact trivial | rfl | exact ⟨rfl, rfl, rfl⟩ | exact ⟨rfl, rfl⟩ | exact absurd hp (by decide), fun _ _ => rfl, fun _ => rfl⟩
    (by simpa [and_assoc] using hC) h
theorem Only.set_fm {C : List Part} {s0 s : State} {v_fm} (hC : (Part.within C .fm) = true)
    (h : Only C s0 s) : Only C s0 { s with fm := v_fm } :=
  Only.step (s := s0) (t := s) (B := [.fm]) ⟨fun p hp => by
    cases p <;> first | exact trivial | rfl | exact ⟨rfl, rfl, rfl⟩ | exact ⟨rfl, rfl⟩ | exact absurd hp (by decide), fun _ _ => rfl, fun _ => rfl⟩
    (by simpa [and_assoc] using hC) h
theorem Only.set_free {C : List Part} {s0 s : State} {v_free} (hC : (Part.within C .free) = true)
    (h : Only C s0 s) : Only C s0 { s with free := v_free } :=
  Only.step (s := s0) (t := s) (B := [.free]) ⟨fun p hp => by
    cases p <;> first | exact trivial | rfl | exact ⟨rfl, rfl, rfl⟩ | exact ⟨rfl, rfl⟩ | exact absurd hp (by decide), fun _ _ => rfl, fun _ => rfl⟩
    (by simpa [and_assoc] using hC) h
theorem Only.set_fsync {C : List Part} {s0 s : State} {v_fsync} (hC : (Part.within C .fsync) = true)
    (h : Only C s0 s) : Only C s0 { s with fsync := v_fsync } :=
  Only.step (s := s0) (t := s) (B := [.fsync]) ⟨fun p hp => by
    cases p <;> first | exact trivial | rfl | exact ⟨rfl, rfl, rfl⟩ | exact ⟨rfl, rfl⟩ | exact absurd hp (by decide), fun _ _ => rfl, fun _ => rfl⟩
    (by simpa [and_assoc] using hC) h
theorem Only.set_fuses_pending_qdr {C : List Part} {s0 s : State} {v_fuses v_pending v_qdr} (hC : (Part.within C .fuses && Part.within C .pending && Part.within C .qdr) = true)
    (h : Only C s0 s) : Only C s0 { s with fuses := v_fuses, pending := v_pending, qdr := v_qdr } :=
  Only.step (s := s0) (t := s) (B := [.fuses, .pending, .qdr]) ⟨fun p hp => by
    cases p <;> first | exact trivial | rfl | exact ⟨rfl, rfl, rfl⟩ | exact ⟨rfl, rfl⟩ | exact absurd hp (by decide), fun _ _ => rfl, fun _ => rfl⟩
    (by simpa [and_assoc] using hC) h
theorem Only.set_hk {C : List Part} {s0 s : State} {v_hk} (hC : (Part.within C .hk) = true)
    (h : Only C s0 s) : Only C s0 { s with hk := v_hk } :=
  Only.step (s := s0) (t := s) (B := [.hk]) ⟨fun p hp => by
    cases p <;> first | exact trivial | rfl | exact ⟨rfl, rfl, rfl⟩ | exact ⟨rfl, rfl⟩ | exact absurd hp (by decide), fun _ _ => rfl, fun _ => rfl⟩
    (by simpa [and_assoc] using hC) h
theorem Only.set_host {C : List Part} {s0 s : State} {v_linkUp v_speed v_width v_bme v_mps v_d3 v_bar0 v_bar2 v_caps v_tickHi v_timeHiLatch v_addrHi v_timeLo v_timeHi v_timeValid v_latching v_vote v_intEnable v_ringEnable v_vecMask v_funMask v_vecAddr v_vecData} (hC : (Part.within C .host) = true)
    (h : Only C s0 s) : Only C s0 { s with host := { s.host with linkUp := v_linkUp, speed := v_speed, width := v_width, bme := v_bme, mps := v_mps, d3 := v_d3, bar0 := v_bar0, bar2 := v_bar2, caps := v_caps, tickHi := v_tickHi, timeHiLatch := v_timeHiLatch, addrHi := v_addrHi, timeLo := v_timeLo, timeHi := v_timeHi, timeValid := v_timeValid, latching := v_latching, vote := v_vote, intEnable := v_intEnable, ringEnable := v_ringEnable, vecMask := v_vecMask, funMask := v_funMask, vecAddr := v_vecAddr, vecData := v_vecData } } :=
  Only.step (s := s0) (t := s) (B := [.host]) ⟨fun p hp => by
    cases p <;> first | exact trivial | rfl | exact ⟨rfl, rfl, rfl⟩ | exact ⟨rfl, rfl⟩ | exact absurd hp (by decide), fun _ _ => rfl, fun _ => rfl⟩
    (by simpa [and_assoc] using hC) h
theorem Only.set_irq {C : List Part} {s0 s : State} {v_intStatus v_ringInt v_pba} (hC : (Part.within C .irq) = true)
    (h : Only C s0 s) : Only C s0 { s with host := { s.host with intStatus := v_intStatus, ringInt := v_ringInt, pba := v_pba } } :=
  Only.step (s := s0) (t := s) (B := [.irq]) ⟨fun p hp => by
    cases p <;> first | exact trivial | rfl | exact ⟨rfl, rfl, rfl⟩ | exact ⟨rfl, rfl⟩ | exact absurd hp (by decide), fun _ _ => rfl, fun _ => rfl⟩
    (by simpa [and_assoc] using hC) h
theorem Only.set_irq_mbox_dp_host_odx {C : List Part} {s0 s : State} {v_intStatus v_ringInt v_pba v_mbox v_dp v_linkUp v_speed v_width v_bme v_mps v_d3 v_bar0 v_bar2 v_caps v_tickHi v_timeHiLatch v_addrHi v_timeLo v_timeHi v_timeValid v_latching v_vote v_intEnable v_ringEnable v_vecMask v_funMask v_vecAddr v_vecData v_longs v_authMbx v_authNet v_copyA v_copyB v_planStore v_storing v_keySafe v_keyServ v_keyNew v_startUp v_startDue} (hC : (Part.within C .irq && Part.within C .mbox && Part.within C .dp && Part.within C .host && Part.within C .odx) = true)
    (h : Only C s0 s) : Only C s0 { s with host := { s.host with intStatus := v_intStatus, ringInt := v_ringInt, pba := v_pba, mbox := v_mbox, dp := v_dp, linkUp := v_linkUp, speed := v_speed, width := v_width, bme := v_bme, mps := v_mps, d3 := v_d3, bar0 := v_bar0, bar2 := v_bar2, caps := v_caps, tickHi := v_tickHi, timeHiLatch := v_timeHiLatch, addrHi := v_addrHi, timeLo := v_timeLo, timeHi := v_timeHi, timeValid := v_timeValid, latching := v_latching, vote := v_vote, intEnable := v_intEnable, ringEnable := v_ringEnable, vecMask := v_vecMask, funMask := v_funMask, vecAddr := v_vecAddr, vecData := v_vecData }, odx := { s.odx with longs := v_longs, authMbx := v_authMbx, authNet := v_authNet, copyA := v_copyA, copyB := v_copyB, planStore := v_planStore, storing := v_storing, keySafe := v_keySafe, keyServ := v_keyServ, keyNew := v_keyNew, startUp := v_startUp, startDue := v_startDue } } :=
  Only.step (s := s0) (t := s) (B := [.irq, .mbox, .dp, .host, .odx]) ⟨fun p hp => by
    cases p <;> first | exact trivial | rfl | exact ⟨rfl, rfl, rfl⟩ | exact ⟨rfl, rfl⟩ | exact absurd hp (by decide), fun _ _ => rfl, fun _ => rfl⟩
    (by simpa [and_assoc] using hC) h
theorem Only.set_irq_mbox_rings_dp_log_host {C : List Part} {s0 s : State} {v_host} (hC : (Part.within C .irq && Part.within C .mbox && Part.within C .rings && Part.within C .dp && Part.within C .log && Part.within C .host) = true)
    (h : Only C s0 s) : Only C s0 { s with host := v_host } :=
  Only.step (s := s0) (t := s) (B := [.irq, .mbox, .rings, .dp, .log, .host]) ⟨fun p hp => by
    cases p <;> first | exact trivial | rfl | exact ⟨rfl, rfl, rfl⟩ | exact ⟨rfl, rfl⟩ | exact absurd hp (by decide), fun _ _ => rfl, fun _ => rfl⟩
    (by simpa [and_assoc] using hC) h
theorem Only.set_isl {C : List Part} {s0 s : State} {v_isl} (hC : (Part.within C .isl) = true)
    (h : Only C s0 s) : Only C s0 { s with isl := v_isl } :=
  Only.step (s := s0) (t := s) (B := [.isl]) ⟨fun p hp => by
    cases p <;> first | exact trivial | rfl | exact ⟨rfl, rfl, rfl⟩ | exact ⟨rfl, rfl⟩ | exact absurd hp (by decide), fun _ _ => rfl, fun _ => rfl⟩
    (by simpa [and_assoc] using hC) h
theorem Only.set_isl_fm {C : List Part} {s0 s : State} {v_isl v_fm} (hC : (Part.within C .isl && Part.within C .fm) = true)
    (h : Only C s0 s) : Only C s0 { s with isl := v_isl, fm := v_fm } :=
  Only.step (s := s0) (t := s) (B := [.isl, .fm]) ⟨fun p hp => by
    cases p <;> first | exact trivial | rfl | exact ⟨rfl, rfl, rfl⟩ | exact ⟨rfl, rfl⟩ | exact absurd hp (by decide), fun _ _ => rfl, fun _ => rfl⟩
    (by simpa [and_assoc] using hC) h
theorem Only.set_lane {C : List Part} {s0 s : State} {v_lane} (hC : (Part.within C .lane) = true)
    (h : Only C s0 s) : Only C s0 { s with lane := v_lane } :=
  Only.step (s := s0) (t := s) (B := [.lane]) ⟨fun p hp => by
    cases p <;> first | exact trivial | rfl | exact ⟨rfl, rfl, rfl⟩ | exact ⟨rfl, rfl⟩ | exact absurd hp (by decide), fun _ _ => rfl, fun _ => rfl⟩
    (by simpa [and_assoc] using hC) h
theorem Only.set_log {C : List Part} {s0 s : State} {v_log v_lost} (hC : (Part.within C .log) = true)
    (h : Only C s0 s) : Only C s0 { s with host := { s.host with log := v_log, lost := v_lost } } :=
  Only.step (s := s0) (t := s) (B := [.log]) ⟨fun p hp => by
    cases p <;> first | exact trivial | rfl | exact ⟨rfl, rfl, rfl⟩ | exact ⟨rfl, rfl⟩ | exact absurd hp (by decide), fun _ _ => rfl, fun _ => rfl⟩
    (by simpa [and_assoc] using hC) h
theorem Only.set_mbox {C : List Part} {s0 s : State} {v_mbox} (hC : (Part.within C .mbox) = true)
    (h : Only C s0 s) : Only C s0 { s with host := { s.host with mbox := v_mbox } } :=
  Only.step (s := s0) (t := s) (B := [.mbox]) ⟨fun p hp => by
    cases p <;> first | exact trivial | rfl | exact ⟨rfl, rfl, rfl⟩ | exact ⟨rfl, rfl⟩ | exact absurd hp (by decide), fun _ _ => rfl, fun _ => rfl⟩
    (by simpa [and_assoc] using hC) h
theorem Only.set_mbox_sessions {C : List Part} {s0 s : State} {v_mbox v_sessions v_netQ v_turnMbx} (hC : (Part.within C .mbox && Part.within C .sessions) = true)
    (h : Only C s0 s) : Only C s0 { s with host := { s.host with mbox := v_mbox }, odx := { s.odx with sessions := v_sessions, netQ := v_netQ, turnMbx := v_turnMbx } } :=
  Only.step (s := s0) (t := s) (B := [.mbox, .sessions]) ⟨fun p hp => by
    cases p <;> first | exact trivial | rfl | exact ⟨rfl, rfl, rfl⟩ | exact ⟨rfl, rfl⟩ | exact absurd hp (by decide), fun _ _ => rfl, fun _ => rfl⟩
    (by simpa [and_assoc] using hC) h
theorem Only.set_net {C : List Part} {s0 s : State} {v_net} (hC : (Part.within C .net) = true)
    (h : Only C s0 s) : Only C s0 { s with net := v_net } :=
  Only.step (s := s0) (t := s) (B := [.net]) ⟨fun p hp => by
    cases p <;> first | exact trivial | rfl | exact ⟨rfl, rfl, rfl⟩ | exact ⟨rfl, rfl⟩ | exact absurd hp (by decide), fun _ _ => rfl, fun _ => rfl⟩
    (by simpa [and_assoc] using hC) h
theorem Only.set_od {C : List Part} {s0 s : State} {v_od} (hC : (Part.within C .od) = true)
    (h : Only C s0 s) : Only C s0 { s with od := v_od } :=
  Only.step (s := s0) (t := s) (B := [.od]) ⟨fun p hp => by
    cases p <;> first | exact trivial | rfl | exact ⟨rfl, rfl, rfl⟩ | exact ⟨rfl, rfl⟩ | exact absurd hp (by decide), fun k hk => absurd hk (by simp [Part.spares]), fun h => by cases h⟩
    (by simpa [and_assoc] using hC) h
theorem Only.set_od_pwr_boot_isl {C : List Part} {s0 s : State} {v_od v_pwr v_boot v_isl} (hC : (Part.within C .od && Part.within C .pwr && Part.within C .boot && Part.within C .isl) = true)
    (h : Only C s0 s) : Only C s0 { s with od := v_od, pwr := v_pwr, boot := v_boot, isl := v_isl } :=
  Only.step (s := s0) (t := s) (B := [.od, .pwr, .boot, .isl]) ⟨fun p hp => by
    cases p <;> first | exact trivial | rfl | exact ⟨rfl, rfl, rfl⟩ | exact ⟨rfl, rfl⟩ | exact absurd hp (by decide), fun k hk => absurd hk (by simp [Part.spares]), fun h => by cases h⟩
    (by simpa [and_assoc] using hC) h
theorem Only.set_od_tick_irq_mbox_rings_dp_log_host_sessions_odx_net_time_pwr_boot_emit_weir_fm_rx_plan_servo_cams_fsync_points_acq_qdr_lane_hk {C : List Part} {s0 s : State} {v_host v_odx v_od v_tick v_net v_time v_pwr v_boot v_emit v_weir v_fm v_rx v_plan v_servo v_cams v_fsync v_points v_acq v_qdr v_lane v_hk} (hC : (Part.within C .od && Part.within C .tick && Part.within C .irq && Part.within C .mbox && Part.within C .rings && Part.within C .dp && Part.within C .log && Part.within C .host && Part.within C .sessions && Part.within C .odx && Part.within C .net && Part.within C .time && Part.within C .pwr && Part.within C .boot && Part.within C .emit && Part.within C .weir && Part.within C .fm && Part.within C .rx && Part.within C .plan && Part.within C .servo && Part.within C .cams && Part.within C .fsync && Part.within C .points && Part.within C .acq && Part.within C .qdr && Part.within C .lane && Part.within C .hk) = true)
    (h : Only C s0 s) : Only C s0 { s with host := v_host, odx := v_odx, od := v_od, tick := v_tick, net := v_net, time := v_time, pwr := v_pwr, boot := v_boot, emit := v_emit, weir := v_weir, fm := v_fm, rx := v_rx, plan := v_plan, servo := v_servo, cams := v_cams, fsync := v_fsync, points := v_points, acq := v_acq, qdr := v_qdr, lane := v_lane, hk := v_hk } :=
  Only.step (s := s0) (t := s) (B := [.od, .tick, .irq, .mbox, .rings, .dp, .log, .host, .sessions, .odx, .net, .time, .pwr, .boot, .emit, .weir, .fm, .rx, .plan, .servo, .cams, .fsync, .points, .acq, .qdr, .lane, .hk]) ⟨fun p hp => by
    cases p <;> first | exact trivial | rfl | exact ⟨rfl, rfl, rfl⟩ | exact ⟨rfl, rfl⟩ | exact absurd hp (by decide), fun k hk => absurd hk (by simp [Part.spares]), fun h => by cases h⟩
    (by simpa [and_assoc] using hC) h
theorem Only.set_odx {C : List Part} {s0 s : State} {v_longs v_authMbx v_authNet v_copyA v_copyB v_planStore v_storing v_keySafe v_keyServ v_keyNew v_startUp v_startDue} (hC : (Part.within C .odx) = true)
    (h : Only C s0 s) : Only C s0 { s with odx := { s.odx with longs := v_longs, authMbx := v_authMbx, authNet := v_authNet, copyA := v_copyA, copyB := v_copyB, planStore := v_planStore, storing := v_storing, keySafe := v_keySafe, keyServ := v_keyServ, keyNew := v_keyNew, startUp := v_startUp, startDue := v_startDue } } :=
  Only.step (s := s0) (t := s) (B := [.odx]) ⟨fun p hp => by
    cases p <;> first | exact trivial | rfl | exact ⟨rfl, rfl, rfl⟩ | exact ⟨rfl, rfl⟩ | exact absurd hp (by decide), fun _ _ => rfl, fun _ => rfl⟩
    (by simpa [and_assoc] using hC) h
theorem Only.set_odx_boot_isl {C : List Part} {s0 s : State} {v_longs v_authMbx v_authNet v_copyA v_copyB v_planStore v_storing v_keySafe v_keyServ v_keyNew v_startUp v_startDue v_boot v_isl} (hC : (Part.within C .odx && Part.within C .boot && Part.within C .isl) = true)
    (h : Only C s0 s) : Only C s0 { s with odx := { s.odx with longs := v_longs, authMbx := v_authMbx, authNet := v_authNet, copyA := v_copyA, copyB := v_copyB, planStore := v_planStore, storing := v_storing, keySafe := v_keySafe, keyServ := v_keyServ, keyNew := v_keyNew, startUp := v_startUp, startDue := v_startDue }, boot := v_boot, isl := v_isl } :=
  Only.step (s := s0) (t := s) (B := [.odx, .boot, .isl]) ⟨fun p hp => by
    cases p <;> first | exact trivial | rfl | exact ⟨rfl, rfl, rfl⟩ | exact ⟨rfl, rfl⟩ | exact absurd hp (by decide), fun _ _ => rfl, fun _ => rfl⟩
    (by simpa [and_assoc] using hC) h
theorem Only.set_out {C : List Part} {s0 s : State} {v_out} (hC : (Part.within C .out) = true)
    (h : Only C s0 s) : Only C s0 { s with out := v_out } :=
  Only.step (s := s0) (t := s) (B := [.out]) ⟨fun p hp => by
    cases p <;> first | exact trivial | rfl | exact ⟨rfl, rfl, rfl⟩ | exact ⟨rfl, rfl⟩ | exact absurd hp (by decide), fun _ _ => rfl, fun _ => rfl⟩
    (by simpa [and_assoc] using hC) h
theorem Only.set_pending {C : List Part} {s0 s : State} {v_pending} (hC : (Part.within C .pending) = true)
    (h : Only C s0 s) : Only C s0 { s with pending := v_pending } :=
  Only.step (s := s0) (t := s) (B := [.pending]) ⟨fun p hp => by
    cases p <;> first | exact trivial | rfl | exact ⟨rfl, rfl, rfl⟩ | exact ⟨rfl, rfl⟩ | exact absurd hp (by decide), fun _ _ => rfl, fun _ => rfl⟩
    (by simpa [and_assoc] using hC) h
theorem Only.set_plan {C : List Part} {s0 s : State} {v_plan} (hC : (Part.within C .plan) = true)
    (h : Only C s0 s) : Only C s0 { s with plan := v_plan } :=
  Only.step (s := s0) (t := s) (B := [.plan]) ⟨fun p hp => by
    cases p <;> first | exact trivial | rfl | exact ⟨rfl, rfl, rfl⟩ | exact ⟨rfl, rfl⟩ | exact absurd hp (by decide), fun _ _ => rfl, fun _ => rfl⟩
    (by simpa [and_assoc] using hC) h
theorem Only.set_points {C : List Part} {s0 s : State} {v_points} (hC : (Part.within C .points) = true)
    (h : Only C s0 s) : Only C s0 { s with points := v_points } :=
  Only.step (s := s0) (t := s) (B := [.points]) ⟨fun p hp => by
    cases p <;> first | exact trivial | rfl | exact ⟨rfl, rfl, rfl⟩ | exact ⟨rfl, rfl⟩ | exact absurd hp (by decide), fun _ _ => rfl, fun _ => rfl⟩
    (by simpa [and_assoc] using hC) h
theorem Only.set_pwr {C : List Part} {s0 s : State} {v_pwr} (hC : (Part.within C .pwr) = true)
    (h : Only C s0 s) : Only C s0 { s with pwr := v_pwr } :=
  Only.step (s := s0) (t := s) (B := [.pwr]) ⟨fun p hp => by
    cases p <;> first | exact trivial | rfl | exact ⟨rfl, rfl, rfl⟩ | exact ⟨rfl, rfl⟩ | exact absurd hp (by decide), fun _ _ => rfl, fun _ => rfl⟩
    (by simpa [and_assoc] using hC) h
theorem Only.set_qdr {C : List Part} {s0 s : State} {v_qdr} (hC : (Part.within C .qdr) = true)
    (h : Only C s0 s) : Only C s0 { s with qdr := v_qdr } :=
  Only.step (s := s0) (t := s) (B := [.qdr]) ⟨fun p hp => by
    cases p <;> first | exact trivial | rfl | exact ⟨rfl, rfl, rfl⟩ | exact ⟨rfl, rfl⟩ | exact absurd hp (by decide), fun _ _ => rfl, fun _ => rfl⟩
    (by simpa [and_assoc] using hC) h
theorem Only.set_rings {C : List Part} {s0 s : State} {v_rings} (hC : (Part.within C .rings) = true)
    (h : Only C s0 s) : Only C s0 { s with host := { s.host with rings := v_rings } } :=
  Only.step (s := s0) (t := s) (B := [.rings]) ⟨fun p hp => by
    cases p <;> first | exact trivial | rfl | exact ⟨rfl, rfl, rfl⟩ | exact ⟨rfl, rfl⟩ | exact absurd hp (by decide), fun _ _ => rfl, fun _ => rfl⟩
    (by simpa [and_assoc] using hC) h
theorem Only.set_rx {C : List Part} {s0 s : State} {v_rx} (hC : (Part.within C .rx) = true)
    (h : Only C s0 s) : Only C s0 { s with rx := v_rx } :=
  Only.step (s := s0) (t := s) (B := [.rx]) ⟨fun p hp => by
    cases p <;> first | exact trivial | rfl | exact ⟨rfl, rfl, rfl⟩ | exact ⟨rfl, rfl⟩ | exact absurd hp (by decide), fun _ _ => rfl, fun _ => rfl⟩
    (by simpa [and_assoc] using hC) h
theorem Only.set_servo {C : List Part} {s0 s : State} {v_servo} (hC : (Part.within C .servo) = true)
    (h : Only C s0 s) : Only C s0 { s with servo := v_servo } :=
  Only.step (s := s0) (t := s) (B := [.servo]) ⟨fun p hp => by
    cases p <;> first | exact trivial | rfl | exact ⟨rfl, rfl, rfl⟩ | exact ⟨rfl, rfl⟩ | exact absurd hp (by decide), fun _ _ => rfl, fun _ => rfl⟩
    (by simpa [and_assoc] using hC) h
theorem Only.set_sessions {C : List Part} {s0 s : State} {v_sessions v_netQ v_turnMbx} (hC : (Part.within C .sessions) = true)
    (h : Only C s0 s) : Only C s0 { s with odx := { s.odx with sessions := v_sessions, netQ := v_netQ, turnMbx := v_turnMbx } } :=
  Only.step (s := s0) (t := s) (B := [.sessions]) ⟨fun p hp => by
    cases p <;> first | exact trivial | rfl | exact ⟨rfl, rfl, rfl⟩ | exact ⟨rfl, rfl⟩ | exact absurd hp (by decide), fun _ _ => rfl, fun _ => rfl⟩
    (by simpa [and_assoc] using hC) h
theorem Only.set_sessions_odx {C : List Part} {s0 s : State} {v_odx} (hC : (Part.within C .sessions && Part.within C .odx) = true)
    (h : Only C s0 s) : Only C s0 { s with odx := v_odx } :=
  Only.step (s := s0) (t := s) (B := [.sessions, .odx]) ⟨fun p hp => by
    cases p <;> first | exact trivial | rfl | exact ⟨rfl, rfl, rfl⟩ | exact ⟨rfl, rfl⟩ | exact absurd hp (by decide), fun _ _ => rfl, fun _ => rfl⟩
    (by simpa [and_assoc] using hC) h
theorem Only.set_tick {C : List Part} {s0 s : State} {v_tick} (hC : (Part.within C .tick) = true)
    (h : Only C s0 s) : Only C s0 { s with tick := v_tick } :=
  Only.step (s := s0) (t := s) (B := [.tick]) ⟨fun p hp => by
    cases p <;> first | exact trivial | rfl | exact ⟨rfl, rfl, rfl⟩ | exact ⟨rfl, rfl⟩ | exact absurd hp (by decide), fun _ _ => rfl, fun _ => rfl⟩
    (by simpa [and_assoc] using hC) h
theorem Only.set_tick_lane {C : List Part} {s0 s : State} {v_tick v_lane} (hC : (Part.within C .tick && Part.within C .lane) = true)
    (h : Only C s0 s) : Only C s0 { s with tick := v_tick, lane := v_lane } :=
  Only.step (s := s0) (t := s) (B := [.tick, .lane]) ⟨fun p hp => by
    cases p <;> first | exact trivial | rfl | exact ⟨rfl, rfl, rfl⟩ | exact ⟨rfl, rfl⟩ | exact absurd hp (by decide), fun _ _ => rfl, fun _ => rfl⟩
    (by simpa [and_assoc] using hC) h
theorem Only.set_time {C : List Part} {s0 s : State} {v_time} (hC : (Part.within C .time) = true)
    (h : Only C s0 s) : Only C s0 { s with time := v_time } :=
  Only.step (s := s0) (t := s) (B := [.time]) ⟨fun p hp => by
    cases p <;> first | exact trivial | rfl | exact ⟨rfl, rfl, rfl⟩ | exact ⟨rfl, rfl⟩ | exact absurd hp (by decide), fun _ _ => rfl, fun _ => rfl⟩
    (by simpa [and_assoc] using hC) h
theorem Only.set_time_free {C : List Part} {s0 s : State} {v_time v_free} (hC : (Part.within C .time && Part.within C .free) = true)
    (h : Only C s0 s) : Only C s0 { s with time := v_time, free := v_free } :=
  Only.step (s := s0) (t := s) (B := [.time, .free]) ⟨fun p hp => by
    cases p <;> first | exact trivial | rfl | exact ⟨rfl, rfl, rfl⟩ | exact ⟨rfl, rfl⟩ | exact absurd hp (by decide), fun _ _ => rfl, fun _ => rfl⟩
    (by simpa [and_assoc] using hC) h
theorem Only.set_weir {C : List Part} {s0 s : State} {v_weir} (hC : (Part.within C .weir) = true)
    (h : Only C s0 s) : Only C s0 { s with weir := v_weir } :=
  Only.step (s := s0) (t := s) (B := [.weir]) ⟨fun p hp => by
    cases p <;> first | exact trivial | rfl | exact ⟨rfl, rfl, rfl⟩ | exact ⟨rfl, rfl⟩ | exact absurd hp (by decide), fun _ _ => rfl, fun _ => rfl⟩
    (by simpa [and_assoc] using hC) h
theorem Only.set_weir_plan {C : List Part} {s0 s : State} {v_weir v_plan} (hC : (Part.within C .weir && Part.within C .plan) = true)
    (h : Only C s0 s) : Only C s0 { s with weir := v_weir, plan := v_plan } :=
  Only.step (s := s0) (t := s) (B := [.weir, .plan]) ⟨fun p hp => by
    cases p <;> first | exact trivial | rfl | exact ⟨rfl, rfl, rfl⟩ | exact ⟨rfl, rfl⟩ | exact absurd hp (by decide), fun _ _ => rfl, fun _ => rfl⟩
    (by simpa [and_assoc] using hC) h
theorem Only.all (s t : State) : Only [.od, .fuses, .tick, .irq, .mbox, .rings, .dp, .log, .host, .sessions, .odx, .net, .time, .pwr, .boot, .emit, .weir, .isl, .fm,
    .rx, .plan, .servo, .cams, .fsync, .points, .acq, .qdr, .lane, .hk, .free, .out, .pending] s t :=
  ⟨fun p hp => by cases p <;> first | exact trivial | exact absurd hp (by decide),
    fun k hk => absurd hk (by simp [Part.spares]), fun h => by cases h⟩

theorem Only.mono {B C : List Part} {s t : State} (h : Only B s t) (hB : (B.all (Part.within C)) = true) : Only C s t :=
  Only.step h hB (Only.refl _ _)

theorem Only.foldlP {α β : Type} {C : List Part} {s0 : State} (p : β → State) (F : β → α → β) (l : List α) {r : β}
    (h : ∀ r x, Only C (p r) (p (F r x))) (h1 : Only C s0 (p r)) : Only C s0 (p (l.foldl F r)) := by
  induction l generalizing r with
  | nil => exact h1
  | cons x l ih => exact ih (Only.step (h r x) (by
      apply List.all_eq_true.mpr; intro p hp
      cases p with
      | regs a m => exact List.any_eq_true.mpr ⟨_, hp, by simp⟩
      | _ => simpa [Part.within] using hp) h1)

theorem odSet_fam (b n : Nat) {s : State} {ix sub : Nat} (hi : b ≤ ix ∧ ix < b + n) (h : sub < 256) (v : Val) :
    Only [.regs b n] s (odSet s ix sub v) :=
  Only.mono (odSet_only s v h) (by simp [Part.within]; omega)
theorem odSetN_fam (b n : Nat) {s : State} {ix sub : Nat} (hi : b ≤ ix ∧ ix < b + n) (h : sub < 256) (v : Nat) :
    Only [.regs b n] s (odSetN s ix sub v) := odSet_fam b n hi h _
theorem usePersisted_fam (b n : Nat) {s : State} {ix sub : Nat} (hi : b ≤ ix ∧ ix < b + n) (h : sub < 256) :
    Only [.regs b n] s (usePersisted s ix sub) := odSet_fam b n hi h _
theorem odSetI_fam (b n : Nat) {s : State} {ix sub : Nat} (hi : b ≤ ix ∧ ix < b + n) (h : sub < 256) (v : Int) :
    Only [.regs b n] s (odSetI s ix sub v) := odSet_fam b n hi h _
theorem bumpBy_fam (b n : Nat) {s : State} {ix sub : Nat} (hi : b ≤ ix ∧ ix < b + n) (h : sub < 256) (k : Nat) :
    Only [.regs b n] s (bumpBy s ix sub k) := odSet_fam b n hi h _
theorem bump_fam (b n : Nat) {s : State} {ix sub : Nat} (hi : b ≤ ix ∧ ix < b + n) (h : sub < 256) :
    Only [.regs b n] s (bump s ix sub) := odSet_fam b n hi h _
theorem bumpChan_only (s : State) (base c k : Nat) : Only [.regs base 8] s (bumpChan s base c k) :=
  bumpBy_fam base 8 (by omega) (by omega) k

theorem odSet_od (s : State) (ix sub : Nat) (v : Val) : Only [.od] s (odSet s ix sub v) :=
  ⟨fun p hp => by cases p <;> first | exact trivial | rfl | exact ⟨rfl, rfl, rfl⟩ | exact ⟨rfl, rfl⟩, fun k hk => absurd hk (by simp [Part.spares]), fun h => by cases h⟩
theorem bump_od (s : State) (ix sub : Nat) : Only [.od] s (bump s ix sub) := odSet_od ..

theorem axisIx_range (a : Axis) : 20496 ≤ axisIx a ∧ axisIx a < 20496 + 2 := by cases a <;> decide

theorem tget_filter {α : Type} (t : Tbl α) (p : Nat → Bool) (k : Nat) (h : p k = true) :
    tget (t.filter fun e => p e.1) k = tget t k := by
  induction t with
  | nil => rfl
  | cons e t ih =>
    obtain ⟨j, v⟩ := e
    by_cases hj : j = k
    · subst hj; simp [List.filter, h, tget]
    · by_cases hp : p j = true <;> simp [List.filter, hp, tget, hj, ih]

theorem odReset_only (s : State) (ix : Nat) : Only [.regs ix 1] s (odReset s ix) := by
  constructor
  · intro p hp; cases p <;> first | exact trivial | rfl | exact ⟨rfl, rfl, rfl⟩ | exact ⟨rfl, rfl⟩
  · intro k hk
    simp [Part.spares] at hk
    exact tget_filter _ (fun j => j / 256 != ix) _ (by simp; omega)
  · intro h; cases h

/-! ### Verdicts, gates, hooks, outcomes -/

def VerdictOnly (C : List Part) (s : State) : Verdict → Prop
  | .done t => Only C s t
  | .answered t f => Only C s t ∧ ∀ u, Only C u (f u)
  | .later t => Only C s t
  | .abort _ t => Only C s t

def GateOnly (C : List Part) (s : State) : Option (Nat × State) → Prop
  | none => True
  | some (_, t) => Only C s t

def HookOnly (C : List Part) (h : State → WriteHook) : Prop :=
  ∀ s v, GateOnly C s ((h s).gate s v) ∧ VerdictOnly C s ((h s).run s v)

theorem VerdictOnly.done {C : List Part} {s t : State} (h : Only C s t) : VerdictOnly C s (.done t) := h
theorem VerdictOnly.later {C : List Part} {s t : State} (h : Only C s t) : VerdictOnly C s (.later t) := h
theorem VerdictOnly.abort {C : List Part} {s t : State} {c : Nat} (h : Only C s t) : VerdictOnly C s (.abort c t) := h
theorem VerdictOnly.answered {C : List Part} {s t : State} {f : State → State} (h : Only C s t) (hf : ∀ u, Only C u (f u)) :
    VerdictOnly C s (.answered t f) := ⟨h, hf⟩
theorem GateOnly.none (C : List Part) (s : State) : GateOnly C s none := trivial
theorem GateOnly.some {C : List Part} {s t : State} {c : Nat} (h : Only C s t) : GateOnly C s (some (c, t)) := h

theorem Part.within_refl {C : List Part} : (C.all (Part.within C)) = true := by
  apply List.all_eq_true.mpr; intro p hp
  cases p with
  | regs a m => exact List.any_eq_true.mpr ⟨_, hp, by simp⟩
  | _ => simpa [Part.within] using hp

theorem VerdictOnly.step {B C : List Part} {s t : State} {v : Verdict} (h : VerdictOnly B t v)
    (hB : (B.all (Part.within C)) = true) (h1 : Only C s t) : VerdictOnly C s v := by
  cases v with
  | done u => exact Only.step h hB h1
  | later u => exact Only.step h hB h1
  | abort c u => exact Only.step h hB h1
  | answered u f => exact ⟨Only.step h.1 hB h1, fun w => Only.mono (h.2 w) hB⟩

theorem GateOnly.step {B C : List Part} {s t : State} {g : Option (Nat × State)} (h : GateOnly B t g)
    (hB : (B.all (Part.within C)) = true) (h1 : Only C s t) : GateOnly C s g := by
  cases g with
  | none => trivial
  | some p => exact Only.step h hB h1

theorem HookOnly.mono {B C : List Part} {h : State → WriteHook} (hh : HookOnly B h) (hB : (B.all (Part.within C)) = true) :
    HookOnly C h := fun s v =>
  ⟨GateOnly.step (hh s v).1 hB (Only.refl _ _), VerdictOnly.step (hh s v).2 hB (Only.refl _ _)⟩

theorem HookOnly.ite {C : List Part} {c : Prop} [Decidable c] {a b : State → WriteHook} (ha : HookOnly C a) (hb : HookOnly C b) :
    HookOnly C (if c then a else b) := by split <;> assumption

theorem keep_fam (b n : Nat) {s : State} {ix sub : Nat} (hi : b ≤ ix ∧ ix < b + n) (h : sub < 256) (v : Val) :
    VerdictOnly [.regs b n] s (keep ix sub s v) := odSet_fam b n hi h v
theorem keep_od (ix sub : Nat) (s : State) (v : Val) : VerdictOnly [.od] s (keep ix sub s v) := odSet_od ..
theorem plainHook_fam (b n : Nat) {ix sub : Nat} (hi : b ≤ ix ∧ ix < b + n) (h : sub < 256) :
    HookOnly [.regs b n] (plainHook ix sub) := fun _ _ => ⟨trivial, keep_fam b n hi h _⟩

theorem outcome_only {C : List Part} {s s' : State} (h : Only (C ++ [.fuses, .pending, .qdr]) s s') :
    OutcomeOnly C s (outcome s s') := by
  intro t ht
  injection ht with ht
  subst ht
  constructor
  · intro p hp
    have := h.same p
    cases p <;> first | rfl | exact trivial | exact this (by simpa using hp)
  · intro k hk; exact h.regs k (by simp [hk, Part.spares])
  · intro hs; exact h.store (by simp [hs, Part.stores])

theorem outcomeMem_only {C : List Part} {s s' : State} (h : Only (C ++ [.fuses, .pending]) s s') :
    OutcomeOnly C s (outcomeMem s s') := by
  intro t ht
  injection ht with ht
  subst ht
  constructor
  · intro p hp
    have := h.same p
    cases p <;> first | rfl | exact trivial | exact this (by simpa using hp)
  · intro k hk; exact h.regs k (by simp [hk, Part.spares])
  · intro hs; exact h.store (by simp [hs, Part.stores])

theorem outcomeLost_only {C : List Part} {s s' : State} (hq : Part.within C .qdr = true)
    (h : Only (C ++ [.fuses, .pending]) s s') : OutcomeOnly C s (outcomeLost s s') := by
  intro t ht
  injection ht with ht
  subst ht
  constructor
  · intro p hp
    have := h.same p
    cases p <;> first | rfl | exact trivial | exact this (by simpa using hp) | (simp only [Part.within] at hq; rw [hq] at hp; cases hp)
  · intro k hk; exact h.regs k (by simp [hk, Part.spares])
  · intro hs; exact h.store (by simp [hs, Part.stores])
end Sys2Proof.Machine
end

