-- ==== Sys2Proof/Laws/FrameOps.lean ====
section
/-! SUPPORT. Frames of the operations and commands of Machine/Ops.lean: one lemma per operation says what it changes at
most. -/

namespace Sys2Proof.Machine

theorem send_only (s : State) a1 : Only [.out] s (send s a1) := by
  unfold send
  refine Only.set_out rfl ?_
  exact Only.refl _ _

theorem sendAll_only (s : State) a1 : Only [.out] s (sendAll s a1) := by
  unfold sendAll
  refine Only.set_out rfl ?_
  exact Only.refl _ _

theorem endListen_only (s : State) : Only [.tick] s (endListen s) := by
  unfold endListen
  dsimp only
  refine Only.set_tick rfl ?_
  exact Only.refl _ _

theorem takeFree_only (s : State) : Only [.free] s (takeFree s).2 := by
  unfold takeFree
  try dsimp only
  refine Only.set_free rfl ?_
  exact Only.refl _ _

theorem qdrWrite_only (s : State) a1 a2 : Only [.qdr] s (qdrWrite s a1 a2) := by
  unfold qdrWrite
  refine Only.set_qdr rfl ?_
  exact Only.refl _ _

end Sys2Proof.Machine
end

