-- ==== Sys2Proof/Laws/FrameFlags.lean ====
section
/-! SUPPORT. Frames of the operations and commands of Machine/Flags.lean: one lemma per operation says what it changes at
most. -/

namespace Sys2Proof.Machine

theorem sendVec_only (s : State) a1 : Only [.irq, .out] s (sendVec s a1) := by
  unfold sendVec
  dsimp only
  refine Only.ite ?_ ?_
  refine Only.set_irq rfl ?_
  exact Only.refl _ _
  refine Only.ite ?_ ?_
  refine Only.step (send_only ..) rfl ?_
  exact Only.refl _ _
  exact Only.refl _ _

theorem sendVecs_only (s : State) a1 : Only [.irq, .out] s (sendVecs s a1) := by
  unfold sendVecs
  refine Only.foldl _ _ (fun t x => ?_) ?_
  refine Only.step (sendVec_only ..) rfl ?_
  exact Only.refl _ _
  exact Only.refl _ _

theorem setInt_only (s : State) a1 : Only [.irq, .out] s (setInt s a1) := by
  unfold setInt
  dsimp only [withHostBits]
  refine Only.step (sendVecs_only ..) rfl ?_
  refine Only.set_irq rfl ?_
  exact Only.refl _ _

theorem setRingInt_only (s : State) a1 : Only [.irq, .out] s (setRingInt s a1) := by
  unfold setRingInt
  dsimp only [withHostBits]
  refine Only.step (sendVecs_only ..) rfl ?_
  refine Only.set_irq rfl ?_
  exact Only.refl _ _

theorem logAccess_only (s : State) a1 a2 a3 a4 : Only [.log, .irq, .out] s (logAccess s a1 a2 a3 a4) := by
  unfold logAccess
  dsimp only
  refine Only.step (setInt_only ..) rfl ?_
  refine Only.set_log rfl ?_
  exact Only.refl _ _

theorem banksZero_only (s : State) : Only [.emit] s (banksZero s) := by
  unfold banksZero
  dsimp only
  refine Only.set_emit rfl ?_
  exact Only.refl _ _

theorem stopRecord_only (s : State) : Only [.pwr] s (stopRecord s) := by
  unfold stopRecord
  dsimp only
  refine Only.set_pwr rfl ?_
  exact Only.refl _ _

theorem halt_only (s : State) a1 : Only [.emit, .regs 16384 1, .pwr, .irq, .out] s (halt s a1) := by
  unfold halt
  dsimp only
  refine Only.step (setInt_only ..) rfl ?_
  refine Only.step (stopRecord_only ..) rfl ?_
  refine Only.step (odSetN_fam 16384 1 (by decide) (by decide) ..) rfl ?_
  refine Only.step (bump_fam 16384 1 (by decide) (by decide) ..) rfl ?_
  refine Only.step (banksZero_only ..) rfl ?_
  refine Only.set_emit rfl ?_
  exact Only.refl _ _

theorem inhibit_only (s : State) a1 : Only [.emit, .regs 16384 1, .pwr, .irq, .out] s (inhibit s a1) := by
  unfold inhibit
  dsimp only
  refine Only.ite ?_ ?_
  exact Only.refl _ _
  refine Only.step (halt_only ..) rfl ?_
  refine Only.set_emit rfl ?_
  exact Only.refl _ _

theorem inhibitClear_only (s : State) a1 : Only [.emit] s (inhibitClear s a1) := by
  unfold inhibitClear
  dsimp only
  refine Only.set_emit rfl ?_
  exact Only.refl _ _

theorem inhibitSet_only (s : State) a1 a2 : Only [.emit, .regs 16384 1, .pwr, .irq, .out] s (inhibitSet s a1 a2) := by
  unfold inhibitSet
  refine Only.ite ?_ ?_
  refine Only.step (inhibit_only ..) rfl ?_
  exact Only.refl _ _
  refine Only.step (inhibitClear_only ..) rfl ?_
  exact Only.refl _ _

theorem islInhibit_only (s : State) : Only [.emit, .regs 16384 1, .pwr, .irq, .out] s (islInhibit s) := by
  unfold islInhibit
  refine Only.step (inhibitSet_only ..) rfl ?_
  exact Only.refl _ _

theorem islOutputs_only (s : State) a1 : Only [.isl, .out] s (islOutputs s a1) := by
  unfold islOutputs
  dsimp only
  refine Only.ite ?_ ?_
  refine Only.ite ?_ ?_
  refine Only.set_isl rfl ?_
  exact Only.refl _ _
  refine Only.step (send_only ..) rfl ?_
  refine Only.set_isl rfl ?_
  exact Only.refl _ _
  refine Only.step (send_only ..) rfl ?_
  refine Only.ite ?_ ?_
  refine Only.set_isl rfl ?_
  exact Only.refl _ _
  refine Only.step (send_only ..) rfl ?_
  refine Only.set_isl rfl ?_
  exact Only.refl _ _

theorem islEnter_only (s : State) a1 : Only [.isl, .irq, .out] s (islEnter s a1) := by
  unfold islEnter
  dsimp only
  refine Only.ite ?_ ?_
  exact Only.refl _ _
  refine Only.step (setInt_only ..) rfl ?_
  refine Only.set_isl rfl ?_
  exact Only.refl _ _

theorem islCause_only (s : State) a1 : Only [.isl, .fm, .out, .irq, .emit, .regs 16384 1, .pwr] s (islCause s a1) := by
  unfold islCause
  dsimp only
  refine Only.ite ?_ ?_
  exact Only.refl _ _
  refine Only.step (islInhibit_only ..) rfl ?_
  refine Only.ite ?_ ?_
  refine Only.step (islEnter_only ..) rfl ?_
  refine Only.step (islOutputs_only ..) rfl ?_
  refine Only.set_isl_fm rfl ?_
  exact Only.refl _ _
  refine Only.ite ?_ ?_
  refine Only.step (islEnter_only ..) rfl ?_
  refine Only.step (islOutputs_only ..) rfl ?_
  refine Only.set_isl_fm rfl ?_
  exact Only.refl _ _
  refine Only.set_isl_fm rfl ?_
  exact Only.refl _ _

theorem escalate_only (s : State) a1 : Only [.regs 32769 1, .fm, .isl, .out, .irq, .emit, .regs 16384 1, .pwr] s (escalate s a1) := by
  unfold escalate
  dsimp only
  refine Only.step (islCause_only ..) rfl ?_
  refine Only.set_fm rfl ?_
  refine Only.step (bump_fam 32769 1 (by decide) (by decide) ..) rfl ?_
  exact Only.refl _ _

theorem reportFault_only (s : State) a1 : Only [.irq, .out, .regs 32769 1, .fm, .isl, .emit, .regs 16384 1, .pwr] s (reportFault s a1) := by
  unfold reportFault
  dsimp only
  refine Only.ite ?_ ?_
  refine Only.set_fm rfl ?_
  refine Only.ite ?_ ?_
  refine Only.step (escalate_only ..) rfl ?_
  refine Only.step (setInt_only ..) rfl ?_
  exact Only.refl _ _
  refine Only.step (setInt_only ..) rfl ?_
  exact Only.refl _ _
  refine Only.ite ?_ ?_
  refine Only.ite ?_ ?_
  refine Only.step (escalate_only ..) rfl ?_
  refine Only.step (setInt_only ..) rfl ?_
  exact Only.refl _ _
  refine Only.step (setInt_only ..) rfl ?_
  exact Only.refl _ _
  refine Only.step (bump_fam 32769 1 (by decide) (by decide) ..) rfl ?_
  refine Only.set_fm rfl ?_
  refine Only.ite ?_ ?_
  refine Only.step (escalate_only ..) rfl ?_
  refine Only.step (setInt_only ..) rfl ?_
  exact Only.refl _ _
  refine Only.step (setInt_only ..) rfl ?_
  exact Only.refl _ _

theorem islFault_only (s : State) a1 : Only [.isl, .fm, .out, .irq, .emit, .regs 16384 1, .pwr, .regs 32769 1] s (islFault s a1) := by
  unfold islFault
  dsimp only
  refine Only.ite ?_ ?_
  exact Only.refl _ _
  split
  refine Only.step (reportFault_only ..) rfl ?_
  refine Only.step (islCause_only ..) rfl ?_
  exact Only.refl _ _
  refine Only.step (islCause_only ..) rfl ?_
  exact Only.refl _ _

theorem islRaise_only (s : State) a1 : Only [.isl, .fm, .out, .irq, .emit, .regs 16384 1, .pwr, .regs 32769 1] s (islRaise s a1) := by
  unfold islRaise
  refine Only.ite ?_ ?_
  exact Only.refl _ _
  refine Only.step (islFault_only ..) rfl ?_
  exact Only.refl _ _

theorem islClear_only (s : State) a1 : Only [.isl, .emit, .regs 16384 1, .pwr, .irq, .out] s (islClear s a1) := by
  unfold islClear
  dsimp only
  refine Only.step (islInhibit_only ..) rfl ?_
  refine Only.set_isl rfl ?_
  exact Only.refl _ _

end Sys2Proof.Machine
end

