-- ==== Sys2Proof/Laws/FrameOperands.lean ====
section
/-! SUPPORT. Frames of the operations and commands of Machine/Operands.lean: one lemma per operation says what it changes at
most. -/

namespace Sys2Proof.Machine

theorem updSession_only (s : State) a1 a2 : Only [.sessions] s (updSession s a1 a2) := by
  unfold updSession
  dsimp only
  refine Only.set_sessions rfl ?_
  exact Only.refl _ _

theorem mailboxTake_only (s : State) a1 : Only [.mbox, .irq, .out] s (mailboxTake s a1) := by
  unfold mailboxTake
  dsimp only
  refine Only.ite ?_ ?_
  refine Only.step (setInt_only ..) rfl ?_
  refine Only.set_mbox rfl ?_
  exact Only.refl _ _
  exact Only.refl _ _

theorem carry_only (s : State) a1 a2 : Only [.out] s (carry s a1 a2) := by
  unfold carry
  split
  exact Only.refl _ _
  refine Only.step (send_only ..) rfl ?_
  exact Only.refl _ _
  refine Only.step (send_only ..) rfl ?_
  exact Only.refl _ _

theorem answer_only (s : State) a1 a2 : Only [.out, .mbox, .irq, .sessions] s (answer s a1 a2) := by
  unfold answer
  dsimp only
  refine Only.ite ?_ ?_
  refine Only.step (mailboxTake_only ..) rfl ?_
  refine Only.step (carry_only ..) rfl ?_
  refine Only.step (send_only ..) rfl ?_
  exact Only.refl _ _
  refine Only.step (updSession_only ..) rfl ?_
  refine Only.step (carry_only ..) rfl ?_
  refine Only.step (send_only ..) rfl ?_
  exact Only.refl _ _

theorem respond_only (s : State) a1 a2 a3 a4 a5 : Only [.out, .mbox, .irq, .sessions] s (respond s a1 a2 a3 a4 a5) := by
  unfold respond
  refine Only.step (answer_only ..) rfl ?_
  exact Only.refl _ _

theorem respondAbort_only (s : State) a1 a2 a3 a4 a5 : Only [.out, .mbox, .irq, .sessions] s (respondAbort s a1 a2 a3 a4 a5) := by
  unfold respondAbort
  refine Only.step (answer_only ..) rfl ?_
  exact Only.refl _ _

theorem touch_only (s : State) a1 : Only [.sessions] s (touch s a1) := by
  unfold touch
  refine Only.step (updSession_only ..) rfl ?_
  exact Only.refl _ _

theorem netQueue_only (s : State) a1 a2 : Only [.sessions] s (netQueue s a1 a2) := by
  unfold netQueue
  dsimp only
  refine Only.set_sessions rfl ?_
  refine Only.ite ?_ ?_
  refine Only.step (touch_only ..) rfl ?_
  exact Only.refl _ _
  exact Only.refl _ _

theorem netTurn_only (s : State) a1 : Only [.sessions] s (netTurn s a1) := by
  unfold netTurn
  dsimp only
  refine Only.ite ?_ ?_
  exact Only.refl _ _
  refine Only.set_sessions rfl ?_
  exact Only.refl _ _

theorem taken_only (s : State) a1 : Only [.sessions] s (taken s a1) := by
  unfold taken
  refine Only.step (touch_only ..) rfl ?_
  refine Only.step (netTurn_only ..) rfl ?_
  exact Only.refl _ _

theorem condCheck_only (s : State) a1 a2 : GateOnly [.regs 20592 1] s (condCheck s a1 a2) := by
  unfold condCheck
  split
  split
  exact GateOnly.none _ _
  refine GateOnly.some ?_
  exact Only.refl _ _
  split
  exact GateOnly.none _ _
  refine GateOnly.some ?_
  exact Only.refl _ _
  split
  split
  exact GateOnly.none _ _
  refine GateOnly.some ?_
  exact Only.refl _ _
  split
  exact GateOnly.none _ _
  refine GateOnly.some ?_
  refine Only.step (bump_fam 20592 1 (by decide) (by decide) ..) rfl ?_
  exact Only.refl _ _
  split
  exact GateOnly.none _ _
  refine GateOnly.some ?_
  exact Only.refl _ _
  split
  exact GateOnly.none _ _
  refine GateOnly.some ?_
  exact Only.refl _ _
  split
  exact GateOnly.none _ _
  refine GateOnly.some ?_
  exact Only.refl _ _
  exact GateOnly.none _ _

theorem norGate_only (s : State) a1 : GateOnly [] s (norGate s a1) := by
  unfold norGate
  split
  refine GateOnly.some ?_
  exact Only.refl _ _
  exact GateOnly.none _ _

theorem longAnswer_only (s : State) a1 a2 : Only [.odx, .out, .mbox, .irq, .sessions] s (longAnswer s a1 a2) := by
  unfold longAnswer
  dsimp only
  split
  exact Only.refl _ _
  refine Only.ite ?_ ?_
  refine Only.set_odx rfl ?_
  exact Only.refl _ _
  refine Only.ite ?_ ?_
  refine Only.step (respond_only ..) rfl ?_
  refine Only.set_odx rfl ?_
  exact Only.refl _ _
  refine Only.step (respondAbort_only ..) rfl ?_
  refine Only.set_odx rfl ?_
  exact Only.refl _ _

theorem condCheck_counts {s : State} {r : ObjRow} {ix c : Nat} {t : State} (h : condCheck s r ix = some (c, t)) :
    Only [.regs 20592 1] s t := by
  have := condCheck_only s r ix
  rw [h] at this
  exact this

theorem writeChecksOf_error {C : List Part} {s t : State} {x : Session} {ix sub n c : Nat} {dec : ObjTy → Val}
    {h : State → WriteHook} (hh : HookOnly C h) (hC : Part.within C (.regs 20592 1) = true)
    (he : writeChecksOf s x ix sub n dec h = .error (c, t)) : Only C s t := by
  unfold writeChecksOf at he
  dsimp only at he
  split at he
  · cases he; exact Only.refl _ _
  · repeat (split at he; · (cases he; exact Only.refl _ _))
    split at he
    · rename_i hc; cases he; exact Only.mono (condCheck_counts hc) (by simpa using hC)
    · split at he
      · rename_i hg; cases he
        have := (hh s (dec ‹ObjRow›.ty)).1
        rw [hg] at this; exact this
      · cases he

theorem respondAbort_within {C : List Part} {s0 s : State} {r : Req} {cmd ix sub c : Nat}
    (hC : ([Part.sessions, .out, .mbox, .irq].all (Part.within C)) = true) (h : Only C s0 s) : Only C s0 (respondAbort s r cmd ix sub c) :=
  Only.step (respondAbort_only ..) (by simp at hC ⊢; simp [hC]) h

theorem respond_within {C : List Part} {s0 s : State} {r : Req} {cmd ix sub : Nat} {bs : Bytes}
    (hC : ([Part.sessions, .out, .mbox, .irq].all (Part.within C)) = true) (h : Only C s0 s) : Only C s0 (respond s r cmd ix sub bs) :=
  Only.step (respond_only ..) (by simp at hC ⊢; simp [hC]) h

theorem writeObject_within {C : List Part} {s0 s : State} {r : Req} {x : Session} {cmd ix sub : Nat} {data : Bytes}
    {h : State → WriteHook} (hC : ([Part.sessions, .out, .mbox, .irq].all (Part.within C)) = true) (hh : HookOnly C h)
    (he : ∀ c t, writeChecks s x ix sub data h = .error (c, t) → Only C s t)
    (h0 : Only C s0 s) : Only C s0 (writeObject s r x cmd ix sub data h) := by
  refine Only.step ?_ Part.within_refl h0
  unfold writeObject
  split
  · rename_i hc; exact respondAbort_within hC (he _ _ hc)
  · rename_i v hc
    have hv := (hh s v).2
    split <;> rename_i hr <;> rw [hr] at hv
    · exact respond_within hC hv
    · exact Only.step (hv.2 _) Part.within_refl (respond_within hC hv.1)
    · exact hv
    · exact respondAbort_within hC hv

theorem writeObject_only {B C : List Part} {s0 s : State} {r : Req} {x : Session} {cmd ix sub : Nat} {data : Bytes}
    {h : State → WriteHook} (hh : HookOnly B h) (hB : (B.all (Part.within C)) = true)
    (hC : ([Part.sessions, .out, .mbox, .irq, .regs 20592 1].all (Part.within C)) = true)
    (h0 : Only C s0 s) : Only C s0 (writeObject s r x cmd ix sub data h) := by
  simp only [List.all_cons, List.all_nil, Bool.and_eq_true, Bool.and_true] at hC
  exact writeObject_within (by simp [hC]) (HookOnly.mono hh hB)
    (fun c t he => writeChecksOf_error (HookOnly.mono hh hB) hC.2.2.2.2 he) h0

theorem withSession_only {C : List Part} {s0 s : State} {r : Req} {cmd ix sub : Nat} {p : Bytes} {seg : Bool} {k : State → Session → State}
    (hC : ([Part.sessions, .out, .mbox, .irq].all (Part.within C)) = true) (hk : ∀ t x, Only C t (k t x)) (h0 : Only C s0 s) :
    Only C s0 (withSession s r cmd ix sub p seg k) := by
  unfold withSession
  dsimp only
  split
  · exact Only.step (netQueue_only ..) (by simp at hC ⊢; simp [hC]) h0
  split
  · exact h0
  · have h1 : Only C s0 (netTurn s r) := Only.step (netTurn_only ..) (by simp at hC ⊢; simp [hC]) h0
    split
    · exact respondAbort_within hC h1
    · have ht : Only C s0 (taken s r) := Only.step (taken_only ..) (by simp at hC ⊢; simp [hC]) h0
      split
      · exact Only.step (carry_only ..) (by simp at hC ⊢; simp [hC]) (Only.step (send_only ..) (by simp at hC ⊢; simp [hC]) ht)
      · exact Only.step (hk _ _) Part.within_refl ht

/-- The object's condition column is not "LOOP_OPEN": a write refused for it is counted in 0x5070:04 (R251). -/
def loopFreeObject (ix sub : Nat) : Bool := ix < 0x5010 || (0x5040 ≤ ix && ix != 0x5048) || (ix < 0x5020 && (sub == 1 || sub == 15))

theorem loopRows : (objRows.all fun r => r.cond != .loopOpen || (r.ix == 0x5048 && r.nIx == 1) || (0x5010 ≤ r.ix && r.ix + r.nIx ≤ 0x5040 &&
    (0x5020 ≤ r.ix || (r.ix + r.nIx ≤ 0x5020 && 1 < r.sub && r.sub + r.nSub ≤ 15) || 15 < r.sub))) = true := by
  set_option maxRecDepth 20000 in decide

theorem loopFreeObject_cond {ix sub : Nat} {r : ObjRow} (hf : loopFreeObject ix sub = true) (h : objRow0 ix sub = some r) :
    r.cond ≠ .loopOpen := by
  intro hc
  unfold objRow0 at h
  split at h
  · cases hq : objRows.find? fun r => r.ix ≤ ix && ix < r.ix + r.nIx <;> rw [hq] at h <;> cases h
    cases hc
  · have hm := List.mem_of_find?_eq_some h
    have hp := List.find?_some h
    have := List.all_eq_true.mp loopRows r hm
    simp [hc] at this hp
    simp [loopFreeObject] at hf
    omega

theorem writeGrant_row {s : State} {x : Session} {ix sub : Nat} {r : ObjRow} (h : writeGrant s x ix sub = .ok r) :
    objRow0 ix sub = some r := by
  unfold writeGrant at h
  split at h
  · cases h
  · split at h
    · cases h
    · rename_i q hq
      repeat (split at h; · cases h)
      cases h; exact hq

theorem writeChecksOf_same {C : List Part} {s t : State} {x : Session} {ix sub n c : Nat} {dec : ObjTy → Val}
    {h : State → WriteHook} (hh : HookOnly C h) (hf : loopFreeObject ix sub = true)
    (he : writeChecksOf s x ix sub n dec h = .error (c, t)) : Only C s t := by
  unfold writeChecksOf at he
  dsimp only at he
  split at he
  · cases he; exact Only.refl _ _
  · rename_i r hr
    have hcond := loopFreeObject_cond hf (writeGrant_row hr)
    repeat (split at he; · (cases he; exact Only.refl _ _))
    split at he
    · rename_i hc; cases he
      unfold condCheck at hc
      split at hc <;> first | (exact absurd (by assumption) hcond) | skip
      all_goals first | (split at hc <;> first | (cases hc; exact Only.refl _ _) | cases hc) | cases hc
    · split at he
      · rename_i hg; cases he
        have := (hh s (dec r.ty)).1
        rw [hg] at this; exact this
      · cases he

theorem requestWrite_only {B C : List Part} {s0 s : State} {r : Req} {ix sub : Nat} {data : Bytes}
    {h : State → WriteHook} (hh : HookOnly B h) (hB : (B.all (Part.within C)) = true)
    (hC : ([Part.sessions, .out, .mbox, .irq].all (Part.within C)) = true) (hf : loopFreeObject ix sub = true)
    (h0 : Only C s0 s) : Only C s0 (requestWrite s r ix sub data h) :=
  withSession_only hC (fun _ _ => writeObject_within hC (HookOnly.mono hh hB)
    (fun _ _ he => writeChecksOf_same (HookOnly.mono hh hB) hf he) (Only.refl _ _)) h0
end Sys2Proof.Machine
end

