-- ==== Sys2Proof/Laws/FrameServo.lean ====
section
/-! SUPPORT. Frames of the operations and commands of Machine/Servo.lean: one lemma per operation says what it changes at
most. -/

namespace Sys2Proof.Machine

theorem spPeriod_only (s : State) a1 a2 : Only [.servo] s (spPeriod s a1 a2) := by
  unfold spPeriod
  dsimp only
  refine Only.ite ?_ ?_
  refine Only.set_servo rfl ?_
  exact Only.refl _ _
  exact Only.refl _ _

theorem spGate_only (s : State) a1 : Only [.servo] s (spGate s a1) := by
  unfold spGate
  dsimp only
  refine Only.ite ?_ ?_
  refine Only.set_servo rfl ?_
  exact Only.refl _ _
  exact Only.refl _ _

theorem sourceTimeout_only (s : State) : Only [.servo, .regs 20592 1] s (sourceTimeout s) := by
  unfold sourceTimeout
  dsimp only
  refine Only.ite ?_ ?_
  refine Only.step (bump_fam 20592 1 (by decide) (by decide) ..) rfl ?_
  refine Only.set_servo rfl ?_
  refine Only.ite ?_ ?_
  refine Only.step (bump_fam 20592 1 (by decide) (by decide) ..) rfl ?_
  refine Only.set_servo rfl ?_
  exact Only.refl _ _
  exact Only.refl _ _
  refine Only.ite ?_ ?_
  refine Only.step (bump_fam 20592 1 (by decide) (by decide) ..) rfl ?_
  refine Only.set_servo rfl ?_
  exact Only.refl _ _
  exact Only.refl _ _

theorem setAxis_only (s : State) a1 a2 : Only [.servo] s (setAxis s a1 a2) := by
  unfold setAxis
  dsimp only
  split
  refine Only.set_servo rfl ?_
  exact Only.refl _ _
  refine Only.set_servo rfl ?_
  exact Only.refl _ _

theorem holdDrive_only (s : State) a1 a2 : Only [.regs 20496 2] s (holdDrive s a1 a2) := by
  unfold holdDrive
  refine Only.step (odSetI_fam 20496 2 (axisIx_range _) (by decide) ..) rfl ?_
  exact Only.refl _ _

theorem axisLatch_only (s : State) a1 : Only [.servo, .regs 20496 2, .regs 20592 1] s (axisLatch s a1) := by
  unfold axisLatch
  dsimp only
  split
  refine Only.ite ?_ ?_
  refine Only.step (setAxis_only ..) rfl ?_
  exact Only.refl _ _
  refine Only.step (setAxis_only ..) rfl ?_
  exact Only.refl _ _
  split
  refine Only.step (setAxis_only ..) rfl ?_
  exact Only.refl _ _
  refine Only.ite ?_ ?_
  refine Only.step (setAxis_only ..) rfl ?_
  refine Only.step (holdDrive_only ..) rfl ?_
  exact Only.refl _ _
  refine Only.ite ?_ ?_
  refine Only.step (setAxis_only ..) rfl ?_
  exact Only.refl _ _
  refine Only.step (setAxis_only ..) rfl ?_
  refine Only.ite ?_ ?_
  refine Only.step (bump_fam 20592 1 (by decide) (by decide) ..) rfl ?_
  exact Only.refl _ _
  exact Only.refl _ _
  refine Only.ite ?_ ?_
  refine Only.step (setAxis_only ..) rfl ?_
  refine Only.ite ?_ ?_
  refine Only.step (bump_fam 20592 1 (by decide) (by decide) ..) rfl ?_
  exact Only.refl _ _
  exact Only.refl _ _
  refine Only.ite ?_ ?_
  refine Only.step (setAxis_only ..) rfl ?_
  exact Only.refl _ _
  refine Only.step (setAxis_only ..) rfl ?_
  exact Only.refl _ _
  split
  refine Only.ite ?_ ?_
  refine Only.ite ?_ ?_
  refine Only.step (setAxis_only ..) rfl ?_
  exact Only.refl _ _
  refine Only.step (setAxis_only ..) rfl ?_
  refine Only.step (holdDrive_only ..) rfl ?_
  exact Only.refl _ _
  refine Only.step (setAxis_only ..) rfl ?_
  exact Only.refl _ _
  refine Only.step (setAxis_only ..) rfl ?_
  exact Only.refl _ _
  refine Only.ite ?_ ?_
  refine Only.step (setAxis_only ..) rfl ?_
  refine Only.step (holdDrive_only ..) rfl ?_
  exact Only.refl _ _
  refine Only.step (setAxis_only ..) rfl ?_
  exact Only.refl _ _

theorem traceTrigger_only (s : State) a1 : Only [.servo] s (traceTrigger s a1) := by
  unfold traceTrigger
  dsimp only
  refine Only.ite ?_ ?_
  refine Only.set_servo rfl ?_
  exact Only.refl _ _
  exact Only.refl _ _

theorem traceRecord_only (s : State) : Only [.servo] s (traceRecord s) := by
  unfold traceRecord
  dsimp only
  split
  refine Only.set_servo rfl ?_
  exact Only.refl _ _
  refine Only.ite ?_ ?_
  exact Only.refl _ _
  refine Only.set_servo rfl ?_
  exact Only.refl _ _
  exact Only.refl _ _

theorem servoLatch_only (s : State) a1 : Only [.servo, .regs 20496 2, .regs 20592 1, .emit, .isl, .regs 16384 1, .pwr, .irq, .out] s (servoLatch s a1) := by
  unfold servoLatch
  dsimp only
  refine Only.ite ?_ ?_
  exact Only.refl _ _
  refine Only.step (traceRecord_only ..) rfl ?_
  refine Only.ite ?_ ?_
  refine Only.ite ?_ ?_
  refine Only.step (traceTrigger_only ..) rfl ?_
  refine Only.ite ?_ ?_
  refine Only.step (traceTrigger_only ..) rfl ?_
  refine Only.ite ?_ ?_
  refine Only.step (traceTrigger_only ..) rfl ?_
  refine Only.ite ?_ ?_
  refine Only.step (traceTrigger_only ..) rfl ?_
  refine Only.set_servo rfl ?_
  refine Only.step (axisLatch_only ..) rfl ?_
  refine Only.step (axisLatch_only ..) rfl ?_
  refine Only.set_servo rfl ?_
  exact Only.refl _ _
  refine Only.set_servo rfl ?_
  refine Only.step (axisLatch_only ..) rfl ?_
  refine Only.step (axisLatch_only ..) rfl ?_
  refine Only.set_servo rfl ?_
  exact Only.refl _ _
  refine Only.ite ?_ ?_
  refine Only.step (traceTrigger_only ..) rfl ?_
  refine Only.set_servo rfl ?_
  refine Only.step (axisLatch_only ..) rfl ?_
  refine Only.step (axisLatch_only ..) rfl ?_
  refine Only.set_servo rfl ?_
  exact Only.refl _ _
  refine Only.set_servo rfl ?_
  refine Only.step (axisLatch_only ..) rfl ?_
  refine Only.step (axisLatch_only ..) rfl ?_
  refine Only.set_servo rfl ?_
  exact Only.refl _ _
  refine Only.ite ?_ ?_
  refine Only.step (traceTrigger_only ..) rfl ?_
  refine Only.ite ?_ ?_
  refine Only.step (traceTrigger_only ..) rfl ?_
  refine Only.set_servo rfl ?_
  refine Only.step (axisLatch_only ..) rfl ?_
  refine Only.step (axisLatch_only ..) rfl ?_
  refine Only.set_servo rfl ?_
  exact Only.refl _ _
  refine Only.set_servo rfl ?_
  refine Only.step (axisLatch_only ..) rfl ?_
  refine Only.step (axisLatch_only ..) rfl ?_
  refine Only.set_servo rfl ?_
  exact Only.refl _ _
  refine Only.ite ?_ ?_
  refine Only.step (traceTrigger_only ..) rfl ?_
  refine Only.set_servo rfl ?_
  refine Only.step (axisLatch_only ..) rfl ?_
  refine Only.step (axisLatch_only ..) rfl ?_
  refine Only.set_servo rfl ?_
  exact Only.refl _ _
  refine Only.set_servo rfl ?_
  refine Only.step (axisLatch_only ..) rfl ?_
  refine Only.step (axisLatch_only ..) rfl ?_
  refine Only.set_servo rfl ?_
  exact Only.refl _ _
  refine Only.ite ?_ ?_
  refine Only.step (traceTrigger_only ..) rfl ?_
  refine Only.ite ?_ ?_
  refine Only.step (traceTrigger_only ..) rfl ?_
  refine Only.ite ?_ ?_
  refine Only.step (traceTrigger_only ..) rfl ?_
  refine Only.set_servo rfl ?_
  refine Only.step (axisLatch_only ..) rfl ?_
  refine Only.step (axisLatch_only ..) rfl ?_
  refine Only.set_servo rfl ?_
  exact Only.refl _ _
  refine Only.set_servo rfl ?_
  refine Only.step (axisLatch_only ..) rfl ?_
  refine Only.step (axisLatch_only ..) rfl ?_
  refine Only.set_servo rfl ?_
  exact Only.refl _ _
  refine Only.ite ?_ ?_
  refine Only.step (traceTrigger_only ..) rfl ?_
  refine Only.set_servo rfl ?_
  refine Only.step (axisLatch_only ..) rfl ?_
  refine Only.step (axisLatch_only ..) rfl ?_
  refine Only.set_servo rfl ?_
  exact Only.refl _ _
  refine Only.set_servo rfl ?_
  refine Only.step (axisLatch_only ..) rfl ?_
  refine Only.step (axisLatch_only ..) rfl ?_
  refine Only.set_servo rfl ?_
  exact Only.refl _ _
  refine Only.ite ?_ ?_
  refine Only.step (traceTrigger_only ..) rfl ?_
  refine Only.ite ?_ ?_
  refine Only.step (traceTrigger_only ..) rfl ?_
  refine Only.set_servo rfl ?_
  refine Only.step (axisLatch_only ..) rfl ?_
  refine Only.step (axisLatch_only ..) rfl ?_
  refine Only.set_servo rfl ?_
  exact Only.refl _ _
  refine Only.set_servo rfl ?_
  refine Only.step (axisLatch_only ..) rfl ?_
  refine Only.step (axisLatch_only ..) rfl ?_
  refine Only.set_servo rfl ?_
  exact Only.refl _ _
  refine Only.ite ?_ ?_
  refine Only.step (traceTrigger_only ..) rfl ?_
  refine Only.set_servo rfl ?_
  refine Only.step (axisLatch_only ..) rfl ?_
  refine Only.step (axisLatch_only ..) rfl ?_
  refine Only.set_servo rfl ?_
  exact Only.refl _ _
  refine Only.set_servo rfl ?_
  refine Only.step (axisLatch_only ..) rfl ?_
  refine Only.step (axisLatch_only ..) rfl ?_
  refine Only.set_servo rfl ?_
  exact Only.refl _ _
  refine Only.step (islClear_only ..) rfl ?_
  refine Only.step (inhibitClear_only ..) rfl ?_
  refine Only.ite ?_ ?_
  refine Only.step (traceTrigger_only ..) rfl ?_
  refine Only.ite ?_ ?_
  refine Only.step (traceTrigger_only ..) rfl ?_
  refine Only.ite ?_ ?_
  refine Only.step (traceTrigger_only ..) rfl ?_
  refine Only.ite ?_ ?_
  refine Only.step (traceTrigger_only ..) rfl ?_
  refine Only.set_servo rfl ?_
  refine Only.step (axisLatch_only ..) rfl ?_
  refine Only.step (axisLatch_only ..) rfl ?_
  refine Only.set_servo rfl ?_
  exact Only.refl _ _
  refine Only.set_servo rfl ?_
  refine Only.step (axisLatch_only ..) rfl ?_
  refine Only.step (axisLatch_only ..) rfl ?_
  refine Only.set_servo rfl ?_
  exact Only.refl _ _
  refine Only.ite ?_ ?_
  refine Only.step (traceTrigger_only ..) rfl ?_
  refine Only.set_servo rfl ?_
  refine Only.step (axisLatch_only ..) rfl ?_
  refine Only.step (axisLatch_only ..) rfl ?_
  refine Only.set_servo rfl ?_
  exact Only.refl _ _
  refine Only.set_servo rfl ?_
  refine Only.step (axisLatch_only ..) rfl ?_
  refine Only.step (axisLatch_only ..) rfl ?_
  refine Only.set_servo rfl ?_
  exact Only.refl _ _
  refine Only.ite ?_ ?_
  refine Only.step (traceTrigger_only ..) rfl ?_
  refine Only.ite ?_ ?_
  refine Only.step (traceTrigger_only ..) rfl ?_
  refine Only.set_servo rfl ?_
  refine Only.step (axisLatch_only ..) rfl ?_
  refine Only.step (axisLatch_only ..) rfl ?_
  refine Only.set_servo rfl ?_
  exact Only.refl _ _
  refine Only.set_servo rfl ?_
  refine Only.step (axisLatch_only ..) rfl ?_
  refine Only.step (axisLatch_only ..) rfl ?_
  refine Only.set_servo rfl ?_
  exact Only.refl _ _
  refine Only.ite ?_ ?_
  refine Only.step (traceTrigger_only ..) rfl ?_
  refine Only.set_servo rfl ?_
  refine Only.step (axisLatch_only ..) rfl ?_
  refine Only.step (axisLatch_only ..) rfl ?_
  refine Only.set_servo rfl ?_
  exact Only.refl _ _
  refine Only.set_servo rfl ?_
  refine Only.step (axisLatch_only ..) rfl ?_
  refine Only.step (axisLatch_only ..) rfl ?_
  refine Only.set_servo rfl ?_
  exact Only.refl _ _
  refine Only.ite ?_ ?_
  refine Only.step (traceTrigger_only ..) rfl ?_
  refine Only.ite ?_ ?_
  refine Only.step (traceTrigger_only ..) rfl ?_
  refine Only.ite ?_ ?_
  refine Only.step (traceTrigger_only ..) rfl ?_
  refine Only.set_servo rfl ?_
  refine Only.step (axisLatch_only ..) rfl ?_
  refine Only.step (axisLatch_only ..) rfl ?_
  refine Only.set_servo rfl ?_
  exact Only.refl _ _
  refine Only.set_servo rfl ?_
  refine Only.step (axisLatch_only ..) rfl ?_
  refine Only.step (axisLatch_only ..) rfl ?_
  refine Only.set_servo rfl ?_
  exact Only.refl _ _
  refine Only.ite ?_ ?_
  refine Only.step (traceTrigger_only ..) rfl ?_
  refine Only.set_servo rfl ?_
  refine Only.step (axisLatch_only ..) rfl ?_
  refine Only.step (axisLatch_only ..) rfl ?_
  refine Only.set_servo rfl ?_
  exact Only.refl _ _
  refine Only.set_servo rfl ?_
  refine Only.step (axisLatch_only ..) rfl ?_
  refine Only.step (axisLatch_only ..) rfl ?_
  refine Only.set_servo rfl ?_
  exact Only.refl _ _
  refine Only.ite ?_ ?_
  refine Only.step (traceTrigger_only ..) rfl ?_
  refine Only.ite ?_ ?_
  refine Only.step (traceTrigger_only ..) rfl ?_
  refine Only.set_servo rfl ?_
  refine Only.step (axisLatch_only ..) rfl ?_
  refine Only.step (axisLatch_only ..) rfl ?_
  refine Only.set_servo rfl ?_
  exact Only.refl _ _
  refine Only.set_servo rfl ?_
  refine Only.step (axisLatch_only ..) rfl ?_
  refine Only.step (axisLatch_only ..) rfl ?_
  refine Only.set_servo rfl ?_
  exact Only.refl _ _
  refine Only.ite ?_ ?_
  refine Only.step (traceTrigger_only ..) rfl ?_
  refine Only.set_servo rfl ?_
  refine Only.step (axisLatch_only ..) rfl ?_
  refine Only.step (axisLatch_only ..) rfl ?_
  refine Only.set_servo rfl ?_
  exact Only.refl _ _
  refine Only.set_servo rfl ?_
  refine Only.step (axisLatch_only ..) rfl ?_
  refine Only.step (axisLatch_only ..) rfl ?_
  refine Only.set_servo rfl ?_
  exact Only.refl _ _

theorem execDriveValueWrite_only (s : State) : OutcomeOnly [.servo] s (execDriveValueWrite s) := by
  unfold execDriveValueWrite
  dsimp only
  refine outcome_only ?_
  refine Only.ite ?_ ?_
  refine Only.set_servo rfl ?_
  exact Only.refl _ _
  exact Only.refl _ _

theorem driveTake_only (s : State) a1 : Only [.servo] s (driveTake s a1) := by
  unfold driveTake
  dsimp only
  refine Only.ite ?_ ?_
  exact Only.refl _ _
  refine Only.set_servo rfl ?_
  exact Only.refl _ _

theorem feedbackLoss_only (s : State) a1 : Only [.servo, .regs 20592 1, .emit, .regs 16384 1, .pwr, .irq, .out, .isl, .fm, .regs 32769 1] s (feedbackLoss s a1) := by
  unfold feedbackLoss
  dsimp only
  split
  exact Only.refl _ _
  refine Only.step (reportFault_only ..) rfl ?_
  refine Only.ite ?_ ?_
  refine Only.step (islCause_only ..) rfl ?_
  refine Only.step (setInt_only ..) rfl ?_
  refine Only.step (inhibit_only ..) rfl ?_
  refine Only.ite ?_ ?_
  refine Only.step (bump_fam 20592 1 (by decide) (by decide) ..) rfl ?_
  refine Only.step (setAxis_only ..) rfl ?_
  exact Only.refl _ _
  refine Only.step (bump_fam 20592 1 (by decide) (by decide) ..) rfl ?_
  refine Only.step (setAxis_only ..) rfl ?_
  exact Only.refl _ _
  refine Only.step (setInt_only ..) rfl ?_
  refine Only.step (inhibit_only ..) rfl ?_
  refine Only.ite ?_ ?_
  refine Only.step (bump_fam 20592 1 (by decide) (by decide) ..) rfl ?_
  refine Only.step (setAxis_only ..) rfl ?_
  exact Only.refl _ _
  refine Only.step (bump_fam 20592 1 (by decide) (by decide) ..) rfl ?_
  refine Only.step (setAxis_only ..) rfl ?_
  exact Only.refl _ _

theorem execFeedbackLoss_only a0 (s : State) : OutcomeOnly [.servo, .regs 20592 1, .emit, .regs 16384 1, .pwr, .irq, .out, .isl, .fm, .regs 32769 1] s (execFeedbackLoss a0 s) := by
  unfold execFeedbackLoss
  refine outcome_only ?_
  refine Only.step (feedbackLoss_only ..) rfl ?_
  exact Only.refl _ _

theorem loopHook_only a0 : HookOnly [.regs 20592 1, .regs 20496 2, .servo] (loopHook a0) := by
  intro s v
  unfold loopHook
  dsimp only
  refine ⟨?_, ?_⟩
  split
  split
  refine GateOnly.some ?_
  refine Only.step (bump_fam 20592 1 (by decide) (by decide) ..) rfl ?_
  exact Only.refl _ _
  split
  refine GateOnly.some ?_
  refine Only.step (bump_fam 20592 1 (by decide) (by decide) ..) rfl ?_
  exact Only.refl _ _
  exact GateOnly.none _ _
  exact GateOnly.none _ _
  refine VerdictOnly.done ?_
  refine Only.step (setAxis_only ..) rfl ?_
  refine Only.step (odSet_fam 20496 2 (axisIx_range _) (by decide) ..) rfl ?_
  exact Only.refl _ _

theorem faultClearHook_only a0 : HookOnly [.servo] (faultClearHook a0) := by
  intro s v
  unfold faultClearHook
  dsimp only
  refine ⟨?_, ?_⟩
  split
  refine GateOnly.some ?_
  exact Only.refl _ _
  exact GateOnly.none _ _
  refine VerdictOnly.done ?_
  refine Only.ite ?_ ?_
  refine Only.step (setAxis_only ..) rfl ?_
  exact Only.refl _ _
  exact Only.refl _ _

theorem execLoopCommandOpen_only a0 a1 (s : State) : OutcomeOnly [.sessions, .out, .mbox, .irq, .regs 20592 1, .regs 20496 2, .servo] s (execLoopCommandOpen a0 a1 s) := by
  unfold execLoopCommandOpen
  refine outcome_only ?_
  refine requestWrite_only (loopHook_only _) rfl rfl (by first | rfl | (unfold axisIx; cases a1 <;> rfl) | (simp [loopFreeObject]; omega)) ?_
  exact Only.refl _ _

theorem execLoopCommandClose_only a0 a1 (s : State) : OutcomeOnly [.sessions, .out, .mbox, .irq, .regs 20592 1, .regs 20496 2, .servo] s (execLoopCommandClose a0 a1 s) := by
  unfold execLoopCommandClose
  refine outcome_only ?_
  refine requestWrite_only (loopHook_only _) rfl rfl (by first | rfl | (unfold axisIx; cases a1 <;> rfl) | (simp [loopFreeObject]; omega)) ?_
  exact Only.refl _ _

theorem execLoopCommandPark_only a0 a1 (s : State) : OutcomeOnly [.sessions, .out, .mbox, .irq, .regs 20592 1, .regs 20496 2, .servo] s (execLoopCommandPark a0 a1 s) := by
  unfold execLoopCommandPark
  refine outcome_only ?_
  refine requestWrite_only (loopHook_only _) rfl rfl (by first | rfl | (unfold axisIx; cases a1 <;> rfl) | (simp [loopFreeObject]; omega)) ?_
  exact Only.refl _ _

theorem execServoFaultClear_only a0 a1 (s : State) : OutcomeOnly [.sessions, .out, .mbox, .irq, .servo] s (execServoFaultClear a0 a1 s) := by
  unfold execServoFaultClear
  refine outcome_only ?_
  refine requestWrite_only (faultClearHook_only _) rfl rfl (by first | rfl | (unfold axisIx; cases a1 <;> rfl) | (simp [loopFreeObject]; omega)) ?_
  exact Only.refl _ _

theorem decRunHook_only a0 : HookOnly [.servo, .regs 20544 3] (decRunHook a0) := by
  intro s v
  unfold decRunHook
  dsimp only
  refine ⟨?_, ?_⟩
  split
  refine GateOnly.some ?_
  exact Only.refl _ _
  exact GateOnly.none _ _
  refine VerdictOnly.done ?_
  refine Only.step (odSet_fam 20544 3 (by omega) (by decide) ..) rfl ?_
  refine Only.set_servo rfl ?_
  exact Only.refl _ _

theorem execDecimatorStart_only a0 a1 (s : State) : OutcomeOnly [.sessions, .out, .mbox, .irq, .servo, .regs 20544 3] s (execDecimatorStart a0 a1 s) := by
  unfold execDecimatorStart
  refine outcome_only ?_
  refine requestWrite_only (decRunHook_only _) rfl rfl (by first | rfl | (unfold axisIx; cases a1 <;> rfl) | (simp [loopFreeObject]; omega)) ?_
  exact Only.refl _ _

theorem execDecimatorStop_only a0 a1 (s : State) : OutcomeOnly [.sessions, .out, .mbox, .irq, .servo, .regs 20544 3] s (execDecimatorStop a0 a1 s) := by
  unfold execDecimatorStop
  refine outcome_only ?_
  refine requestWrite_only (decRunHook_only _) rfl rfl (by first | rfl | (unfold axisIx; cases a1 <;> rfl) | (simp [loopFreeObject]; omega)) ?_
  exact Only.refl _ _

theorem execSpPulsePeriod_only a0 a1 (s : State) : OutcomeOnly [.servo] s (execSpPulsePeriod a0 a1 s) := by
  unfold execSpPulsePeriod
  refine outcome_only ?_
  refine Only.step (spPeriod_only ..) rfl ?_
  exact Only.refl _ _

theorem execCountGate_only a0 (s : State) : OutcomeOnly [.servo] s (execCountGate a0 s) := by
  unfold execCountGate
  refine outcome_only ?_
  refine Only.step (spGate_only ..) rfl ?_
  exact Only.refl _ _

theorem execSourceTimeout_only (s : State) : OutcomeOnly [.servo, .regs 20592 1] s (execSourceTimeout s) := by
  unfold execSourceTimeout
  refine outcome_only ?_
  refine Only.step (sourceTimeout_only ..) rfl ?_
  exact Only.refl _ _

theorem traceCommand_only (s : State) a1 : Only [.servo] s (traceCommand s a1) := by
  unfold traceCommand
  dsimp only
  split
  refine Only.ite ?_ ?_
  exact Only.refl _ _
  refine Only.set_servo rfl ?_
  exact Only.refl _ _
  refine Only.set_servo rfl ?_
  exact Only.refl _ _
  refine Only.step (traceTrigger_only ..) rfl ?_
  exact Only.refl _ _

theorem traceHook_only  : HookOnly [.servo] (traceHook ) := by
  intro s v
  unfold traceHook
  dsimp only
  refine ⟨?_, ?_⟩
  exact GateOnly.none _ _
  refine VerdictOnly.done ?_
  refine Only.step (traceCommand_only ..) rfl ?_
  exact Only.refl _ _

theorem execTraceArm_only a0 (s : State) : OutcomeOnly [.sessions, .out, .mbox, .irq, .servo] s (execTraceArm a0 s) := by
  unfold execTraceArm
  refine outcome_only ?_
  refine requestWrite_only (traceHook_only) rfl rfl (by first | rfl | (unfold axisIx; cases a1 <;> rfl) | (simp [loopFreeObject]; omega)) ?_
  exact Only.refl _ _

theorem execTraceManualTrigger_only a0 (s : State) : OutcomeOnly [.sessions, .out, .mbox, .irq, .servo] s (execTraceManualTrigger a0 s) := by
  unfold execTraceManualTrigger
  refine outcome_only ?_
  refine requestWrite_only (traceHook_only) rfl rfl (by first | rfl | (unfold axisIx; cases a1 <;> rfl) | (simp [loopFreeObject]; omega)) ?_
  exact Only.refl _ _

theorem execTraceStop_only a0 (s : State) : OutcomeOnly [.sessions, .out, .mbox, .irq, .servo] s (execTraceStop a0 s) := by
  unfold execTraceStop
  refine outcome_only ?_
  refine requestWrite_only (traceHook_only) rfl rfl (by first | rfl | (unfold axisIx; cases a1 <;> rfl) | (simp [loopFreeObject]; omega)) ?_
  exact Only.refl _ _

theorem execTraceDone_only (s : State) : OutcomeOnly [.servo, .irq, .out] s (execTraceDone s) := by
  unfold execTraceDone
  dsimp only
  refine outcome_only ?_
  refine Only.ite ?_ ?_
  refine Only.step (setInt_only ..) rfl ?_
  refine Only.set_servo rfl ?_
  exact Only.refl _ _
  exact Only.refl _ _

theorem servoStart_only (s : State) : Only [.regs 20544 3, .servo] s (servoStart s) := by
  unfold servoStart
  dsimp only
  refine Only.set_servo rfl ?_
  refine Only.foldl _ _ (fun t x => ?_) ?_
  refine Only.ite ?_ ?_
  refine Only.step (usePersisted_fam 20544 3 (by omega) (by decide) ..) rfl ?_
  refine Only.step (usePersisted_fam 20544 3 (by omega) (by decide) ..) rfl ?_
  refine Only.step (usePersisted_fam 20544 3 (by omega) (by decide) ..) rfl ?_
  exact Only.refl _ _
  refine Only.step (usePersisted_fam 20544 3 (by omega) (by decide) ..) rfl ?_
  exact Only.refl _ _
  exact Only.refl _ _

theorem servoOff_only (s : State) : Only [.emit, .isl, .regs 16384 1, .pwr, .irq, .out, .servo] s (servoOff s) := by
  unfold servoOff
  dsimp only
  refine Only.set_servo rfl ?_
  refine Only.step (islClear_only ..) rfl ?_
  refine Only.step (inhibitClear_only ..) rfl ?_
  exact Only.refl _ _

end Sys2Proof.Machine
end

