-- ==== Sys2Proof/Laws/FrameDither.lean ====
section
/-! SUPPORT. Frames of the operations and commands of Machine/Dither.lean: one lemma per operation says what it changes at
most. -/

namespace Sys2Proof.Machine

theorem ditherInit_only (s : State) : Only [.rx] s (ditherInit s) := by
  unfold ditherInit
  dsimp only
  refine Only.set_rx rfl ?_
  exact Only.refl _ _

theorem ditherTake_only (s : State) : Only [.rx] s (ditherTake s) := by
  unfold ditherTake
  dsimp only
  refine Only.ite ?_ ?_
  refine Only.set_rx rfl ?_
  exact Only.refl _ _
  refine Only.set_rx rfl ?_
  exact Only.refl _ _

theorem ditherShift_only (s : State) a1 a2 : Only [.rx] s (ditherShift s a1 a2) := by
  unfold ditherShift
  dsimp only
  refine Only.set_rx rfl ?_
  exact Only.refl _ _

theorem ditherDraw_only (s : State) : Only [.regs 49200 1, .rx] s (ditherDraw s) := by
  unfold ditherDraw
  dsimp only
  split
  refine Only.step (ditherShift_only ..) rfl ?_
  refine Only.set_rx rfl ?_
  refine Only.ite ?_ ?_
  refine Only.step (bump_fam 49200 1 (by decide) (by decide) ..) rfl ?_
  exact Only.refl _ _
  refine Only.ite ?_ ?_
  exact Only.refl _ _
  refine Only.step (bump_fam 49200 1 (by decide) (by decide) ..) rfl ?_
  exact Only.refl _ _
  refine Only.step (ditherShift_only ..) rfl ?_
  refine Only.set_rx rfl ?_
  exact Only.refl _ _

end Sys2Proof.Machine
end

