-- ==== Sys2Proof/Laws/FrameTickSync.lean ====
section
/-! SUPPORT. Frames of the operations and commands of Machine/TickSync.lean: one lemma per operation says what it changes at
most. -/

namespace Sys2Proof.Machine

theorem syncEnter_only (s : State) a1 : Only [.tick, .irq, .out] s (syncEnter s a1) := by
  unfold syncEnter
  dsimp only
  refine Only.ite ?_ ?_
  exact Only.refl _ _
  refine Only.step (setInt_only ..) rfl ?_
  refine Only.set_tick rfl ?_
  exact Only.refl _ _

theorem lockNow_only (s : State) : Only [.tick, .lane, .irq, .out] s (lockNow s) := by
  unfold lockNow
  dsimp only
  refine Only.step (syncEnter_only ..) rfl ?_
  refine Only.set_tick_lane rfl ?_
  exact Only.refl _ _

theorem eighthEdge_only (s : State) : Only [.tick, .lane, .irq, .out] s (eighthEdge s) := by
  unfold eighthEdge
  dsimp only
  refine Only.ite ?_ ?_
  exact Only.refl _ _
  split
  refine Only.ite ?_ ?_
  refine Only.step (lockNow_only ..) rfl ?_
  exact Only.refl _ _
  exact Only.refl _ _
  refine Only.ite ?_ ?_
  refine Only.step (lockNow_only ..) rfl ?_
  exact Only.refl _ _
  refine Only.ite ?_ ?_
  refine Only.step (lockNow_only ..) rfl ?_
  refine Only.set_tick rfl ?_
  exact Only.refl _ _
  refine Only.set_tick rfl ?_
  exact Only.refl _ _
  exact Only.refl _ _

theorem missEdge_only (s : State) : Only [.regs 8192 1, .tick, .irq, .out] s (missEdge s) := by
  unfold missEdge
  dsimp only
  split
  exact Only.refl _ _
  refine Only.ite ?_ ?_
  refine Only.step (syncEnter_only ..) rfl ?_
  refine Only.set_tick rfl ?_
  refine Only.step (bump_fam 8192 1 (by decide) (by decide) ..) rfl ?_
  exact Only.refl _ _
  refine Only.set_tick rfl ?_
  refine Only.step (bump_fam 8192 1 (by decide) (by decide) ..) rfl ?_
  exact Only.refl _ _
  refine Only.step (bump_fam 8192 1 (by decide) (by decide) ..) rfl ?_
  refine Only.set_tick rfl ?_
  exact Only.refl _ _

theorem edgeAt_only (s : State) a1 a2 : Only [.tick, .regs 8192 1, .irq, .out, .lane] s (edgeAt s a1 a2) := by
  unfold edgeAt
  dsimp only
  split
  exact Only.refl _ _
  refine Only.ite ?_ ?_
  refine Only.set_tick rfl ?_
  exact Only.refl _ _
  refine Only.step (missEdge_only ..) rfl ?_
  exact Only.refl _ _
  refine Only.ite ?_ ?_
  refine Only.step (eighthEdge_only ..) rfl ?_
  refine Only.set_tick rfl ?_
  exact Only.refl _ _
  refine Only.ite ?_ ?_
  refine Only.step (eighthEdge_only ..) rfl ?_
  refine Only.set_tick rfl ?_
  exact Only.refl _ _
  refine Only.set_tick rfl ?_
  refine Only.step (missEdge_only ..) rfl ?_
  exact Only.refl _ _

theorem execShotSyncEdge_only a0 (s : State) : OutcomeOnly [.tick, .regs 8192 1, .irq, .out, .lane] s (execShotSyncEdge a0 s) := by
  unfold execShotSyncEdge
  refine outcome_only ?_
  refine Only.ite ?_ ?_
  refine Only.step (edgeAt_only ..) rfl ?_
  exact Only.refl _ _
  exact Only.refl _ _

theorem execMissedEdge_only (s : State) : OutcomeOnly [.regs 8192 1, .tick, .irq, .out] s (execMissedEdge s) := by
  unfold execMissedEdge
  refine outcome_only ?_
  refine Only.ite ?_ ?_
  refine Only.step (missEdge_only ..) rfl ?_
  exact Only.refl _ _
  exact Only.refl _ _

theorem tickStretch_only (s : State) : Only [.regs 8192 1, .tick, .lane, .irq, .out] s (tickStretch s) := by
  unfold tickStretch
  dsimp only
  refine Only.ite ?_ ?_
  refine Only.step (lockNow_only ..) rfl ?_
  refine Only.set_tick_lane rfl ?_
  refine Only.step (bump_fam 8192 1 (by decide) (by decide) ..) rfl ?_
  exact Only.refl _ _
  exact Only.refl _ _

theorem execTickStretch_only (s : State) : OutcomeOnly [.regs 8192 1, .tick, .lane, .irq, .out] s (execTickStretch s) := by
  unfold execTickStretch
  refine outcome_only ?_
  refine Only.step (tickStretch_only ..) rfl ?_
  exact Only.refl _ _

theorem syncRestart_only (s : State) a1 : Only [.tick, .irq, .out] s (syncRestart s a1) := by
  unfold syncRestart
  dsimp only
  refine Only.step (syncEnter_only ..) rfl ?_
  refine Only.set_tick rfl ?_
  exact Only.refl _ _

theorem execShotSyncOutPulse_only (s : State) : OutcomeOnly [.tick, .out] s (execShotSyncOutPulse s) := by
  unfold execShotSyncOutPulse
  dsimp only
  refine outcome_only ?_
  refine Only.ite ?_ ?_
  refine Only.step (send_only ..) rfl ?_
  refine Only.set_tick rfl ?_
  exact Only.refl _ _
  exact Only.refl _ _

theorem execShotSyncOutPulseEnd_only (s : State) : OutcomeOnly [.tick, .out] s (execShotSyncOutPulseEnd s) := by
  unfold execShotSyncOutPulseEnd
  dsimp only
  refine outcome_only ?_
  refine Only.ite ?_ ?_
  refine Only.step (send_only ..) rfl ?_
  refine Only.set_tick rfl ?_
  exact Only.refl _ _
  exact Only.refl _ _

end Sys2Proof.Machine
end

