-- ==== Sys2Proof/Laws/FrameRingOps.lean ====
section
/-! SUPPORT. Frames of the operations and commands of Machine/RingOps.lean: one lemma per operation says what it changes at
most. -/

namespace Sys2Proof.Machine

theorem setRing_only (s : State) a1 a2 : Only [.rings] s (setRing s a1 a2) := by
  unfold setRing
  dsimp only
  refine Only.set_rings rfl ?_
  exact Only.refl _ _

theorem ringSignal_only (s : State) a1 a2 : Only [.rings, .irq, .out] s (ringSignal s a1 a2) := by
  unfold ringSignal
  dsimp only
  refine Only.ite ?_ ?_
  refine Only.step (setRingInt_only ..) rfl ?_
  refine Only.step (setRing_only ..) rfl ?_
  exact Only.refl _ _
  refine Only.step (setRing_only ..) rfl ?_
  exact Only.refl _ _

theorem stageRing_only (s : State) a1 a2 : Only [.rings, .irq, .out] s (stageRing s a1 a2) := by
  unfold stageRing
  dsimp only
  refine Only.ite ?_ ?_
  refine Only.step (setRing_only ..) rfl ?_
  exact Only.refl _ _
  refine Only.ite ?_ ?_
  refine Only.step (ringSignal_only ..) rfl ?_
  refine Only.step (setRing_only ..) rfl ?_
  exact Only.refl _ _
  refine Only.step (setRing_only ..) rfl ?_
  exact Only.refl _ _

theorem entryWrites_only (s : State) a1 a2 : Only [.out] s (entryWrites s a1 a2) := by
  unfold entryWrites
  dsimp only
  refine Only.ite ?_ ?_
  refine Only.step (send_only ..) rfl ?_
  exact Only.refl _ _
  refine Only.step (send_only ..) rfl ?_
  refine Only.step (send_only ..) rfl ?_
  exact Only.refl _ _

theorem publish_only (s : State) a1 : Only [.rings, .out, .irq] s (publish s a1) := by
  unfold publish
  dsimp only
  split
  exact Only.refl _ _
  refine Only.ite ?_ ?_
  exact Only.refl _ _
  refine Only.ite ?_ ?_
  refine Only.step (setRing_only ..) rfl ?_
  exact Only.refl _ _
  refine Only.ite ?_ ?_
  exact Only.refl _ _
  refine Only.step (ringSignal_only ..) rfl ?_
  refine Only.ite ?_ ?_
  refine Only.step (send_only ..) rfl ?_
  refine Only.step (setRing_only ..) rfl ?_
  refine Only.step (entryWrites_only ..) rfl ?_
  exact Only.refl _ _
  refine Only.step (setRing_only ..) rfl ?_
  refine Only.step (entryWrites_only ..) rfl ?_
  exact Only.refl _ _

theorem ringTimer_only (s : State) a1 : Only [.rings, .irq, .out] s (ringTimer s a1) := by
  unfold ringTimer
  dsimp only
  split
  refine Only.ite ?_ ?_
  refine Only.step (setRingInt_only ..) rfl ?_
  refine Only.step (setRing_only ..) rfl ?_
  exact Only.refl _ _
  exact Only.refl _ _
  exact Only.refl _ _

theorem enableRing_only (s : State) a1 : Only [.rings] s (enableRing s a1) := by
  unfold enableRing
  dsimp only
  refine Only.ite ?_ ?_
  exact Only.refl _ _
  refine Only.step (setRing_only ..) rfl ?_
  exact Only.refl _ _

theorem disableRing_only (s : State) a1 : Only [.rings] s (disableRing s a1) := by
  unfold disableRing
  dsimp only
  refine Only.ite ?_ ?_
  exact Only.refl _ _
  refine Only.step (setRing_only ..) rfl ?_
  exact Only.refl _ _

theorem writeTail_only (s : State) a1 a2 : Only [.rings, .irq, .out, .log] s (writeTail s a1 a2) := by
  unfold writeTail
  dsimp only
  refine Only.ite ?_ ?_
  refine Only.step (setRing_only ..) rfl ?_
  exact Only.refl _ _
  refine Only.step (logAccess_only ..) rfl ?_
  refine Only.step (setInt_only ..) rfl ?_
  refine Only.step (setRing_only ..) rfl ?_
  exact Only.refl _ _

end Sys2Proof.Machine
end

