-- ==== Sys2Proof/Laws/FrameLanes.lean ====
section
/-! SUPPORT. Frames of the operations and commands of Machine/Lanes.lean: one lemma per operation says what it changes at
most. -/

namespace Sys2Proof.Machine

theorem setLane_only (s : State) a1 a2 : Only [.lane] s (setLane s a1 a2) := by
  unfold setLane
  dsimp only
  refine Only.set_lane rfl ?_
  exact Only.refl _ _

theorem setLink_only (s : State) a1 a2 : Only [.lane] s (setLink s a1 a2) := by
  unfold setLink
  dsimp only
  refine Only.set_lane rfl ?_
  exact Only.refl _ _

theorem mapLanes_only (s : State) a1 a2 : Only [.lane] s (mapLanes s a1 a2) := by
  unfold mapLanes
  refine Only.foldl _ _ (fun t x => ?_) ?_
  refine Only.step (setLane_only ..) rfl ?_
  exact Only.refl _ _
  exact Only.refl _ _

theorem laneDrop_only (s : State) a1 a2 : Only [.regs 49184 16, .lane] s (laneDrop s a1 a2) := by
  unfold laneDrop
  dsimp only
  refine Only.ite ?_ ?_
  refine Only.step (bump_fam 49184 16 (by omega) (by decide) ..) rfl ?_
  refine Only.step (setLink_only ..) rfl ?_
  refine Only.step (bumpBy_fam 49184 16 (by omega) (by decide) ..) rfl ?_
  refine Only.step (bump_fam 49184 16 (by omega) (by decide) ..) rfl ?_
  exact Only.refl _ _
  refine Only.step (bumpBy_fam 49184 16 (by omega) (by decide) ..) rfl ?_
  refine Only.step (bump_fam 49184 16 (by omega) (by decide) ..) rfl ?_
  exact Only.refl _ _

theorem noteStalls_only (s : State) a1 : Only [.lane] s (noteStalls s a1) := by
  unfold noteStalls
  dsimp only
  refine Only.ite ?_ ?_
  exact Only.refl _ _
  refine Only.step (setLink_only ..) rfl ?_
  exact Only.refl _ _

theorem stageLane_only (s : State) a1 a2 : Only [.regs 49184 16, .lane] s (stageLane s a1 a2) := by
  unfold stageLane
  dsimp only
  refine Only.ite ?_ ?_
  refine Only.step (laneDrop_only ..) rfl ?_
  exact Only.refl _ _
  refine Only.step (noteStalls_only ..) rfl ?_
  refine Only.step (setLink_only ..) rfl ?_
  exact Only.refl _ _

theorem route_only (s : State) a1 a2 a3 : Only [.regs 49184 16, .lane, .rings, .irq, .out] s (route s a1 a2 a3) := by
  unfold route
  refine Only.ite ?_ ?_
  refine Only.step (stageLane_only ..) rfl ?_
  exact Only.refl _ _
  refine Only.step (stageRing_only ..) rfl ?_
  exact Only.refl _ _

theorem cutOff_only (s : State) a1 a2 : Only [.regs 49184 16, .lane] s (cutOff s a1 a2) := by
  unfold cutOff
  dsimp only
  split
  refine Only.ite ?_ ?_
  exact Only.refl _ _
  refine Only.step (setLink_only ..) rfl ?_
  refine Only.foldl _ _ (fun t x => ?_) ?_
  refine Only.step (laneDrop_only ..) rfl ?_
  exact Only.refl _ _
  exact Only.refl _ _
  exact Only.refl _ _

theorem linkFail_only (s : State) a1 a2 : Only [.regs 49184 16, .lane, .regs 49168 16] s (linkFail s a1 a2) := by
  unfold linkFail
  dsimp only
  refine Only.step (setLink_only ..) rfl ?_
  refine Only.foldl _ _ (fun t x => ?_) ?_
  refine Only.step (cutOff_only ..) rfl ?_
  exact Only.refl _ _
  refine Only.foldl _ _ (fun t x => ?_) ?_
  refine Only.ite ?_ ?_
  exact Only.refl _ _
  refine Only.step (bump_fam 49168 16 (by omega) (by decide) ..) rfl ?_
  refine Only.step (setLane_only ..) rfl ?_
  exact Only.refl _ _
  exact Only.refl _ _

theorem probeSend_only (s : State) a1 : Only [.lane, .out] s (probeSend s a1) := by
  unfold probeSend
  dsimp only
  refine Only.step (send_only ..) rfl ?_
  refine Only.step (setLane_only ..) rfl ?_
  exact Only.refl _ _

theorem execProbeBurst_only a0 (s : State) : OutcomeOnly [.lane, .out] s (execProbeBurst a0 s) := by
  unfold execProbeBurst
  dsimp only
  refine outcome_only ?_
  refine Only.ite ?_ ?_
  refine Only.step (probeSend_only ..) rfl ?_
  exact Only.refl _ _
  exact Only.refl _ _

theorem partnerProbe_only (s : State) a1 a2 : Only [.lane, .out] s (partnerProbe s a1 a2) := by
  unfold partnerProbe
  dsimp only
  refine Only.ite ?_ ?_
  refine Only.step (setLane_only ..) rfl ?_
  refine Only.ite ?_ ?_
  exact Only.refl _ _
  refine Only.step (probeSend_only ..) rfl ?_
  exact Only.refl _ _
  exact Only.refl _ _

theorem execPartnerProbeReceived_only a0 a1 (s : State) : OutcomeOnly [.lane, .out] s (execPartnerProbeReceived a0 a1 s) := by
  unfold execPartnerProbeReceived
  refine outcome_only ?_
  refine Only.step (partnerProbe_only ..) rfl ?_
  exact Only.refl _ _

theorem eqStart_only (s : State) a1 : Only [.free, .lane, .out] s (eqStart s a1) := by
  unfold eqStart
  dsimp only
  refine Only.step (send_only ..) rfl ?_
  refine Only.step (setLane_only ..) rfl ?_
  refine Only.set_free rfl ?_
  exact Only.refl _ _

theorem trainRequest_only (s : State) a1 a2 : Only [.free, .lane, .out] s (trainRequest s a1 a2) := by
  unfold trainRequest
  dsimp only
  refine Only.ite ?_ ?_
  exact Only.refl _ _
  refine Only.ite ?_ ?_
  refine Only.step (send_only ..) rfl ?_
  refine Only.step (setLane_only ..) rfl ?_
  refine Only.set_free rfl ?_
  exact Only.refl _ _
  refine Only.ite ?_ ?_
  refine Only.step (setLink_only ..) rfl ?_
  refine Only.step (setLane_only ..) rfl ?_
  exact Only.refl _ _
  exact Only.refl _ _

theorem laneEvent_only (s t : State) : Only [.irq, .out] t (laneEvent s t) := by
  unfold laneEvent
  refine Only.ite ?_ (Only.refl _ _)
  exact Only.step (setInt_only ..) rfl (Only.refl _ _)

theorem execTrainRequest_only a0 a1 (s : State) : OutcomeOnly [.free, .lane, .out, .irq] s (execTrainRequest a0 a1 s) := by
  unfold execTrainRequest
  refine outcome_only ?_
  refine Only.step (laneEvent_only ..) rfl ?_
  refine Only.step (trainRequest_only ..) rfl ?_
  exact Only.refl _ _

theorem eqComplete_only (s : State) a1 a2 a3 : Only [.lane, .out] s (eqComplete s a1 a2 a3) := by
  unfold eqComplete
  dsimp only
  refine Only.ite ?_ ?_
  exact Only.refl _ _
  refine Only.ite ?_ ?_
  refine Only.step (setLane_only ..) rfl ?_
  refine Only.ite ?_ ?_
  refine Only.step (setLink_only ..) rfl ?_
  refine Only.step (send_only ..) rfl ?_
  refine Only.step (setLane_only ..) rfl ?_
  exact Only.refl _ _
  refine Only.step (send_only ..) rfl ?_
  refine Only.step (setLane_only ..) rfl ?_
  exact Only.refl _ _
  refine Only.step (send_only ..) rfl ?_
  refine Only.step (setLane_only ..) rfl ?_
  exact Only.refl _ _

theorem execEqComplete_only a0 a1 a2 (s : State) : OutcomeOnly [.lane, .out, .irq] s (execEqComplete a0 a1 a2 s) := by
  unfold execEqComplete
  refine outcome_only ?_
  refine Only.step (laneEvent_only ..) rfl ?_
  refine Only.step (eqComplete_only ..) rfl ?_
  exact Only.refl _ _

theorem execFecAlignComplete_only a0 (s : State) : OutcomeOnly [.lane, .irq, .out] s (execFecAlignComplete a0 s) := by
  unfold execFecAlignComplete
  dsimp only
  refine outcome_only ?_
  refine Only.ite ?_ ?_
  refine Only.step (laneEvent_only ..) rfl ?_
  refine Only.step (setLane_only ..) rfl ?_
  exact Only.refl _ _
  exact Only.refl _ _

theorem deskew_only (s : State) a1 a2 : Only [.regs 49184 16, .lane, .regs 49168 16, .out] s (deskew s a1 a2) := by
  unfold deskew
  dsimp only
  refine Only.ite ?_ ?_
  refine Only.ite ?_ ?_
  refine Only.step (linkFail_only ..) rfl ?_
  exact Only.refl _ _
  refine Only.foldl _ _ (fun t x => ?_) ?_
  refine Only.step (send_only ..) rfl ?_
  refine Only.step (setLane_only ..) rfl ?_
  exact Only.refl _ _
  exact Only.refl _ _
  exact Only.refl _ _

theorem execDeskewComplete_only a0 a1 (s : State) : OutcomeOnly [.regs 49184 16, .lane, .regs 49168 16, .out, .irq] s (execDeskewComplete a0 a1 s) := by
  unfold execDeskewComplete
  refine outcome_only ?_
  refine Only.step (laneEvent_only ..) rfl ?_
  refine Only.step (deskew_only ..) rfl ?_
  exact Only.refl _ _

theorem capsReceived_only (s : State) a1 a2 : Only [.lane, .regs 49184 16, .regs 49168 16, .out] s (capsReceived s a1 a2) := by
  unfold capsReceived
  dsimp only
  refine Only.ite ?_ ?_
  exact Only.refl _ _
  refine Only.ite ?_ ?_
  refine Only.step (setLane_only ..) rfl ?_
  exact Only.refl _ _
  refine Only.ite ?_ ?_
  refine Only.step (linkFail_only ..) rfl ?_
  refine Only.step (setLane_only ..) rfl ?_
  exact Only.refl _ _
  refine Only.ite ?_ ?_
  refine Only.step (send_only ..) rfl ?_
  refine Only.step (setLane_only ..) rfl ?_
  exact Only.refl _ _
  refine Only.step (noteStalls_only ..) rfl ?_
  refine Only.step (setLink_only ..) rfl ?_
  refine Only.step (send_only ..) rfl ?_
  refine Only.step (setLane_only ..) rfl ?_
  refine Only.step (setLane_only ..) rfl ?_
  exact Only.refl _ _

theorem execCapsReceived_only a0 a1 (s : State) : OutcomeOnly [.lane, .regs 49184 16, .regs 49168 16, .out, .irq] s (execCapsReceived a0 a1 s) := by
  unfold execCapsReceived
  refine outcome_only ?_
  refine Only.step (laneEvent_only ..) rfl ?_
  refine Only.step (capsReceived_only ..) rfl ?_
  exact Only.refl _ _

theorem trainingTimeout_only (s : State) a1 : Only [.regs 49184 16, .lane, .regs 49168 16] s (trainingTimeout s a1) := by
  unfold trainingTimeout
  dsimp only
  split
  exact Only.refl _ _
  refine Only.ite ?_ ?_
  refine Only.step (linkFail_only ..) rfl ?_
  exact Only.refl _ _
  exact Only.refl _ _

theorem execTrainingTimeout_only a0 (s : State) : OutcomeOnly [.regs 49184 16, .lane, .regs 49168 16, .irq, .out] s (execTrainingTimeout a0 s) := by
  unfold execTrainingTimeout
  refine outcome_only ?_
  refine Only.step (laneEvent_only ..) rfl ?_
  refine Only.step (trainingTimeout_only ..) rfl ?_
  exact Only.refl _ _

theorem execLinkLoss_only a0 a1 (s : State) : OutcomeOnly [.regs 49168 16, .regs 49184 16, .lane, .irq, .out] s (execLinkLoss a0 a1 s) := by
  unfold execLinkLoss
  dsimp only
  refine outcome_only ?_
  refine Only.ite ?_ ?_
  refine Only.step (laneEvent_only ..) rfl ?_
  refine Only.step (linkFail_only ..) rfl ?_
  refine Only.ite ?_ ?_
  refine Only.step (bump_fam 49168 16 (by omega) (by decide) ..) rfl ?_
  exact Only.refl _ _
  exact Only.refl _ _
  exact Only.refl _ _

theorem linkIdle_only (s : State) a1 : Only [.lane, .out] s (linkIdle s a1) := by
  unfold linkIdle
  dsimp only
  refine Only.step (setLink_only ..) rfl ?_
  refine Only.foldl _ _ (fun t x => ?_) ?_
  refine Only.step (send_only ..) rfl ?_
  refine Only.step (setLane_only ..) rfl ?_
  exact Only.refl _ _
  exact Only.refl _ _

theorem execIdleEntry_only a0 (s : State) : OutcomeOnly [.lane, .out, .irq] s (execIdleEntry a0 s) := by
  unfold execIdleEntry
  refine outcome_only ?_
  refine Only.ite ?_ ?_
  refine Only.step (laneEvent_only ..) rfl ?_
  refine Only.step (linkIdle_only ..) rfl ?_
  exact Only.refl _ _
  exact Only.refl _ _

theorem exitSend_only (s : State) a1 : Only [.out, .free, .lane] s (exitSend s a1) := by
  unfold exitSend
  dsimp only
  refine Only.step (setLink_only ..) rfl ?_
  refine Only.set_free rfl ?_
  refine Only.step (sendAll_only ..) rfl ?_
  exact Only.refl _ _

theorem idleExit_only (s : State) a1 : Only [.out, .free, .lane] s (idleExit s a1) := by
  unfold idleExit
  dsimp only
  refine Only.ite ?_ ?_
  refine Only.ite ?_ ?_
  refine Only.step (noteStalls_only ..) rfl ?_
  refine Only.step (setLink_only ..) rfl ?_
  refine Only.step (mapLanes_only ..) rfl ?_
  refine Only.step (exitSend_only ..) rfl ?_
  exact Only.refl _ _
  refine Only.step (setLink_only ..) rfl ?_
  refine Only.foldl _ _ (fun t x => ?_) ?_
  refine Only.step (eqStart_only ..) rfl ?_
  exact Only.refl _ _
  refine Only.step (exitSend_only ..) rfl ?_
  exact Only.refl _ _
  exact Only.refl _ _

theorem execIdleExit_only a0 (s : State) : OutcomeOnly [.out, .free, .lane, .irq] s (execIdleExit a0 s) := by
  unfold execIdleExit
  refine outcome_only ?_
  refine Only.step (laneEvent_only ..) rfl ?_
  refine Only.step (idleExit_only ..) rfl ?_
  exact Only.refl _ _

theorem superframeSend_only (s : State) a1 a2 a3 a4 a5 : Only [.out, .free, .lane] s (superframeSend s a1 a2 a3 a4 a5) := by
  unfold superframeSend
  dsimp only
  refine Only.step (setLink_only ..) rfl ?_
  refine Only.set_free rfl ?_
  refine Only.step (sendAll_only ..) rfl ?_
  exact Only.refl _ _

theorem superframe_only (s : State) a1 a2 : Only [.lane, .out, .free] s (superframe s a1 a2) := by
  unfold superframe
  dsimp only
  refine Only.ite ?_ ?_
  refine Only.ite ?_ ?_
  refine Only.step (superframeSend_only ..) rfl ?_
  refine Only.step (setLink_only ..) rfl ?_
  exact Only.refl _ _
  exact Only.refl _ _
  split
  refine Only.step (superframeSend_only ..) rfl ?_
  refine Only.step (setLink_only ..) rfl ?_
  exact Only.refl _ _
  refine Only.step (noteStalls_only ..) rfl ?_
  refine Only.step (superframeSend_only ..) rfl ?_
  refine Only.step (setLink_only ..) rfl ?_
  exact Only.refl _ _

theorem execSuperframe_only a0 a1 (s : State) : OutcomeOnly [.lane, .out, .free] s (execSuperframe a0 a1 s) := by
  unfold execSuperframe
  refine outcome_only ?_
  refine Only.step (superframe_only ..) rfl ?_
  exact Only.refl _ _

theorem creditStalls_only (s : State) : Only [.regs 49184 16, .lane] s (creditStalls s) := by
  unfold creditStalls
  dsimp only
  refine Only.foldl _ _ (fun t x => ?_) ?_
  refine Only.ite ?_ ?_
  exact Only.refl _ _
  refine Only.step (noteStalls_only ..) rfl ?_
  refine Only.step (setLink_only ..) rfl ?_
  refine Only.step (bumpBy_fam 49184 16 (by omega) (by decide) ..) rfl ?_
  exact Only.refl _ _
  exact Only.refl _ _

theorem execCreditItem_only a0 a1 (s : State) : OutcomeOnly [.lane] s (execCreditItem a0 a1 s) := by
  unfold execCreditItem
  dsimp only
  refine outcome_only ?_
  refine Only.ite ?_ ?_
  refine Only.step (setLink_only ..) rfl ?_
  exact Only.refl _ _
  exact Only.refl _ _

theorem codewordCounts_only (s : State) a1 : Only [.regs 49168 16] s (codewordCounts s a1) := by
  unfold codewordCounts
  refine Only.foldl _ _ (fun t x => ?_) ?_
  refine Only.step (bumpBy_fam 49168 16 (by omega) (by decide) ..) rfl ?_
  refine Only.step (bumpBy_fam 49168 16 (by omega) (by decide) ..) rfl ?_
  exact Only.refl _ _
  exact Only.refl _ _

theorem execSegmentReceived_only a0 a1 a2 (s : State) : OutcomeOnly [.regs 49168 16, .regs 49184 16] s (execSegmentReceived a0 a1 a2 s) := by
  unfold execSegmentReceived
  dsimp only
  refine outcome_only ?_
  refine Only.ite ?_ ?_
  refine Only.step (codewordCounts_only ..) rfl ?_
  exact Only.refl _ _
  refine Only.step (bump_fam 49184 16 (by omega) (by decide) ..) rfl ?_
  refine Only.step (codewordCounts_only ..) rfl ?_
  exact Only.refl _ _

theorem pairUse_only (s : State) a1 : Only [.lane, .tick, .regs 8192 1, .irq, .out] s (pairUse s a1) := by
  unfold pairUse
  dsimp only
  refine Only.ite ?_ ?_
  refine Only.set_lane rfl ?_
  exact Only.refl _ _
  refine Only.step (edgeAt_only ..) rfl ?_
  refine Only.set_lane rfl ?_
  exact Only.refl _ _

theorem pairTake_only (s : State) : Only [.lane, .tick, .regs 8192 1, .irq, .out] s (pairTake s) := by
  unfold pairTake
  split
  refine Only.step (pairUse_only ..) rfl ?_
  exact Only.refl _ _
  exact Only.refl _ _

theorem markerPair_only (s : State) a1 a2 : Only [.lane, .tick, .regs 8192 1, .irq, .out] s (markerPair s a1 a2) := by
  unfold markerPair
  dsimp only
  split
  refine Only.ite ?_ ?_
  exact Only.refl _ _
  refine Only.ite ?_ ?_
  refine Only.set_lane rfl ?_
  exact Only.refl _ _
  refine Only.step (pairUse_only ..) rfl ?_
  refine Only.set_lane rfl ?_
  exact Only.refl _ _
  exact Only.refl _ _

theorem tickMarker_only (s : State) a1 a2 : Only [.lane, .tick, .regs 8192 1, .irq, .out] s (tickMarker s a1 a2) := by
  unfold tickMarker
  dsimp only
  refine Only.ite ?_ ?_
  exact Only.refl _ _
  refine Only.ite ?_ ?_
  refine Only.ite ?_ ?_
  refine Only.step (markerPair_only ..) rfl ?_
  exact Only.refl _ _
  exact Only.refl _ _
  refine Only.ite ?_ ?_
  refine Only.set_lane rfl ?_
  refine Only.step (setLink_only ..) rfl ?_
  exact Only.refl _ _
  refine Only.step (setLink_only ..) rfl ?_
  exact Only.refl _ _

theorem execTickMarker_only a0 a1 (s : State) : OutcomeOnly [.lane, .tick, .regs 8192 1, .irq, .out] s (execTickMarker a0 a1 s) := by
  unfold execTickMarker
  refine outcome_only ?_
  refine Only.step (tickMarker_only ..) rfl ?_
  exact Only.refl _ _

theorem execDstateItem_only a0 a1 (s : State) : OutcomeOnly [.rx] s (execDstateItem a0 a1 s) := by
  unfold execDstateItem
  dsimp only
  refine outcome_only ?_
  split
  refine Only.ite ?_ ?_
  refine Only.set_rx rfl ?_
  exact Only.refl _ _
  exact Only.refl _ _
  exact Only.refl _ _

theorem execDmaskItem_only a0 a1 (s : State) : OutcomeOnly [.rx] s (execDmaskItem a0 a1 s) := by
  unfold execDmaskItem
  dsimp only
  refine outcome_only ?_
  refine Only.ite ?_ ?_
  refine Only.set_rx rfl ?_
  exact Only.refl _ _
  exact Only.refl _ _

theorem lanesStart_only (s : State) : Only [.lane, .irq, .out] s (lanesStart s) := by
  unfold lanesStart
  dsimp only
  refine Only.step (laneEvent_only ..) rfl ?_
  refine Only.foldl _ _ (fun t x => ?_) ?_
  refine Only.ite ?_ ?_
  refine Only.step (setLane_only ..) rfl ?_
  exact Only.refl _ _
  exact Only.refl _ _
  exact Only.refl _ _

theorem linkEmpty_only (s : State) a1 : Only [.regs 49184 16, .lane] s (linkEmpty s a1) := by
  unfold linkEmpty
  refine Only.foldl _ _ (fun t x => ?_) ?_
  refine Only.foldl _ _ (fun t x => ?_) ?_
  refine Only.step (laneDrop_only ..) rfl ?_
  exact Only.refl _ _
  exact Only.refl _ _
  exact Only.refl _ _

theorem lanesOff_only (s : State) : Only [.regs 49184 16, .lane, .irq, .out] s (lanesOff s) := by
  unfold lanesOff
  dsimp only
  refine Only.step (laneEvent_only ..) rfl ?_
  refine Only.set_lane rfl ?_
  refine Only.foldl _ _ (fun t x => ?_) ?_
  refine Only.step (linkEmpty_only ..) rfl ?_
  exact Only.refl _ _
  refine Only.step (creditStalls_only ..) rfl ?_
  exact Only.refl _ _

theorem laneTick_only (s : State) a1 : Only [.free, .lane, .out] s (laneTick s a1) := by
  unfold laneTick
  dsimp only
  refine Only.ite ?_ ?_
  refine Only.step (eqStart_only ..) rfl ?_
  exact Only.refl _ _
  refine Only.ite ?_ ?_
  refine Only.step (setLane_only ..) rfl ?_
  refine Only.set_free rfl ?_
  exact Only.refl _ _
  exact Only.refl _ _

theorem lanesTick_only (s : State) : Only [.free, .lane, .out, .regs 49184 16, .irq, .tick, .regs 8192 1] s (lanesTick s) := by
  unfold lanesTick
  dsimp only
  refine Only.set_lane rfl ?_
  refine Only.step (pairTake_only ..) rfl ?_
  refine Only.step (laneEvent_only ..) rfl ?_
  refine Only.foldl _ _ (fun t x => ?_) ?_
  refine Only.step (laneTick_only ..) rfl ?_
  exact Only.refl _ _
  refine Only.step (creditStalls_only ..) rfl ?_
  exact Only.refl _ _

end Sys2Proof.Machine
end

