-- ==== Sys2Proof/Laws/FrameWeir.lean ====
section
/-! SUPPORT. Frames of the operations and commands of Machine/Weir.lean: one lemma per operation says what it changes at
most. -/

namespace Sys2Proof.Machine

theorem weirCharge_only (s : State) a1 a2 a3 : Only [.weir] s (weirCharge s a1 a2 a3) := by
  unfold weirCharge
  dsimp only
  refine Only.set_weir rfl ?_
  exact Only.refl _ _

theorem weirStart_only (s : State) : Only [.weir] s (weirStart s) := by
  unfold weirStart
  dsimp only
  refine Only.ite ?_ ?_
  refine Only.set_weir rfl ?_
  exact Only.refl _ _
  refine Only.set_weir rfl ?_
  exact Only.refl _ _

theorem execWeirHoldOffEnd_only (s : State) : OutcomeOnly [.weir] s (execWeirHoldOffEnd s) := by
  unfold execWeirHoldOffEnd
  dsimp only
  refine outcome_only ?_
  refine Only.ite ?_ ?_
  exact Only.refl _ _
  refine Only.set_weir rfl ?_
  exact Only.refl _ _

theorem weirRelease_only (s : State) a1 : Only [.weir] s (weirRelease s a1) := by
  unfold weirRelease
  dsimp only
  refine Only.set_weir rfl ?_
  exact Only.refl _ _

end Sys2Proof.Machine
end

