-- ==== Sys2Proof/Laws/FramePlan.lean ====
section
/-! SUPPORT. Frames of the operations and commands of Machine/Plan.lean: one lemma per operation says what it changes at
most. -/

namespace Sys2Proof.Machine

theorem reportAdmission_only (s : State) a1 a2 : Only [.regs 8449 1] s (reportAdmission s a1 a2) := by
  unfold reportAdmission
  dsimp only
  refine Only.step (odSetN_fam 8449 1 (by decide) (by decide) ..) rfl ?_
  refine Only.step (odSetN_fam 8449 1 (by decide) (by decide) ..) rfl ?_
  refine Only.step (odSetN_fam 8449 1 (by decide) (by decide) ..) rfl ?_
  refine Only.step (odSetN_fam 8449 1 (by decide) (by decide) ..) rfl ?_
  refine Only.step (odSetN_fam 8449 1 (by decide) (by decide) ..) rfl ?_
  refine Only.step (odSetN_fam 8449 1 (by decide) (by decide) ..) rfl ?_
  refine Only.step (odSetN_fam 8449 1 (by decide) (by decide) ..) rfl ?_
  exact Only.refl _ _

end Sys2Proof.Machine
end

