-- ==== Sys2Proof/Laws/FrameHeadwater.lean ====
section
/-! SUPPORT. Frames of the operations and commands of Machine/Headwater.lean: one lemma per operation says what it changes at
most. -/

namespace Sys2Proof.Machine

theorem setBank_only (s : State) a1 a2 : Only [.emit] s (setBank s a1 a2) := by
  unfold setBank
  dsimp only
  refine Only.set_emit rfl ?_
  exact Only.refl _ _

theorem setEmitter_only (s : State) a1 a2 : Only [.emit] s (setEmitter s a1 a2) := by
  unfold setEmitter
  dsimp only
  refine Only.set_emit rfl ?_
  exact Only.refl _ _

theorem closeFrame_only (s : State) : Only [.plan] s (closeFrame s) := by
  unfold closeFrame
  dsimp only
  split
  exact Only.refl _ _
  refine Only.set_plan rfl ?_
  exact Only.refl _ _

theorem planNext_only (s : State) a1 : Only [.plan] s (planNext s a1) := by
  unfold planNext
  dsimp only
  refine Only.ite ?_ ?_
  refine Only.step (closeFrame_only ..) rfl ?_
  refine Only.set_plan rfl ?_
  exact Only.refl _ _
  refine Only.set_plan rfl ?_
  exact Only.refl _ _

theorem planStep_only (s : State) : Only [.plan] s (planStep s) := by
  unfold planStep
  dsimp only
  split
  split
  refine Only.ite ?_ ?_
  refine Only.step (planNext_only ..) rfl ?_
  refine Only.set_plan rfl ?_
  refine Only.step (closeFrame_only ..) rfl ?_
  exact Only.refl _ _
  exact Only.refl _ _
  exact Only.refl _ _
  refine Only.ite ?_ ?_
  exact Only.refl _ _
  refine Only.ite ?_ ?_
  refine Only.set_plan rfl ?_
  refine Only.step (closeFrame_only ..) rfl ?_
  exact Only.refl _ _
  split
  refine Only.ite ?_ ?_
  refine Only.step (planNext_only ..) rfl ?_
  refine Only.set_plan rfl ?_
  refine Only.step (closeFrame_only ..) rfl ?_
  exact Only.refl _ _
  refine Only.step (planNext_only ..) rfl ?_
  exact Only.refl _ _
  refine Only.step (planNext_only ..) rfl ?_
  exact Only.refl _ _

theorem updCol_only (s : State) a1 a2 : Only [.plan] s (updCol s a1 a2) := by
  unfold updCol
  dsimp only
  refine Only.set_plan rfl ?_
  exact Only.refl _ _

theorem cutFrom_only (s : State) a1 a2 a3 : Only [.plan, .weir] s (cutFrom s a1 a2 a3) := by
  unfold cutFrom
  refine Only.step (weirRelease_only ..) rfl ?_
  refine Only.step (updCol_only ..) rfl ?_
  exact Only.refl _ _

theorem preCheckShot_only (s : State) a1 a2 a3 a4 : Only [.weir, .regs 16424 1, .plan] s (preCheckShot s a1 a2 a3 a4) := by
  unfold preCheckShot
  dsimp only
  refine Only.ite ?_ ?_
  refine Only.ite ?_ ?_
  exact Only.refl _ _
  refine Only.set_weir rfl ?_
  exact Only.refl _ _
  refine Only.step (cutFrom_only ..) rfl ?_
  refine Only.step (bump_fam 16424 1 (by decide) (by decide) ..) rfl ?_
  exact Only.refl _ _

theorem preCheck_only (s : State) a1 : Only [.weir, .regs 16424 1, .plan] s (preCheck s a1) := by
  unfold preCheck
  refine Only.foldl _ _ (fun t x => ?_) ?_
  refine Only.foldl _ _ (fun t x => ?_) ?_
  refine Only.step (preCheckShot_only ..) rfl ?_
  exact Only.refl _ _
  exact Only.refl _ _
  exact Only.refl _ _

theorem frameEnds_only (s : State) : Only [.regs 8480 1, .plan] s (frameEnds s) := by
  unfold frameEnds
  dsimp only
  refine Only.set_plan rfl ?_
  refine Only.foldl _ _ (fun t x => ?_) ?_
  refine Only.step (odSetN_fam 8480 1 (by decide) (by decide) ..) rfl ?_
  refine Only.step (odSetN_fam 8480 1 (by decide) (by decide) ..) rfl ?_
  refine Only.step (odSetN_fam 8480 1 (by decide) (by decide) ..) rfl ?_
  exact Only.refl _ _
  exact Only.refl _ _

theorem countEmpty_only (s : State) a1 : Only [.regs 8192 1] s (countEmpty s a1) := by
  unfold countEmpty
  refine Only.foldl _ _ (fun t x => ?_) ?_
  refine Only.ite ?_ ?_
  refine Only.step (bump_fam 8192 1 (by decide) (by decide) ..) rfl ?_
  exact Only.refl _ _
  exact Only.refl _ _
  exact Only.refl _ _

theorem columnEnds_only (s : State) : Only [.regs 8192 1, .plan] s (columnEnds s) := by
  unfold columnEnds
  dsimp only
  refine Only.set_plan rfl ?_
  refine Only.step (countEmpty_only ..) rfl ?_
  exact Only.refl _ _

theorem logColumn_only (s : State) a1 : Only [.points] s (logColumn s a1) := by
  unfold logColumn
  dsimp only
  refine Only.set_points rfl ?_
  exact Only.refl _ _

theorem columnTime_only (s : State) : Only [.plan, .points] s (columnTime s) := by
  unfold columnTime
  dsimp only
  split
  exact Only.refl _ _
  split
  refine Only.ite ?_ ?_
  refine Only.step (logColumn_only ..) rfl ?_
  refine Only.step (updCol_only ..) rfl ?_
  exact Only.refl _ _
  refine Only.step (updCol_only ..) rfl ?_
  exact Only.refl _ _
  refine Only.step (updCol_only ..) rfl ?_
  exact Only.refl _ _

theorem columnLatch_only (s : State) : Only [.plan, .points] s (columnLatch s) := by
  unfold columnLatch
  dsimp only
  split
  exact Only.refl _ _
  split
  refine Only.ite ?_ ?_
  refine Only.step (logColumn_only ..) rfl ?_
  refine Only.step (updCol_only ..) rfl ?_
  exact Only.refl _ _
  refine Only.step (updCol_only ..) rfl ?_
  exact Only.refl _ _
  refine Only.step (updCol_only ..) rfl ?_
  exact Only.refl _ _

theorem planTick_only (s : State) : Only [.weir, .regs 16424 1, .plan, .regs 8480 1, .regs 8192 1, .points] s (planTick s) := by
  unfold planTick
  dsimp only
  split
  refine Only.set_plan rfl ?_
  refine Only.step (columnTime_only ..) rfl ?_
  refine Only.set_plan rfl ?_
  refine Only.foldl _ _ (fun t x => ?_) ?_
  refine Only.step (preCheck_only ..) rfl ?_
  exact Only.refl _ _
  refine Only.step (planStep_only ..) rfl ?_
  refine Only.step (columnEnds_only ..) rfl ?_
  refine Only.step (frameEnds_only ..) rfl ?_
  exact Only.refl _ _
  refine Only.step (columnTime_only ..) rfl ?_
  refine Only.set_plan rfl ?_
  refine Only.foldl _ _ (fun t x => ?_) ?_
  refine Only.step (preCheck_only ..) rfl ?_
  exact Only.refl _ _
  refine Only.step (planStep_only ..) rfl ?_
  refine Only.step (columnEnds_only ..) rfl ?_
  refine Only.step (frameEnds_only ..) rfl ?_
  exact Only.refl _ _

theorem lateStages_only (s : State) a1 : Only [.weir, .regs 16424 1, .plan] s (lateStages s a1) := by
  unfold lateStages
  dsimp only
  refine Only.set_plan rfl ?_
  refine Only.ite ?_ ?_
  refine Only.foldl _ _ (fun t x => ?_) ?_
  refine Only.step (preCheck_only ..) rfl ?_
  exact Only.refl _ _
  exact Only.refl _ _
  exact Only.refl _ _

theorem catchUp_only (n : Nat) (s : State) : Only [.weir, .regs 16424 1, .plan] s (catchUp n s) := by
  induction n generalizing s with
  | zero => exact Only.refl _ _
  | succ n ih =>
    unfold catchUp
    split
    · split
      · exact Only.step (ih _) rfl (Only.step (lateStages_only ..) rfl (Only.step (planNext_only ..) rfl (Only.refl _ _)))
      · exact Only.refl _ _
    · exact Only.refl _ _

theorem takeBack_only (s : State) : Only [.regs 8450 1, .emit, .weir, .plan, .regs 16424 1] s (takeBack s) := by
  unfold takeBack
  dsimp only
  split
  exact Only.refl _ _
  refine Only.ite ?_ ?_
  exact Only.refl _ _
  refine Only.step (catchUp_only ..) rfl ?_
  refine Only.set_emit_weir_plan rfl ?_
  refine Only.step (bump_fam 8450 1 (by decide) (by decide) ..) rfl ?_
  exact Only.refl _ _

theorem dropPending_only (s : State) : Only [.regs 8450 1, .plan, .emit, .weir, .regs 16424 1] s (dropPending s) := by
  unfold dropPending
  dsimp only
  refine Only.step (takeBack_only ..) rfl ?_
  refine Only.set_plan rfl ?_
  refine Only.ite ?_ ?_
  refine Only.step (bump_fam 8450 1 (by decide) (by decide) ..) rfl ?_
  exact Only.refl _ _
  exact Only.refl _ _

theorem planLatch_only (s : State) : Only [.plan] s (planLatch s) := by
  unfold planLatch
  dsimp only
  refine Only.set_plan rfl ?_
  exact Only.refl _ _

theorem freeEmitter_only (s : State) a1 a2 : Only [.plan, .weir, .regs 8480 1] s (freeEmitter s a1 a2) := by
  unfold freeEmitter
  dsimp only
  refine Only.ite ?_ ?_
  exact Only.refl _ _
  split
  refine Only.ite ?_ ?_
  refine Only.step (updCol_only ..) rfl ?_
  refine Only.step (updCol_only ..) rfl ?_
  refine Only.step (cutFrom_only ..) rfl ?_
  exact Only.refl _ _
  refine Only.step (bumpBy_fam 8480 1 (by decide) (by decide) ..) rfl ?_
  refine Only.step (updCol_only ..) rfl ?_
  refine Only.step (cutFrom_only ..) rfl ?_
  exact Only.refl _ _
  refine Only.step (bumpBy_fam 8480 1 (by decide) (by decide) ..) rfl ?_
  refine Only.step (updCol_only ..) rfl ?_
  refine Only.step (cutFrom_only ..) rfl ?_
  exact Only.refl _ _

theorem freeShots_only (s : State) : Only [.plan, .weir, .regs 8480 1] s (freeShots s) := by
  unfold freeShots
  split
  exact Only.refl _ _
  refine Only.foldl _ _ (fun t x => ?_) ?_
  refine Only.step (freeEmitter_only ..) rfl ?_
  exact Only.refl _ _
  exact Only.refl _ _

theorem startAdmission_only (s : State) a1 a2 a3 : Only [.plan] s (startAdmission s a1 a2 a3) := by
  unfold startAdmission
  dsimp only
  refine Only.set_plan rfl ?_
  exact Only.refl _ _

theorem planHook_only a0 : HookOnly [.regs 8449 1, .regs 8450 1, .plan, .sessions, .odx] (planHook a0) := by
  intro s v
  unfold planHook
  dsimp only
  refine ⟨?_, ?_⟩
  exact GateOnly.none _ _
  split
  refine VerdictOnly.abort ?_
  refine Only.step (bump_fam 8450 1 (by decide) (by decide) ..) rfl ?_
  refine Only.step (reportAdmission_only ..) rfl ?_
  refine Only.step (odSetN_fam 8449 1 (by decide) (by decide) ..) rfl ?_
  exact Only.refl _ _
  refine VerdictOnly.later ?_
  refine Only.set_sessions_odx rfl ?_
  refine Only.step (startAdmission_only ..) rfl ?_
  exact Only.refl _ _

theorem execPlanWrite_only a0 a1 (s : State) : OutcomeOnly [.sessions, .out, .mbox, .irq, .regs 8449 1, .regs 8450 1, .plan, .odx] s (execPlanWrite a0 a1 s) := by
  unfold execPlanWrite
  refine outcome_only ?_
  refine requestWrite_only (planHook_only _) rfl rfl (by first | rfl | (unfold axisIx; cases a1 <;> rfl) | (simp [loopFreeObject]; omega)) ?_
  exact Only.refl _ _

theorem startUpNext_only (s : State) : Only [.odx, .plan] s (startUpNext s) := by
  unfold startUpNext
  dsimp only
  refine Only.ite ?_ ?_
  refine Only.step (startAdmission_only ..) rfl ?_
  refine Only.set_odx rfl ?_
  exact Only.refl _ _
  exact Only.refl _ _

theorem admissionEnd_only (s : State) : Only [.plan, .regs 8449 1, .irq, .out, .regs 8450 1, .odx, .mbox, .sessions, .emit, .weir, .regs 16424 1] s (admissionEnd s) := by
  unfold admissionEnd
  dsimp only
  split
  exact Only.refl _ _
  split
  refine Only.step (startUpNext_only ..) rfl ?_
  refine Only.ite ?_ ?_
  refine Only.step (longAnswer_only ..) rfl ?_
  refine Only.step (bump_fam 8450 1 (by decide) (by decide) ..) rfl ?_
  refine Only.step (reportAdmission_only ..) rfl ?_
  refine Only.step (setInt_only ..) rfl ?_
  refine Only.step (odSetN_fam 8449 1 (by decide) (by decide) ..) rfl ?_
  refine Only.set_plan rfl ?_
  exact Only.refl _ _
  refine Only.step (bump_fam 8450 1 (by decide) (by decide) ..) rfl ?_
  refine Only.step (reportAdmission_only ..) rfl ?_
  refine Only.step (setInt_only ..) rfl ?_
  refine Only.step (odSetN_fam 8449 1 (by decide) (by decide) ..) rfl ?_
  refine Only.set_plan rfl ?_
  exact Only.refl _ _
  refine Only.step (startUpNext_only ..) rfl ?_
  refine Only.ite ?_ ?_
  refine Only.step (longAnswer_only ..) rfl ?_
  refine Only.ite ?_ ?_
  refine Only.step (bump_fam 8450 1 (by decide) (by decide) ..) rfl ?_
  refine Only.step (reportAdmission_only ..) rfl ?_
  refine Only.step (setInt_only ..) rfl ?_
  refine Only.step (odSetN_fam 8449 1 (by decide) (by decide) ..) rfl ?_
  refine Only.set_plan rfl ?_
  exact Only.refl _ _
  refine Only.set_plan rfl ?_
  refine Only.step (dropPending_only ..) rfl ?_
  refine Only.step (bump_fam 8450 1 (by decide) (by decide) ..) rfl ?_
  refine Only.step (reportAdmission_only ..) rfl ?_
  refine Only.step (setInt_only ..) rfl ?_
  refine Only.step (odSetN_fam 8449 1 (by decide) (by decide) ..) rfl ?_
  refine Only.set_plan rfl ?_
  exact Only.refl _ _
  refine Only.ite ?_ ?_
  refine Only.step (bump_fam 8450 1 (by decide) (by decide) ..) rfl ?_
  refine Only.step (reportAdmission_only ..) rfl ?_
  refine Only.step (setInt_only ..) rfl ?_
  refine Only.step (odSetN_fam 8449 1 (by decide) (by decide) ..) rfl ?_
  refine Only.set_plan rfl ?_
  exact Only.refl _ _
  refine Only.set_plan rfl ?_
  refine Only.step (dropPending_only ..) rfl ?_
  refine Only.step (bump_fam 8450 1 (by decide) (by decide) ..) rfl ?_
  refine Only.step (reportAdmission_only ..) rfl ?_
  refine Only.step (setInt_only ..) rfl ?_
  refine Only.step (odSetN_fam 8449 1 (by decide) (by decide) ..) rfl ?_
  refine Only.set_plan rfl ?_
  exact Only.refl _ _

theorem execAdmissionEnd_only (s : State) : OutcomeOnly [.plan, .regs 8449 1, .irq, .out, .regs 8450 1, .odx, .mbox, .sessions, .emit, .weir, .regs 16424 1] s (execAdmissionEnd s) := by
  unfold execAdmissionEnd
  refine outcome_only ?_
  refine Only.step (admissionEnd_only ..) rfl ?_
  exact Only.refl _ _

theorem planSwitch_only (s : State) : Only [.odx, .plan, .irq, .out] s (planSwitch s) := by
  unfold planSwitch
  dsimp only
  split
  refine Only.ite ?_ ?_
  refine Only.step (setInt_only ..) rfl ?_
  refine Only.set_plan rfl ?_
  refine Only.ite ?_ ?_
  refine Only.set_odx rfl ?_
  exact Only.refl _ _
  exact Only.refl _ _
  exact Only.refl _ _
  exact Only.refl _ _

theorem execPlanSwitch_only (s : State) : OutcomeOnly [.odx, .plan, .irq, .out] s (execPlanSwitch s) := by
  unfold execPlanSwitch
  refine outcome_only ?_
  refine Only.step (planSwitch_only ..) rfl ?_
  exact Only.refl _ _

theorem stopHook_only  : HookOnly [.regs 8450 1, .plan, .emit, .weir, .regs 16424 1] (stopHook ) := by
  intro s v
  unfold stopHook
  dsimp only
  refine ⟨?_, ?_⟩
  exact GateOnly.none _ _
  split
  refine VerdictOnly.done ?_
  exact Only.refl _ _
  refine VerdictOnly.done ?_
  refine Only.set_plan rfl ?_
  refine Only.step (dropPending_only ..) rfl ?_
  exact Only.refl _ _

theorem execStopRunningPlan_only a0 (s : State) : OutcomeOnly [.sessions, .out, .mbox, .irq, .regs 8450 1, .plan, .emit, .weir, .regs 16424 1] s (execStopRunningPlan a0 s) := by
  unfold execStopRunningPlan
  refine outcome_only ?_
  refine requestWrite_only (stopHook_only) rfl rfl (by first | rfl | (unfold axisIx; cases a1 <;> rfl) | (simp [loopFreeObject]; omega)) ?_
  exact Only.refl _ _

theorem execPlanStopEffect_only (s : State) : OutcomeOnly [.plan, .irq, .out] s (execPlanStopEffect s) := by
  unfold execPlanStopEffect
  dsimp only
  refine outcome_only ?_
  split
  refine Only.ite ?_ ?_
  refine Only.step (setInt_only ..) rfl ?_
  refine Only.set_plan rfl ?_
  exact Only.refl _ _
  exact Only.refl _ _
  exact Only.refl _ _

theorem speedHook_only a0 : HookOnly [.regs 8464 1, .plan] (speedHook a0) := by
  intro s v
  unfold speedHook
  dsimp only
  refine ⟨?_, ?_⟩
  exact GateOnly.none _ _
  refine VerdictOnly.done ?_
  refine Only.set_plan rfl ?_
  refine Only.step (odSet_fam 8464 1 (by decide) (by omega) ..) rfl ?_
  exact Only.refl _ _

theorem execVehicleSpeedWrite_only a0 a1 a2 (s : State) : OutcomeOnly [.sessions, .out, .mbox, .irq, .regs 8464 1, .plan] s (execVehicleSpeedWrite a0 a1 a2 s) := by
  unfold execVehicleSpeedWrite
  refine outcome_only ?_
  refine requestWrite_only (speedHook_only _) rfl rfl (by first | rfl | (unfold axisIx; cases a1 <;> rfl) | (simp [loopFreeObject]; omega)) ?_
  exact Only.refl _ _

theorem execSpeedTimeout_only (s : State) : OutcomeOnly [.plan] s (execSpeedTimeout s) := by
  unfold execSpeedTimeout
  dsimp only
  refine outcome_only ?_
  split
  refine Only.ite ?_ ?_
  refine Only.set_plan rfl ?_
  exact Only.refl _ _
  exact Only.refl _ _
  exact Only.refl _ _

theorem planSuspend_only (s : State) : Only [.plan, .regs 8192 1, .weir] s (planSuspend s) := by
  unfold planSuspend
  dsimp only
  refine Only.set_weir_plan rfl ?_
  refine Only.step (countEmpty_only ..) rfl ?_
  refine Only.step (closeFrame_only ..) rfl ?_
  exact Only.refl _ _

theorem planResume_only (s : State) : Only [.plan] s (planResume s) := by
  unfold planResume
  dsimp only
  split
  refine Only.set_plan rfl ?_
  exact Only.refl _ _
  exact Only.refl _ _

end Sys2Proof.Machine
end

