-- ==== Sys2Proof/Laws/FrameHk.lean ====
section
/-! SUPPORT. Frames of the operations and commands of Machine/Hk.lean: one lemma per operation says what it changes at
most. -/

namespace Sys2Proof.Machine

theorem hkBegin_only (s : State) a1 a2 a3 a4 : Only [.hk] s (hkBegin s a1 a2 a3 a4) := by
  unfold hkBegin
  dsimp only
  refine Only.set_hk rfl ?_
  exact Only.refl _ _

theorem hkNext_only (s : State) : Only [.hk, .regs 45120 1] s (hkNext s) := by
  unfold hkNext
  dsimp only
  refine Only.ite ?_ ?_
  refine Only.set_hk rfl ?_
  exact Only.refl _ _
  split
  refine Only.step (hkBegin_only ..) rfl ?_
  refine Only.set_hk rfl ?_
  exact Only.refl _ _
  split
  refine Only.step (hkBegin_only ..) rfl ?_
  refine Only.set_hk rfl ?_
  refine Only.ite ?_ ?_
  refine Only.step (bump_fam 45120 1 (by decide) (by decide) ..) rfl ?_
  refine Only.set_hk rfl ?_
  exact Only.refl _ _
  refine Only.set_hk rfl ?_
  exact Only.refl _ _
  split
  refine Only.step (hkBegin_only ..) rfl ?_
  refine Only.set_hk rfl ?_
  exact Only.refl _ _
  refine Only.set_hk rfl ?_
  exact Only.refl _ _

theorem hkAbort_only (s : State) a1 : Only [.hk, .regs 45120 1] s (hkAbort s a1) := by
  unfold hkAbort
  dsimp only
  split
  exact Only.refl _ _
  refine Only.step (bump_fam 45120 1 (by decide) (by decide) ..) rfl ?_
  refine Only.set_hk rfl ?_
  exact Only.refl _ _

theorem hkGroup_only (s : State) a1 a2 : Only [.hk, .regs 45120 1] s (hkGroup s a1 a2) := by
  unfold hkGroup
  dsimp only
  split
  refine Only.step (hkNext_only ..) rfl ?_
  refine Only.set_hk rfl ?_
  exact Only.refl _ _
  refine Only.ite ?_ ?_
  refine Only.step (hkNext_only ..) rfl ?_
  refine Only.step (hkAbort_only ..) rfl ?_
  refine Only.set_hk rfl ?_
  exact Only.refl _ _
  refine Only.set_hk rfl ?_
  exact Only.refl _ _

theorem hkCheck_only (s : State) a1 : Only [.regs 45120 1, .hk] s (hkCheck s a1) := by
  unfold hkCheck
  dsimp only
  refine Only.ite ?_ ?_
  refine Only.step (bump_fam 45120 1 (by decide) (by decide) ..) rfl ?_
  exact Only.refl _ _
  split
  refine Only.step (hkNext_only ..) rfl ?_
  refine Only.set_hk rfl ?_
  exact Only.refl _ _
  refine Only.ite ?_ ?_
  refine Only.set_hk rfl ?_
  exact Only.refl _ _
  split
  refine Only.ite ?_ ?_
  refine Only.step (hkNext_only ..) rfl ?_
  refine Only.set_hk rfl ?_
  refine Only.step (hkAbort_only ..) rfl ?_
  refine Only.set_hk rfl ?_
  exact Only.refl _ _
  refine Only.step (hkNext_only ..) rfl ?_
  refine Only.step (hkAbort_only ..) rfl ?_
  refine Only.set_hk rfl ?_
  exact Only.refl _ _
  refine Only.step (hkNext_only ..) rfl ?_
  refine Only.step (hkAbort_only ..) rfl ?_
  refine Only.set_hk rfl ?_
  exact Only.refl _ _

theorem dataResult_only (s : State) a1 a2 a3 a4 a5 a6 : Only [.regs 45120 1, .hk] s (dataResult s a1 a2 a3 a4 a5 a6) := by
  unfold dataResult
  dsimp only
  refine Only.set_hk rfl ?_
  refine Only.ite ?_ ?_
  refine Only.step (bump_fam 45120 1 (by decide) (by decide) ..) rfl ?_
  exact Only.refl _ _
  exact Only.refl _ _

theorem checkResult_only (s : State) a1 a2 a3 : Only [.hk, .regs 45120 1, .irq, .out, .regs 32769 1, .fm, .isl, .emit, .regs 16384 1, .pwr] s (checkResult s a1 a2 a3) := by
  unfold checkResult
  dsimp only
  refine Only.ite ?_ ?_
  refine Only.ite ?_ ?_
  refine Only.step (reportFault_only ..) rfl ?_
  refine Only.set_hk rfl ?_
  refine Only.step (bump_fam 45120 1 (by decide) (by decide) ..) rfl ?_
  refine Only.set_hk rfl ?_
  exact Only.refl _ _
  refine Only.step (bump_fam 45120 1 (by decide) (by decide) ..) rfl ?_
  refine Only.set_hk rfl ?_
  exact Only.refl _ _
  refine Only.set_hk rfl ?_
  exact Only.refl _ _

theorem hkResult_only (s : State) a1 a2 a3 : Only [.acq, .hk, .regs 45120 1, .pwr, .irq, .out, .regs 32769 1, .fm, .isl, .emit, .regs 16384 1] s (hkResult s a1 a2 a3).1 := by
  unfold hkResult
  dsimp only
  split
  try dsimp only
  refine Only.ite ?_ ?_
  refine Only.step (dataResult_only ..) rfl ?_
  refine Only.ite ?_ ?_
  refine Only.set_pwr rfl ?_
  refine Only.ite ?_ ?_
  refine Only.step (bump_fam 45120 1 (by decide) (by decide) ..) rfl ?_
  refine Only.step (bump_fam 45120 1 (by decide) (by decide) ..) rfl ?_
  refine Only.set_acq_hk rfl ?_
  exact Only.refl _ _
  refine Only.step (bump_fam 45120 1 (by decide) (by decide) ..) rfl ?_
  refine Only.set_acq_hk rfl ?_
  exact Only.refl _ _
  refine Only.ite ?_ ?_
  refine Only.step (bump_fam 45120 1 (by decide) (by decide) ..) rfl ?_
  refine Only.step (bump_fam 45120 1 (by decide) (by decide) ..) rfl ?_
  refine Only.set_acq_hk rfl ?_
  exact Only.refl _ _
  refine Only.step (bump_fam 45120 1 (by decide) (by decide) ..) rfl ?_
  refine Only.set_acq_hk rfl ?_
  exact Only.refl _ _
  refine Only.ite ?_ ?_
  refine Only.set_pwr rfl ?_
  refine Only.ite ?_ ?_
  refine Only.step (bump_fam 45120 1 (by decide) (by decide) ..) rfl ?_
  refine Only.step (bump_fam 45120 1 (by decide) (by decide) ..) rfl ?_
  refine Only.set_acq_hk rfl ?_
  exact Only.refl _ _
  refine Only.step (bump_fam 45120 1 (by decide) (by decide) ..) rfl ?_
  refine Only.set_acq_hk rfl ?_
  exact Only.refl _ _
  refine Only.ite ?_ ?_
  refine Only.step (bump_fam 45120 1 (by decide) (by decide) ..) rfl ?_
  refine Only.step (bump_fam 45120 1 (by decide) (by decide) ..) rfl ?_
  refine Only.set_acq_hk rfl ?_
  exact Only.refl _ _
  refine Only.step (bump_fam 45120 1 (by decide) (by decide) ..) rfl ?_
  refine Only.set_acq_hk rfl ?_
  exact Only.refl _ _
  split
  split
  try dsimp only
  refine Only.step (dataResult_only ..) rfl ?_
  refine Only.set_hk rfl ?_
  refine Only.ite ?_ ?_
  refine Only.set_pwr rfl ?_
  refine Only.ite ?_ ?_
  refine Only.step (bump_fam 45120 1 (by decide) (by decide) ..) rfl ?_
  refine Only.step (bump_fam 45120 1 (by decide) (by decide) ..) rfl ?_
  refine Only.set_acq_hk rfl ?_
  exact Only.refl _ _
  refine Only.step (bump_fam 45120 1 (by decide) (by decide) ..) rfl ?_
  refine Only.set_acq_hk rfl ?_
  exact Only.refl _ _
  refine Only.ite ?_ ?_
  refine Only.step (bump_fam 45120 1 (by decide) (by decide) ..) rfl ?_
  refine Only.step (bump_fam 45120 1 (by decide) (by decide) ..) rfl ?_
  refine Only.set_acq_hk rfl ?_
  exact Only.refl _ _
  refine Only.step (bump_fam 45120 1 (by decide) (by decide) ..) rfl ?_
  refine Only.set_acq_hk rfl ?_
  exact Only.refl _ _
  try dsimp only
  refine Only.set_hk rfl ?_
  refine Only.ite ?_ ?_
  refine Only.set_pwr rfl ?_
  refine Only.ite ?_ ?_
  refine Only.step (bump_fam 45120 1 (by decide) (by decide) ..) rfl ?_
  refine Only.step (bump_fam 45120 1 (by decide) (by decide) ..) rfl ?_
  refine Only.set_acq_hk rfl ?_
  exact Only.refl _ _
  refine Only.step (bump_fam 45120 1 (by decide) (by decide) ..) rfl ?_
  refine Only.set_acq_hk rfl ?_
  exact Only.refl _ _
  refine Only.ite ?_ ?_
  refine Only.step (bump_fam 45120 1 (by decide) (by decide) ..) rfl ?_
  refine Only.step (bump_fam 45120 1 (by decide) (by decide) ..) rfl ?_
  refine Only.set_acq_hk rfl ?_
  exact Only.refl _ _
  refine Only.step (bump_fam 45120 1 (by decide) (by decide) ..) rfl ?_
  refine Only.set_acq_hk rfl ?_
  exact Only.refl _ _
  try dsimp only
  refine Only.ite ?_ ?_
  refine Only.set_pwr rfl ?_
  refine Only.ite ?_ ?_
  refine Only.step (bump_fam 45120 1 (by decide) (by decide) ..) rfl ?_
  refine Only.step (bump_fam 45120 1 (by decide) (by decide) ..) rfl ?_
  refine Only.set_acq_hk rfl ?_
  exact Only.refl _ _
  refine Only.step (bump_fam 45120 1 (by decide) (by decide) ..) rfl ?_
  refine Only.set_acq_hk rfl ?_
  exact Only.refl _ _
  refine Only.ite ?_ ?_
  refine Only.step (bump_fam 45120 1 (by decide) (by decide) ..) rfl ?_
  refine Only.step (bump_fam 45120 1 (by decide) (by decide) ..) rfl ?_
  refine Only.set_acq_hk rfl ?_
  exact Only.refl _ _
  refine Only.step (bump_fam 45120 1 (by decide) (by decide) ..) rfl ?_
  refine Only.set_acq_hk rfl ?_
  exact Only.refl _ _
  try dsimp only
  refine Only.step (checkResult_only ..) rfl ?_
  refine Only.ite ?_ ?_
  refine Only.set_pwr rfl ?_
  refine Only.ite ?_ ?_
  refine Only.step (bump_fam 45120 1 (by decide) (by decide) ..) rfl ?_
  refine Only.step (bump_fam 45120 1 (by decide) (by decide) ..) rfl ?_
  refine Only.set_acq_hk rfl ?_
  exact Only.refl _ _
  refine Only.step (bump_fam 45120 1 (by decide) (by decide) ..) rfl ?_
  refine Only.set_acq_hk rfl ?_
  exact Only.refl _ _
  refine Only.ite ?_ ?_
  refine Only.step (bump_fam 45120 1 (by decide) (by decide) ..) rfl ?_
  refine Only.step (bump_fam 45120 1 (by decide) (by decide) ..) rfl ?_
  refine Only.set_acq_hk rfl ?_
  exact Only.refl _ _
  refine Only.step (bump_fam 45120 1 (by decide) (by decide) ..) rfl ?_
  refine Only.set_acq_hk rfl ?_
  exact Only.refl _ _

theorem hkComplete_only (s : State) a1 a2 : Only [.regs 45120 1, .hk, .acq, .pwr, .irq, .out, .regs 32769 1, .fm, .isl, .emit, .regs 16384 1] s (hkComplete s a1 a2).1 := by
  unfold hkComplete
  dsimp only
  split
  try dsimp only
  exact Only.refl _ _
  split
  try dsimp only
  refine Only.set_hk rfl ?_
  refine Only.step (bump_fam 45120 1 (by decide) (by decide) ..) rfl ?_
  exact Only.refl _ _
  try dsimp only
  refine Only.step (hkNext_only ..) rfl ?_
  refine Only.step (hkResult_only ..) rfl ?_
  exact Only.refl _ _

theorem hkTick_only (s : State) : Only [.hk, .regs 45120 1] s (hkTick s) := by
  unfold hkTick
  dsimp only
  split
  exact Only.refl _ _
  refine Only.ite ?_ ?_
  refine Only.step (hkNext_only ..) rfl ?_
  refine Only.set_hk rfl ?_
  exact Only.refl _ _
  exact Only.refl _ _
  refine Only.ite ?_ ?_
  refine Only.step (hkNext_only ..) rfl ?_
  refine Only.set_hk rfl ?_
  refine Only.ite ?_ ?_
  exact Only.refl _ _
  refine Only.step (bumpBy_fam 45120 1 (by decide) (by decide) ..) rfl ?_
  exact Only.refl _ _
  refine Only.set_hk rfl ?_
  refine Only.ite ?_ ?_
  exact Only.refl _ _
  refine Only.step (bumpBy_fam 45120 1 (by decide) (by decide) ..) rfl ?_
  exact Only.refl _ _

theorem hkStart_only (s : State) a1 : Only [.regs 45072 1, .regs 45073 1, .hk] s (hkStart s a1) := by
  unfold hkStart
  dsimp only
  refine Only.set_hk rfl ?_
  refine Only.foldl _ _ (fun t x => ?_) ?_
  refine Only.step (usePersisted_fam 45073 1 (by decide) (by omega) ..) rfl ?_
  refine Only.step (usePersisted_fam 45072 1 (by decide) (by omega) ..) rfl ?_
  exact Only.refl _ _
  exact Only.refl _ _

theorem hkStop_only (s : State) : Only [.emit, .hk] s (hkStop s) := by
  unfold hkStop
  dsimp only
  refine Only.set_emit_hk rfl ?_
  exact Only.refl _ _

theorem hostTriggerHook_only  : HookOnly [.regs 45120 1, .hk] (hostTriggerHook ) := by
  intro s v
  unfold hostTriggerHook
  dsimp only
  refine ⟨?_, ?_⟩
  split
  refine GateOnly.some ?_
  refine Only.step (bump_fam 45120 1 (by decide) (by decide) ..) rfl ?_
  exact Only.refl _ _
  exact GateOnly.none _ _
  refine VerdictOnly.done ?_
  refine Only.ite ?_ ?_
  refine Only.step (hkGroup_only ..) rfl ?_
  exact Only.refl _ _
  exact Only.refl _ _

theorem execHostGroupTrigger_only a0 (s : State) : OutcomeOnly [.sessions, .out, .mbox, .irq, .regs 45120 1, .hk] s (execHostGroupTrigger a0 s) := by
  unfold execHostGroupTrigger
  refine outcome_only ?_
  refine requestWrite_only (hostTriggerHook_only) rfl rfl (by first | rfl | (unfold axisIx; cases a1 <;> rfl) | (simp [loopFreeObject]; omega)) ?_
  exact Only.refl _ _

theorem execConverterCheck_only a0 (s : State) : OutcomeOnly [.regs 45120 1, .hk] s (execConverterCheck a0 s) := by
  unfold execConverterCheck
  dsimp only
  refine outcome_only ?_
  refine Only.ite ?_ ?_
  refine Only.set_hk rfl ?_
  refine Only.step (hkCheck_only ..) rfl ?_
  exact Only.refl _ _
  exact Only.refl _ _

theorem readHkData_only (s : State) : Only [.hk] s (readHkData s).2 := by
  unfold readHkData
  dsimp only
  try dsimp only
  refine Only.set_hk rfl ?_
  exact Only.refl _ _

theorem afterRead_only (s : State) a1 a2 : Only [.hk, .free] s (afterRead s a1 a2) := by
  unfold afterRead
  refine Only.ite ?_ ?_
  refine Only.step (readHkData_only ..) rfl ?_
  exact Only.refl _ _
  refine Only.ite ?_ ?_
  refine Only.set_free rfl ?_
  exact Only.refl _ _
  exact Only.refl _ _

theorem execHkDataRegisterRead_only (s : State) : OutcomeOnly [.hk, .out] s (execHkDataRegisterRead s) := by
  unfold execHkDataRegisterRead
  dsimp only
  refine outcome_only ?_
  refine Only.step (send_only ..) rfl ?_
  refine Only.step (readHkData_only ..) rfl ?_
  exact Only.refl _ _

end Sys2Proof.Machine
end

