-- ==== Sys2Proof/Laws/FrameEmitter.lean ====
section
/-! SUPPORT. Frames of the operations and commands of Machine/Emitter.lean: one lemma per operation says what it changes at
most. -/

namespace Sys2Proof.Machine

theorem emitRequest_only (s : State) : Only [.emit] s (emitRequest s).1 := by
  unfold emitRequest
  dsimp only
  split
  split
  try dsimp only
  refine Only.set_emit rfl ?_
  exact Only.refl _ _
  try dsimp only
  exact Only.refl _ _
  try dsimp only
  refine Only.set_emit rfl ?_
  exact Only.refl _ _
  try dsimp only
  refine Only.set_emit rfl ?_
  exact Only.refl _ _
  try dsimp only
  refine Only.set_emit rfl ?_
  exact Only.refl _ _
  split
  try dsimp only
  refine Only.set_emit rfl ?_
  exact Only.refl _ _
  try dsimp only
  refine Only.set_emit rfl ?_
  exact Only.refl _ _
  try dsimp only
  refine Only.set_emit rfl ?_
  exact Only.refl _ _

theorem emitFades_only (s : State) : Only [.emit, .pwr] s (emitFades s) := by
  unfold emitFades
  dsimp only
  split
  refine Only.ite ?_ ?_
  refine Only.set_emit rfl ?_
  refine Only.foldl _ _ (fun t x => ?_) ?_
  refine Only.step (setBank_only ..) rfl ?_
  exact Only.refl _ _
  refine Only.set_emit rfl ?_
  refine Only.step (emitRequest_only ..) rfl ?_
  exact Only.refl _ _
  refine Only.foldl _ _ (fun t x => ?_) ?_
  refine Only.step (setBank_only ..) rfl ?_
  exact Only.refl _ _
  refine Only.set_emit rfl ?_
  refine Only.step (emitRequest_only ..) rfl ?_
  exact Only.refl _ _
  refine Only.ite ?_ ?_
  refine Only.step (stopRecord_only ..) rfl ?_
  refine Only.step (banksZero_only ..) rfl ?_
  refine Only.set_emit rfl ?_
  refine Only.foldl _ _ (fun t x => ?_) ?_
  refine Only.step (setBank_only ..) rfl ?_
  exact Only.refl _ _
  refine Only.set_emit rfl ?_
  refine Only.step (emitRequest_only ..) rfl ?_
  exact Only.refl _ _
  refine Only.foldl _ _ (fun t x => ?_) ?_
  refine Only.step (setBank_only ..) rfl ?_
  exact Only.refl _ _
  refine Only.set_emit rfl ?_
  refine Only.step (emitRequest_only ..) rfl ?_
  exact Only.refl _ _
  refine Only.foldl _ _ (fun t x => ?_) ?_
  refine Only.step (setBank_only ..) rfl ?_
  exact Only.refl _ _
  refine Only.set_emit rfl ?_
  refine Only.step (emitRequest_only ..) rfl ?_
  exact Only.refl _ _

theorem emitSetPoints_only (s : State) : Only [.emit] s (emitSetPoints s) := by
  unfold emitSetPoints
  dsimp only
  refine Only.foldl _ _ (fun t x => ?_) ?_
  refine Only.step (setBank_only ..) rfl ?_
  exact Only.refl _ _
  exact Only.refl _ _

theorem withhold_only (s : State) a1 a2 a3 a4 : Only [.plan, .weir] s (withhold s a1 a2 a3 a4) := by
  unfold withhold
  refine Only.ite ?_ ?_
  refine Only.step (updCol_only ..) rfl ?_
  exact Only.refl _ _
  refine Only.step (cutFrom_only ..) rfl ?_
  exact Only.refl _ _

theorem markGated_only (s : State) a1 a2 : Only [.plan] s (markGated s a1 a2) := by
  unfold markGated
  refine Only.step (updCol_only ..) rfl ?_
  exact Only.refl _ _

theorem vetoShot_only (s : State) a1 a2 : Only [.weir, .plan, .regs 16424 1, .regs 16406 1, .emit] s (vetoShot s a1 a2).1 := by
  unfold vetoShot
  dsimp only
  split
  try dsimp only
  exact Only.refl _ _
  split
  try dsimp only
  refine Only.step (withhold_only ..) rfl ?_
  refine Only.step (weirRelease_only ..) rfl ?_
  exact Only.refl _ _
  split
  try dsimp only
  refine Only.step (markGated_only ..) rfl ?_
  refine Only.step (withhold_only ..) rfl ?_
  refine Only.step (weirRelease_only ..) rfl ?_
  exact Only.refl _ _
  split
  try dsimp only
  refine Only.step (withhold_only ..) rfl ?_
  refine Only.step (bump_fam 16424 1 (by decide) (by decide) ..) rfl ?_
  refine Only.step (weirRelease_only ..) rfl ?_
  exact Only.refl _ _
  try dsimp only
  refine Only.set_emit rfl ?_
  refine Only.ite ?_ ?_
  refine Only.step (bump_fam 16406 1 (by decide) (by decide) ..) rfl ?_
  refine Only.step (weirCharge_only ..) rfl ?_
  refine Only.step (weirRelease_only ..) rfl ?_
  exact Only.refl _ _
  refine Only.step (weirCharge_only ..) rfl ?_
  refine Only.step (weirRelease_only ..) rfl ?_
  exact Only.refl _ _

theorem vetoShots_only (s : State) : Only [.emit, .weir, .plan, .regs 16424 1, .regs 16406 1] s (vetoShots s).1 := by
  unfold vetoShots
  dsimp only
  split
  try dsimp only
  refine Only.set_emit rfl ?_
  exact Only.refl _ _
  refine Only.foldlP Prod.fst _ _ (fun r x => ?_) ?_
  try dsimp only
  try dsimp only
  refine Only.step (vetoShot_only ..) rfl ?_
  exact Only.refl _ _
  try dsimp only
  try dsimp only
  refine Only.set_emit rfl ?_
  exact Only.refl _ _

theorem selectProbe_only (s : State) a1 : Only [.regs 16424 1, .weir, .emit] s (selectProbe s a1).1 := by
  unfold selectProbe
  dsimp only
  split
  try dsimp only
  exact Only.refl _ _
  split
  try dsimp only
  exact Only.refl _ _
  split
  try dsimp only
  exact Only.refl _ _
  split
  try dsimp only
  refine Only.step (bump_fam 16424 1 (by decide) (by decide) ..) rfl ?_
  exact Only.refl _ _
  try dsimp only
  refine Only.set_emit rfl ?_
  refine Only.step (weirCharge_only ..) rfl ?_
  exact Only.refl _ _

theorem probeOverdue_only (s : State) : Only [.emit, .regs 16406 1] s (probeOverdue s) := by
  unfold probeOverdue
  dsimp only
  refine Only.ite ?_ ?_
  exact Only.refl _ _
  refine Only.foldl _ _ (fun t x => ?_) ?_
  refine Only.ite ?_ ?_
  exact Only.refl _ _
  refine Only.ite ?_ ?_
  refine Only.step (bump_fam 16406 1 (by decide) (by decide) ..) rfl ?_
  refine Only.step (setEmitter_only ..) rfl ?_
  exact Only.refl _ _
  refine Only.step (setEmitter_only ..) rfl ?_
  exact Only.refl _ _
  exact Only.refl _ _

theorem emitShadow_only (s : State) : Only [.regs 16424 1, .weir, .emit, .pwr, .plan, .regs 16406 1, .regs 20592 1] s (emitShadow s) := by
  unfold emitShadow
  dsimp only
  refine Only.ite ?_ ?_
  refine Only.step (bump_fam 20592 1 (by decide) (by decide) ..) rfl ?_
  refine Only.step (probeOverdue_only ..) rfl ?_
  refine Only.foldlP Prod.fst _ _ (fun r x => ?_) ?_
  try dsimp only
  try dsimp only
  refine Only.step (selectProbe_only ..) rfl ?_
  exact Only.refl _ _
  try dsimp only
  try dsimp only
  refine Only.set_emit rfl ?_
  refine Only.step (vetoShots_only ..) rfl ?_
  refine Only.step (emitSetPoints_only ..) rfl ?_
  refine Only.step (emitFades_only ..) rfl ?_
  exact Only.refl _ _
  refine Only.step (probeOverdue_only ..) rfl ?_
  refine Only.foldlP Prod.fst _ _ (fun r x => ?_) ?_
  try dsimp only
  try dsimp only
  refine Only.step (selectProbe_only ..) rfl ?_
  exact Only.refl _ _
  try dsimp only
  try dsimp only
  refine Only.set_emit rfl ?_
  refine Only.step (vetoShots_only ..) rfl ?_
  refine Only.step (emitSetPoints_only ..) rfl ?_
  refine Only.step (emitFades_only ..) rfl ?_
  exact Only.refl _ _

theorem emitTick_only (s : State) a1 : Only [.emit] s (emitTick s a1) := by
  unfold emitTick
  dsimp only
  refine Only.set_emit rfl ?_
  exact Only.refl _ _

theorem secondEdge_only (s : State) a1 : Only [.emit] s (secondEdge s a1) := by
  unfold secondEdge
  dsimp only
  split
  refine Only.ite ?_ ?_
  exact Only.refl _ _
  refine Only.set_emit rfl ?_
  exact Only.refl _ _
  exact Only.refl _ _

theorem launchShot_only (s : State) a1 : Only [.emit, .regs 16406 1] s (launchShot s a1).1 := by
  unfold launchShot
  dsimp only
  split
  split
  try dsimp only
  exact Only.refl _ _
  try dsimp only
  refine Only.step (bump_fam 16406 1 (by decide) (by decide) ..) rfl ?_
  refine Only.set_emit rfl ?_
  exact Only.refl _ _
  try dsimp only
  exact Only.refl _ _

theorem submitPeaks_only (s : State) a1 : Only [.emit, .hk, .regs 45120 1] s (submitPeaks s a1) := by
  unfold submitPeaks
  dsimp only
  refine Only.ite ?_ ?_
  exact Only.refl _ _
  refine Only.ite ?_ ?_
  refine Only.set_emit rfl ?_
  exact Only.refl _ _
  refine Only.step (hkGroup_only ..) rfl ?_
  exact Only.refl _ _

theorem probePulse_only (s : State) : Only [.emit, .hk, .regs 45120 1, .regs 16406 1] s (probePulse s) := by
  unfold probePulse
  dsimp only
  refine Only.ite ?_ ?_
  refine Only.set_emit rfl ?_
  exact Only.refl _ _
  refine Only.foldl _ _ (fun t x => ?_) ?_
  refine Only.step (submitPeaks_only ..) rfl ?_
  exact Only.refl _ _
  refine Only.step (bumpBy_fam 16406 1 (by decide) (by decide) ..) rfl ?_
  refine Only.set_emit rfl ?_
  exact Only.refl _ _

theorem execProbePulse_only (s : State) : OutcomeOnly [.emit, .hk, .regs 45120 1, .regs 16406 1] s (execProbePulse s) := by
  unfold execProbePulse
  refine outcome_only ?_
  refine Only.step (probePulse_only ..) rfl ?_
  exact Only.refl _ _

theorem bankDisable_only (s : State) a1 a2 : Only [.emit] s (bankDisable s a1 a2) := by
  unfold bankDisable
  dsimp only
  refine Only.step (setBank_only ..) rfl ?_
  exact Only.refl _ _

theorem setDiag_only (s : State) a1 a2 : Only [.emit, .regs 16406 1, .irq, .out, .regs 32769 1, .fm, .isl, .regs 16384 1, .pwr] s (setDiag s a1 a2) := by
  unfold setDiag
  dsimp only
  refine Only.ite ?_ ?_
  exact Only.refl _ _
  refine Only.ite ?_ ?_
  refine Only.step (reportFault_only ..) rfl ?_
  refine Only.step (bump_fam 16406 1 (by decide) (by decide) ..) rfl ?_
  refine Only.ite ?_ ?_
  refine Only.step (bankDisable_only ..) rfl ?_
  refine Only.step (setEmitter_only ..) rfl ?_
  exact Only.refl _ _
  refine Only.step (setEmitter_only ..) rfl ?_
  exact Only.refl _ _
  refine Only.ite ?_ ?_
  refine Only.step (bankDisable_only ..) rfl ?_
  refine Only.step (setEmitter_only ..) rfl ?_
  exact Only.refl _ _
  refine Only.step (setEmitter_only ..) rfl ?_
  exact Only.refl _ _

theorem setGroup_only (s : State) a1 a2 : Only [.emit] s (setGroup s a1 a2) := by
  unfold setGroup
  dsimp only
  refine Only.set_emit rfl ?_
  exact Only.refl _ _

theorem diagnosisWindow_only (s : State) a1 : Only [.emit, .regs 16406 1, .irq, .out, .regs 32769 1, .fm, .isl, .regs 16384 1, .pwr] s (diagnosisWindow s a1) := by
  unfold diagnosisWindow
  dsimp only
  refine Only.ite ?_ ?_
  exact Only.refl _ _
  split
  refine Only.foldl _ _ (fun t x => ?_) ?_
  refine Only.step (setDiag_only ..) rfl ?_
  refine Only.step (setEmitter_only ..) rfl ?_
  exact Only.refl _ _
  refine Only.step (setGroup_only ..) rfl ?_
  exact Only.refl _ _
  refine Only.ite ?_ ?_
  refine Only.step (setGroup_only ..) rfl ?_
  exact Only.refl _ _
  refine Only.ite ?_ ?_
  refine Only.foldl _ _ (fun t x => ?_) ?_
  refine Only.step (setEmitter_only ..) rfl ?_
  exact Only.refl _ _
  refine Only.step (bump_fam 16406 1 (by decide) (by decide) ..) rfl ?_
  refine Only.step (setGroup_only ..) rfl ?_
  exact Only.refl _ _
  refine Only.ite ?_ ?_
  refine Only.foldl _ _ (fun t x => ?_) ?_
  refine Only.step (setDiag_only ..) rfl ?_
  exact Only.refl _ _
  refine Only.step (bump_fam 16406 1 (by decide) (by decide) ..) rfl ?_
  refine Only.step (setGroup_only ..) rfl ?_
  exact Only.refl _ _
  refine Only.step (setGroup_only ..) rfl ?_
  exact Only.refl _ _

theorem execDiagnosisWindow_only a0 (s : State) : OutcomeOnly [.emit, .regs 16406 1, .irq, .out, .regs 32769 1, .fm, .isl, .regs 16384 1, .pwr] s (execDiagnosisWindow a0 s) := by
  unfold execDiagnosisWindow
  refine outcome_only ?_
  refine Only.step (diagnosisWindow_only ..) rfl ?_
  exact Only.refl _ _

theorem stuckOn_only (s : State) a1 : Only [.emit, .regs 16406 1, .irq, .out, .regs 32769 1, .fm, .isl, .regs 16384 1, .pwr] s (stuckOn s a1) := by
  unfold stuckOn
  dsimp only
  refine Only.ite ?_ ?_
  exact Only.refl _ _
  refine Only.step (inhibit_only ..) rfl ?_
  refine Only.step (bankDisable_only ..) rfl ?_
  refine Only.foldl _ _ (fun t x => ?_) ?_
  refine Only.ite ?_ ?_
  exact Only.refl _ _
  refine Only.step (reportFault_only ..) rfl ?_
  refine Only.step (bump_fam 16406 1 (by decide) (by decide) ..) rfl ?_
  refine Only.step (setEmitter_only ..) rfl ?_
  exact Only.refl _ _
  refine Only.step (setGroup_only ..) rfl ?_
  exact Only.refl _ _

theorem execStuckOn_only a0 (s : State) : OutcomeOnly [.emit, .regs 16406 1, .irq, .out, .regs 32769 1, .fm, .isl, .regs 16384 1, .pwr] s (execStuckOn a0 s) := by
  unfold execStuckOn
  refine outcome_only ?_
  refine Only.step (stuckOn_only ..) rfl ?_
  exact Only.refl _ _

theorem stuckOnClear_only (s : State) a1 : Only [.emit] s (stuckOnClear s a1) := by
  unfold stuckOnClear
  dsimp only
  refine Only.ite ?_ ?_
  refine Only.ite ?_ ?_
  refine Only.step (setGroup_only ..) rfl ?_
  exact Only.refl _ _
  refine Only.step (inhibitClear_only ..) rfl ?_
  refine Only.step (setGroup_only ..) rfl ?_
  exact Only.refl _ _
  exact Only.refl _ _

theorem execStuckOnClear_only a0 (s : State) : OutcomeOnly [.emit] s (execStuckOnClear a0 s) := by
  unfold execStuckOnClear
  refine outcome_only ?_
  refine Only.step (stuckOnClear_only ..) rfl ?_
  exact Only.refl _ _

theorem diagClearHook_only  : HookOnly [.emit] (diagClearHook ) := by
  intro s v
  unfold diagClearHook
  dsimp only
  refine ⟨?_, ?_⟩
  exact GateOnly.none _ _
  refine VerdictOnly.done ?_
  refine Only.foldl _ _ (fun t x => ?_) ?_
  refine Only.ite ?_ ?_
  refine Only.step (setBank_only ..) rfl ?_
  refine Only.step (setEmitter_only ..) rfl ?_
  exact Only.refl _ _
  exact Only.refl _ _
  exact Only.refl _ _

theorem execDiagnosisClear_only a0 a1 (s : State) : OutcomeOnly [.sessions, .out, .mbox, .irq, .emit] s (execDiagnosisClear a0 a1 s) := by
  unfold execDiagnosisClear
  refine outcome_only ?_
  refine requestWrite_only (diagClearHook_only) rfl rfl (by first | rfl | (unfold axisIx; cases a1 <;> rfl) | (simp [loopFreeObject]; omega)) ?_
  exact Only.refl _ _

theorem bankCompare_only (s : State) a1 : Only [.emit] s (bankCompare s a1) := by
  unfold bankCompare
  dsimp only
  refine Only.ite ?_ ?_
  refine Only.step (setBank_only ..) rfl ?_
  exact Only.refl _ _
  refine Only.ite ?_ ?_
  refine Only.step (setBank_only ..) rfl ?_
  exact Only.refl _ _
  refine Only.ite ?_ ?_
  refine Only.step (setBank_only ..) rfl ?_
  exact Only.refl _ _
  refine Only.step (setBank_only ..) rfl ?_
  exact Only.refl _ _

theorem bankVoltageFault_only (s : State) a1 : Only [.emit, .regs 16406 1] s (bankVoltageFault s a1) := by
  unfold bankVoltageFault
  dsimp only
  refine Only.ite ?_ ?_
  exact Only.refl _ _
  refine Only.ite ?_ ?_
  refine Only.step (bankDisable_only ..) rfl ?_
  refine Only.step (bump_fam 16406 1 (by decide) (by decide) ..) rfl ?_
  refine Only.step (setBank_only ..) rfl ?_
  exact Only.refl _ _
  refine Only.ite ?_ ?_
  refine Only.step (bump_fam 16406 1 (by decide) (by decide) ..) rfl ?_
  refine Only.step (setBank_only ..) rfl ?_
  exact Only.refl _ _
  refine Only.step (setBank_only ..) rfl ?_
  refine Only.step (bump_fam 16406 1 (by decide) (by decide) ..) rfl ?_
  refine Only.step (setBank_only ..) rfl ?_
  exact Only.refl _ _

theorem execBankVoltageFault_only a0 (s : State) : OutcomeOnly [.emit, .regs 16406 1] s (execBankVoltageFault a0 s) := by
  unfold execBankVoltageFault
  refine outcome_only ?_
  refine Only.step (bankVoltageFault_only ..) rfl ?_
  exact Only.refl _ _

theorem bankExcess_only (s : State) a1 a2 : Only [.weir, .regs 16424 1] s (bankExcess s a1 a2) := by
  unfold bankExcess
  dsimp only
  refine Only.ite ?_ ?_
  exact Only.refl _ _
  refine Only.step (bump_fam 16424 1 (by decide) (by decide) ..) rfl ?_
  refine Only.foldl _ _ (fun t x => ?_) ?_
  refine Only.step (weirCharge_only ..) rfl ?_
  exact Only.refl _ _
  exact Only.refl _ _

theorem groupLatch_only (s : State) a1 a2 : Only [.emit] s (groupLatch s a1 a2) := by
  unfold groupLatch
  dsimp only
  refine Only.step (setGroup_only ..) rfl ?_
  exact Only.refl _ _

theorem emitLatch_only (s : State) a1 : Only [.emit, .weir, .regs 16424 1] s (emitLatch s a1) := by
  unfold emitLatch
  dsimp only
  refine Only.set_emit rfl ?_
  refine Only.foldl _ _ (fun t x => ?_) ?_
  refine Only.step (groupLatch_only ..) rfl ?_
  exact Only.refl _ _
  refine Only.foldl _ _ (fun t x => ?_) ?_
  refine Only.step (bankCompare_only ..) rfl ?_
  refine Only.step (bankExcess_only ..) rfl ?_
  exact Only.refl _ _
  exact Only.refl _ _

theorem execPositionSampleLatch_only a0 (s : State) : OutcomeOnly [.tick, .servo, .regs 20496 2, .regs 20592 1, .emit, .isl, .regs 16384 1, .pwr, .irq, .out, .plan, .points, .weir, .regs 16424 1] s (execPositionSampleLatch a0 s) := by
  unfold execPositionSampleLatch
  refine outcome_only ?_
  refine Only.step (emitLatch_only ..) rfl ?_
  refine Only.step (columnLatch_only ..) rfl ?_
  refine Only.step (planLatch_only ..) rfl ?_
  refine Only.step (servoLatch_only ..) rfl ?_
  refine Only.step (endListen_only ..) rfl ?_
  exact Only.refl _ _

theorem ntcValid_only (s : State) a1 : Only [.emit, .regs 16406 1, .irq, .out, .regs 16384 1, .pwr] s (ntcValid s a1) := by
  unfold ntcValid
  dsimp only
  refine Only.ite ?_ ?_
  refine Only.step (setInt_only ..) rfl ?_
  refine Only.step (inhibit_only ..) rfl ?_
  refine Only.step (bump_fam 16406 1 (by decide) (by decide) ..) rfl ?_
  refine Only.set_emit rfl ?_
  refine Only.ite ?_ ?_
  refine Only.step (setInt_only ..) rfl ?_
  refine Only.set_emit rfl ?_
  refine Only.ite ?_ ?_
  refine Only.step (bump_fam 16406 1 (by decide) (by decide) ..) rfl ?_
  refine Only.ite ?_ ?_
  refine Only.step (inhibitClear_only ..) rfl ?_
  refine Only.set_emit rfl ?_
  exact Only.refl _ _
  refine Only.set_emit rfl ?_
  exact Only.refl _ _
  refine Only.ite ?_ ?_
  refine Only.step (inhibitClear_only ..) rfl ?_
  refine Only.set_emit rfl ?_
  exact Only.refl _ _
  refine Only.set_emit rfl ?_
  exact Only.refl _ _
  refine Only.ite ?_ ?_
  refine Only.step (bump_fam 16406 1 (by decide) (by decide) ..) rfl ?_
  refine Only.ite ?_ ?_
  refine Only.step (inhibitClear_only ..) rfl ?_
  refine Only.set_emit rfl ?_
  exact Only.refl _ _
  refine Only.set_emit rfl ?_
  exact Only.refl _ _
  refine Only.ite ?_ ?_
  refine Only.step (inhibitClear_only ..) rfl ?_
  refine Only.set_emit rfl ?_
  exact Only.refl _ _
  refine Only.set_emit rfl ?_
  exact Only.refl _ _
  refine Only.ite ?_ ?_
  refine Only.step (setInt_only ..) rfl ?_
  refine Only.step (inhibitClear_only ..) rfl ?_
  refine Only.set_emit rfl ?_
  refine Only.ite ?_ ?_
  refine Only.step (setInt_only ..) rfl ?_
  refine Only.set_emit rfl ?_
  refine Only.ite ?_ ?_
  refine Only.step (bump_fam 16406 1 (by decide) (by decide) ..) rfl ?_
  refine Only.ite ?_ ?_
  refine Only.step (inhibitClear_only ..) rfl ?_
  refine Only.set_emit rfl ?_
  exact Only.refl _ _
  refine Only.set_emit rfl ?_
  exact Only.refl _ _
  refine Only.ite ?_ ?_
  refine Only.step (inhibitClear_only ..) rfl ?_
  refine Only.set_emit rfl ?_
  exact Only.refl _ _
  refine Only.set_emit rfl ?_
  exact Only.refl _ _
  refine Only.ite ?_ ?_
  refine Only.step (bump_fam 16406 1 (by decide) (by decide) ..) rfl ?_
  refine Only.ite ?_ ?_
  refine Only.step (inhibitClear_only ..) rfl ?_
  refine Only.set_emit rfl ?_
  exact Only.refl _ _
  refine Only.set_emit rfl ?_
  exact Only.refl _ _
  refine Only.ite ?_ ?_
  refine Only.step (inhibitClear_only ..) rfl ?_
  refine Only.set_emit rfl ?_
  exact Only.refl _ _
  refine Only.set_emit rfl ?_
  exact Only.refl _ _
  refine Only.ite ?_ ?_
  refine Only.step (setInt_only ..) rfl ?_
  refine Only.set_emit rfl ?_
  refine Only.ite ?_ ?_
  refine Only.step (bump_fam 16406 1 (by decide) (by decide) ..) rfl ?_
  refine Only.ite ?_ ?_
  refine Only.step (inhibitClear_only ..) rfl ?_
  refine Only.set_emit rfl ?_
  exact Only.refl _ _
  refine Only.set_emit rfl ?_
  exact Only.refl _ _
  refine Only.ite ?_ ?_
  refine Only.step (inhibitClear_only ..) rfl ?_
  refine Only.set_emit rfl ?_
  exact Only.refl _ _
  refine Only.set_emit rfl ?_
  exact Only.refl _ _
  refine Only.ite ?_ ?_
  refine Only.step (bump_fam 16406 1 (by decide) (by decide) ..) rfl ?_
  refine Only.ite ?_ ?_
  refine Only.step (inhibitClear_only ..) rfl ?_
  refine Only.set_emit rfl ?_
  exact Only.refl _ _
  refine Only.set_emit rfl ?_
  exact Only.refl _ _
  refine Only.ite ?_ ?_
  refine Only.step (inhibitClear_only ..) rfl ?_
  refine Only.set_emit rfl ?_
  exact Only.refl _ _
  refine Only.set_emit rfl ?_
  exact Only.refl _ _

theorem ntcInvalid_only (s : State) : Only [.emit, .regs 16384 1, .pwr, .irq, .out] s (ntcInvalid s) := by
  unfold ntcInvalid
  dsimp only
  refine Only.ite ?_ ?_
  refine Only.step (inhibit_only ..) rfl ?_
  refine Only.set_emit rfl ?_
  exact Only.refl _ _
  refine Only.set_emit rfl ?_
  exact Only.refl _ _

theorem ntcReading_only (s : State) a1 a2 : Only [.emit, .regs 16384 1, .pwr, .irq, .out, .free, .regs 16406 1] s (ntcReading s a1 a2) := by
  unfold ntcReading
  dsimp only
  refine Only.ite ?_ ?_
  refine Only.step (ntcInvalid_only ..) rfl ?_
  exact Only.refl _ _
  split
  refine Only.step (ntcInvalid_only ..) rfl ?_
  exact Only.refl _ _
  refine Only.ite ?_ ?_
  refine Only.step (ntcValid_only ..) rfl ?_
  refine Only.step (takeFree_only ..) rfl ?_
  exact Only.refl _ _
  refine Only.step (ntcValid_only ..) rfl ?_
  exact Only.refl _ _

theorem probeDone_only (s : State) a1 : Only [.emit] s (probeDone s a1) := by
  unfold probeDone
  dsimp only
  refine Only.step (setEmitter_only ..) rfl ?_
  exact Only.refl _ _

theorem probePeak_only (s : State) a1 a2 : Only [.emit, .free, .regs 16406 1, .irq, .out, .regs 32769 1, .fm, .isl, .regs 16384 1, .pwr] s (probePeak s a1 a2) := by
  unfold probePeak
  dsimp only
  split
  exact Only.refl _ _
  refine Only.ite ?_ ?_
  refine Only.step (setDiag_only ..) rfl ?_
  refine Only.step (takeFree_only ..) rfl ?_
  refine Only.step (probeDone_only ..) rfl ?_
  refine Only.set_emit rfl ?_
  exact Only.refl _ _
  refine Only.step (setDiag_only ..) rfl ?_
  refine Only.step (probeDone_only ..) rfl ?_
  refine Only.set_emit rfl ?_
  exact Only.refl _ _

theorem execConversionComplete_only a0 a1 (s : State) : OutcomeOnly [.regs 45120 1, .hk, .acq, .pwr, .irq, .out, .regs 32769 1, .fm, .isl, .emit, .regs 16384 1, .free, .regs 16406 1] s (execConversionComplete a0 a1 s) := by
  unfold execConversionComplete
  dsimp only
  refine outcome_only ?_
  split
  refine Only.step (hkComplete_only ..) rfl ?_
  exact Only.refl _ _
  refine Only.step (ntcReading_only ..) rfl ?_
  refine Only.step (hkComplete_only ..) rfl ?_
  exact Only.refl _ _
  refine Only.step (probePeak_only ..) rfl ?_
  refine Only.step (hkComplete_only ..) rfl ?_
  exact Only.refl _ _

theorem enableHook_only  : HookOnly [.emit] (enableHook ) := by
  intro s v
  unfold enableHook
  dsimp only
  refine ⟨?_, ?_⟩
  split
  refine GateOnly.some ?_
  exact Only.refl _ _
  exact GateOnly.none _ _
  split
  refine VerdictOnly.done ?_
  refine Only.set_emit rfl ?_
  exact Only.refl _ _
  refine VerdictOnly.done ?_
  refine Only.set_emit rfl ?_
  exact Only.refl _ _

theorem execEmissionEnable_only a0 (s : State) : OutcomeOnly [.sessions, .out, .mbox, .irq, .emit] s (execEmissionEnable a0 s) := by
  unfold execEmissionEnable
  refine outcome_only ?_
  refine requestWrite_only (enableHook_only) rfl rfl (by first | rfl | (unfold axisIx; cases a1 <;> rfl) | (simp [loopFreeObject]; omega)) ?_
  exact Only.refl _ _

theorem execEmissionDisable_only a0 (s : State) : OutcomeOnly [.sessions, .out, .mbox, .irq, .emit] s (execEmissionDisable a0 s) := by
  unfold execEmissionDisable
  refine outcome_only ?_
  refine requestWrite_only (enableHook_only) rfl rfl (by first | rfl | (unfold axisIx; cases a1 <;> rfl) | (simp [loopFreeObject]; omega)) ?_
  exact Only.refl _ _

theorem ackHook_only  : HookOnly [.boot, .emit, .isl, .regs 16384 1, .pwr, .irq, .out] (ackHook ) := by
  intro s v
  unfold ackHook
  dsimp only
  refine ⟨?_, ?_⟩
  exact GateOnly.none _ _
  refine VerdictOnly.done ?_
  refine Only.ite ?_ ?_
  refine Only.ite ?_ ?_
  refine Only.step (islClear_only ..) rfl ?_
  refine Only.set_boot_emit rfl ?_
  exact Only.refl _ _
  refine Only.set_emit rfl ?_
  exact Only.refl _ _
  exact Only.refl _ _

theorem execFaultAcknowledge_only a0 (s : State) : OutcomeOnly [.sessions, .out, .mbox, .irq, .boot, .emit, .isl, .regs 16384 1, .pwr] s (execFaultAcknowledge a0 s) := by
  unfold execFaultAcknowledge
  refine outcome_only ?_
  refine requestWrite_only (ackHook_only) rfl rfl (by first | rfl | (unfold axisIx; cases a1 <;> rfl) | (simp [loopFreeObject]; omega)) ?_
  exact Only.refl _ _

theorem emitStart_only (s : State) : Only [.emit, .weir] s (emitStart s) := by
  unfold emitStart
  dsimp only
  refine Only.step (weirStart_only ..) rfl ?_
  refine Only.set_emit rfl ?_
  exact Only.refl _ _

theorem emitStarted_only (s : State) : Only [.emit, .regs 16406 1] s (emitStarted s) := by
  unfold emitStarted
  dsimp only
  refine Only.foldl _ _ (fun t x => ?_) ?_
  refine Only.ite ?_ ?_
  refine Only.step (bump_fam 16406 1 (by decide) (by decide) ..) rfl ?_
  refine Only.step (setBank_only ..) rfl ?_
  refine Only.step (bankDisable_only ..) rfl ?_
  exact Only.refl _ _
  exact Only.refl _ _
  exact Only.refl _ _

theorem emitOffPower_only (s : State) : Only [.pwr, .emit] s (emitOffPower s) := by
  unfold emitOffPower
  dsimp only
  refine Only.set_emit rfl ?_
  refine Only.step (banksZero_only ..) rfl ?_
  refine Only.ite ?_ ?_
  refine Only.step (stopRecord_only ..) rfl ?_
  exact Only.refl _ _
  exact Only.refl _ _

end Sys2Proof.Machine
end

