-- ==== Sys2Proof/Laws/FrameHist.lean ====
section
/-! SUPPORT. Frames of the operations and commands of Machine/Hist.lean: one lemma per operation says what it changes at
most. -/

namespace Sys2Proof.Machine

theorem setChan_only (s : State) a1 a2 : Only [.rx] s (setChan s a1 a2) := by
  unfold setChan
  dsimp only
  refine Only.set_rx rfl ?_
  exact Only.refl _ _

theorem updChan_only (s : State) a1 a2 : Only [.rx] s (updChan s a1 a2) := by
  unfold updChan
  refine Only.step (setChan_only ..) rfl ?_
  exact Only.refl _ _

theorem tickOverrun_only (s : State) : Only [.tick, .regs 8192 1, .emit, .regs 16384 1, .pwr, .irq, .out, .isl, .fm, .regs 32769 1] s (tickOverrun s) := by
  unfold tickOverrun
  dsimp only
  refine Only.ite ?_ ?_
  refine Only.step (islRaise_only ..) rfl ?_
  refine Only.set_isl rfl ?_
  refine Only.step (inhibit_only ..) rfl ?_
  refine Only.step (bump_fam 8192 1 (by decide) (by decide) ..) rfl ?_
  refine Only.set_tick rfl ?_
  exact Only.refl _ _
  refine Only.step (inhibit_only ..) rfl ?_
  refine Only.step (bump_fam 8192 1 (by decide) (by decide) ..) rfl ?_
  refine Only.set_tick rfl ?_
  exact Only.refl _ _

theorem countMarks_only (s : State) a1 a2 : Only [.regs 12368 8, .regs 12392 8] s (countMarks s a1 a2) := by
  unfold countMarks
  dsimp only
  refine Only.ite ?_ ?_
  refine Only.step (bumpChan_only ..) rfl ?_
  refine Only.ite ?_ ?_
  refine Only.step (bumpChan_only ..) rfl ?_
  exact Only.refl _ _
  exact Only.refl _ _
  refine Only.ite ?_ ?_
  refine Only.step (bumpChan_only ..) rfl ?_
  exact Only.refl _ _
  exact Only.refl _ _

theorem unassigned_only (s : State) a1 a2 : Only [.rx, .regs 12600 8, .regs 12368 8, .regs 12392 8] s (unassigned s a1 a2) := by
  unfold unassigned
  refine Only.ite ?_ ?_
  refine Only.step (countMarks_only ..) rfl ?_
  refine Only.step (bumpChan_only ..) rfl ?_
  refine Only.step (updChan_only ..) rfl ?_
  exact Only.refl _ _
  exact Only.refl _ _

theorem assignedEvent_only (s : State) a1 a2 : Only [.rx, .regs 12368 8, .regs 12392 8] s (assignedEvent s a1 a2) := by
  unfold assignedEvent
  dsimp only
  refine Only.ite ?_ ?_
  exact Only.refl _ _
  refine Only.step (countMarks_only ..) rfl ?_
  refine Only.step (setChan_only ..) rfl ?_
  exact Only.refl _ _

theorem deliver_only (s : State) a1 a2 : Only [.rx, .regs 12368 8, .regs 12392 8, .regs 12600 8] s (deliver s a1 a2) := by
  unfold deliver
  refine Only.ite ?_ ?_
  refine Only.step (assignedEvent_only ..) rfl ?_
  exact Only.refl _ _
  refine Only.ite ?_ ?_
  refine Only.step (updChan_only ..) rfl ?_
  exact Only.refl _ _
  refine Only.step (unassigned_only ..) rfl ?_
  exact Only.refl _ _

theorem confirmShot_only (s : State) a1 a2 a3 : Only [.rx, .regs 12368 8, .regs 12392 8, .regs 12552 1, .regs 8480 1] s (confirmShot s a1 a2 a3) := by
  unfold confirmShot
  dsimp only
  refine Only.ite ?_ ?_
  exact Only.refl _ _
  refine Only.ite ?_ ?_
  refine Only.foldl _ _ (fun t x => ?_) ?_
  refine Only.step (assignedEvent_only ..) rfl ?_
  exact Only.refl _ _
  refine Only.step (setChan_only ..) rfl ?_
  exact Only.refl _ _
  refine Only.ite ?_ ?_
  refine Only.foldl _ _ (fun t x => ?_) ?_
  refine Only.step (assignedEvent_only ..) rfl ?_
  exact Only.refl _ _
  refine Only.ite ?_ ?_
  refine Only.step (bump_fam 8480 1 (by decide) (by decide) ..) rfl ?_
  refine Only.ite ?_ ?_
  refine Only.step (bump_fam 12552 1 (by decide) (by decide) ..) rfl ?_
  refine Only.step (setChan_only ..) rfl ?_
  exact Only.refl _ _
  refine Only.step (setChan_only ..) rfl ?_
  exact Only.refl _ _
  refine Only.ite ?_ ?_
  refine Only.step (bump_fam 12552 1 (by decide) (by decide) ..) rfl ?_
  refine Only.step (setChan_only ..) rfl ?_
  exact Only.refl _ _
  refine Only.step (setChan_only ..) rfl ?_
  exact Only.refl _ _
  exact Only.refl _ _

theorem shotLaunch_only (s : State) a1 : Only [.emit, .regs 16406 1, .rx, .regs 12368 8, .regs 12392 8, .regs 12552 1, .regs 8480 1] s (shotLaunch s a1) := by
  unfold shotLaunch
  dsimp only
  split
  refine Only.ite ?_ ?_
  refine Only.step (launchShot_only ..) rfl ?_
  exact Only.refl _ _
  refine Only.foldl _ _ (fun t x => ?_) ?_
  split
  refine Only.ite ?_ ?_
  refine Only.step (confirmShot_only ..) rfl ?_
  exact Only.refl _ _
  exact Only.refl _ _
  exact Only.refl _ _
  refine Only.step (launchShot_only ..) rfl ?_
  exact Only.refl _ _
  exact Only.refl _ _

theorem execShotLaunch_only a0 (s : State) : OutcomeOnly [.emit, .regs 16406 1, .rx, .regs 12368 8, .regs 12392 8, .regs 12552 1, .regs 8480 1] s (execShotLaunch a0 s) := by
  unfold execShotLaunch
  refine outcome_only ?_
  refine Only.ite ?_ ?_
  refine Only.step (secondEdge_only ..) rfl ?_
  exact Only.refl _ _
  refine Only.step (shotLaunch_only ..) rfl ?_
  exact Only.refl _ _

theorem coalesce_only (s : State) a1 a2 a3 : Only [.rx, .regs 12592 8] s (coalesce s a1 a2 a3).1 := by
  unfold coalesce
  dsimp only
  split
  try dsimp only
  refine Only.step (updChan_only ..) rfl ?_
  refine Only.set_rx rfl ?_
  exact Only.refl _ _
  split
  try dsimp only
  refine Only.step (updChan_only ..) rfl ?_
  refine Only.set_rx rfl ?_
  exact Only.refl _ _
  try dsimp only
  refine Only.step (bumpChan_only ..) rfl ?_
  refine Only.step (updChan_only ..) rfl ?_
  refine Only.set_rx rfl ?_
  exact Only.refl _ _

theorem accMemory_only (s : State) a1 a2 a3 : Only [.rx, .regs 12552 1] s (accMemory s a1 a2 a3) := by
  unfold accMemory
  refine Only.step (bumpBy_fam 12552 1 (by decide) (by decide) ..) rfl ?_
  refine Only.ite ?_ ?_
  refine Only.step (updChan_only ..) rfl ?_
  exact Only.refl _ _
  exact Only.refl _ _

theorem coincidence_only (s : State) a1 a2 a3 a4 a5 : Only [.rx, .regs 12576 8, .regs 12584 8, .regs 12592 8, .regs 12552 1] s (coincidence s a1 a2 a3 a4 a5) := by
  unfold coincidence
  dsimp only
  split
  exact Only.refl _ _
  refine Only.ite ?_ ?_
  exact Only.refl _ _
  refine Only.ite ?_ ?_
  refine Only.step (bumpChan_only ..) rfl ?_
  refine Only.step (updChan_only ..) rfl ?_
  refine Only.step (setChan_only ..) rfl ?_
  exact Only.refl _ _
  refine Only.ite ?_ ?_
  refine Only.step (bumpChan_only ..) rfl ?_
  refine Only.step (updChan_only ..) rfl ?_
  refine Only.step (setChan_only ..) rfl ?_
  exact Only.refl _ _
  refine Only.ite ?_ ?_
  refine Only.step (accMemory_only ..) rfl ?_
  refine Only.step (coalesce_only ..) rfl ?_
  refine Only.step (updChan_only ..) rfl ?_
  refine Only.step (setChan_only ..) rfl ?_
  exact Only.refl _ _
  refine Only.step (coalesce_only ..) rfl ?_
  refine Only.step (updChan_only ..) rfl ?_
  refine Only.step (setChan_only ..) rfl ?_
  exact Only.refl _ _

theorem execCoincidenceDecision_only a0 a1 a2 (s : State) : OutcomeOnly [.rx, .regs 12576 8, .regs 12584 8, .regs 12592 8, .regs 12552 1] s (execCoincidenceDecision a0 a1 a2 s) := by
  unfold execCoincidenceDecision
  refine outcome_only ?_
  refine Only.step (coincidence_only ..) rfl ?_
  exact Only.refl _ _

theorem markOverload_only (s : State) a1 : Only [.rx] s (markOverload s a1) := by
  unfold markOverload
  dsimp only
  split
  exact Only.refl _ _
  refine Only.foldl _ _ (fun t x => ?_) ?_
  refine Only.ite ?_ ?_
  refine Only.step (updChan_only ..) rfl ?_
  exact Only.refl _ _
  exact Only.refl _ _
  refine Only.ite ?_ ?_
  refine Only.step (updChan_only ..) rfl ?_
  refine Only.step (updChan_only ..) rfl ?_
  exact Only.refl _ _
  refine Only.step (updChan_only ..) rfl ?_
  exact Only.refl _ _

theorem execBlankingIntervalEnd_only a0 (s : State) : OutcomeOnly [.rx] s (execBlankingIntervalEnd a0 s) := by
  unfold execBlankingIntervalEnd
  refine outcome_only ?_
  refine Only.step (markOverload_only ..) rfl ?_
  exact Only.refl _ _

theorem noteLoad_only (s : State) a1 a2 : Only [.rx, .regs 12552 1] s (noteLoad s a1 a2) := by
  unfold noteLoad
  dsimp only
  refine Only.ite ?_ ?_
  refine Only.step (odSetN_fam 12552 1 (by decide) (by decide) ..) rfl ?_
  refine Only.step (odSetN_fam 12552 1 (by decide) (by decide) ..) rfl ?_
  refine Only.set_rx rfl ?_
  exact Only.refl _ _
  refine Only.set_rx rfl ?_
  exact Only.refl _ _

theorem countLimited_only (s : State) a1 a2 : Only [.regs 12568 8] s (countLimited s a1 a2) := by
  unfold countLimited
  refine Only.ite ?_ ?_
  refine Only.step (bumpChan_only ..) rfl ?_
  exact Only.refl _ _
  exact Only.refl _ _

theorem closeStack_only (s : State) a1 a2 a3 : Only [.rx, .regs 12560 8, .regs 12608 8, .regs 12616 8, .regs 12552 1] s (closeStack s a1 a2 a3) := by
  unfold closeStack
  dsimp only
  refine Only.step (noteLoad_only ..) rfl ?_
  refine Only.ite ?_ ?_
  refine Only.step (bumpChan_only ..) rfl ?_
  refine Only.ite ?_ ?_
  refine Only.step (bumpChan_only ..) rfl ?_
  refine Only.step (bumpChan_only ..) rfl ?_
  refine Only.step (setChan_only ..) rfl ?_
  exact Only.refl _ _
  refine Only.step (bumpChan_only ..) rfl ?_
  refine Only.step (setChan_only ..) rfl ?_
  exact Only.refl _ _
  refine Only.ite ?_ ?_
  refine Only.step (bumpChan_only ..) rfl ?_
  refine Only.step (bumpChan_only ..) rfl ?_
  refine Only.step (setChan_only ..) rfl ?_
  exact Only.refl _ _
  refine Only.step (bumpChan_only ..) rfl ?_
  refine Only.step (setChan_only ..) rfl ?_
  exact Only.refl _ _

theorem closeGone_only (s : State) a1 : Only [.rx, .regs 12560 8, .regs 12552 1, .regs 12568 8] s (closeGone s a1) := by
  unfold closeGone
  dsimp only
  refine Only.step (countLimited_only ..) rfl ?_
  refine Only.step (bump_fam 12552 1 (by decide) (by decide) ..) rfl ?_
  refine Only.step (bumpChan_only ..) rfl ?_
  refine Only.step (setChan_only ..) rfl ?_
  exact Only.refl _ _

theorem closeB_only (s : State) a1 : Only [.rx, .regs 12560 8, .regs 12552 1, .regs 12568 8, .regs 12608 8, .regs 12616 8] s (closeB s a1) := by
  unfold closeB
  refine Only.ite ?_ ?_
  refine Only.step (closeGone_only ..) rfl ?_
  exact Only.refl _ _
  refine Only.step (closeStack_only ..) rfl ?_
  refine Only.step (countLimited_only ..) rfl ?_
  exact Only.refl _ _

theorem dropEarly_only (s : State) a1 : Only [.rx, .regs 12600 8, .regs 12368 8, .regs 12392 8] s (dropEarly s a1) := by
  unfold dropEarly
  dsimp only
  refine Only.foldl _ _ (fun t x => ?_) ?_
  refine Only.step (unassigned_only ..) rfl ?_
  exact Only.refl _ _
  refine Only.step (setChan_only ..) rfl ?_
  exact Only.refl _ _

theorem chanLeave_only (s : State) a1 a2 : Only [.rx, .regs 12600 8, .regs 12368 8, .regs 12392 8] s (chanLeave s a1 a2) := by
  unfold chanLeave
  refine Only.step (updChan_only ..) rfl ?_
  refine Only.step (dropEarly_only ..) rfl ?_
  exact Only.refl _ _

theorem gateClose_only (s : State) : Only [.rx, .regs 12560 8, .regs 12608 8, .regs 12616 8, .regs 12552 1] s (gateClose s) := by
  unfold gateClose
  dsimp only
  refine Only.ite ?_ ?_
  exact Only.refl _ _
  refine Only.foldl _ _ (fun t x => ?_) ?_
  refine Only.ite ?_ ?_
  refine Only.step (updChan_only ..) rfl ?_
  refine Only.step (closeStack_only ..) rfl ?_
  exact Only.refl _ _
  exact Only.refl _ _
  refine Only.set_rx rfl ?_
  refine Only.foldl _ _ (fun t x => ?_) ?_
  refine Only.step (markOverload_only ..) rfl ?_
  exact Only.refl _ _
  exact Only.refl _ _

theorem execGateClose_only (s : State) : OutcomeOnly [.rx, .regs 12560 8, .regs 12608 8, .regs 12616 8, .regs 12552 1] s (execGateClose s) := by
  unfold execGateClose
  refine outcome_only ?_
  refine Only.step (gateClose_only ..) rfl ?_
  exact Only.refl _ _

theorem eventTap_only (s : State) a1 a2 : Only [.regs 49184 16, .lane, .rings, .irq, .out] s (eventTap s a1 a2) := by
  unfold eventTap
  dsimp only
  refine Only.ite ?_ ?_
  refine Only.ite ?_ ?_
  refine Only.step (bumpBy_fam 49184 16 (by omega) (by decide) ..) rfl ?_
  exact Only.refl _ _
  exact Only.refl _ _
  refine Only.step (route_only ..) rfl ?_
  refine Only.ite ?_ ?_
  refine Only.step (bumpBy_fam 49184 16 (by omega) (by decide) ..) rfl ?_
  exact Only.refl _ _
  exact Only.refl _ _

theorem eventTaps_only (s : State) : Only [.regs 49184 16, .lane, .rings, .irq, .out] s (eventTaps s) := by
  unfold eventTaps
  split
  exact Only.refl _ _
  refine Only.foldl _ _ (fun t x => ?_) ?_
  refine Only.ite ?_ ?_
  refine Only.step (eventTap_only ..) rfl ?_
  exact Only.refl _ _
  exact Only.refl _ _
  exact Only.refl _ _

theorem earlyTermination_only (s : State) : Only [.regs 12568 8, .rx, .regs 12560 8, .regs 12608 8, .regs 12616 8, .regs 12552 1, .regs 49184 16, .lane, .rings, .irq, .out, .plan, .weir, .regs 8480 1] s (earlyTermination s) := by
  unfold earlyTermination
  dsimp only
  refine Only.ite ?_ ?_
  exact Only.refl _ _
  refine Only.step (freeShots_only ..) rfl ?_
  refine Only.foldl _ _ (fun t x => ?_) ?_
  refine Only.ite ?_ ?_
  refine Only.step (closeStack_only ..) rfl ?_
  refine Only.step (countLimited_only ..) rfl ?_
  exact Only.refl _ _
  exact Only.refl _ _
  refine Only.set_rx rfl ?_
  refine Only.foldl _ _ (fun t x => ?_) ?_
  refine Only.ite ?_ ?_
  refine Only.step (countLimited_only ..) rfl ?_
  exact Only.refl _ _
  exact Only.refl _ _
  refine Only.step (eventTaps_only ..) rfl ?_
  refine Only.foldl _ _ (fun t x => ?_) ?_
  refine Only.step (markOverload_only ..) rfl ?_
  exact Only.refl _ _
  exact Only.refl _ _

theorem execEarlyTerminationTest_only (s : State) : OutcomeOnly [.regs 12568 8, .rx, .regs 12560 8, .regs 12608 8, .regs 12616 8, .regs 12552 1, .regs 49184 16, .lane, .rings, .irq, .out, .plan, .weir, .regs 8480 1] s (execEarlyTerminationTest s) := by
  unfold execEarlyTerminationTest
  refine outcome_only ?_
  refine Only.step (earlyTermination_only ..) rfl ?_
  exact Only.refl _ _

theorem swapSlot_only (s : State) : Only [.rx, .regs 12600 8, .regs 12368 8, .regs 12392 8, .regs 12560 8, .regs 12552 1, .regs 12568 8, .regs 12608 8, .regs 12616 8] s (swapSlot s) := by
  unfold swapSlot
  dsimp only
  refine Only.ite ?_ ?_
  exact Only.refl _ _
  refine Only.foldl _ _ (fun t x => ?_) ?_
  refine Only.ite ?_ ?_
  exact Only.refl _ _
  refine Only.ite ?_ ?_
  refine Only.step (closeB_only ..) rfl ?_
  refine Only.step (dropEarly_only ..) rfl ?_
  exact Only.refl _ _
  refine Only.step (dropEarly_only ..) rfl ?_
  exact Only.refl _ _
  refine Only.set_rx rfl ?_
  exact Only.refl _ _

theorem execSwapPointBSlot_only (s : State) : OutcomeOnly [.rx, .regs 12600 8, .regs 12368 8, .regs 12392 8, .regs 12560 8, .regs 12552 1, .regs 12568 8, .regs 12608 8, .regs 12616 8] s (execSwapPointBSlot s) := by
  unfold execSwapPointBSlot
  refine outcome_only ?_
  refine Only.step (swapSlot_only ..) rfl ?_
  exact Only.refl _ _

theorem shadowFreeze_only (s : State) a1 : Only [.rx, .regs 12560 8, .regs 12552 1, .regs 12568 8, .regs 12608 8, .regs 12616 8, .tick, .regs 8192 1, .emit, .regs 16384 1, .pwr, .irq, .out, .isl, .fm, .regs 32769 1] s (shadowFreeze s a1) := by
  unfold shadowFreeze
  dsimp only
  refine Only.foldl _ _ (fun t x => ?_) ?_
  refine Only.ite ?_ ?_
  refine Only.step (closeB_only ..) rfl ?_
  exact Only.refl _ _
  exact Only.refl _ _
  refine Only.ite ?_ ?_
  refine Only.step (tickOverrun_only ..) rfl ?_
  exact Only.refl _ _
  exact Only.refl _ _

theorem execShadowFreeze_only a0 (s : State) : OutcomeOnly [.rx, .regs 12560 8, .regs 12552 1, .regs 12568 8, .regs 12608 8, .regs 12616 8, .tick, .regs 8192 1, .emit, .regs 16384 1, .pwr, .irq, .out, .isl, .fm, .regs 32769 1] s (execShadowFreeze a0 s) := by
  unfold execShadowFreeze
  refine outcome_only ?_
  refine Only.step (shadowFreeze_only ..) rfl ?_
  exact Only.refl _ _

theorem histTaps_only (s : State) a1 a2 : Only [.regs 49184 16, .lane, .rings, .irq, .out] s (histTaps s a1 a2) := by
  unfold histTaps
  dsimp only
  split
  exact Only.refl _ _
  refine Only.foldl _ _ (fun t x => ?_) ?_
  refine Only.ite ?_ ?_
  refine Only.step (route_only ..) rfl ?_
  exact Only.refl _ _
  exact Only.refl _ _
  exact Only.refl _ _

theorem histProbes_only (s : State) a1 a2 : Only [.acq] s (histProbes s a1 a2) := by
  unfold histProbes
  dsimp only
  refine Only.foldl _ _ (fun t x => ?_) ?_
  refine Only.ite ?_ ?_
  refine Only.set_acq rfl ?_
  exact Only.refl _ _
  exact Only.refl _ _
  exact Only.refl _ _

theorem readPass_only (s : State) a1 a2 a3 : Only [.rx, .regs 12552 1, .regs 49184 16, .lane, .rings, .irq, .out, .acq, .regs 32769 1, .fm, .isl, .emit, .regs 16384 1, .pwr] s (readPass s a1 a2 a3) := by
  unfold readPass
  dsimp only
  refine Only.ite ?_ ?_
  exact Only.refl _ _
  refine Only.ite ?_ ?_
  refine Only.step (reportFault_only ..) rfl ?_
  refine Only.step (bump_fam 12552 1 (by decide) (by decide) ..) rfl ?_
  refine Only.step (histProbes_only ..) rfl ?_
  refine Only.step (histTaps_only ..) rfl ?_
  refine Only.step (bumpBy_fam 12552 1 (by decide) (by decide) ..) rfl ?_
  refine Only.step (setChan_only ..) rfl ?_
  exact Only.refl _ _
  refine Only.step (histProbes_only ..) rfl ?_
  refine Only.step (histTaps_only ..) rfl ?_
  refine Only.step (bumpBy_fam 12552 1 (by decide) (by decide) ..) rfl ?_
  refine Only.step (setChan_only ..) rfl ?_
  exact Only.refl _ _

theorem execReadPassComplete_only a0 a1 a2 (s : State) : OutcomeOnly [.rx, .regs 12552 1, .regs 49184 16, .lane, .rings, .irq, .out, .acq, .regs 32769 1, .fm, .isl, .emit, .regs 16384 1, .pwr] s (execReadPassComplete a0 a1 a2 s) := by
  unfold execReadPassComplete
  refine outcome_only ?_
  refine Only.step (readPass_only ..) rfl ?_
  exact Only.refl _ _

theorem readOverrun_only (s : State) a1 : Only [.rx, .regs 12552 1, .tick, .regs 8192 1, .emit, .regs 16384 1, .pwr, .irq, .out, .isl, .fm, .regs 32769 1] s (readOverrun s a1) := by
  unfold readOverrun
  dsimp only
  refine Only.ite ?_ ?_
  exact Only.refl _ _
  refine Only.step (tickOverrun_only ..) rfl ?_
  refine Only.step (bump_fam 12552 1 (by decide) (by decide) ..) rfl ?_
  refine Only.step (setChan_only ..) rfl ?_
  exact Only.refl _ _

theorem execReadPassOverrun_only a0 (s : State) : OutcomeOnly [.rx, .regs 12552 1, .tick, .regs 8192 1, .emit, .regs 16384 1, .pwr, .irq, .out, .isl, .fm, .regs 32769 1] s (execReadPassOverrun a0 s) := by
  unfold execReadPassOverrun
  refine outcome_only ?_
  refine Only.step (readOverrun_only ..) rfl ?_
  exact Only.refl _ _

end Sys2Proof.Machine
end

