-- ==== Sys2Proof/Laws/FrameFrontEnd.lean ====
section
/-! SUPPORT. Frames of the operations and commands of Machine/FrontEnd.lean: one lemma per operation says what it changes at
most. -/

namespace Sys2Proof.Machine

theorem blankFrom_only (s : State) a1 a2 a3 : Only [.rx] s (blankFrom s a1 a2 a3) := by
  unfold blankFrom
  split
  refine Only.ite ?_ ?_
  refine Only.step (updChan_only ..) rfl ?_
  exact Only.refl _ _
  refine Only.step (updChan_only ..) rfl ?_
  refine Only.step (markOverload_only ..) rfl ?_
  exact Only.refl _ _
  refine Only.step (updChan_only ..) rfl ?_
  exact Only.refl _ _

theorem stampHit_only (s : State) a1 a2 : Only [.rx, .regs 12368 8, .regs 12392 8, .regs 12600 8] s (stampHit s a1 a2) := by
  unfold stampHit
  dsimp only
  refine Only.ite ?_ ?_
  refine Only.ite ?_ ?_
  refine Only.step (updChan_only ..) rfl ?_
  refine Only.step (blankFrom_only ..) rfl ?_
  refine Only.step (updChan_only ..) rfl ?_
  exact Only.refl _ _
  refine Only.step (updChan_only ..) rfl ?_
  exact Only.refl _ _
  refine Only.step (deliver_only ..) rfl ?_
  refine Only.ite ?_ ?_
  refine Only.step (updChan_only ..) rfl ?_
  refine Only.step (blankFrom_only ..) rfl ?_
  refine Only.step (updChan_only ..) rfl ?_
  exact Only.refl _ _
  refine Only.step (updChan_only ..) rfl ?_
  exact Only.refl _ _

theorem chanFault_only (s : State) a1 : Only [.rx, .regs 12600 8, .regs 12368 8, .regs 12392 8, .irq, .out, .regs 32769 1, .fm, .isl, .emit, .regs 16384 1, .pwr] s (chanFault s a1) := by
  unfold chanFault
  refine Only.step (reportFault_only ..) rfl ?_
  refine Only.step (chanLeave_only ..) rfl ?_
  exact Only.refl _ _

theorem stuckTick_only (s : State) a1 : Only [.rx, .regs 12416 1, .regs 12600 8, .regs 12368 8, .regs 12392 8, .irq, .out, .regs 32769 1, .fm, .isl, .emit, .regs 16384 1, .pwr] s (stuckTick s a1) := by
  unfold stuckTick
  dsimp only
  refine Only.ite ?_ ?_
  exact Only.refl _ _
  refine Only.ite ?_ ?_
  refine Only.step (chanFault_only ..) rfl ?_
  refine Only.step (bump_fam 12416 1 (by decide) (by decide) ..) rfl ?_
  refine Only.step (setChan_only ..) rfl ?_
  refine Only.set_rx rfl ?_
  exact Only.refl _ _
  refine Only.step (bump_fam 12416 1 (by decide) (by decide) ..) rfl ?_
  refine Only.step (setChan_only ..) rfl ?_
  refine Only.set_rx rfl ?_
  exact Only.refl _ _

theorem execStuckTick_only a0 (s : State) : OutcomeOnly [.rx, .regs 12416 1, .regs 12600 8, .regs 12368 8, .regs 12392 8, .irq, .out, .regs 32769 1, .fm, .isl, .emit, .regs 16384 1, .pwr] s (execStuckTick a0 s) := by
  unfold execStuckTick
  refine outcome_only ?_
  refine Only.ite ?_ ?_
  refine Only.step (stuckTick_only ..) rfl ?_
  exact Only.refl _ _
  exact Only.refl _ _

theorem frontEndHit_only (s : State) a1 a2 : Only [.rx, .regs 12416 1, .regs 12600 8, .regs 12368 8, .regs 12392 8, .irq, .out, .regs 32769 1, .fm, .isl, .emit, .regs 16384 1, .pwr, .regs 12376 8] s (frontEndHit s a1 a2) := by
  unfold frontEndHit
  dsimp only
  refine Only.ite ?_ ?_
  exact Only.refl _ _
  refine Only.ite ?_ ?_
  refine Only.step (stuckTick_only ..) rfl ?_
  refine Only.step (updChan_only ..) rfl ?_
  exact Only.refl _ _
  refine Only.ite ?_ ?_
  refine Only.step (updChan_only ..) rfl ?_
  exact Only.refl _ _
  split
  refine Only.ite ?_ ?_
  refine Only.ite ?_ ?_
  refine Only.step (bumpChan_only ..) rfl ?_
  refine Only.step (updChan_only ..) rfl ?_
  exact Only.refl _ _
  refine Only.step (updChan_only ..) rfl ?_
  exact Only.refl _ _
  refine Only.step (stampHit_only ..) rfl ?_
  refine Only.step (updChan_only ..) rfl ?_
  exact Only.refl _ _
  refine Only.step (stampHit_only ..) rfl ?_
  refine Only.step (updChan_only ..) rfl ?_
  exact Only.refl _ _

theorem idleRun_only (c : Nat) (b : Int) (w : List Sample) (s : State) : Only [.rx] s (idleRun c b w s).1 := by
  induction w generalizing s with
  | nil => exact Only.refl _ _
  | cons x xs ih =>
    unfold idleRun
    dsimp only
    split
    · exact Only.step (setChan_only ..) rfl (Only.refl _ _)
    · exact Only.step (ih _) rfl (Only.step (setChan_only ..) rfl (Only.refl _ _))

theorem nextHit_only (s : State) (c : Nat) (b : Int) (w : List Sample) : Only [.rx] s (nextHit s c b w).1 := by
  have h := idleRun_only c b w s
  unfold nextHit
  split <;> rename_i e <;> rw [e] at h <;> exact h

theorem runWave_only (c : Nat) (b : Int) (n : Nat) (w : List Sample) (s : State) :
    Only [.rx, .regs 12416 1, .regs 12600 8, .regs 12368 8, .regs 12392 8, .irq, .out, .regs 32769 1, .fm, .isl, .emit, .regs 16384 1,
    .pwr, .regs 12376 8] s (runWave c b n w s) := by
  induction n generalizing w s with
  | zero => exact Only.refl _ _
  | succ n ih =>
    unfold runWave
    have h := nextHit_only s c b w
    split <;> rename_i e <;> rw [e] at h
    · exact Only.mono h rfl
    · exact Only.step (ih _ _) rfl (Only.step (frontEndHit_only ..) rfl (Only.mono h rfl))

theorem frontEndEvent_only (s : State) a1 a2 : Only [.rx, .regs 12416 1, .regs 12600 8, .regs 12368 8, .regs 12392 8, .irq, .out, .regs 32769 1, .fm, .isl, .emit, .regs 16384 1, .pwr, .regs 12376 8] s (frontEndEvent s a1 a2) := by
  unfold frontEndEvent
  refine Only.ite ?_ ?_
  exact Only.refl _ _
  refine Only.step (runWave_only ..) rfl ?_
  exact Only.refl _ _

theorem execFrontEndEvent_only a0 a1 (s : State) : OutcomeOnly [.rx, .regs 12416 1, .regs 12600 8, .regs 12368 8, .regs 12392 8, .irq, .out, .regs 32769 1, .fm, .isl, .emit, .regs 16384 1, .pwr, .regs 12376 8] s (execFrontEndEvent a0 a1 s) := by
  unfold execFrontEndEvent
  refine outcome_only ?_
  refine Only.step (frontEndEvent_only ..) rfl ?_
  exact Only.refl _ _

theorem rxShadow_only (s : State) : Only [.rx, .regs 12416 1] s (rxShadow s) := by
  unfold rxShadow
  dsimp only
  refine Only.ite ?_ ?_
  exact Only.refl _ _
  refine Only.ite ?_ ?_
  refine Only.set_rx rfl ?_
  exact Only.refl _ _
  refine Only.step (bumpBy_fam 12416 1 (by decide) (by decide) ..) rfl ?_
  refine Only.set_rx rfl ?_
  exact Only.refl _ _

theorem rxTick_only (s : State) a1 : Only [.rx, .regs 12600 8, .regs 12368 8, .regs 12392 8] s (rxTick s a1) := by
  unfold rxTick
  dsimp only
  refine Only.ite ?_ ?_
  refine Only.set_rx rfl ?_
  exact Only.refl _ _
  refine Only.set_rx rfl ?_
  refine Only.foldl _ _ (fun t x => ?_) ?_
  refine Only.ite ?_ ?_
  refine Only.step (chanLeave_only ..) rfl ?_
  exact Only.refl _ _
  exact Only.refl _ _
  refine Only.set_rx rfl ?_
  exact Only.refl _ _

theorem calHits_only (s : State) a1 : Only [.rx] s (calHits s a1) := by
  unfold calHits
  refine Only.ite ?_ ?_
  exact Only.refl _ _
  refine Only.foldl _ _ (fun t x => ?_) ?_
  refine Only.ite ?_ ?_
  exact Only.refl _ _
  refine Only.step (updChan_only ..) rfl ?_
  exact Only.refl _ _
  exact Only.refl _ _

theorem execCalibrationHits_only a0 (s : State) : OutcomeOnly [.rx] s (execCalibrationHits a0 s) := by
  unfold execCalibrationHits
  refine outcome_only ?_
  refine Only.step (calHits_only ..) rfl ?_
  exact Only.refl _ _

theorem chanPeriod_only (s : State) a1 : Only [.rx, .regs 12416 1, .regs 12384 8, .regs 12600 8, .regs 12368 8, .regs 12392 8, .irq, .out, .regs 32769 1, .fm, .isl, .emit, .regs 16384 1, .pwr] s (chanPeriod s a1) := by
  unfold chanPeriod
  dsimp only
  split
  exact Only.refl _ _
  split
  refine Only.ite ?_ ?_
  refine Only.step (setChan_only ..) rfl ?_
  exact Only.refl _ _
  refine Only.ite ?_ ?_
  refine Only.step (bump_fam 12416 1 (by decide) (by decide) ..) rfl ?_
  refine Only.step (updChan_only ..) rfl ?_
  refine Only.step (setChan_only ..) rfl ?_
  exact Only.refl _ _
  refine Only.step (updChan_only ..) rfl ?_
  refine Only.step (setChan_only ..) rfl ?_
  exact Only.refl _ _
  refine Only.ite ?_ ?_
  refine Only.step (bumpChan_only ..) rfl ?_
  refine Only.step (setChan_only ..) rfl ?_
  exact Only.refl _ _
  refine Only.ite ?_ ?_
  refine Only.step (chanFault_only ..) rfl ?_
  refine Only.step (updChan_only ..) rfl ?_
  refine Only.step (bumpChan_only ..) rfl ?_
  refine Only.step (setChan_only ..) rfl ?_
  exact Only.refl _ _
  refine Only.step (updChan_only ..) rfl ?_
  refine Only.step (updChan_only ..) rfl ?_
  refine Only.step (bumpChan_only ..) rfl ?_
  refine Only.step (setChan_only ..) rfl ?_
  exact Only.refl _ _

theorem oscFrequencies_only (s : State) a1 : Only [.regs 12288 1, .regs 12416 1] s (oscFrequencies s a1) := by
  unfold oscFrequencies
  dsimp only
  refine Only.step (odSet_fam 12416 1 (by decide) (by decide) ..) rfl ?_
  refine Only.step (odSetN_fam 12288 1 (by decide) (by decide) ..) rfl ?_
  exact Only.refl _ _

theorem periodEnd_only (s : State) a1 : Only [.rx, .regs 12416 1, .regs 12384 8, .regs 12600 8, .regs 12368 8, .regs 12392 8, .irq, .out, .regs 32769 1, .fm, .isl, .emit, .regs 16384 1, .pwr, .regs 12288 1] s (periodEnd s a1) := by
  unfold periodEnd
  dsimp only
  refine Only.ite ?_ ?_
  exact Only.refl _ _
  refine Only.step (bump_fam 12288 1 (by decide) (by decide) ..) rfl ?_
  refine Only.foldl _ _ (fun t x => ?_) ?_
  refine Only.ite ?_ ?_
  refine Only.step (chanPeriod_only ..) rfl ?_
  exact Only.refl _ _
  exact Only.refl _ _
  refine Only.step (oscFrequencies_only ..) rfl ?_
  refine Only.set_rx rfl ?_
  exact Only.refl _ _

theorem execCalibrationPeriodEnd_only a0 (s : State) : OutcomeOnly [.rx, .regs 12416 1, .regs 12384 8, .regs 12600 8, .regs 12368 8, .regs 12392 8, .irq, .out, .regs 32769 1, .fm, .isl, .emit, .regs 16384 1, .pwr, .regs 12288 1] s (execCalibrationPeriodEnd a0 s) := by
  unfold execCalibrationPeriodEnd
  refine outcome_only ?_
  refine Only.step (periodEnd_only ..) rfl ?_
  exact Only.refl _ _

theorem calStart_only (s : State) a1 : Only [.rx, .regs 12600 8, .regs 12368 8, .regs 12392 8, .emit, .regs 16384 1, .pwr, .irq, .out] s (calStart s a1) := by
  unfold calStart
  dsimp only
  refine Only.step (inhibit_only ..) rfl ?_
  refine Only.set_rx rfl ?_
  refine Only.foldl _ _ (fun t x => ?_) ?_
  refine Only.ite ?_ ?_
  refine Only.step (dropEarly_only ..) rfl ?_
  exact Only.refl _ _
  exact Only.refl _ _
  exact Only.refl _ _

theorem calHook_only  : HookOnly [.rx, .regs 12600 8, .regs 12368 8, .regs 12392 8, .emit, .regs 16384 1, .pwr, .irq, .out] (calHook ) := by
  intro s v
  unfold calHook
  dsimp only
  refine ⟨?_, ?_⟩
  exact GateOnly.none _ _
  split
  refine VerdictOnly.done ?_
  exact Only.refl _ _
  split
  refine VerdictOnly.abort ?_
  exact Only.refl _ _
  refine VerdictOnly.done ?_
  refine Only.step (calStart_only ..) rfl ?_
  exact Only.refl _ _

theorem execFullCalibrationRequest_only a0 (s : State) : OutcomeOnly [.sessions, .out, .mbox, .irq, .rx, .regs 12600 8, .regs 12368 8, .regs 12392 8, .emit, .regs 16384 1, .pwr] s (execFullCalibrationRequest a0 s) := by
  unfold execFullCalibrationRequest
  refine outcome_only ?_
  refine requestWrite_only (calHook_only) rfl rfl (by first | rfl | (unfold axisIx; cases a1 <;> rfl) | (simp [loopFreeObject]; omega)) ?_
  exact Only.refl _ _

theorem calChan_only (s : State) a1 a2 : Only [.rx, .regs 12600 8, .regs 12368 8, .regs 12392 8, .irq, .out, .regs 32769 1, .fm, .isl, .emit, .regs 16384 1, .pwr] s (calChan s a1 a2) := by
  unfold calChan
  dsimp only
  split
  refine Only.ite ?_ ?_
  refine Only.step (chanFault_only ..) rfl ?_
  exact Only.refl _ _
  refine Only.step (updChan_only ..) rfl ?_
  exact Only.refl _ _
  refine Only.step (chanFault_only ..) rfl ?_
  exact Only.refl _ _

theorem fullCalEnd_only (s : State) a1 : Only [.rx, .regs 12600 8, .regs 12368 8, .regs 12392 8, .irq, .out, .regs 32769 1, .fm, .isl, .emit, .regs 16384 1, .pwr, .regs 12552 1, .regs 12288 1, .odx, .plan] s (fullCalEnd s a1) := by
  unfold fullCalEnd
  dsimp only
  refine Only.ite ?_ ?_
  exact Only.refl _ _
  refine Only.ite ?_ ?_
  refine Only.step (startAdmission_only ..) rfl ?_
  refine Only.set_odx rfl ?_
  refine Only.step (inhibitClear_only ..) rfl ?_
  refine Only.step (setInt_only ..) rfl ?_
  refine Only.set_rx rfl ?_
  refine Only.step (odSetN_fam 12288 1 (by decide) (by decide) ..) rfl ?_
  refine Only.set_rx rfl ?_
  refine Only.foldl _ _ (fun t x => ?_) ?_
  refine Only.step (calChan_only ..) rfl ?_
  exact Only.refl _ _
  refine Only.ite ?_ ?_
  refine Only.step (odSetN_fam 12552 1 (by decide) (by decide) ..) rfl ?_
  exact Only.refl _ _
  exact Only.refl _ _
  refine Only.step (inhibitClear_only ..) rfl ?_
  refine Only.step (setInt_only ..) rfl ?_
  refine Only.set_rx rfl ?_
  refine Only.step (odSetN_fam 12288 1 (by decide) (by decide) ..) rfl ?_
  refine Only.set_rx rfl ?_
  refine Only.foldl _ _ (fun t x => ?_) ?_
  refine Only.step (calChan_only ..) rfl ?_
  exact Only.refl _ _
  refine Only.ite ?_ ?_
  refine Only.step (odSetN_fam 12552 1 (by decide) (by decide) ..) rfl ?_
  exact Only.refl _ _
  exact Only.refl _ _

theorem execFullCalibrationEnd_only a0 (s : State) : OutcomeOnly [.rx, .regs 12600 8, .regs 12368 8, .regs 12392 8, .irq, .out, .regs 32769 1, .fm, .isl, .emit, .regs 16384 1, .pwr, .regs 12552 1, .regs 12288 1, .odx, .plan] s (execFullCalibrationEnd a0 s) := by
  unfold execFullCalibrationEnd
  refine outcome_only ?_
  refine Only.step (fullCalEnd_only ..) rfl ?_
  exact Only.refl _ _

theorem rxStart_only (s : State) : Only [.rx, .regs 12600 8, .regs 12368 8, .regs 12392 8, .emit, .regs 16384 1, .pwr, .irq, .out] s (rxStart s) := by
  unfold rxStart
  dsimp only
  refine Only.step (calStart_only ..) rfl ?_
  refine Only.set_rx rfl ?_
  exact Only.refl _ _

theorem rxOff_only (s : State) : Only [.regs 12568 8, .rx, .regs 12600 8, .regs 12368 8, .regs 12392 8, .emit] s (rxOff s) := by
  unfold rxOff
  dsimp only
  refine Only.ite ?_ ?_
  refine Only.step (inhibitClear_only ..) rfl ?_
  refine Only.set_rx rfl ?_
  refine Only.foldl _ _ (fun t x => ?_) ?_
  refine Only.ite ?_ ?_
  refine Only.step (countLimited_only ..) rfl ?_
  exact Only.refl _ _
  exact Only.refl _ _
  refine Only.foldl _ _ (fun t x => ?_) ?_
  refine Only.step (chanLeave_only ..) rfl ?_
  exact Only.refl _ _
  exact Only.refl _ _
  refine Only.set_rx rfl ?_
  refine Only.foldl _ _ (fun t x => ?_) ?_
  refine Only.ite ?_ ?_
  refine Only.step (countLimited_only ..) rfl ?_
  exact Only.refl _ _
  exact Only.refl _ _
  refine Only.foldl _ _ (fun t x => ?_) ?_
  refine Only.step (chanLeave_only ..) rfl ?_
  exact Only.refl _ _
  exact Only.refl _ _

end Sys2Proof.Machine
end

