-- ==== Sys2Proof/Laws/FrameEcho.lean ====
section
/-! SUPPORT. Frames of the operations and commands of Machine/Echo.lean: one lemma per operation says what it changes at
most. -/

namespace Sys2Proof.Machine

theorem withEmpty_only (s : State) a1 : Only [.regs 12864 1] s (withEmpty s a1).1 := by
  unfold withEmpty
  split
  try dsimp only
  refine Only.step (bump_fam 12864 1 (by decide) (by decide) ..) rfl ?_
  exact Only.refl _ _
  try dsimp only
  exact Only.refl _ _

theorem eddyUpdate_only (s : State) a1 a2 : Only [.rx, .regs 12864 1] s (eddyUpdate s a1 a2) := by
  unfold eddyUpdate
  dsimp only
  refine Only.ite ?_ ?_
  refine Only.step (setChan_only ..) rfl ?_
  exact Only.refl _ _
  refine Only.step (updChan_only ..) rfl ?_
  refine Only.ite ?_ ?_
  refine Only.step (bump_fam 12864 1 (by decide) (by decide) ..) rfl ?_
  refine Only.step (setChan_only ..) rfl ?_
  exact Only.refl _ _
  refine Only.step (setChan_only ..) rfl ?_
  exact Only.refl _ _

theorem extract_only (s : State) a1 : Only [.rx, .regs 12864 1] s (extract s a1) := by
  unfold extract
  dsimp only
  refine Only.ite ?_ ?_
  exact Only.refl _ _
  refine Only.set_rx rfl ?_
  refine Only.step (eddyUpdate_only ..) rfl ?_
  refine Only.step (withEmpty_only ..) rfl ?_
  refine Only.step (withEmpty_only ..) rfl ?_
  refine Only.step (bumpBy_fam 12864 1 (by decide) (by decide) ..) rfl ?_
  refine Only.step (bumpBy_fam 12864 1 (by decide) (by decide) ..) rfl ?_
  refine Only.step (bumpBy_fam 12864 1 (by decide) (by decide) ..) rfl ?_
  refine Only.step (bumpBy_fam 12864 1 (by decide) (by decide) ..) rfl ?_
  refine Only.step (bumpBy_fam 12864 1 (by decide) (by decide) ..) rfl ?_
  refine Only.step (bumpBy_fam 12864 1 (by decide) (by decide) ..) rfl ?_
  refine Only.ite ?_ ?_
  refine Only.step (bump_fam 12864 1 (by decide) (by decide) ..) rfl ?_
  refine Only.step (bumpBy_fam 12864 1 (by decide) (by decide) ..) rfl ?_
  refine Only.step (bumpBy_fam 12864 1 (by decide) (by decide) ..) rfl ?_
  refine Only.step (bumpBy_fam 12864 1 (by decide) (by decide) ..) rfl ?_
  refine Only.step (setChan_only ..) rfl ?_
  exact Only.refl _ _
  refine Only.step (bumpBy_fam 12864 1 (by decide) (by decide) ..) rfl ?_
  refine Only.step (bumpBy_fam 12864 1 (by decide) (by decide) ..) rfl ?_
  refine Only.step (bumpBy_fam 12864 1 (by decide) (by decide) ..) rfl ?_
  refine Only.step (setChan_only ..) rfl ?_
  exact Only.refl _ _

theorem execEchoExtraction_only a0 (s : State) : OutcomeOnly [.rx, .regs 12864 1] s (execEchoExtraction a0 s) := by
  unfold execEchoExtraction
  refine outcome_only ?_
  refine Only.step (extract_only ..) rfl ?_
  exact Only.refl _ _

end Sys2Proof.Machine
end

