-- ==== Sys2Proof/Laws/FramePoints.lean ====
section
/-! SUPPORT. Frames of the operations and commands of Machine/Points.lean: one lemma per operation says what it changes at
most. -/

namespace Sys2Proof.Machine

theorem enterConfluence_only (s : State) a1 : Only [.points, .regs 13057 1] s (enterConfluence s a1) := by
  unfold enterConfluence
  dsimp only
  refine Only.ite ?_ ?_
  refine Only.step (odSetN_fam 13057 1 (by decide) (by decide) ..) rfl ?_
  refine Only.step (bump_fam 13057 1 (by decide) (by decide) ..) rfl ?_
  refine Only.set_points rfl ?_
  exact Only.refl _ _
  refine Only.step (bump_fam 13057 1 (by decide) (by decide) ..) rfl ?_
  refine Only.set_points rfl ?_
  exact Only.refl _ _

theorem islandCopy_only (s : State) a1 : Only [.isl] s (islandCopy s a1) := by
  unfold islandCopy
  dsimp only
  refine Only.ite ?_ ?_
  exact Only.refl _ _
  refine Only.set_isl rfl ?_
  exact Only.refl _ _

theorem islandMarker_only (s : State) a1 a2 : Only [.isl] s (islandMarker s a1 a2) := by
  unfold islandMarker
  dsimp only
  refine Only.ite ?_ ?_
  exact Only.refl _ _
  refine Only.set_isl rfl ?_
  exact Only.refl _ _

theorem countDecision_only (s : State) a1 a2 : Only [.plan] s (countDecision s a1 a2) := by
  unfold countDecision
  dsimp only
  split
  exact Only.refl _ _
  refine Only.set_plan rfl ?_
  exact Only.refl _ _

theorem oxbowCode_sub (s : State) (r : ChanResult) : oxbowCode s r + 1 < 256 := by
  unfold oxbowCode
  dsimp only
  repeat' split
  all_goals decide

theorem oxbow_only (s : State) a1 a2 : Only [.isl, .points, .regs 13057 1, .rx, .regs 8480 1, .plan, .regs 8496 8] s (oxbow s a1 a2) := by
  unfold oxbow
  dsimp only
  split
  exact Only.refl _ _
  refine Only.step (islandMarker_only ..) rfl ?_
  refine Only.foldl _ _ (fun t x => ?_) ?_
  refine Only.step (enterConfluence_only ..) rfl ?_
  refine Only.step (islandCopy_only ..) rfl ?_
  exact Only.refl _ _
  split
  refine Only.ite ?_ ?_
  refine Only.step (updChan_only ..) rfl ?_
  refine Only.ite ?_ ?_
  refine Only.step (bumpChan_only ..) rfl ?_
  refine Only.step (updChan_only ..) rfl ?_
  refine Only.step (countDecision_only ..) rfl ?_
  refine Only.step (bump_fam 8480 1 (by decide) (oxbowCode_sub _ _) ..) rfl ?_
  refine Only.set_rx rfl ?_
  exact Only.refl _ _
  refine Only.step (countDecision_only ..) rfl ?_
  refine Only.step (bump_fam 8480 1 (by decide) (oxbowCode_sub _ _) ..) rfl ?_
  refine Only.set_rx rfl ?_
  exact Only.refl _ _
  refine Only.step (updCol_only ..) rfl ?_
  refine Only.step (updChan_only ..) rfl ?_
  refine Only.ite ?_ ?_
  refine Only.step (bumpChan_only ..) rfl ?_
  refine Only.step (updChan_only ..) rfl ?_
  refine Only.step (countDecision_only ..) rfl ?_
  refine Only.step (bump_fam 8480 1 (by decide) (oxbowCode_sub _ _) ..) rfl ?_
  refine Only.set_rx rfl ?_
  exact Only.refl _ _
  refine Only.step (countDecision_only ..) rfl ?_
  refine Only.step (bump_fam 8480 1 (by decide) (oxbowCode_sub _ _) ..) rfl ?_
  refine Only.set_rx rfl ?_
  exact Only.refl _ _
  refine Only.step (updChan_only ..) rfl ?_
  refine Only.ite ?_ ?_
  refine Only.step (bumpChan_only ..) rfl ?_
  refine Only.step (updChan_only ..) rfl ?_
  refine Only.step (countDecision_only ..) rfl ?_
  refine Only.step (bump_fam 8480 1 (by decide) (oxbowCode_sub _ _) ..) rfl ?_
  refine Only.set_rx rfl ?_
  exact Only.refl _ _
  refine Only.step (countDecision_only ..) rfl ?_
  refine Only.step (bump_fam 8480 1 (by decide) (oxbowCode_sub _ _) ..) rfl ?_
  refine Only.set_rx rfl ?_
  exact Only.refl _ _

theorem execOxbowDecision_only a0 (s : State) : OutcomeOnly [.isl, .points, .regs 13057 1, .rx, .regs 8480 1, .plan, .regs 8496 8] s (execOxbowDecision a0 s) := by
  unfold execOxbowDecision
  refine outcome_only ?_
  refine Only.step (oxbow_only ..) rfl ?_
  exact Only.refl _ _

theorem recordUnit_only (s : State) a1 a2 a3 a4 : Only [.regs 49184 16, .lane, .rings, .irq, .out] s (recordUnit s a1 a2 a3 a4) := by
  unfold recordUnit
  dsimp only
  refine Only.ite ?_ ?_
  exact Only.refl _ _
  refine Only.step (route_only ..) rfl ?_
  exact Only.refl _ _

theorem sendCommit_only (s : State) a1 : Only [.regs 49184 16, .lane, .rings, .irq, .out, .regs 13057 1, .points] s (sendCommit s a1) := by
  unfold sendCommit
  dsimp only
  refine Only.foldl _ _ (fun t x => ?_) ?_
  refine Only.foldl _ _ (fun t x => ?_) ?_
  refine Only.step (recordUnit_only ..) rfl ?_
  exact Only.refl _ _
  exact Only.refl _ _
  refine Only.set_points rfl ?_
  refine Only.step (bumpBy_fam 13057 1 (by decide) (by decide) ..) rfl ?_
  exact Only.refl _ _

theorem flushPoints_only (s : State) : Only [.regs 49184 16, .lane, .rings, .irq, .out, .regs 13057 1, .points] s (flushPoints s) := by
  unfold flushPoints
  dsimp only
  refine Only.foldlP Prod.fst _ _ (fun r x => ?_) ?_
  try dsimp only
  split
  try dsimp only
  refine Only.step (sendCommit_only ..) rfl ?_
  exact Only.refl _ _
  try dsimp only
  exact Only.refl _ _
  try dsimp only
  try dsimp only
  exact Only.refl _ _

theorem statusCounter_only (s : State) a1 : Only [.regs 24644 1] s (statusCounter s a1) := by
  unfold statusCounter
  split
  refine Only.step (bump_fam 24644 1 (by decide) (by decide) ..) rfl ?_
  exact Only.refl _ _
  refine Only.step (bump_fam 24644 1 (by decide) (by decide) ..) rfl ?_
  exact Only.refl _ _
  refine Only.step (bump_fam 24644 1 (by decide) (by decide) ..) rfl ?_
  exact Only.refl _ _
  refine Only.step (bump_fam 24644 1 (by decide) (by decide) ..) rfl ?_
  exact Only.refl _ _
  refine Only.step (bump_fam 24644 1 (by decide) (by decide) ..) rfl ?_
  exact Only.refl _ _
  exact Only.refl _ _

theorem confluence_only (s : State) : Only [.points, .regs 24644 1, .regs 49184 16, .lane, .rings, .irq, .out, .regs 13057 1] s (confluence s) := by
  unfold confluence
  dsimp only
  split
  exact Only.refl _ _
  refine Only.step (flushPoints_only ..) rfl ?_
  refine Only.step (statusCounter_only ..) rfl ?_
  refine Only.set_points rfl ?_
  exact Only.refl _ _

theorem execConfluence_only (s : State) : OutcomeOnly [.points, .regs 24644 1, .regs 49184 16, .lane, .rings, .irq, .out, .regs 13057 1] s (execConfluence s) := by
  unfold execConfluence
  refine outcome_only ?_
  refine Only.step (confluence_only ..) rfl ?_
  exact Only.refl _ _

theorem pixelReturn_only (s : State) : Only [.points, .regs 24644 1, .regs 49184 16, .lane, .rings, .irq, .out, .regs 13057 1] s (pixelReturn s) := by
  unfold pixelReturn
  dsimp only
  split
  refine Only.set_points rfl ?_
  exact Only.refl _ _
  split
  exact Only.refl _ _
  split
  refine Only.step (flushPoints_only ..) rfl ?_
  refine Only.ite ?_ ?_
  refine Only.step (odSetN_fam 24644 1 (by decide) (by decide) ..) rfl ?_
  refine Only.step (bump_fam 24644 1 (by decide) (by decide) ..) rfl ?_
  refine Only.set_points rfl ?_
  exact Only.refl _ _
  refine Only.step (bump_fam 24644 1 (by decide) (by decide) ..) rfl ?_
  refine Only.set_points rfl ?_
  exact Only.refl _ _
  exact Only.refl _ _

theorem execPixelReadReturn_only (s : State) : OutcomeOnly [.points, .regs 24644 1, .regs 49184 16, .lane, .rings, .irq, .out, .regs 13057 1] s (execPixelReadReturn s) := by
  unfold execPixelReadReturn
  refine outcome_only ?_
  refine Only.step (pixelReturn_only ..) rfl ?_
  exact Only.refl _ _

theorem memLate_only (s : State) : Only [.points, .regs 24644 1, .regs 49184 16, .lane, .rings, .irq, .out, .regs 13057 1] s (memLate s) := by
  unfold memLate
  dsimp only
  split
  exact Only.refl _ _
  refine Only.step (flushPoints_only ..) rfl ?_
  refine Only.step (statusCounter_only ..) rfl ?_
  refine Only.set_points rfl ?_
  exact Only.refl _ _

theorem execMemLate_only (s : State) : OutcomeOnly [.points, .regs 24644 1, .regs 49184 16, .lane, .rings, .irq, .out, .regs 13057 1] s (execMemLate s) := by
  unfold execMemLate
  refine outcome_only ?_
  refine Only.step (memLate_only ..) rfl ?_
  exact Only.refl _ _

theorem versionHook_only a0 : HookOnly [.regs 7954 1] (versionHook a0) := by
  intro s v
  unfold versionHook
  dsimp only
  refine ⟨?_, ?_⟩
  exact GateOnly.none _ _
  refine VerdictOnly.done ?_
  refine Only.step (odSetN_fam 7954 1 (by decide) (by omega) ..) rfl ?_
  exact Only.refl _ _

theorem execPr32VersionWrite_only a0 a1 a2 (s : State) : OutcomeOnly [.sessions, .out, .mbox, .irq, .regs 7954 1] s (execPr32VersionWrite a0 a1 a2 s) := by
  unfold execPr32VersionWrite
  refine outcome_only ?_
  refine requestWrite_only (HookOnly.ite (C := [.regs 7954 1]) (HookOnly.mono (versionHook_only _) rfl) (HookOnly.mono (plainHook_fam 7954 1 (by decide) (by omega)) rfl)) rfl rfl (by first | rfl | (unfold axisIx; cases a1 <;> rfl) | (simp [loopFreeObject]; omega)) ?_
  exact Only.refl _ _

end Sys2Proof.Machine
end

