-- ==== Sys2Proof/Laws/FrameCamera.lean ====
section
/-! SUPPORT. Frames of the operations and commands of Machine/Camera.lean: one lemma per operation says what it changes at
most. -/

namespace Sys2Proof.Machine

theorem updCam_only (s : State) a1 a2 : Only [.cams] s (updCam s a1 a2) := by
  unfold updCam
  refine Only.set_cams rfl ?_
  exact Only.refl _ _

theorem camEnter_only (s : State) a1 a2 : Only [.irq, .out, .cams] s (camEnter s a1 a2) := by
  unfold camEnter
  dsimp only
  refine Only.step (updCam_only ..) rfl ?_
  refine Only.ite ?_ ?_
  exact Only.refl _ _
  refine Only.step (setInt_only ..) rfl ?_
  exact Only.refl _ _

theorem camJudge_only (s : State) a1 a2 : Only [.cams, .irq, .out, .regs 24584 2] s (camJudge s a1 a2) := by
  unfold camJudge
  dsimp only
  split
  refine Only.ite ?_ ?_
  refine Only.step (camEnter_only ..) rfl ?_
  refine Only.step (updCam_only ..) rfl ?_
  exact Only.refl _ _
  refine Only.step (updCam_only ..) rfl ?_
  exact Only.refl _ _
  refine Only.ite ?_ ?_
  refine Only.step (camEnter_only ..) rfl ?_
  refine Only.step (updCam_only ..) rfl ?_
  exact Only.refl _ _
  refine Only.step (updCam_only ..) rfl ?_
  exact Only.refl _ _
  refine Only.ite ?_ ?_
  refine Only.step (bump_fam 24584 2 (by omega) (by decide) ..) rfl ?_
  refine Only.step (camEnter_only ..) rfl ?_
  refine Only.step (updCam_only ..) rfl ?_
  exact Only.refl _ _
  refine Only.step (updCam_only ..) rfl ?_
  exact Only.refl _ _
  refine Only.step (updCam_only ..) rfl ?_
  exact Only.refl _ _

theorem camClose_only (s : State) a1 a2 a3 : Only [.regs 24584 2, .cams, .irq, .out] s (camClose s a1 a2 a3) := by
  unfold camClose
  dsimp only
  split
  exact Only.refl _ _
  refine Only.step (camJudge_only ..) rfl ?_
  refine Only.step (updCam_only ..) rfl ?_
  refine Only.ite ?_ ?_
  refine Only.step (bump_fam 24584 2 (by omega) (by decide) ..) rfl ?_
  refine Only.ite ?_ ?_
  refine Only.step (bump_fam 24584 2 (by omega) (by decide) ..) rfl ?_
  refine Only.ite ?_ ?_
  refine Only.step (bump_fam 24584 2 (by omega) (by decide) ..) rfl ?_
  refine Only.step (bump_fam 24584 2 (by omega) (by decide) ..) rfl ?_
  refine Only.ite ?_ ?_
  refine Only.step (bump_fam 24584 2 (by omega) (by decide) ..) rfl ?_
  exact Only.refl _ _
  exact Only.refl _ _
  refine Only.step (bump_fam 24584 2 (by omega) (by decide) ..) rfl ?_
  refine Only.ite ?_ ?_
  refine Only.step (bump_fam 24584 2 (by omega) (by decide) ..) rfl ?_
  exact Only.refl _ _
  exact Only.refl _ _
  refine Only.ite ?_ ?_
  refine Only.step (bump_fam 24584 2 (by omega) (by decide) ..) rfl ?_
  refine Only.step (bump_fam 24584 2 (by omega) (by decide) ..) rfl ?_
  refine Only.ite ?_ ?_
  refine Only.step (bump_fam 24584 2 (by omega) (by decide) ..) rfl ?_
  exact Only.refl _ _
  exact Only.refl _ _
  refine Only.step (bump_fam 24584 2 (by omega) (by decide) ..) rfl ?_
  refine Only.ite ?_ ?_
  refine Only.step (bump_fam 24584 2 (by omega) (by decide) ..) rfl ?_
  exact Only.refl _ _
  exact Only.refl _ _
  refine Only.ite ?_ ?_
  refine Only.step (bump_fam 24584 2 (by omega) (by decide) ..) rfl ?_
  refine Only.ite ?_ ?_
  refine Only.step (bump_fam 24584 2 (by omega) (by decide) ..) rfl ?_
  refine Only.step (bump_fam 24584 2 (by omega) (by decide) ..) rfl ?_
  refine Only.ite ?_ ?_
  refine Only.step (bump_fam 24584 2 (by omega) (by decide) ..) rfl ?_
  exact Only.refl _ _
  exact Only.refl _ _
  refine Only.step (bump_fam 24584 2 (by omega) (by decide) ..) rfl ?_
  refine Only.ite ?_ ?_
  refine Only.step (bump_fam 24584 2 (by omega) (by decide) ..) rfl ?_
  exact Only.refl _ _
  exact Only.refl _ _
  refine Only.ite ?_ ?_
  refine Only.step (bump_fam 24584 2 (by omega) (by decide) ..) rfl ?_
  refine Only.step (bump_fam 24584 2 (by omega) (by decide) ..) rfl ?_
  refine Only.ite ?_ ?_
  refine Only.step (bump_fam 24584 2 (by omega) (by decide) ..) rfl ?_
  exact Only.refl _ _
  exact Only.refl _ _
  refine Only.step (bump_fam 24584 2 (by omega) (by decide) ..) rfl ?_
  refine Only.ite ?_ ?_
  refine Only.step (bump_fam 24584 2 (by omega) (by decide) ..) rfl ?_
  exact Only.refl _ _
  exact Only.refl _ _

theorem camHeader_only (s : State) a1 a2 a3 : Only [.regs 24584 2] s (camHeader s a1 a2 a3).2 := by
  unfold camHeader
  dsimp only
  split
  try dsimp only
  refine Only.step (bump_fam 24584 2 (by omega) (by decide) ..) rfl ?_
  exact Only.refl _ _
  try dsimp only
  refine Only.ite ?_ ?_
  refine Only.ite ?_ ?_
  refine Only.step (bump_fam 24584 2 (by omega) (by decide) ..) rfl ?_
  exact Only.refl _ _
  exact Only.refl _ _
  refine Only.step (bump_fam 24584 2 (by omega) (by decide) ..) rfl ?_
  refine Only.ite ?_ ?_
  refine Only.step (bump_fam 24584 2 (by omega) (by decide) ..) rfl ?_
  exact Only.refl _ _
  exact Only.refl _ _

theorem toneStep_only (s : State) a1 : Only [.cams, .regs 24580 2] s (toneStep s a1) := by
  unfold toneStep
  dsimp only
  split
  refine Only.ite ?_ ?_
  refine Only.step (odSetN_fam 24580 2 (by omega) (by decide) ..) rfl ?_
  refine Only.step (updCam_only ..) rfl ?_
  exact Only.refl _ _
  refine Only.step (odSetN_fam 24580 2 (by omega) (by decide) ..) rfl ?_
  refine Only.step (updCam_only ..) rfl ?_
  exact Only.refl _ _
  refine Only.ite ?_ ?_
  refine Only.step (odSetN_fam 24580 2 (by omega) (by decide) ..) rfl ?_
  refine Only.step (updCam_only ..) rfl ?_
  refine Only.step (odSet_fam 24580 2 (by omega) (by omega) ..) rfl ?_
  exact Only.refl _ _
  refine Only.step (odSetN_fam 24580 2 (by omega) (by decide) ..) rfl ?_
  refine Only.step (updCam_only ..) rfl ?_
  exact Only.refl _ _

theorem camOpen_only (s : State) a1 a2 a3 a4 : Only [.cams, .regs 24580 2] s (camOpen s a1 a2 a3 a4) := by
  unfold camOpen
  dsimp only
  refine Only.step (updCam_only ..) rfl ?_
  refine Only.step (toneStep_only ..) rfl ?_
  exact Only.refl _ _

theorem frameStart_only (s : State) a1 a2 : Only [.regs 24584 2, .cams, .irq, .out, .regs 24580 2] s (frameStart s a1 a2) := by
  unfold frameStart
  dsimp only
  refine Only.ite ?_ ?_
  exact Only.refl _ _
  refine Only.ite ?_ ?_
  refine Only.step (camHeader_only ..) rfl ?_
  exact Only.refl _ _
  refine Only.ite ?_ ?_
  refine Only.step (bump_fam 24584 2 (by omega) (by decide) ..) rfl ?_
  refine Only.step (updCam_only ..) rfl ?_
  refine Only.ite ?_ ?_
  refine Only.step (camEnter_only ..) rfl ?_
  refine Only.step (camClose_only ..) rfl ?_
  refine Only.step (camHeader_only ..) rfl ?_
  exact Only.refl _ _
  refine Only.step (updCam_only ..) rfl ?_
  refine Only.step (camClose_only ..) rfl ?_
  refine Only.step (camHeader_only ..) rfl ?_
  exact Only.refl _ _
  refine Only.step (camOpen_only ..) rfl ?_
  refine Only.ite ?_ ?_
  refine Only.step (camEnter_only ..) rfl ?_
  refine Only.step (camClose_only ..) rfl ?_
  refine Only.step (camHeader_only ..) rfl ?_
  exact Only.refl _ _
  refine Only.step (updCam_only ..) rfl ?_
  refine Only.step (camClose_only ..) rfl ?_
  refine Only.step (camHeader_only ..) rfl ?_
  exact Only.refl _ _

theorem execFrameStart_only a0 a1 (s : State) : OutcomeOnly [.regs 24584 2, .cams, .irq, .out, .regs 24580 2] s (execFrameStart a0 a1 s) := by
  unfold execFrameStart
  refine outcome_only ?_
  refine Only.step (frameStart_only ..) rfl ?_
  exact Only.refl _ _

theorem frameEnd_only (s : State) a1 a2 : Only [.regs 24584 2, .cams, .irq, .out] s (frameEnd s a1 a2) := by
  unfold frameEnd
  dsimp only
  refine Only.ite ?_ ?_
  exact Only.refl _ _
  refine Only.ite ?_ ?_
  refine Only.step (camHeader_only ..) rfl ?_
  exact Only.refl _ _
  refine Only.ite ?_ ?_
  refine Only.step (updCam_only ..) rfl ?_
  refine Only.step (camHeader_only ..) rfl ?_
  exact Only.refl _ _
  refine Only.step (camClose_only ..) rfl ?_
  refine Only.step (camHeader_only ..) rfl ?_
  exact Only.refl _ _

theorem execFrameEnd_only a0 a1 (s : State) : OutcomeOnly [.regs 24584 2, .cams, .irq, .out] s (execFrameEnd a0 a1 s) := by
  unfold execFrameEnd
  refine outcome_only ?_
  refine Only.step (frameEnd_only ..) rfl ?_
  exact Only.refl _ _

theorem linePacket_only (s : State) a1 a2 : Only [.regs 24584 2, .cams] s (linePacket s a1 a2) := by
  unfold linePacket
  dsimp only
  refine Only.ite ?_ ?_
  exact Only.refl _ _
  refine Only.ite ?_ ?_
  refine Only.step (camHeader_only ..) rfl ?_
  exact Only.refl _ _
  refine Only.ite ?_ ?_
  refine Only.step (bump_fam 24584 2 (by omega) (by decide) ..) rfl ?_
  refine Only.step (camHeader_only ..) rfl ?_
  exact Only.refl _ _
  refine Only.ite ?_ ?_
  refine Only.step (camHeader_only ..) rfl ?_
  exact Only.refl _ _
  split
  refine Only.step (bump_fam 24584 2 (by omega) (by decide) ..) rfl ?_
  refine Only.step (camHeader_only ..) rfl ?_
  exact Only.refl _ _
  refine Only.ite ?_ ?_
  refine Only.step (updCam_only ..) rfl ?_
  refine Only.step (bump_fam 24584 2 (by omega) (by decide) ..) rfl ?_
  refine Only.step (camHeader_only ..) rfl ?_
  exact Only.refl _ _
  refine Only.ite ?_ ?_
  refine Only.step (updCam_only ..) rfl ?_
  refine Only.step (camHeader_only ..) rfl ?_
  exact Only.refl _ _
  refine Only.ite ?_ ?_
  refine Only.ite ?_ ?_
  refine Only.step (updCam_only ..) rfl ?_
  refine Only.ite ?_ ?_
  refine Only.step (camHeader_only ..) rfl ?_
  exact Only.refl _ _
  refine Only.step (bump_fam 24584 2 (by omega) (by decide) ..) rfl ?_
  refine Only.step (camHeader_only ..) rfl ?_
  exact Only.refl _ _
  refine Only.step (updCam_only ..) rfl ?_
  refine Only.ite ?_ ?_
  refine Only.step (camHeader_only ..) rfl ?_
  exact Only.refl _ _
  refine Only.step (bump_fam 24584 2 (by omega) (by decide) ..) rfl ?_
  refine Only.step (camHeader_only ..) rfl ?_
  exact Only.refl _ _
  refine Only.step (updCam_only ..) rfl ?_
  refine Only.step (updCam_only ..) rfl ?_
  refine Only.ite ?_ ?_
  refine Only.step (bump_fam 24584 2 (by omega) (by decide) ..) rfl ?_
  refine Only.step (camHeader_only ..) rfl ?_
  exact Only.refl _ _
  refine Only.step (camHeader_only ..) rfl ?_
  exact Only.refl _ _

theorem execLinePacket_only a0 a1 (s : State) : OutcomeOnly [.regs 24584 2, .cams] s (execLinePacket a0 a1 s) := by
  unfold execLinePacket
  refine outcome_only ?_
  refine Only.step (linePacket_only ..) rfl ?_
  exact Only.refl _ _

theorem camSend_only (s : State) a1 a2 a3 a4 a5 : Only [.regs 49184 16, .lane, .rings, .irq, .out] s (camSend s a1 a2 a3 a4 a5) := by
  unfold camSend
  dsimp only
  refine Only.ite ?_ ?_
  exact Only.refl _ _
  refine Only.step (route_only ..) rfl ?_
  exact Only.refl _ _

theorem camLine_only (s : State) a1 a2 a3 a4 a5 : Only [.regs 49184 16, .lane, .rings, .irq, .out] s (camLine s a1 a2 a3 a4 a5) := by
  unfold camLine
  refine Only.step (camSend_only ..) rfl ?_
  exact Only.refl _ _

theorem camTap_only (s : State) a1 a2 a3 a4 a5 : Only [.regs 49184 16, .lane, .rings, .irq, .out] s (camTap s a1 a2 a3 a4 a5) := by
  unfold camTap
  refine Only.ite ?_ ?_
  refine Only.step (camLine_only ..) rfl ?_
  exact Only.refl _ _
  exact Only.refl _ _

theorem freeLine_only (s : State) a1 : Only [.free] s (freeLine s a1).2 := by
  unfold freeLine
  try dsimp only
  refine Only.set_free rfl ?_
  exact Only.refl _ _

theorem neighbourLine_only (s : State) a1 a2 a3 : Only [.free] s (neighbourLine s a1 a2 a3).2.2 := by
  unfold neighbourLine
  dsimp only
  split
  try dsimp only
  try dsimp only
  exact Only.refl _ _
  split
  try dsimp only
  try dsimp only
  exact Only.refl _ _
  try dsimp only
  try dsimp only
  refine Only.step (freeLine_only ..) rfl ?_
  exact Only.refl _ _
  split
  try dsimp only
  try dsimp only
  exact Only.refl _ _
  try dsimp only
  try dsimp only
  refine Only.step (freeLine_only ..) rfl ?_
  exact Only.refl _ _
  try dsimp only
  try dsimp only
  refine Only.step (freeLine_only ..) rfl ?_
  exact Only.refl _ _

theorem camOut_only (s : State) a1 a2 a3 a4 a5 : Only [.free, .acq, .qdr, .regs 49184 16, .lane, .rings, .irq, .out] s (camOut s a1 a2 a3 a4 a5) := by
  unfold camOut
  dsimp only
  refine Only.step (camTap_only ..) rfl ?_
  refine Only.step (camTap_only ..) rfl ?_
  refine Only.step (camTap_only ..) rfl ?_
  refine Only.step (camLine_only ..) rfl ?_
  refine Only.step (qdrWrite_only ..) rfl ?_
  refine Only.set_acq rfl ?_
  refine Only.step (neighbourLine_only ..) rfl ?_
  exact Only.refl _ _

theorem serveLine_only (s : State) a1 a2 a3 a4 : Only [.cams, .regs 49184 16, .lane, .rings, .irq, .out, .free, .acq, .qdr] s (serveLine s a1 a2 a3 a4) := by
  unfold serveLine
  dsimp only
  refine Only.step (updCam_only ..) rfl ?_
  split
  refine Only.step (camTap_only ..) rfl ?_
  refine Only.step (updCam_only ..) rfl ?_
  exact Only.refl _ _
  refine Only.step (camOut_only ..) rfl ?_
  refine Only.step (camTap_only ..) rfl ?_
  refine Only.step (updCam_only ..) rfl ?_
  exact Only.refl _ _

theorem lineService_only (s : State) : Only [.cams, .regs 49184 16, .lane, .rings, .irq, .out, .free, .acq, .qdr] s (lineService s) := by
  unfold lineService
  refine Only.ite ?_ ?_
  exact Only.refl _ _
  split
  exact Only.refl _ _
  refine Only.step (serveLine_only ..) rfl ?_
  exact Only.refl _ _
  refine Only.step (serveLine_only ..) rfl ?_
  exact Only.refl _ _
  refine Only.ite ?_ ?_
  refine Only.step (serveLine_only ..) rfl ?_
  exact Only.refl _ _
  refine Only.step (serveLine_only ..) rfl ?_
  exact Only.refl _ _

theorem execLineService_only (s : State) : OutcomeOnly [.cams, .regs 49184 16, .lane, .rings, .irq, .out, .free, .acq, .qdr] s (execLineService s) := by
  unfold execLineService
  refine outcomeMem_only ?_
  refine Only.step (lineService_only ..) rfl ?_
  exact Only.refl _ _

theorem frameStored_only (s : State) a1 : Only [.free, .acq, .qdr, .regs 49184 16, .lane, .rings, .irq, .out, .cams] s (frameStored s a1) := by
  unfold frameStored
  dsimp only
  refine Only.ite ?_ ?_
  exact Only.refl _ _
  split
  exact Only.refl _ _
  refine Only.ite ?_ ?_
  exact Only.refl _ _
  refine Only.step (updCam_only ..) rfl ?_
  refine Only.ite ?_ ?_
  refine Only.step (camSend_only ..) rfl ?_
  refine Only.step (qdrWrite_only ..) rfl ?_
  split
  exact Only.refl _ _
  refine Only.step (camOut_only ..) rfl ?_
  exact Only.refl _ _
  refine Only.step (camSend_only ..) rfl ?_
  refine Only.step (camSend_only ..) rfl ?_
  refine Only.step (qdrWrite_only ..) rfl ?_
  split
  exact Only.refl _ _
  refine Only.step (camOut_only ..) rfl ?_
  exact Only.refl _ _

theorem execFrameStored_only a0 (s : State) : OutcomeOnly [.free, .acq, .qdr, .regs 49184 16, .lane, .rings, .irq, .out, .cams] s (execFrameStored a0 s) := by
  unfold execFrameStored
  refine outcomeMem_only ?_
  refine Only.step (frameStored_only ..) rfl ?_
  exact Only.refl _ _

theorem frameTimeout_only (s : State) a1 : Only [.regs 24584 2, .irq, .out, .regs 32769 1, .fm, .isl, .emit, .regs 16384 1, .pwr, .cams] s (frameTimeout s a1) := by
  unfold frameTimeout
  dsimp only
  refine Only.ite ?_ ?_
  refine Only.step (camEnter_only ..) rfl ?_
  refine Only.ite ?_ ?_
  refine Only.step (bump_fam 24584 2 (by omega) (by decide) ..) rfl ?_
  exact Only.refl _ _
  refine Only.step (reportFault_only ..) rfl ?_
  refine Only.step (bump_fam 24584 2 (by omega) (by decide) ..) rfl ?_
  exact Only.refl _ _
  exact Only.refl _ _

theorem execFrameTimeout_only a0 (s : State) : OutcomeOnly [.regs 24584 2, .irq, .out, .regs 32769 1, .fm, .isl, .emit, .regs 16384 1, .pwr, .cams] s (execFrameTimeout a0 s) := by
  unfold execFrameTimeout
  refine outcome_only ?_
  refine Only.step (frameTimeout_only ..) rfl ?_
  exact Only.refl _ _

theorem portOn_only (s : State) a1 : Only [.irq, .out, .cams] s (portOn s a1) := by
  unfold portOn
  refine Only.ite ?_ ?_
  refine Only.step (camEnter_only ..) rfl ?_
  exact Only.refl _ _
  exact Only.refl _ _

theorem portOff_only (s : State) a1 : Only [.regs 24584 2, .cams, .irq, .out] s (portOff s a1) := by
  unfold portOff
  dsimp only
  refine Only.step (updCam_only ..) rfl ?_
  refine Only.step (camEnter_only ..) rfl ?_
  refine Only.step (camClose_only ..) rfl ?_
  exact Only.refl _ _

theorem portHook_only a0 : HookOnly [.regs 24576 2, .regs 24584 2, .cams, .irq, .out] (portHook a0) := by
  intro s v
  unfold portHook
  dsimp only
  refine ⟨?_, ?_⟩
  exact GateOnly.none _ _
  refine VerdictOnly.done ?_
  refine Only.ite ?_ ?_
  refine Only.step (portOff_only ..) rfl ?_
  refine Only.step (odSet_fam 24576 2 (by omega) (by decide) ..) rfl ?_
  exact Only.refl _ _
  refine Only.step (portOn_only ..) rfl ?_
  refine Only.step (odSet_fam 24576 2 (by omega) (by decide) ..) rfl ?_
  exact Only.refl _ _

theorem execPortEnableWrite_only a0 a1 a2 (s : State) : OutcomeOnly [.sessions, .out, .mbox, .irq, .regs 24576 2, .regs 24584 2, .cams] s (execPortEnableWrite a0 a1 a2 s) := by
  unfold execPortEnableWrite
  refine outcome_only ?_
  refine requestWrite_only (portHook_only _) rfl rfl (by first | rfl | (unfold axisIx; cases a1 <;> rfl) | (simp [loopFreeObject]; omega)) ?_
  exact Only.refl _ _

theorem testHook_only a0 : HookOnly [.regs 24576 2, .irq, .out, .cams] (testHook a0) := by
  intro s v
  unfold testHook
  dsimp only
  refine ⟨?_, ?_⟩
  exact GateOnly.none _ _
  refine VerdictOnly.done ?_
  split
  refine Only.ite ?_ ?_
  refine Only.step (odSet_fam 24576 2 (by omega) (by decide) ..) rfl ?_
  exact Only.refl _ _
  refine Only.step (camEnter_only ..) rfl ?_
  refine Only.step (odSet_fam 24576 2 (by omega) (by decide) ..) rfl ?_
  exact Only.refl _ _
  refine Only.ite ?_ ?_
  refine Only.step (odSet_fam 24576 2 (by omega) (by decide) ..) rfl ?_
  exact Only.refl _ _
  refine Only.step (camEnter_only ..) rfl ?_
  refine Only.step (odSet_fam 24576 2 (by omega) (by decide) ..) rfl ?_
  exact Only.refl _ _
  refine Only.ite ?_ ?_
  refine Only.step (odSet_fam 24576 2 (by omega) (by decide) ..) rfl ?_
  exact Only.refl _ _
  refine Only.step (camEnter_only ..) rfl ?_
  refine Only.step (odSet_fam 24576 2 (by omega) (by decide) ..) rfl ?_
  exact Only.refl _ _
  refine Only.ite ?_ ?_
  refine Only.step (camEnter_only ..) rfl ?_
  refine Only.step (odSet_fam 24576 2 (by omega) (by decide) ..) rfl ?_
  exact Only.refl _ _
  refine Only.step (odSet_fam 24576 2 (by omega) (by decide) ..) rfl ?_
  exact Only.refl _ _
  refine Only.step (odSet_fam 24576 2 (by omega) (by decide) ..) rfl ?_
  exact Only.refl _ _

theorem execTestRequestWrite_only a0 a1 a2 (s : State) : OutcomeOnly [.sessions, .out, .mbox, .irq, .regs 24576 2, .cams] s (execTestRequestWrite a0 a1 a2 s) := by
  unfold execTestRequestWrite
  refine outcome_only ?_
  refine requestWrite_only (testHook_only _) rfl rfl (by first | rfl | (unfold axisIx; cases a1 <;> rfl) | (simp [loopFreeObject]; omega)) ?_
  exact Only.refl _ _

theorem fsyncPulse_only (s : State) a1 : Only [.out, .cams] s (fsyncPulse s a1) := by
  unfold fsyncPulse
  dsimp only
  refine Only.step (updCam_only ..) rfl ?_
  refine Only.ite ?_ ?_
  exact Only.refl _ _
  refine Only.step (send_only ..) rfl ?_
  exact Only.refl _ _

theorem fsyncTick_only (s : State) : Only [.out, .cams, .regs 24594 1, .fsync] s (fsyncTick s) := by
  unfold fsyncTick
  dsimp only
  refine Only.ite ?_ ?_
  refine Only.foldl _ _ (fun t x => ?_) ?_
  refine Only.ite ?_ ?_
  refine Only.step (fsyncPulse_only ..) rfl ?_
  exact Only.refl _ _
  exact Only.refl _ _
  split
  refine Only.ite ?_ ?_
  refine Only.set_fsync rfl ?_
  refine Only.step (odSetN_fam 24594 1 (by decide) (by decide) ..) rfl ?_
  refine Only.step (odSetN_fam 24594 1 (by decide) (by decide) ..) rfl ?_
  refine Only.step (odSetN_fam 24594 1 (by decide) (by decide) ..) rfl ?_
  refine Only.step (odSetN_fam 24594 1 (by decide) (by decide) ..) rfl ?_
  exact Only.refl _ _
  exact Only.refl _ _
  exact Only.refl _ _
  split
  refine Only.ite ?_ ?_
  refine Only.set_fsync rfl ?_
  refine Only.step (odSetN_fam 24594 1 (by decide) (by decide) ..) rfl ?_
  refine Only.step (odSetN_fam 24594 1 (by decide) (by decide) ..) rfl ?_
  refine Only.step (odSetN_fam 24594 1 (by decide) (by decide) ..) rfl ?_
  refine Only.step (odSetN_fam 24594 1 (by decide) (by decide) ..) rfl ?_
  exact Only.refl _ _
  exact Only.refl _ _
  exact Only.refl _ _

theorem fsyncLow_only (s : State) a1 : Only [.out, .cams] s (fsyncLow s a1) := by
  unfold fsyncLow
  refine Only.ite ?_ ?_
  refine Only.step (updCam_only ..) rfl ?_
  refine Only.step (send_only ..) rfl ?_
  exact Only.refl _ _
  exact Only.refl _ _

theorem fsyncEnd_only (s : State) a1 : Only [.out, .cams] s (fsyncEnd s a1) := by
  unfold fsyncEnd
  refine Only.ite ?_ ?_
  refine Only.step (fsyncLow_only ..) rfl ?_
  exact Only.refl _ _
  exact Only.refl _ _

theorem execCamFsyncPulseEnd_only a0 (s : State) : OutcomeOnly [.out, .cams] s (execCamFsyncPulseEnd a0 s) := by
  unfold execCamFsyncPulseEnd
  refine outcome_only ?_
  refine Only.step (fsyncEnd_only ..) rfl ?_
  exact Only.refl _ _

theorem camStart_only (s : State) : Only [.cams, .regs 24580 2, .regs 24576 2, .irq, .out] s (camStart s) := by
  unfold camStart
  dsimp only
  refine Only.ite ?_ ?_
  exact Only.refl _ _
  refine Only.foldl _ _ (fun t x => ?_) ?_
  refine Only.ite ?_ ?_
  refine Only.step (portOn_only ..) rfl ?_
  refine Only.step (usePersisted_fam 24576 2 (by omega) (by decide) ..) rfl ?_
  refine Only.step (odSetN_fam 24580 2 (by omega) (by decide) ..) rfl ?_
  refine Only.step (updCam_only ..) rfl ?_
  exact Only.refl _ _
  refine Only.step (usePersisted_fam 24576 2 (by omega) (by decide) ..) rfl ?_
  refine Only.step (odSetN_fam 24580 2 (by omega) (by decide) ..) rfl ?_
  refine Only.step (updCam_only ..) rfl ?_
  exact Only.refl _ _
  exact Only.refl _ _

theorem camOff_only (s : State) : Only [.regs 24584 2, .cams, .irq, .out, .regs 24580 2, .acq] s (camOff s) := by
  unfold camOff
  dsimp only
  refine Only.foldl _ _ (fun t x => ?_) ?_
  refine Only.step (odSetN_fam 24580 2 (by omega) (by decide) ..) rfl ?_
  refine Only.step (updCam_only ..) rfl ?_
  refine Only.step (fsyncLow_only ..) rfl ?_
  refine Only.step (portOff_only ..) rfl ?_
  exact Only.refl _ _
  refine Only.set_acq rfl ?_
  exact Only.refl _ _

end Sys2Proof.Machine
end

