-- ==== Sys2Proof/Laws/FrameAcq.lean ====
section
/-! SUPPORT. Frames of the operations and commands of Machine/Acq.lean: one lemma per operation says what it changes at
most. -/

namespace Sys2Proof.Machine

theorem updAcq_only (s : State) a1 : Only [.acq] s (updAcq s a1) := by
  unfold updAcq
  refine Only.set_acq rfl ?_
  exact Only.refl _ _

theorem acqPut_only (s : State) a1 a2 a3 a4 : Only [.acq] s (acqPut s a1 a2 a3 a4) := by
  unfold acqPut
  dsimp only
  refine Only.step (updAcq_only ..) rfl ?_
  exact Only.refl _ _

theorem acqMarkers_only (s : State) : Only [.acq, .regs 28673 1] s (acqMarkers s) := by
  unfold acqMarkers
  dsimp only
  refine Only.step (updAcq_only ..) rfl ?_
  refine Only.foldl _ _ (fun t x => ?_) ?_
  refine Only.step (bump_fam 28673 1 (by decide) (by decide) ..) rfl ?_
  refine Only.step (acqPut_only ..) rfl ?_
  exact Only.refl _ _
  exact Only.refl _ _

theorem acqLose_only (s : State) a1 a2 : Only [.acq, .regs 28673 1] s (acqLose s a1 a2) := by
  unfold acqLose
  dsimp only
  refine Only.step (bump_fam 28673 1 (by decide) (by decide) ..) rfl ?_
  refine Only.step (updAcq_only ..) rfl ?_
  exact Only.refl _ _

theorem acqEnter_only (s : State) a1 a2 a3 : Only [.acq, .regs 28673 1] s (acqEnter s a1 a2 a3) := by
  unfold acqEnter
  dsimp only
  refine Only.ite ?_ ?_
  exact Only.refl _ _
  refine Only.ite ?_ ?_
  refine Only.step (acqLose_only ..) rfl ?_
  exact Only.refl _ _
  refine Only.step (acqPut_only ..) rfl ?_
  refine Only.step (acqMarkers_only ..) rfl ?_
  exact Only.refl _ _

theorem logHit_only (s : State) a1 : Only [.acq, .regs 28673 1] s (logHit s a1) := by
  unfold logHit
  refine Only.ite ?_ ?_
  refine Only.step (updAcq_only ..) rfl ?_
  exact Only.refl _ _
  refine Only.step (bump_fam 28673 1 (by decide) (by decide) ..) rfl ?_
  exact Only.refl _ _

theorem noteViolations_only (s : State) a1 : Only [.regs 28673 1] s (noteViolations s a1) := by
  unfold noteViolations
  dsimp only
  split
  exact Only.refl _ _
  refine Only.step (bumpBy_fam 28673 1 (by decide) (by decide) ..) rfl ?_
  refine Only.ite ?_ ?_
  refine Only.step (odSet_fam 28673 1 (by decide) (by decide) ..) rfl ?_
  exact Only.refl _ _
  exact Only.refl _ _

theorem flushInterval_only (s : State) a1 : Only [.acq, .regs 28673 1] s (flushInterval s a1) := by
  unfold flushInterval
  dsimp only
  refine Only.ite ?_ ?_
  exact Only.refl _ _
  refine Only.step (updAcq_only ..) rfl ?_
  refine Only.step (acqEnter_only ..) rfl ?_
  exact Only.refl _ _

theorem acqEnd_only (s : State) a1 : Only [.acq, .regs 28673 1, .regs 28672 1] s (acqEnd s a1) := by
  unfold acqEnd
  dsimp only
  refine Only.step (odSetN_fam 28672 1 (by decide) (by decide) ..) rfl ?_
  refine Only.step (updAcq_only ..) rfl ?_
  refine Only.step (acqMarkers_only ..) rfl ?_
  refine Only.step (flushInterval_only ..) rfl ?_
  exact Only.refl _ _

theorem acqRow_only (s : State) : Only [.acq, .regs 28673 1, .regs 28672 1] s (acqRow s) := by
  unfold acqRow
  dsimp only
  refine Only.ite ?_ ?_
  exact Only.refl _ _
  refine Only.ite ?_ ?_
  refine Only.step (acqEnd_only ..) rfl ?_
  refine Only.ite ?_ ?_
  refine Only.step (flushInterval_only ..) rfl ?_
  refine Only.step (updAcq_only ..) rfl ?_
  refine Only.ite ?_ ?_
  refine Only.step (odSetN_fam 28673 1 (by decide) (by decide) ..) rfl ?_
  refine Only.step (odSetN_fam 28673 1 (by decide) (by decide) ..) rfl ?_
  refine Only.step (noteViolations_only ..) rfl ?_
  refine Only.foldl _ _ (fun t x => ?_) ?_
  refine Only.step (logHit_only ..) rfl ?_
  exact Only.refl _ _
  exact Only.refl _ _
  refine Only.step (noteViolations_only ..) rfl ?_
  refine Only.foldl _ _ (fun t x => ?_) ?_
  refine Only.step (logHit_only ..) rfl ?_
  exact Only.refl _ _
  exact Only.refl _ _
  refine Only.step (updAcq_only ..) rfl ?_
  refine Only.ite ?_ ?_
  refine Only.step (odSetN_fam 28673 1 (by decide) (by decide) ..) rfl ?_
  refine Only.step (odSetN_fam 28673 1 (by decide) (by decide) ..) rfl ?_
  refine Only.step (noteViolations_only ..) rfl ?_
  refine Only.foldl _ _ (fun t x => ?_) ?_
  refine Only.step (logHit_only ..) rfl ?_
  exact Only.refl _ _
  exact Only.refl _ _
  refine Only.step (noteViolations_only ..) rfl ?_
  refine Only.foldl _ _ (fun t x => ?_) ?_
  refine Only.step (logHit_only ..) rfl ?_
  exact Only.refl _ _
  exact Only.refl _ _
  refine Only.ite ?_ ?_
  refine Only.step (acqEnd_only ..) rfl ?_
  refine Only.ite ?_ ?_
  refine Only.step (flushInterval_only ..) rfl ?_
  refine Only.step (updAcq_only ..) rfl ?_
  refine Only.ite ?_ ?_
  refine Only.step (odSetN_fam 28673 1 (by decide) (by decide) ..) rfl ?_
  refine Only.step (odSetN_fam 28673 1 (by decide) (by decide) ..) rfl ?_
  refine Only.step (noteViolations_only ..) rfl ?_
  refine Only.foldl _ _ (fun t x => ?_) ?_
  refine Only.step (logHit_only ..) rfl ?_
  exact Only.refl _ _
  exact Only.refl _ _
  refine Only.step (noteViolations_only ..) rfl ?_
  refine Only.foldl _ _ (fun t x => ?_) ?_
  refine Only.step (logHit_only ..) rfl ?_
  exact Only.refl _ _
  exact Only.refl _ _
  refine Only.step (updAcq_only ..) rfl ?_
  refine Only.ite ?_ ?_
  refine Only.step (odSetN_fam 28673 1 (by decide) (by decide) ..) rfl ?_
  refine Only.step (odSetN_fam 28673 1 (by decide) (by decide) ..) rfl ?_
  refine Only.step (noteViolations_only ..) rfl ?_
  refine Only.foldl _ _ (fun t x => ?_) ?_
  refine Only.step (logHit_only ..) rfl ?_
  exact Only.refl _ _
  exact Only.refl _ _
  refine Only.step (noteViolations_only ..) rfl ?_
  refine Only.foldl _ _ (fun t x => ?_) ?_
  refine Only.step (logHit_only ..) rfl ?_
  exact Only.refl _ _
  exact Only.refl _ _
  refine Only.ite ?_ ?_
  refine Only.step (flushInterval_only ..) rfl ?_
  refine Only.step (updAcq_only ..) rfl ?_
  refine Only.ite ?_ ?_
  refine Only.step (odSetN_fam 28673 1 (by decide) (by decide) ..) rfl ?_
  refine Only.step (odSetN_fam 28673 1 (by decide) (by decide) ..) rfl ?_
  refine Only.step (noteViolations_only ..) rfl ?_
  refine Only.foldl _ _ (fun t x => ?_) ?_
  refine Only.step (logHit_only ..) rfl ?_
  exact Only.refl _ _
  exact Only.refl _ _
  refine Only.step (noteViolations_only ..) rfl ?_
  refine Only.foldl _ _ (fun t x => ?_) ?_
  refine Only.step (logHit_only ..) rfl ?_
  exact Only.refl _ _
  exact Only.refl _ _
  refine Only.step (updAcq_only ..) rfl ?_
  refine Only.ite ?_ ?_
  refine Only.step (odSetN_fam 28673 1 (by decide) (by decide) ..) rfl ?_
  refine Only.step (odSetN_fam 28673 1 (by decide) (by decide) ..) rfl ?_
  refine Only.step (noteViolations_only ..) rfl ?_
  refine Only.foldl _ _ (fun t x => ?_) ?_
  refine Only.step (logHit_only ..) rfl ?_
  exact Only.refl _ _
  exact Only.refl _ _
  refine Only.step (noteViolations_only ..) rfl ?_
  refine Only.foldl _ _ (fun t x => ?_) ?_
  refine Only.step (logHit_only ..) rfl ?_
  exact Only.refl _ _
  exact Only.refl _ _

theorem execAcqRow_only (s : State) : OutcomeOnly [.acq, .regs 28673 1, .regs 28672 1] s (execAcqRow s) := by
  unfold execAcqRow
  refine outcome_only ?_
  refine Only.step (acqRow_only ..) rfl ?_
  exact Only.refl _ _

theorem acqMemLost_only (s : State) : Only [.acq, .regs 28672 1, .irq, .out] s (acqMemLost s) := by
  unfold acqMemLost
  refine Only.ite ?_ ?_
  refine Only.step (setInt_only ..) rfl ?_
  refine Only.step (odSetN_fam 28672 1 (by decide) (by decide) ..) rfl ?_
  refine Only.step (updAcq_only ..) rfl ?_
  exact Only.refl _ _
  exact Only.refl _ _

theorem acqHalt_only (s : State) : Only [.acq, .regs 28673 1, .regs 28672 1] s (acqHalt s) := by
  unfold acqHalt
  refine Only.ite ?_ ?_
  refine Only.step (acqEnd_only ..) rfl ?_
  exact Only.refl _ _
  exact Only.refl _ _

theorem acqQdrWrite_only (s : State) a1 : Only [.acq, .regs 28672 1, .irq, .out, .qdr] s (acqQdrWrite s a1) := by
  unfold acqQdrWrite
  refine Only.ite ?_ ?_
  exact Only.refl _ _
  split
  exact Only.refl _ _
  refine Only.ite ?_ ?_
  refine Only.step (acqMemLost_only ..) rfl ?_
  exact Only.refl _ _
  refine Only.step (qdrWrite_only ..) rfl ?_
  refine Only.step (updAcq_only ..) rfl ?_
  exact Only.refl _ _

theorem execAcqQdrWrite_only a0 (s : State) : OutcomeOnly [.acq, .regs 28672 1, .irq, .out, .qdr] s (execAcqQdrWrite a0 s) := by
  unfold execAcqQdrWrite
  refine outcomeMem_only ?_
  refine Only.step (acqQdrWrite_only ..) rfl ?_
  exact Only.refl _ _

theorem acqDrained_only (s : State) : Only [.acq, .irq, .out] s (acqDrained s) := by
  unfold acqDrained
  refine Only.ite ?_ ?_
  refine Only.step (setInt_only ..) rfl ?_
  refine Only.step (updAcq_only ..) rfl ?_
  exact Only.refl _ _
  exact Only.refl _ _

theorem execAcqDrainComplete_only (s : State) : OutcomeOnly [.acq, .irq, .out] s (execAcqDrainComplete s) := by
  unfold execAcqDrainComplete
  refine outcome_only ?_
  refine Only.step (acqDrained_only ..) rfl ?_
  exact Only.refl _ _

theorem acqStart_only (s : State) : Only [.regs 28673 1, .regs 28672 1, .acq] s (acqStart s) := by
  unfold acqStart
  dsimp only
  refine Only.set_acq rfl ?_
  refine Only.step (odSetN_fam 28672 1 (by decide) (by decide) ..) rfl ?_
  refine Only.step (odSetN_fam 28672 1 (by decide) (by decide) ..) rfl ?_
  refine Only.step (odSetN_fam 28673 1 (by decide) (by decide) ..) rfl ?_
  refine Only.step (odSetN_fam 28673 1 (by decide) (by decide) ..) rfl ?_
  refine Only.step (odReset_only ..) rfl ?_
  exact Only.refl _ _

theorem acqHook_only  : HookOnly [.acq, .regs 28673 1, .regs 28672 1] (acqHook ) := by
  intro s v
  unfold acqHook
  dsimp only
  refine ⟨?_, ?_⟩
  exact GateOnly.none _ _
  split
  refine VerdictOnly.done ?_
  refine Only.ite ?_ ?_
  refine Only.step (acqEnd_only ..) rfl ?_
  exact Only.refl _ _
  exact Only.refl _ _
  split
  refine VerdictOnly.abort ?_
  refine Only.step (odSetN_fam 28672 1 (by decide) (by decide) ..) rfl ?_
  exact Only.refl _ _
  refine VerdictOnly.done ?_
  refine Only.step (acqStart_only ..) rfl ?_
  exact Only.refl _ _
  refine VerdictOnly.done ?_
  refine Only.step (updAcq_only ..) rfl ?_
  exact Only.refl _ _

theorem execAcqArm_only a0 (s : State) : OutcomeOnly [.sessions, .out, .mbox, .irq, .acq, .regs 28673 1, .regs 28672 1] s (execAcqArm a0 s) := by
  unfold execAcqArm
  refine outcome_only ?_
  refine requestWrite_only (acqHook_only) rfl rfl (by first | rfl | (unfold axisIx; cases a1 <;> rfl) | (simp [loopFreeObject]; omega)) ?_
  exact Only.refl _ _

theorem execAcqStop_only a0 (s : State) : OutcomeOnly [.sessions, .out, .mbox, .irq, .acq, .regs 28673 1, .regs 28672 1] s (execAcqStop a0 s) := by
  unfold execAcqStop
  refine outcome_only ?_
  refine requestWrite_only (acqHook_only) rfl rfl (by first | rfl | (unfold axisIx; cases a1 <;> rfl) | (simp [loopFreeObject]; omega)) ?_
  exact Only.refl _ _

theorem execAcqManualTrigger_only a0 (s : State) : OutcomeOnly [.sessions, .out, .mbox, .irq, .acq, .regs 28673 1, .regs 28672 1] s (execAcqManualTrigger a0 s) := by
  unfold execAcqManualTrigger
  refine outcome_only ?_
  refine requestWrite_only (acqHook_only) rfl rfl (by first | rfl | (unfold axisIx; cases a1 <;> rfl) | (simp [loopFreeObject]; omega)) ?_
  exact Only.refl _ _

end Sys2Proof.Machine
end

