-- ==== Sys2Proof/Laws/FrameIsland.lean ====
section
/-! SUPPORT. Frames of the operations and commands of Machine/Island.lean: one lemma per operation says what it changes at
most. -/

namespace Sys2Proof.Machine

theorem updIsl_only (s : State) a1 : Only [.isl] s (updIsl s a1) := by
  unfold updIsl
  refine Only.set_isl rfl ?_
  exact Only.refl _ _

theorem setZone_only (s : State) a1 a2 : Only [.isl] s (setZone s a1 a2) := by
  unfold setZone
  refine Only.step (updIsl_only ..) rfl ?_
  exact Only.refl _ _

theorem causeBit_only (s : State) a1 a2 : Only [.isl] s (causeBit s a1 a2) := by
  unfold causeBit
  refine Only.step (updIsl_only ..) rfl ?_
  exact Only.refl _ _

theorem causeSet_only (s : State) a1 a2 : Only [.isl, .fm, .out, .irq, .emit, .regs 16384 1, .pwr, .regs 32769 1] s (causeSet s a1 a2) := by
  unfold causeSet
  refine Only.ite ?_ ?_
  refine Only.step (islRaise_only ..) rfl ?_
  exact Only.refl _ _
  refine Only.ite ?_ ?_
  refine Only.step (islClear_only ..) rfl ?_
  exact Only.refl _ _
  exact Only.refl _ _

theorem islOperate_only (s : State) : Only [.isl, .out, .irq] s (islOperate s) := by
  unfold islOperate
  dsimp only
  refine Only.step (updIsl_only ..) rfl ?_
  refine Only.step (islEnter_only ..) rfl ?_
  refine Only.step (islOutputs_only ..) rfl ?_
  refine Only.step (causeBit_only ..) rfl ?_
  exact Only.refl _ _

theorem islCheck_only (s : State) : Only [.isl, .emit, .regs 16384 1, .pwr, .irq, .out] s (islCheck s) := by
  unfold islCheck
  dsimp only
  refine Only.ite ?_ ?_
  refine Only.ite ?_ ?_
  refine Only.step (causeBit_only ..) rfl ?_
  refine Only.ite ?_ ?_
  refine Only.step (islClear_only ..) rfl ?_
  refine Only.ite ?_ ?_
  refine Only.step (islClear_only ..) rfl ?_
  exact Only.refl _ _
  exact Only.refl _ _
  refine Only.ite ?_ ?_
  refine Only.step (islClear_only ..) rfl ?_
  exact Only.refl _ _
  exact Only.refl _ _
  refine Only.ite ?_ ?_
  refine Only.step (causeBit_only ..) rfl ?_
  refine Only.ite ?_ ?_
  refine Only.step (islClear_only ..) rfl ?_
  refine Only.ite ?_ ?_
  refine Only.step (islClear_only ..) rfl ?_
  exact Only.refl _ _
  exact Only.refl _ _
  refine Only.ite ?_ ?_
  refine Only.step (islClear_only ..) rfl ?_
  exact Only.refl _ _
  exact Only.refl _ _
  refine Only.ite ?_ ?_
  refine Only.step (islOperate_only ..) rfl ?_
  refine Only.ite ?_ ?_
  refine Only.step (islClear_only ..) rfl ?_
  refine Only.ite ?_ ?_
  refine Only.step (islClear_only ..) rfl ?_
  exact Only.refl _ _
  exact Only.refl _ _
  refine Only.ite ?_ ?_
  refine Only.step (islClear_only ..) rfl ?_
  exact Only.refl _ _
  exact Only.refl _ _
  refine Only.ite ?_ ?_
  refine Only.step (islClear_only ..) rfl ?_
  refine Only.ite ?_ ?_
  refine Only.step (islClear_only ..) rfl ?_
  exact Only.refl _ _
  exact Only.refl _ _
  refine Only.ite ?_ ?_
  refine Only.step (islClear_only ..) rfl ?_
  exact Only.refl _ _
  exact Only.refl _ _
  refine Only.step (causeBit_only ..) rfl ?_
  refine Only.ite ?_ ?_
  refine Only.step (islClear_only ..) rfl ?_
  refine Only.ite ?_ ?_
  refine Only.step (islClear_only ..) rfl ?_
  exact Only.refl _ _
  exact Only.refl _ _
  refine Only.ite ?_ ?_
  refine Only.step (islClear_only ..) rfl ?_
  exact Only.refl _ _
  exact Only.refl _ _

theorem islRestart_only (s : State) : Only [.isl, .out, .irq] s (islRestart s) := by
  unfold islRestart
  refine Only.ite ?_ ?_
  refine Only.step (islOperate_only ..) rfl ?_
  exact Only.refl _ _
  exact Only.refl _ _

theorem islReset_only (s : State) : Only [.isl, .emit, .regs 16384 1, .pwr, .irq, .out, .fm] s (islReset s) := by
  unfold islReset
  dsimp only
  refine Only.step (islCheck_only ..) rfl ?_
  refine Only.ite ?_ ?_
  refine Only.step (islRestart_only ..) rfl ?_
  refine Only.ite ?_ ?_
  refine Only.step (islInhibit_only ..) rfl ?_
  refine Only.step (updIsl_only ..) rfl ?_
  exact Only.refl _ _
  refine Only.set_fm rfl ?_
  refine Only.step (islInhibit_only ..) rfl ?_
  refine Only.step (updIsl_only ..) rfl ?_
  exact Only.refl _ _
  refine Only.ite ?_ ?_
  refine Only.step (islInhibit_only ..) rfl ?_
  refine Only.step (updIsl_only ..) rfl ?_
  exact Only.refl _ _
  refine Only.set_fm rfl ?_
  refine Only.step (islInhibit_only ..) rfl ?_
  refine Only.step (updIsl_only ..) rfl ?_
  exact Only.refl _ _

theorem selectorChange_only (s : State) : Only [.isl, .fm, .out, .irq, .emit, .regs 16384 1, .pwr] s (selectorChange s) := by
  unfold selectorChange
  refine Only.ite ?_ ?_
  refine Only.step (islCause_only ..) rfl ?_
  exact Only.refl _ _
  refine Only.step (updIsl_only ..) rfl ?_
  exact Only.refl _ _

theorem sealSample_only (s : State) a1 a2 : Only [.isl, .regs 32769 1, .fm, .out, .irq, .emit, .regs 16384 1, .pwr] s (sealSample s a1 a2) := by
  unfold sealSample
  dsimp only
  refine Only.ite ?_ ?_
  exact Only.refl _ _
  split
  refine Only.step (updIsl_only ..) rfl ?_
  exact Only.refl _ _
  refine Only.ite ?_ ?_
  refine Only.ite ?_ ?_
  refine Only.step (selectorChange_only ..) rfl ?_
  refine Only.step (bump_fam 32769 1 (by decide) (by decide) ..) rfl ?_
  refine Only.step (updIsl_only ..) rfl ?_
  exact Only.refl _ _
  refine Only.step (bump_fam 32769 1 (by decide) (by decide) ..) rfl ?_
  refine Only.step (updIsl_only ..) rfl ?_
  exact Only.refl _ _
  refine Only.step (updIsl_only ..) rfl ?_
  exact Only.refl _ _

theorem execSealSample_only a0 a1 (s : State) : OutcomeOnly [.isl, .regs 32769 1, .fm, .out, .irq, .emit, .regs 16384 1, .pwr] s (execSealSample a0 a1 s) := by
  unfold execSealSample
  refine outcome_only ?_
  refine Only.step (sealSample_only ..) rfl ?_
  exact Only.refl _ _

theorem lockOut_only (s : State) a1 : Only [.isl, .fm, .out, .irq, .emit, .regs 16384 1, .pwr, .regs 32769 1] s (lockOut s a1) := by
  unfold lockOut
  refine Only.step (islRaise_only ..) rfl ?_
  exact Only.refl _ _

theorem addLong_only (s : State) a1 a2 a3 a4 : Only [.odx] s (addLong s a1 a2 a3 a4) := by
  unfold addLong
  dsimp only
  refine Only.set_odx rfl ?_
  exact Only.refl _ _

theorem cfgHook_only a0 a1 : HookOnly [.isl, .odx] (cfgHook a0 a1) := by
  intro s v
  unfold cfgHook
  dsimp only
  refine ⟨?_, ?_⟩
  refine GateOnly.step (norGate_only ..) rfl ?_
  exact Only.refl _ _
  split
  refine VerdictOnly.later ?_
  refine Only.step (addLong_only ..) rfl ?_
  refine Only.step (updIsl_only ..) rfl ?_
  exact Only.refl _ _
  split
  refine VerdictOnly.later ?_
  refine Only.step (addLong_only ..) rfl ?_
  refine Only.step (updIsl_only ..) rfl ?_
  exact Only.refl _ _
  refine VerdictOnly.abort ?_
  exact Only.refl _ _
  refine VerdictOnly.later ?_
  refine Only.step (addLong_only ..) rfl ?_
  refine Only.step (updIsl_only ..) rfl ?_
  exact Only.refl _ _

theorem execStoreConfiguration_only a0 a1 (s : State) : OutcomeOnly [.sessions, .out, .mbox, .irq, .isl, .odx] s (execStoreConfiguration a0 a1 s) := by
  unfold execStoreConfiguration
  refine outcome_only ?_
  refine requestWrite_only (cfgHook_only _ _) rfl rfl (by first | rfl | (unfold axisIx; cases a1 <;> rfl) | (simp [loopFreeObject]; omega)) ?_
  exact Only.refl _ _

theorem execPairConfiguration_only a0 a1 (s : State) : OutcomeOnly [.sessions, .out, .mbox, .irq, .isl, .odx] s (execPairConfiguration a0 a1 s) := by
  unfold execPairConfiguration
  refine outcome_only ?_
  refine requestWrite_only (cfgHook_only _ _) rfl rfl (by first | rfl | (unfold axisIx; cases a1 <;> rfl) | (simp [loopFreeObject]; omega)) ?_
  exact Only.refl _ _

theorem execDeleteConfiguration_only a0 a1 (s : State) : OutcomeOnly [.sessions, .out, .mbox, .irq, .isl, .odx] s (execDeleteConfiguration a0 a1 s) := by
  unfold execDeleteConfiguration
  refine outcome_only ?_
  refine requestWrite_only (cfgHook_only _ _) rfl rfl (by first | rfl | (unfold axisIx; cases a1 <;> rfl) | (simp [loopFreeObject]; omega)) ?_
  exact Only.refl _ _

theorem quiesceNote_only (s : State) : Only [.pwr] s (quiesceNote s) := by
  unfold quiesceNote
  dsimp only
  split
  refine Only.set_pwr rfl ?_
  exact Only.refl _ _
  exact Only.refl _ _

theorem norDone_only (s : State) : Only [.pwr] s (norDone s) := by
  unfold norDone
  dsimp only
  split
  refine Only.ite ?_ ?_
  exact Only.refl _ _
  refine Only.step (quiesceNote_only ..) rfl ?_
  refine Only.set_pwr rfl ?_
  exact Only.refl _ _
  exact Only.refl _ _

theorem cfgDone_only (s : State) a1 : Only [.isl, .odx, .out, .mbox, .irq, .sessions, .pwr] s (cfgDone s a1) := by
  unfold cfgDone
  dsimp only
  split
  exact Only.refl _ _
  refine Only.step (norDone_only ..) rfl ?_
  refine Only.step (longAnswer_only ..) rfl ?_
  refine Only.step (updIsl_only ..) rfl ?_
  exact Only.refl _ _

theorem execConfigNorWriteDone_only a0 (s : State) : OutcomeOnly [.isl, .odx, .out, .mbox, .irq, .sessions, .pwr] s (execConfigNorWriteDone a0 s) := by
  unfold execConfigNorWriteDone
  refine outcome_only ?_
  refine Only.step (cfgDone_only ..) rfl ?_
  exact Only.refl _ _

theorem zoneRecord_only (s : State) a1 a2 : Only [.isl] s (zoneRecord s a1 a2) := by
  unfold zoneRecord
  dsimp only
  refine Only.ite ?_ ?_
  refine Only.step (setZone_only ..) rfl ?_
  exact Only.refl _ _
  refine Only.ite ?_ ?_
  refine Only.step (setZone_only ..) rfl ?_
  exact Only.refl _ _
  refine Only.step (setZone_only ..) rfl ?_
  exact Only.refl _ _

theorem zoneCause_only (s : State) : Only [.isl, .fm, .out, .irq, .emit, .regs 16384 1, .pwr, .regs 32769 1] s (zoneCause s) := by
  unfold zoneCause
  refine Only.step (causeSet_only ..) rfl ?_
  exact Only.refl _ _

theorem zoneEvaluation_only (s : State) : Only [.isl, .fm, .out, .irq, .emit, .regs 16384 1, .pwr, .regs 32769 1] s (zoneEvaluation s) := by
  unfold zoneEvaluation
  dsimp only
  split
  refine Only.ite ?_ ?_
  exact Only.refl _ _
  refine Only.step (islCheck_only ..) rfl ?_
  refine Only.step (zoneCause_only ..) rfl ?_
  refine Only.foldl _ _ (fun t x => ?_) ?_
  refine Only.step (zoneRecord_only ..) rfl ?_
  exact Only.refl _ _
  refine Only.step (updIsl_only ..) rfl ?_
  exact Only.refl _ _
  exact Only.refl _ _

theorem execZoneEvaluation_only (s : State) : OutcomeOnly [.isl, .fm, .out, .irq, .emit, .regs 16384 1, .pwr, .regs 32769 1] s (execZoneEvaluation s) := by
  unfold execZoneEvaluation
  refine outcome_only ?_
  refine Only.step (zoneEvaluation_only ..) rfl ?_
  exact Only.refl _ _

theorem zoneMarker_only (s : State) a1 a2 : Only [.isl] s (zoneMarker s a1 a2) := by
  unfold zoneMarker
  dsimp only
  refine Only.ite ?_ ?_
  refine Only.step (setZone_only ..) rfl ?_
  exact Only.refl _ _
  refine Only.step (setZone_only ..) rfl ?_
  exact Only.refl _ _

theorem coverageCheck_only (s : State) : Only [.isl, .fm, .out, .irq, .emit, .regs 16384 1, .pwr, .regs 32769 1] s (coverageCheck s) := by
  unfold coverageCheck
  dsimp only
  refine Only.ite ?_ ?_
  refine Only.foldl _ _ (fun t x => ?_) ?_
  refine Only.step (setZone_only ..) rfl ?_
  exact Only.refl _ _
  exact Only.refl _ _
  refine Only.step (causeSet_only ..) rfl ?_
  refine Only.foldl _ _ (fun t x => ?_) ?_
  refine Only.step (setZone_only ..) rfl ?_
  exact Only.refl _ _
  exact Only.refl _ _

theorem coverageMarker_only (s : State) : Only [.isl, .fm, .out, .irq, .emit, .regs 16384 1, .pwr, .regs 32769 1] s (coverageMarker s) := by
  unfold coverageMarker
  dsimp only
  split
  refine Only.ite ?_ ?_
  exact Only.refl _ _
  refine Only.step (islCheck_only ..) rfl ?_
  refine Only.step (zoneCause_only ..) rfl ?_
  refine Only.step (coverageCheck_only ..) rfl ?_
  refine Only.foldl _ _ (fun t x => ?_) ?_
  refine Only.step (zoneMarker_only ..) rfl ?_
  exact Only.refl _ _
  refine Only.step (updIsl_only ..) rfl ?_
  exact Only.refl _ _
  exact Only.refl _ _

theorem execCoverageMarker_only (s : State) : OutcomeOnly [.isl, .fm, .out, .irq, .emit, .regs 16384 1, .pwr, .regs 32769 1] s (execCoverageMarker s) := by
  unfold execCoverageMarker
  refine outcome_only ?_
  refine Only.step (coverageMarker_only ..) rfl ?_
  exact Only.refl _ _

theorem coverageTimeout_only (s : State) a1 : Only [.isl, .fm, .out, .irq, .emit, .regs 16384 1, .pwr, .regs 32769 1] s (coverageTimeout s a1) := by
  unfold coverageTimeout
  dsimp only
  refine Only.ite ?_ ?_
  refine Only.step (islCheck_only ..) rfl ?_
  refine Only.step (islFault_only ..) rfl ?_
  refine Only.step (setZone_only ..) rfl ?_
  exact Only.refl _ _
  exact Only.refl _ _

theorem execCoverageTimeout_only a0 (s : State) : OutcomeOnly [.isl, .fm, .out, .irq, .emit, .regs 16384 1, .pwr, .regs 32769 1] s (execCoverageTimeout a0 s) := by
  unfold execCoverageTimeout
  refine outcome_only ?_
  refine Only.step (coverageTimeout_only ..) rfl ?_
  exact Only.refl _ _

theorem execLockstepFault_only (s : State) : OutcomeOnly [.regs 32769 1, .isl, .fm, .out, .irq, .emit, .regs 16384 1, .pwr] s (execLockstepFault s) := by
  unfold execLockstepFault
  refine outcome_only ?_
  refine Only.ite ?_ ?_
  refine Only.step (islRaise_only ..) rfl ?_
  refine Only.step (bump_fam 32769 1 (by decide) (by decide) ..) rfl ?_
  exact Only.refl _ _
  exact Only.refl _ _

theorem execSupplyMonitorFault_only (s : State) : OutcomeOnly [.isl, .fm, .out, .irq, .emit, .regs 16384 1, .pwr, .regs 32769 1] s (execSupplyMonitorFault s) := by
  unfold execSupplyMonitorFault
  refine outcome_only ?_
  refine Only.ite ?_ ?_
  refine Only.step (islCheck_only ..) rfl ?_
  refine Only.step (islRaise_only ..) rfl ?_
  refine Only.step (updIsl_only ..) rfl ?_
  exact Only.refl _ _
  exact Only.refl _ _

theorem execIslandWatchdog_only (s : State) : OutcomeOnly [.isl, .fm, .out, .irq, .emit, .regs 16384 1, .pwr, .regs 32769 1] s (execIslandWatchdog s) := by
  unfold execIslandWatchdog
  refine outcome_only ?_
  refine Only.ite ?_ ?_
  refine Only.step (islCheck_only ..) rfl ?_
  refine Only.step (islRaise_only ..) rfl ?_
  refine Only.step (updIsl_only ..) rfl ?_
  exact Only.refl _ _
  exact Only.refl _ _

theorem evalTimeout_only (s : State) : Only [.isl, .fm, .out, .irq, .emit, .regs 16384 1, .pwr, .regs 32769 1] s (evalTimeout s) := by
  unfold evalTimeout
  split
  exact Only.refl _ _
  refine Only.ite ?_ ?_
  refine Only.step (islCheck_only ..) rfl ?_
  refine Only.step (islClear_only ..) rfl ?_
  refine Only.step (islRaise_only ..) rfl ?_
  exact Only.refl _ _
  exact Only.refl _ _

theorem execEvalTimeout_only (s : State) : OutcomeOnly [.isl, .fm, .out, .irq, .emit, .regs 16384 1, .pwr, .regs 32769 1] s (execEvalTimeout s) := by
  unfold execEvalTimeout
  refine outcome_only ?_
  refine Only.step (evalTimeout_only ..) rfl ?_
  exact Only.refl _ _

theorem updOut_only (s : State) a1 a2 : Only [.isl] s (updOut s a1 a2) := by
  unfold updOut
  refine Only.step (updIsl_only ..) rfl ?_
  exact Only.refl _ _

theorem outputFault_only (s : State) : Only [.regs 32769 1, .isl, .fm, .out, .irq, .emit, .regs 16384 1, .pwr] s (outputFault s) := by
  unfold outputFault
  refine Only.step (islCheck_only ..) rfl ?_
  refine Only.step (islRaise_only ..) rfl ?_
  refine Only.ite ?_ ?_
  exact Only.refl _ _
  refine Only.step (bump_fam 32769 1 (by decide) (by decide) ..) rfl ?_
  exact Only.refl _ _

theorem pulseStart_only (s : State) a1 : Only [.isl, .out] s (pulseStart s a1) := by
  unfold pulseStart
  refine Only.ite ?_ ?_
  refine Only.step (send_only ..) rfl ?_
  refine Only.step (updOut_only ..) rfl ?_
  exact Only.refl _ _
  exact Only.refl _ _

theorem testPulse_only (s : State) a1 a2 : Only [.isl, .out, .regs 32769 1, .fm, .irq, .emit, .regs 16384 1, .pwr] s (testPulse s a1 a2) := by
  unfold testPulse
  dsimp only
  refine Only.ite ?_ ?_
  exact Only.refl _ _
  refine Only.ite ?_ ?_
  refine Only.step (outputFault_only ..) rfl ?_
  refine Only.step (send_only ..) rfl ?_
  refine Only.step (updOut_only ..) rfl ?_
  exact Only.refl _ _
  refine Only.step (send_only ..) rfl ?_
  refine Only.step (updOut_only ..) rfl ?_
  exact Only.refl _ _

theorem execOssdTestPulse_only a0 a1 (s : State) : OutcomeOnly [.isl, .out, .regs 32769 1, .fm, .irq, .emit, .regs 16384 1, .pwr] s (execOssdTestPulse a0 a1 s) := by
  unfold execOssdTestPulse
  refine outcome_only ?_
  refine Only.step (testPulse_only ..) rfl ?_
  exact Only.refl _ _

theorem feedbackTimeout_only (s : State) a1 : Only [.isl, .regs 32769 1, .fm, .out, .irq, .emit, .regs 16384 1, .pwr] s (feedbackTimeout s a1) := by
  unfold feedbackTimeout
  refine Only.ite ?_ ?_
  refine Only.step (outputFault_only ..) rfl ?_
  refine Only.step (updOut_only ..) rfl ?_
  exact Only.refl _ _
  exact Only.refl _ _

theorem execOssdFeedbackTimeout_only a0 (s : State) : OutcomeOnly [.isl, .regs 32769 1, .fm, .out, .irq, .emit, .regs 16384 1, .pwr] s (execOssdFeedbackTimeout a0 s) := by
  unfold execOssdFeedbackTimeout
  refine outcome_only ?_
  refine Only.step (feedbackTimeout_only ..) rfl ?_
  exact Only.refl _ _

theorem inputSample_only (s : State) a1 a2 a3 : Only [.isl, .regs 32769 1, .fm, .out, .irq, .emit, .regs 16384 1, .pwr] s (inputSample s a1 a2 a3).1 := by
  unfold inputSample
  dsimp only
  split
  try dsimp only
  refine Only.step (updIsl_only ..) rfl ?_
  exact Only.refl _ _
  try dsimp only
  refine Only.ite ?_ ?_
  refine Only.step (islFault_only ..) rfl ?_
  refine Only.step (bump_fam 32769 1 (by decide) (by decide) ..) rfl ?_
  refine Only.step (updIsl_only ..) rfl ?_
  exact Only.refl _ _
  refine Only.step (updIsl_only ..) rfl ?_
  exact Only.refl _ _

theorem inputCauses_only (s : State) : Only [.isl, .fm, .out, .irq, .emit, .regs 16384 1, .pwr, .regs 32769 1] s (inputCauses s) := by
  unfold inputCauses
  dsimp only
  refine Only.step (causeSet_only ..) rfl ?_
  refine Only.step (causeSet_only ..) rfl ?_
  exact Only.refl _ _

theorem tdel_only (s : State) {ix sub : Nat} (h : sub < 256) : Only [.regs ix 1] s { s with od := tdel s.od (odKey ix sub) } := by
  constructor
  · intro p hp; cases p <;> first | exact trivial | rfl | exact ⟨rfl, rfl, rfl⟩ | exact ⟨rfl, rfl⟩
  · intro k hk
    simp [Part.spares] at hk
    exact tget_filter _ (fun j => j != odKey ix sub) _ (by simp [odKey]; omega)
  · intro h; cases h

theorem workingSet_range : (workingSet.all fun x => x.2 < 256 &&
    Part.within [.regs 33280 16, .regs 33536 4, .regs 33552 1, .regs 33792 4] (.regs x.1 1)) = true := by decide

theorem loadCfg_only (s : State) (c : SafeCfg) :
    Only [.regs 33280 16, .regs 33536 4, .regs 33552 1, .regs 33792 4] s (loadCfg s c) := by
  unfold loadCfg
  have h := List.all_eq_true.mp workingSet_range
  generalize workingSet = l at h
  suffices ∀ t, Only [.regs 33280 16, .regs 33536 4, .regs 33552 1, .regs 33792 4] s t →
      Only [.regs 33280 16, .regs 33536 4, .regs 33552 1, .regs 33792 4] s (l.foldl _ t) from this s (Only.refl _ _)
  induction l with
  | nil => exact fun t ht => ht
  | cons x l ih =>
    intro t ht
    have hx := h x (.head _)
    simp only [Bool.and_eq_true, decide_eq_true_eq] at hx
    refine ih (fun y hy => h y (.tail _ hy)) _ ?_
    dsimp only
    split
    · exact Only.step (odSet_only _ _ hx.1) (by simpa using hx.2) ht
    · exact Only.step (tdel_only _ hx.1) (by simpa using hx.2) ht

theorem activate_only (s : State) a1 a2 : Only [.regs 33280 16, .regs 33536 4, .regs 33552 1, .regs 33792 4, .isl, .irq, .out, .fm, .emit, .regs 16384 1, .pwr, .regs 32769 1] s (activate s a1 a2) := by
  unfold activate
  dsimp only
  refine Only.step (islCheck_only ..) rfl ?_
  refine Only.step (inputCauses_only ..) rfl ?_
  refine Only.step (islEnter_only ..) rfl ?_
  refine Only.step (updIsl_only ..) rfl ?_
  refine Only.step (loadCfg_only ..) rfl ?_
  exact Only.refl _ _

theorem islInit_only (s : State) a1 : Only [.regs 32769 1, .isl, .fm, .out, .irq, .emit, .regs 16384 1, .pwr, .regs 33280 16, .regs 33536 4, .regs 33552 1, .regs 33792 4] s (islInit s a1) := by
  unfold islInit
  refine Only.ite ?_ ?_
  exact Only.refl _ _
  refine Only.ite ?_ ?_
  refine Only.step (lockOut_only ..) rfl ?_
  refine Only.step (bump_fam 32769 1 (by decide) (by decide) ..) rfl ?_
  exact Only.refl _ _
  split
  refine Only.ite ?_ ?_
  refine Only.step (lockOut_only ..) rfl ?_
  exact Only.refl _ _
  exact Only.refl _ _
  refine Only.step (islEnter_only ..) rfl ?_
  exact Only.refl _ _
  split
  refine Only.ite ?_ ?_
  refine Only.step (activate_only ..) rfl ?_
  exact Only.refl _ _
  refine Only.step (lockOut_only ..) rfl ?_
  exact Only.refl _ _
  refine Only.step (lockOut_only ..) rfl ?_
  exact Only.refl _ _

theorem execIslandInitComplete_only a0 (s : State) : OutcomeOnly [.regs 32769 1, .isl, .fm, .out, .irq, .emit, .regs 16384 1, .pwr, .regs 33280 16, .regs 33536 4, .regs 33552 1, .regs 33792 4] s (execIslandInitComplete a0 s) := by
  unfold execIslandInitComplete
  refine outcome_only ?_
  refine Only.step (islInit_only ..) rfl ?_
  exact Only.refl _ _

theorem safetySample_only (s : State) a1 : Only [.isl, .regs 32769 1, .fm, .out, .irq, .emit, .regs 16384 1, .pwr] s (safetySample s a1) := by
  unfold safetySample
  dsimp only
  refine Only.ite ?_ ?_
  exact Only.refl _ _
  refine Only.ite ?_ ?_
  refine Only.step (islReset_only ..) rfl ?_
  refine Only.ite ?_ ?_
  refine Only.step (islRestart_only ..) rfl ?_
  refine Only.step (islCheck_only ..) rfl ?_
  refine Only.ite ?_ ?_
  refine Only.step (outputFault_only ..) rfl ?_
  refine Only.step (inputCauses_only ..) rfl ?_
  refine Only.step (updIsl_only ..) rfl ?_
  refine Only.foldlP Prod.fst _ _ (fun r x => ?_) ?_
  try dsimp only
  try dsimp only
  refine Only.step (inputSample_only ..) rfl ?_
  exact Only.refl _ _
  try dsimp only
  try dsimp only
  exact Only.refl _ _
  refine Only.ite ?_ ?_
  refine Only.step (causeSet_only ..) rfl ?_
  refine Only.step (inputCauses_only ..) rfl ?_
  refine Only.step (updIsl_only ..) rfl ?_
  refine Only.foldlP Prod.fst _ _ (fun r x => ?_) ?_
  try dsimp only
  try dsimp only
  refine Only.step (inputSample_only ..) rfl ?_
  exact Only.refl _ _
  try dsimp only
  try dsimp only
  exact Only.refl _ _
  refine Only.step (inputCauses_only ..) rfl ?_
  refine Only.step (updIsl_only ..) rfl ?_
  refine Only.foldlP Prod.fst _ _ (fun r x => ?_) ?_
  try dsimp only
  try dsimp only
  refine Only.step (inputSample_only ..) rfl ?_
  exact Only.refl _ _
  try dsimp only
  try dsimp only
  exact Only.refl _ _
  refine Only.step (islCheck_only ..) rfl ?_
  refine Only.ite ?_ ?_
  refine Only.step (outputFault_only ..) rfl ?_
  refine Only.step (inputCauses_only ..) rfl ?_
  refine Only.step (updIsl_only ..) rfl ?_
  refine Only.foldlP Prod.fst _ _ (fun r x => ?_) ?_
  try dsimp only
  try dsimp only
  refine Only.step (inputSample_only ..) rfl ?_
  exact Only.refl _ _
  try dsimp only
  try dsimp only
  exact Only.refl _ _
  refine Only.ite ?_ ?_
  refine Only.step (causeSet_only ..) rfl ?_
  refine Only.step (inputCauses_only ..) rfl ?_
  refine Only.step (updIsl_only ..) rfl ?_
  refine Only.foldlP Prod.fst _ _ (fun r x => ?_) ?_
  try dsimp only
  try dsimp only
  refine Only.step (inputSample_only ..) rfl ?_
  exact Only.refl _ _
  try dsimp only
  try dsimp only
  exact Only.refl _ _
  refine Only.step (inputCauses_only ..) rfl ?_
  refine Only.step (updIsl_only ..) rfl ?_
  refine Only.foldlP Prod.fst _ _ (fun r x => ?_) ?_
  try dsimp only
  try dsimp only
  refine Only.step (inputSample_only ..) rfl ?_
  exact Only.refl _ _
  try dsimp only
  try dsimp only
  exact Only.refl _ _
  refine Only.ite ?_ ?_
  refine Only.step (islRestart_only ..) rfl ?_
  refine Only.step (islCheck_only ..) rfl ?_
  refine Only.ite ?_ ?_
  refine Only.step (outputFault_only ..) rfl ?_
  refine Only.step (inputCauses_only ..) rfl ?_
  refine Only.step (updIsl_only ..) rfl ?_
  refine Only.foldlP Prod.fst _ _ (fun r x => ?_) ?_
  try dsimp only
  try dsimp only
  refine Only.step (inputSample_only ..) rfl ?_
  exact Only.refl _ _
  try dsimp only
  try dsimp only
  exact Only.refl _ _
  refine Only.ite ?_ ?_
  refine Only.step (causeSet_only ..) rfl ?_
  refine Only.step (inputCauses_only ..) rfl ?_
  refine Only.step (updIsl_only ..) rfl ?_
  refine Only.foldlP Prod.fst _ _ (fun r x => ?_) ?_
  try dsimp only
  try dsimp only
  refine Only.step (inputSample_only ..) rfl ?_
  exact Only.refl _ _
  try dsimp only
  try dsimp only
  exact Only.refl _ _
  refine Only.step (inputCauses_only ..) rfl ?_
  refine Only.step (updIsl_only ..) rfl ?_
  refine Only.foldlP Prod.fst _ _ (fun r x => ?_) ?_
  try dsimp only
  try dsimp only
  refine Only.step (inputSample_only ..) rfl ?_
  exact Only.refl _ _
  try dsimp only
  try dsimp only
  exact Only.refl _ _
  refine Only.step (islCheck_only ..) rfl ?_
  refine Only.ite ?_ ?_
  refine Only.step (outputFault_only ..) rfl ?_
  refine Only.step (inputCauses_only ..) rfl ?_
  refine Only.step (updIsl_only ..) rfl ?_
  refine Only.foldlP Prod.fst _ _ (fun r x => ?_) ?_
  try dsimp only
  try dsimp only
  refine Only.step (inputSample_only ..) rfl ?_
  exact Only.refl _ _
  try dsimp only
  try dsimp only
  exact Only.refl _ _
  refine Only.ite ?_ ?_
  refine Only.step (causeSet_only ..) rfl ?_
  refine Only.step (inputCauses_only ..) rfl ?_
  refine Only.step (updIsl_only ..) rfl ?_
  refine Only.foldlP Prod.fst _ _ (fun r x => ?_) ?_
  try dsimp only
  try dsimp only
  refine Only.step (inputSample_only ..) rfl ?_
  exact Only.refl _ _
  try dsimp only
  try dsimp only
  exact Only.refl _ _
  refine Only.step (inputCauses_only ..) rfl ?_
  refine Only.step (updIsl_only ..) rfl ?_
  refine Only.foldlP Prod.fst _ _ (fun r x => ?_) ?_
  try dsimp only
  try dsimp only
  refine Only.step (inputSample_only ..) rfl ?_
  exact Only.refl _ _
  try dsimp only
  try dsimp only
  exact Only.refl _ _

theorem execSafetyInputSample_only a0 (s : State) : OutcomeOnly [.isl, .regs 32769 1, .fm, .out, .irq, .emit, .regs 16384 1, .pwr] s (execSafetyInputSample a0 s) := by
  unfold execSafetyInputSample
  refine outcome_only ?_
  refine Only.step (safetySample_only ..) rfl ?_
  exact Only.refl _ _

theorem recoveryComplete_only (s : State) : Only [.fm, .isl, .emit, .regs 16384 1, .pwr, .irq, .out] s (recoveryComplete s) := by
  unfold recoveryComplete
  dsimp only
  split
  exact Only.refl _ _
  refine Only.step (islCheck_only ..) rfl ?_
  refine Only.ite ?_ ?_
  refine Only.step (islClear_only ..) rfl ?_
  refine Only.ite ?_ ?_
  refine Only.step (updIsl_only ..) rfl ?_
  refine Only.set_fm rfl ?_
  exact Only.refl _ _
  refine Only.set_fm rfl ?_
  exact Only.refl _ _
  refine Only.ite ?_ ?_
  refine Only.step (updIsl_only ..) rfl ?_
  refine Only.set_fm rfl ?_
  exact Only.refl _ _
  refine Only.set_fm rfl ?_
  exact Only.refl _ _

theorem execRecoveryComplete_only (s : State) : OutcomeOnly [.fm, .isl, .emit, .regs 16384 1, .pwr, .irq, .out] s (execRecoveryComplete s) := by
  unfold execRecoveryComplete
  refine outcome_only ?_
  refine Only.step (recoveryComplete_only ..) rfl ?_
  exact Only.refl _ _

theorem islTick_only (s : State) : Only [.isl, .emit, .regs 16384 1, .pwr, .irq, .out] s (islTick s) := by
  unfold islTick
  dsimp only
  refine Only.ite ?_ ?_
  exact Only.refl _ _
  refine Only.step (pulseStart_only ..) rfl ?_
  refine Only.step (pulseStart_only ..) rfl ?_
  refine Only.step (islCheck_only ..) rfl ?_
  refine Only.ite ?_ ?_
  refine Only.step (islClear_only ..) rfl ?_
  refine Only.ite ?_ ?_
  refine Only.step (islClear_only ..) rfl ?_
  refine Only.step (updIsl_only ..) rfl ?_
  exact Only.refl _ _
  refine Only.step (updIsl_only ..) rfl ?_
  exact Only.refl _ _
  refine Only.ite ?_ ?_
  refine Only.step (islClear_only ..) rfl ?_
  refine Only.step (updIsl_only ..) rfl ?_
  exact Only.refl _ _
  refine Only.step (updIsl_only ..) rfl ?_
  exact Only.refl _ _

theorem islStart_only (s : State) : Only [.isl, .out, .irq, .fm, .emit, .regs 16384 1, .pwr] s (islStart s) := by
  unfold islStart
  dsimp only
  refine Only.ite ?_ ?_
  exact Only.refl _ _
  refine Only.step (islInhibit_only ..) rfl ?_
  refine Only.set_isl_fm rfl ?_
  refine Only.ite ?_ ?_
  refine Only.step (islOutputs_only ..) rfl ?_
  exact Only.refl _ _
  refine Only.step (setInt_only ..) rfl ?_
  refine Only.step (islOutputs_only ..) rfl ?_
  exact Only.refl _ _

theorem islOff_only (s : State) : Only [.isl, .out, .irq, .fm, .emit, .regs 16384 1, .pwr] s (islOff s) := by
  unfold islOff
  refine Only.ite ?_ ?_
  refine Only.step (islStart_only ..) rfl ?_
  exact Only.refl _ _
  exact Only.refl _ _

end Sys2Proof.Machine
end

