-- ==== Sys2Proof/Laws/FrameSwitch.lean ====
section
/-! SUPPORT. Frames of the operations and commands of Machine/Switch.lean: one lemma per operation says what it changes at
most. -/

namespace Sys2Proof.Machine

theorem updNet_only (s : State) a1 : Only [.net] s (updNet s a1) := by
  unfold updNet
  refine Only.set_net rfl ?_
  exact Only.refl _ _

theorem lineSend_only (s : State) a1 a2 a3 : Only [.net, .out] s (lineSend s a1 a2 a3) := by
  unfold lineSend
  refine Only.step (send_only ..) rfl ?_
  refine Only.step (updNet_only ..) rfl ?_
  exact Only.refl _ _

theorem portSend_only (s : State) a1 a2 a3 : Only [.net, .out] s (portSend s a1 a2 a3) := by
  unfold portSend
  dsimp only
  refine Only.ite ?_ ?_
  exact Only.refl _ _
  refine Only.ite ?_ ?_
  refine Only.step (lineSend_only ..) rfl ?_
  exact Only.refl _ _
  refine Only.step (updNet_only ..) rfl ?_
  exact Only.refl _ _

theorem portDrain_only (q : Nat) (n : Nat) (s : State) : Only [.net, .out] s (portDrain q n s) := by
  induction n generalizing s with
  | zero => exact Only.refl _ _
  | succ n ih =>
    unfold portDrain
    split
    · exact Only.refl _ _
    · split
      · exact Only.refl _ _
      · refine Only.ite ?_ (Only.refl _ _)
        exact Only.step (ih _) rfl (Only.step (lineSend_only ..) rfl (Only.mono (updNet_only ..) rfl))

theorem netTick_only (s : State) : Only [.net, .out] s (netTick s) := by
  unfold netTick
  dsimp only
  refine Only.foldl _ _ (fun t x => ?_) ?_
  refine Only.step (portDrain_only ..) rfl ?_
  refine Only.step (updNet_only ..) rfl ?_
  exact Only.refl _ _
  exact Only.refl _ _

theorem stackSend_only (s : State) a1 : Only [.net, .out] s (stackSend s a1) := by
  unfold stackSend
  refine Only.foldl _ _ (fun t x => ?_) ?_
  refine Only.ite ?_ ?_
  exact Only.refl _ _
  refine Only.step (portSend_only ..) rfl ?_
  exact Only.refl _ _
  exact Only.refl _ _

theorem allReports_only (s : State) : Only [.net, .out] s (allReports s) := by
  unfold allReports
  refine Only.foldl _ _ (fun t x => ?_) ?_
  refine Only.step (stackSend_only ..) rfl ?_
  exact Only.refl _ _
  exact Only.refl _ _

end Sys2Proof.Machine
end

