-- ==== Sys2Proof/Laws/FrameBuvalLayer.lean ====
section
/-! SUPPORT. Frames of the operations and commands of Machine/BuvalLayer.lean: one lemma per operation says what it changes at
most. -/

namespace Sys2Proof.Machine

theorem updBsl_only (s : State) a1 a2 : Only [.isl] s (updBsl s a1 a2) := by
  unfold updBsl
  refine Only.step (updIsl_only ..) rfl ?_
  exact Only.refl _ _

theorem bslPublish_only (s : State) a1 a2 : Only [.net, .out] s (bslPublish s a1 a2) := by
  unfold bslPublish
  dsimp only
  refine Only.ite ?_ ?_
  exact Only.refl _ _
  refine Only.step (send_only ..) rfl ?_
  refine Only.step (updNet_only ..) rfl ?_
  exact Only.refl _ _

theorem bslSend_only (s : State) a1 a2 a3 a4 a5 a6 : Only [.out, .net, .isl] s (bslSend s a1 a2 a3 a4 a5 a6) := by
  unfold bslSend
  dsimp only
  refine Only.step (updBsl_only ..) rfl ?_
  refine Only.step (bslPublish_only ..) rfl ?_
  refine Only.step (send_only ..) rfl ?_
  exact Only.refl _ _

theorem bslConnect_only (s : State) a1 : Only [.isl, .out, .net] s (bslConnect s a1) := by
  unfold bslConnect
  refine Only.step (bslSend_only ..) rfl ?_
  refine Only.step (updBsl_only ..) rfl ?_
  exact Only.refl _ _

theorem bslCycle_only (s : State) a1 : Only [.isl, .out, .net] s (bslCycle s a1) := by
  unfold bslCycle
  dsimp only
  refine Only.ite ?_ ?_
  exact Only.refl _ _
  refine Only.ite ?_ ?_
  refine Only.step (bslSend_only ..) rfl ?_
  refine Only.step (updBsl_only ..) rfl ?_
  exact Only.refl _ _
  refine Only.step (bslConnect_only ..) rfl ?_
  exact Only.refl _ _

theorem execBslCycle_only a0 (s : State) : OutcomeOnly [.isl, .out, .net] s (execBslCycle a0 s) := by
  unfold execBslCycle
  refine outcome_only ?_
  refine Only.step (bslCycle_only ..) rfl ?_
  exact Only.refl _ _

theorem bslRetry_only (s : State) a1 : Only [.isl, .out, .net] s (bslRetry s a1) := by
  unfold bslRetry
  split
  refine Only.ite ?_ ?_
  refine Only.step (bslConnect_only ..) rfl ?_
  refine Only.step (updBsl_only ..) rfl ?_
  exact Only.refl _ _
  exact Only.refl _ _
  exact Only.refl _ _

theorem execBslRetry_only a0 (s : State) : OutcomeOnly [.isl, .out, .net] s (execBslRetry a0 s) := by
  unfold execBslRetry
  refine outcome_only ?_
  refine Only.step (bslRetry_only ..) rfl ?_
  exact Only.refl _ _

theorem bslDown_only (s : State) a1 : Only [.isl, .regs 32769 1, .fm, .out, .irq, .emit, .regs 16384 1, .pwr] s (bslDown s a1) := by
  unfold bslDown
  dsimp only
  refine Only.step (islCheck_only ..) rfl ?_
  refine Only.ite ?_ ?_
  refine Only.step (inputCauses_only ..) rfl ?_
  refine Only.step (bump_fam 32769 1 (by decide) (by decide) ..) rfl ?_
  refine Only.step (updBsl_only ..) rfl ?_
  exact Only.refl _ _
  refine Only.ite ?_ ?_
  refine Only.step (islRaise_only ..) rfl ?_
  refine Only.step (inputCauses_only ..) rfl ?_
  refine Only.step (bump_fam 32769 1 (by decide) (by decide) ..) rfl ?_
  refine Only.step (updBsl_only ..) rfl ?_
  exact Only.refl _ _
  refine Only.step (islFault_only ..) rfl ?_
  refine Only.step (inputCauses_only ..) rfl ?_
  refine Only.step (bump_fam 32769 1 (by decide) (by decide) ..) rfl ?_
  refine Only.step (updBsl_only ..) rfl ?_
  exact Only.refl _ _

theorem bslAnswer_only (s : State) a1 a2 a3 : Only [.out, .net, .isl] s (bslAnswer s a1 a2 a3) := by
  unfold bslAnswer
  dsimp only
  split
  refine Only.step (bslSend_only ..) rfl ?_
  exact Only.refl _ _
  refine Only.step (bslSend_only ..) rfl ?_
  refine Only.step (updBsl_only ..) rfl ?_
  exact Only.refl _ _

theorem bslAccept_only (s : State) a1 a2 a3 a4 : Only [.isl, .fm, .out, .irq, .emit, .regs 16384 1, .pwr, .regs 32769 1] s (bslAccept s a1 a2 a3 a4) := by
  unfold bslAccept
  dsimp only
  refine Only.ite ?_ ?_
  refine Only.step (islReset_only ..) rfl ?_
  refine Only.ite ?_ ?_
  refine Only.step (islRestart_only ..) rfl ?_
  refine Only.step (islCheck_only ..) rfl ?_
  refine Only.step (inputCauses_only ..) rfl ?_
  refine Only.ite ?_ ?_
  refine Only.step (causeSet_only ..) rfl ?_
  refine Only.step (updBsl_only ..) rfl ?_
  exact Only.refl _ _
  refine Only.step (updBsl_only ..) rfl ?_
  exact Only.refl _ _
  refine Only.step (islCheck_only ..) rfl ?_
  refine Only.step (inputCauses_only ..) rfl ?_
  refine Only.ite ?_ ?_
  refine Only.step (causeSet_only ..) rfl ?_
  refine Only.step (updBsl_only ..) rfl ?_
  exact Only.refl _ _
  refine Only.step (updBsl_only ..) rfl ?_
  exact Only.refl _ _
  refine Only.ite ?_ ?_
  refine Only.step (islRestart_only ..) rfl ?_
  refine Only.step (islCheck_only ..) rfl ?_
  refine Only.step (inputCauses_only ..) rfl ?_
  refine Only.ite ?_ ?_
  refine Only.step (causeSet_only ..) rfl ?_
  refine Only.step (updBsl_only ..) rfl ?_
  exact Only.refl _ _
  refine Only.step (updBsl_only ..) rfl ?_
  exact Only.refl _ _
  refine Only.step (islCheck_only ..) rfl ?_
  refine Only.step (inputCauses_only ..) rfl ?_
  refine Only.ite ?_ ?_
  refine Only.step (causeSet_only ..) rfl ?_
  refine Only.step (updBsl_only ..) rfl ?_
  exact Only.refl _ _
  refine Only.step (updBsl_only ..) rfl ?_
  exact Only.refl _ _

theorem bslData_only (s : State) a1 a2 a3 a4 : Only [.isl, .regs 32769 1, .fm, .out, .irq, .emit, .regs 16384 1, .pwr] s (bslData s a1 a2 a3 a4) := by
  unfold bslData
  dsimp only
  refine Only.ite ?_ ?_
  exact Only.refl _ _
  refine Only.ite ?_ ?_
  refine Only.step (bslDown_only ..) rfl ?_
  exact Only.refl _ _
  refine Only.step (bslAccept_only ..) rfl ?_
  exact Only.refl _ _

theorem bslTake_only (s : State) a1 a2 : Only [.regs 32769 1, .out, .net, .isl, .fm, .irq, .emit, .regs 16384 1, .pwr] s (bslTake s a1 a2) := by
  unfold bslTake
  dsimp only
  split
  refine Only.ite ?_ ?_
  refine Only.step (bump_fam 32769 1 (by decide) (by decide) ..) rfl ?_
  exact Only.refl _ _
  refine Only.step (bslAnswer_only ..) rfl ?_
  exact Only.refl _ _
  refine Only.ite ?_ ?_
  refine Only.step (bump_fam 32769 1 (by decide) (by decide) ..) rfl ?_
  exact Only.refl _ _
  refine Only.ite ?_ ?_
  refine Only.step (bump_fam 32769 1 (by decide) (by decide) ..) rfl ?_
  exact Only.refl _ _
  refine Only.step (bslData_only ..) rfl ?_
  exact Only.refl _ _
  refine Only.ite ?_ ?_
  refine Only.step (bump_fam 32769 1 (by decide) (by decide) ..) rfl ?_
  exact Only.refl _ _
  refine Only.step (updBsl_only ..) rfl ?_
  exact Only.refl _ _
  refine Only.ite ?_ ?_
  refine Only.step (bump_fam 32769 1 (by decide) (by decide) ..) rfl ?_
  exact Only.refl _ _
  refine Only.step (updBsl_only ..) rfl ?_
  exact Only.refl _ _
  refine Only.step (bump_fam 32769 1 (by decide) (by decide) ..) rfl ?_
  exact Only.refl _ _

theorem bslReceive_only (s : State) a1 a2 : Only [.regs 32769 1, .out, .net, .isl, .fm, .irq, .emit, .regs 16384 1, .pwr] s (bslReceive s a1 a2) := by
  unfold bslReceive
  dsimp only
  refine Only.ite ?_ ?_
  exact Only.refl _ _
  refine Only.ite ?_ ?_
  refine Only.step (bump_fam 32769 1 (by decide) (by decide) ..) rfl ?_
  exact Only.refl _ _
  refine Only.ite ?_ ?_
  refine Only.step (bump_fam 32769 1 (by decide) (by decide) ..) rfl ?_
  exact Only.refl _ _
  refine Only.ite ?_ ?_
  refine Only.step (bump_fam 32769 1 (by decide) (by decide) ..) rfl ?_
  exact Only.refl _ _
  refine Only.ite ?_ ?_
  refine Only.step (bump_fam 32769 1 (by decide) (by decide) ..) rfl ?_
  exact Only.refl _ _
  refine Only.ite ?_ ?_
  refine Only.step (bump_fam 32769 1 (by decide) (by decide) ..) rfl ?_
  exact Only.refl _ _
  refine Only.step (bslTake_only ..) rfl ?_
  exact Only.refl _ _

theorem execBslTelegramReceive_only a0 a1 (s : State) : OutcomeOnly [.regs 32769 1, .out, .net, .isl, .fm, .irq, .emit, .regs 16384 1, .pwr] s (execBslTelegramReceive a0 a1 s) := by
  unfold execBslTelegramReceive
  refine outcome_only ?_
  refine Only.step (bslReceive_only ..) rfl ?_
  exact Only.refl _ _

theorem bslWatchdog_only (s : State) a1 : Only [.isl, .regs 32769 1, .fm, .out, .irq, .emit, .regs 16384 1, .pwr] s (bslWatchdog s a1) := by
  unfold bslWatchdog
  dsimp only
  refine Only.ite ?_ ?_
  refine Only.step (bslDown_only ..) rfl ?_
  exact Only.refl _ _
  exact Only.refl _ _

theorem execBslWatchdog_only a0 (s : State) : OutcomeOnly [.isl, .regs 32769 1, .fm, .out, .irq, .emit, .regs 16384 1, .pwr] s (execBslWatchdog a0 s) := by
  unfold execBslWatchdog
  refine outcome_only ?_
  refine Only.step (bslWatchdog_only ..) rfl ?_
  exact Only.refl _ _

end Sys2Proof.Machine
end

