-- ==== Sys2Proof/Laws/FrameDeviceTime.lean ====
section
/-! SUPPORT. Frames of the operations and commands of Machine/DeviceTime.lean: one lemma per operation says what it changes at
most. -/

namespace Sys2Proof.Machine

theorem updTime_only (s : State) a1 : Only [.time] s (updTime s a1) := by
  unfold updTime
  refine Only.set_time rfl ?_
  exact Only.refl _ _

theorem timeTick_only (s : State) : Only [.regs 53297 1, .time, .tick] s (timeTick s) := by
  unfold timeTick
  dsimp only
  refine Only.step (updTime_only ..) rfl ?_
  refine Only.set_tick rfl ?_
  refine Only.step (updTime_only ..) rfl ?_
  split
  refine Only.step (odSetN_fam 53297 1 (by decide) (by decide) ..) rfl ?_
  refine Only.step (bump_fam 53297 1 (by decide) (by decide) ..) rfl ?_
  exact Only.refl _ _
  exact Only.refl _ _

theorem measure_only (s : State) a1 a2 : Only [.time, .free] s (measure s a1 a2) := by
  unfold measure
  dsimp only
  refine Only.ite ?_ ?_
  refine Only.step (updTime_only ..) rfl ?_
  exact Only.refl _ _
  refine Only.ite ?_ ?_
  refine Only.step (updTime_only ..) rfl ?_
  exact Only.refl _ _
  refine Only.ite ?_ ?_
  refine Only.step (updTime_only ..) rfl ?_
  exact Only.refl _ _
  refine Only.set_time_free rfl ?_
  exact Only.refl _ _

theorem timeHoldover_only (s : State) : Only [.time] s (timeHoldover s) := by
  unfold timeHoldover
  refine Only.ite ?_ ?_
  refine Only.step (updTime_only ..) rfl ?_
  exact Only.refl _ _
  exact Only.refl _ _

theorem execTimeHoldover_only (s : State) : OutcomeOnly [.time] s (execTimeHoldover s) := by
  unfold execTimeHoldover
  refine outcome_only ?_
  refine Only.step (timeHoldover_only ..) rfl ?_
  exact Only.refl _ _

theorem sourceReport_only (s : State) a1 a2 : Only [.regs 53298 1, .regs 53297 1] s (sourceReport s a1 a2) := by
  unfold sourceReport
  dsimp only
  split
  refine Only.step (odSetI_fam 53297 1 (by decide) (by decide) ..) rfl ?_
  refine Only.step (odSet_fam 53298 1 (by decide) (by decide) ..) rfl ?_
  exact Only.refl _ _
  refine Only.step (odSet_fam 53298 1 (by decide) (by decide) ..) rfl ?_
  exact Only.refl _ _

theorem reportMaster_only (s : State) : Only [.regs 53298 1, .regs 53297 1] s (reportMaster s) := by
  unfold reportMaster
  dsimp only
  split
  refine Only.step (odSetN_fam 53298 1 (by decide) (by decide) ..) rfl ?_
  refine Only.step (sourceReport_only ..) rfl ?_
  exact Only.refl _ _
  refine Only.step (odSetN_fam 53298 1 (by decide) (by decide) ..) rfl ?_
  exact Only.refl _ _

theorem hearAnnounce_only (s : State) a1 a2 : Only [.time, .regs 53298 1, .regs 53297 1] s (hearAnnounce s a1 a2) := by
  unfold hearAnnounce
  dsimp only
  refine Only.step (reportMaster_only ..) rfl ?_
  refine Only.step (updTime_only ..) rfl ?_
  exact Only.refl _ _

theorem gptpAnnounce_only (s : State) a1 a2 : Only [.time, .regs 53298 1, .regs 53297 1] s (gptpAnnounce s a1 a2) := by
  unfold gptpAnnounce
  refine Only.ite ?_ ?_
  exact Only.refl _ _
  refine Only.step (hearAnnounce_only ..) rfl ?_
  exact Only.refl _ _

theorem gptpSync_only (s : State) a1 : Only [.time, .free, .out] s (gptpSync s a1) := by
  unfold gptpSync
  dsimp only
  refine Only.ite ?_ ?_
  exact Only.refl _ _
  refine Only.ite ?_ ?_
  refine Only.step (send_only ..) rfl ?_
  refine Only.step (updTime_only ..) rfl ?_
  refine Only.step (measure_only ..) rfl ?_
  exact Only.refl _ _
  refine Only.step (updTime_only ..) rfl ?_
  refine Only.step (measure_only ..) rfl ?_
  exact Only.refl _ _

theorem execGptpSync_only a0 (s : State) : OutcomeOnly [.time, .free, .out] s (execGptpSync a0 s) := by
  unfold execGptpSync
  refine outcome_only ?_
  refine Only.step (gptpSync_only ..) rfl ?_
  exact Only.refl _ _

theorem gptpTick_only (s : State) : Only [.time, .out, .regs 53298 1, .regs 53297 1] s (gptpTick s) := by
  unfold gptpTick
  refine Only.ite ?_ ?_
  exact Only.refl _ _
  refine Only.step (reportMaster_only ..) rfl ?_
  refine Only.foldl _ _ (fun t x => ?_) ?_
  refine Only.ite ?_ ?_
  refine Only.step (send_only ..) rfl ?_
  refine Only.step (updTime_only ..) rfl ?_
  exact Only.refl _ _
  exact Only.refl _ _
  exact Only.refl _ _

theorem neighbourDelay_only (s : State) a1 : Only [.time, .regs 53298 1] s (neighbourDelay s a1) := by
  unfold neighbourDelay
  dsimp only
  split
  refine Only.ite ?_ ?_
  exact Only.refl _ _
  refine Only.step (odSetN_fam 53298 1 (by decide) (by omega) ..) rfl ?_
  refine Only.step (updTime_only ..) rfl ?_
  exact Only.refl _ _
  exact Only.refl _ _

theorem execNeighbourDelayMeasurement_only a0 (s : State) : OutcomeOnly [.time, .regs 53298 1] s (execNeighbourDelayMeasurement a0 s) := by
  unfold execNeighbourDelayMeasurement
  refine outcome_only ?_
  refine Only.step (neighbourDelay_only ..) rfl ?_
  exact Only.refl _ _

theorem delayReqSend_only (s : State) a1 : Only [.time, .out] s (delayReqSend s a1) := by
  unfold delayReqSend
  dsimp only
  refine Only.ite ?_ ?_
  refine Only.step (send_only ..) rfl ?_
  refine Only.step (updTime_only ..) rfl ?_
  exact Only.refl _ _
  exact Only.refl _ _

theorem execDelayReqSend_only a0 (s : State) : OutcomeOnly [.time, .out] s (execDelayReqSend a0 s) := by
  unfold execDelayReqSend
  refine outcome_only ?_
  refine Only.step (delayReqSend_only ..) rfl ?_
  exact Only.refl _ _

theorem delayExchange_only (s : State) a1 : Only [.regs 53298 1, .regs 53297 1, .time, .free] s (delayExchange s a1) := by
  unfold delayExchange
  dsimp only
  split
  exact Only.refl _ _
  refine Only.ite ?_ ?_
  exact Only.refl _ _
  refine Only.step (measure_only ..) rfl ?_
  refine Only.step (updTime_only ..) rfl ?_
  refine Only.step (sourceReport_only ..) rfl ?_
  exact Only.refl _ _

theorem execDelayExchange_only a0 (s : State) : OutcomeOnly [.regs 53298 1, .regs 53297 1, .time, .free] s (execDelayExchange a0 s) := by
  unfold execDelayExchange
  refine outcome_only ?_
  refine Only.step (delayExchange_only ..) rfl ?_
  exact Only.refl _ _

theorem ptpSync_only (s : State) a1 : Only [.time, .free] s (ptpSync s a1) := by
  unfold ptpSync
  dsimp only
  refine Only.ite ?_ ?_
  refine Only.set_free rfl ?_
  refine Only.step (updTime_only ..) rfl ?_
  exact Only.refl _ _
  refine Only.ite ?_ ?_
  refine Only.step (updTime_only ..) rfl ?_
  exact Only.refl _ _
  exact Only.refl _ _

theorem ptpDelayResp_only (s : State) a1 a2 : Only [.time, .free, .regs 53298 1, .regs 53297 1] s (ptpDelayResp s a1 a2) := by
  unfold ptpDelayResp
  dsimp only
  refine Only.ite ?_ ?_
  exact Only.refl _ _
  split
  refine Only.step (delayExchange_only ..) rfl ?_
  refine Only.set_free rfl ?_
  refine Only.step (updTime_only ..) rfl ?_
  exact Only.refl _ _
  refine Only.step (updTime_only ..) rfl ?_
  exact Only.refl _ _

theorem ptpReceive_only (s : State) a1 : Only [.time, .regs 53298 1, .regs 53297 1, .free] s (ptpReceive s a1) := by
  unfold ptpReceive
  refine Only.ite ?_ ?_
  exact Only.refl _ _
  refine Only.ite ?_ ?_
  refine Only.ite ?_ ?_
  refine Only.step (hearAnnounce_only ..) rfl ?_
  exact Only.refl _ _
  exact Only.refl _ _
  split
  exact Only.refl _ _
  split
  refine Only.step (ptpSync_only ..) rfl ?_
  exact Only.refl _ _
  refine Only.step (ptpSync_only ..) rfl ?_
  exact Only.refl _ _
  refine Only.step (ptpDelayResp_only ..) rfl ?_
  exact Only.refl _ _
  exact Only.refl _ _

theorem ppsEdge_only (s : State) a1 : Only [.regs 53299 1, .time, .free] s (ppsEdge s a1) := by
  unfold ppsEdge
  dsimp only
  refine Only.ite ?_ ?_
  exact Only.refl _ _
  refine Only.ite ?_ ?_
  refine Only.step (bump_fam 53299 1 (by decide) (by decide) ..) rfl ?_
  exact Only.refl _ _
  refine Only.step (measure_only ..) rfl ?_
  refine Only.ite ?_ ?_
  refine Only.step (odSetN_fam 53299 1 (by decide) (by decide) ..) rfl ?_
  refine Only.step (updTime_only ..) rfl ?_
  exact Only.refl _ _
  refine Only.step (updTime_only ..) rfl ?_
  exact Only.refl _ _

theorem execPpsEdge_only a0 (s : State) : OutcomeOnly [.regs 53299 1, .time, .free] s (execPpsEdge a0 s) := by
  unfold execPpsEdge
  refine outcome_only ?_
  refine Only.step (ppsEdge_only ..) rfl ?_
  exact Only.refl _ _

end Sys2Proof.Machine
end

