-- ==== Sys2Proof/Laws/FrameSessions.lean ====
section
/-! SUPPORT. Frames of the operations and commands of Machine/Sessions.lean: one lemma per operation says what it changes at
most. -/

namespace Sys2Proof.Machine

theorem updBoot_only (s : State) a1 : Only [.boot] s (updBoot s a1) := by
  unfold updBoot
  refine Only.set_boot rfl ?_
  exact Only.refl _ _

theorem updEnter_only (s : State) a1 : Only [.boot, .irq, .out] s (updEnter s a1) := by
  unfold updEnter
  refine Only.ite ?_ ?_
  exact Only.refl _ _
  refine Only.step (setInt_only ..) rfl ?_
  refine Only.step (updBoot_only ..) rfl ?_
  exact Only.refl _ _

theorem segmentAnswer_only (s : State) a1 : Only [.odx, .out, .mbox, .irq, .sessions] s (segmentAnswer s a1) := by
  unfold segmentAnswer
  refine Only.step (longAnswer_only ..) rfl ?_
  exact Only.refl _ _

theorem updStopped_only (s : State) a1 : Only [.boot, .irq, .out] s (updStopped s a1) := by
  unfold updStopped
  refine Only.ite ?_ ?_
  refine Only.step (updEnter_only ..) rfl ?_
  refine Only.step (updBoot_only ..) rfl ?_
  exact Only.refl _ _
  exact Only.refl _ _

theorem updFail_only (s : State) a1 : Only [.boot, .irq, .out, .odx, .mbox, .sessions] s (updFail s a1) := by
  unfold updFail
  refine Only.ite ?_ ?_
  refine Only.step (segmentAnswer_only ..) rfl ?_
  refine Only.step (updBoot_only ..) rfl ?_
  refine Only.step (updStopped_only ..) rfl ?_
  exact Only.refl _ _
  exact Only.refl _ _

theorem dropXfer_only (s : State) a1 : Only [.sessions, .boot, .irq, .out, .odx, .mbox] s (dropXfer s a1) := by
  unfold dropXfer
  dsimp only
  refine Only.ite ?_ ?_
  refine Only.step (updFail_only ..) rfl ?_
  refine Only.step (updSession_only ..) rfl ?_
  exact Only.refl _ _
  refine Only.step (updSession_only ..) rfl ?_
  exact Only.refl _ _

theorem closeSession_only (s : State) a1 : Only [.sessions, .boot, .irq, .out, .odx, .mbox] s (closeSession s a1) := by
  unfold closeSession
  dsimp only
  refine Only.set_sessions rfl ?_
  refine Only.step (updSession_only ..) rfl ?_
  refine Only.step (dropXfer_only ..) rfl ?_
  exact Only.refl _ _

theorem closeVia_only (s : State) a1 : Only [.sessions, .boot, .irq, .out, .odx, .mbox] s (closeVia s a1) := by
  unfold closeVia
  refine Only.foldl _ _ (fun t x => ?_) ?_
  refine Only.step (closeSession_only ..) rfl ?_
  exact Only.refl _ _
  exact Only.refl _ _

theorem castVote_only (s : State) a1 a2 : Only [.pwr] s (castVote s a1 a2) := by
  unfold castVote
  dsimp only
  refine Only.ite ?_ ?_
  refine Only.set_pwr rfl ?_
  exact Only.refl _ _
  refine Only.set_pwr rfl ?_
  exact Only.refl _ _

theorem pcieReset_only (s : State) : Only [.rings, .sessions, .boot, .irq, .out, .odx, .mbox, .dp, .host, .pwr] s (pcieReset s) := by
  unfold pcieReset
  dsimp only
  refine Only.step (castVote_only ..) rfl ?_
  refine Only.set_irq_mbox_dp_host_odx rfl ?_
  refine Only.foldl _ _ (fun t x => ?_) ?_
  refine Only.step (disableRing_only ..) rfl ?_
  exact Only.refl _ _
  refine Only.step (closeVia_only ..) rfl ?_
  exact Only.refl _ _

theorem execPcieReset_only (s : State) : OutcomeOnly [.rings, .sessions, .boot, .irq, .out, .odx, .mbox, .dp, .host, .pwr] s (execPcieReset s) := by
  unfold execPcieReset
  refine outcome_only ?_
  refine Only.step (pcieReset_only ..) rfl ?_
  exact Only.refl _ _

end Sys2Proof.Machine
end

