-- ==== Sys2Proof/Laws/FrameReset.lean ====
section
/-! SUPPORT. Frames of the operations and commands of Machine/Reset.lean: one lemma per operation says what it changes at
most. -/

namespace Sys2Proof.Machine

theorem pinsIdle_only (s : State) : Only [.isl, .out, .cams] s (pinsIdle s) := by
  unfold pinsIdle
  dsimp only
  refine Only.ite ?_ ?_
  refine Only.step (send_only ..) rfl ?_
  refine Only.ite ?_ ?_
  refine Only.step (send_only ..) rfl ?_
  refine Only.ite ?_ ?_
  refine Only.step (send_only ..) rfl ?_
  refine Only.step (fsyncLow_only ..) rfl ?_
  refine Only.step (fsyncLow_only ..) rfl ?_
  refine Only.step (islOutputs_only ..) rfl ?_
  exact Only.refl _ _
  refine Only.step (fsyncLow_only ..) rfl ?_
  refine Only.step (fsyncLow_only ..) rfl ?_
  refine Only.step (islOutputs_only ..) rfl ?_
  exact Only.refl _ _
  refine Only.ite ?_ ?_
  refine Only.step (send_only ..) rfl ?_
  refine Only.step (fsyncLow_only ..) rfl ?_
  refine Only.step (fsyncLow_only ..) rfl ?_
  refine Only.step (islOutputs_only ..) rfl ?_
  exact Only.refl _ _
  refine Only.step (fsyncLow_only ..) rfl ?_
  refine Only.step (fsyncLow_only ..) rfl ?_
  refine Only.step (islOutputs_only ..) rfl ?_
  exact Only.refl _ _
  refine Only.ite ?_ ?_
  refine Only.step (send_only ..) rfl ?_
  refine Only.ite ?_ ?_
  refine Only.step (send_only ..) rfl ?_
  refine Only.step (fsyncLow_only ..) rfl ?_
  refine Only.step (fsyncLow_only ..) rfl ?_
  refine Only.step (islOutputs_only ..) rfl ?_
  exact Only.refl _ _
  refine Only.step (fsyncLow_only ..) rfl ?_
  refine Only.step (fsyncLow_only ..) rfl ?_
  refine Only.step (islOutputs_only ..) rfl ?_
  exact Only.refl _ _
  refine Only.ite ?_ ?_
  refine Only.step (send_only ..) rfl ?_
  refine Only.step (fsyncLow_only ..) rfl ?_
  refine Only.step (fsyncLow_only ..) rfl ?_
  refine Only.step (islOutputs_only ..) rfl ?_
  exact Only.refl _ _
  refine Only.step (fsyncLow_only ..) rfl ?_
  refine Only.step (fsyncLow_only ..) rfl ?_
  refine Only.step (islOutputs_only ..) rfl ?_
  exact Only.refl _ _

theorem deviceReset_only (s : State) a1 : Only [.pwr, .isl, .out, .cams, .od, .tick, .irq, .mbox, .rings, .dp, .log, .host, .sessions, .odx, .net, .time, .boot, .emit, .weir, .fm, .rx, .plan, .servo, .fsync, .points, .acq, .qdr, .lane, .hk] s (deviceReset s a1) := by
  unfold deviceReset
  dsimp only
  refine Only.ite ?_ ?_
  refine Only.step (islStart_only ..) rfl ?_
  refine Only.set_od_tick_irq_mbox_rings_dp_log_host_sessions_odx_net_time_pwr_boot_emit_weir_fm_rx_plan_servo_cams_fsync_points_acq_qdr_lane_hk rfl ?_
  refine Only.step (pinsIdle_only ..) rfl ?_
  refine Only.ite ?_ ?_
  refine Only.step (stopRecord_only ..) rfl ?_
  exact Only.refl _ _
  exact Only.refl _ _
  refine Only.step (bump_fam 7984 1 (by decide) (by decide) ..) rfl ?_
  refine Only.step (islStart_only ..) rfl ?_
  refine Only.set_od_tick_irq_mbox_rings_dp_log_host_sessions_odx_net_time_pwr_boot_emit_weir_fm_rx_plan_servo_cams_fsync_points_acq_qdr_lane_hk rfl ?_
  refine Only.step (pinsIdle_only ..) rfl ?_
  refine Only.ite ?_ ?_
  refine Only.step (stopRecord_only ..) rfl ?_
  exact Only.refl _ _
  exact Only.refl _ _

theorem supplySet_only (s : State) a1 : Only [.pwr] s (supplySet s a1) := by
  unfold supplySet
  dsimp only
  refine Only.set_pwr rfl ?_
  exact Only.refl _ _

theorem aonLoss_only (s : State) : Only [.od, .pwr, .boot, .isl] s (aonLoss s) := by
  unfold aonLoss
  dsimp only
  refine Only.set_od_pwr_boot_isl rfl ?_
  exact Only.refl _ _

theorem aonBrownOut_only (s : State) : Only [.pwr, .isl, .out, .cams, .od, .tick, .irq, .mbox, .rings, .dp, .log, .host, .sessions, .odx, .net, .time, .boot, .emit, .weir, .fm, .rx, .plan, .servo, .fsync, .points, .acq, .qdr, .lane, .hk] s (aonBrownOut s) := by
  unfold aonBrownOut
  dsimp only
  refine Only.step (supplySet_only ..) rfl ?_
  refine Only.step (updBoot_only ..) rfl ?_
  refine Only.step (aonLoss_only ..) rfl ?_
  refine Only.step (deviceReset_only ..) rfl ?_
  exact Only.refl _ _

theorem execAonBrownOut_only (s : State) : OutcomeOnly [.pwr, .isl, .out, .cams, .od, .tick, .irq, .mbox, .rings, .dp, .log, .host, .sessions, .odx, .net, .time, .boot, .emit, .weir, .fm, .rx, .plan, .servo, .fsync, .points, .acq, .qdr, .lane, .hk] s (execAonBrownOut s) := by
  unfold execAonBrownOut
  refine outcomeLost_only rfl ?_
  refine Only.step (aonBrownOut_only ..) rfl ?_
  exact Only.refl _ _

theorem vaonPowerOn_only (s : State) : Only [.pwr, .isl, .out, .cams, .od, .tick, .irq, .mbox, .rings, .dp, .log, .host, .sessions, .odx, .net, .time, .boot, .emit, .weir, .fm, .rx, .plan, .servo, .fsync, .points, .acq, .qdr, .lane, .hk] s (vaonPowerOn s) := by
  unfold vaonPowerOn
  dsimp only
  refine Only.step (islStart_only ..) rfl ?_
  refine Only.set_od_pwr_boot_isl rfl ?_
  refine Only.step (aonLoss_only ..) rfl ?_
  refine Only.step (deviceReset_only ..) rfl ?_
  exact Only.refl _ _

theorem execVaonPowerOn_only (s : State) : OutcomeOnly [.pwr, .isl, .out, .cams, .od, .tick, .irq, .mbox, .rings, .dp, .log, .host, .sessions, .odx, .net, .time, .boot, .emit, .weir, .fm, .rx, .plan, .servo, .fsync, .points, .acq, .qdr, .lane, .hk] s (execVaonPowerOn s) := by
  unfold execVaonPowerOn
  refine outcomeLost_only rfl ?_
  refine Only.ite ?_ ?_
  exact Only.refl _ _
  refine Only.step (vaonPowerOn_only ..) rfl ?_
  exact Only.refl _ _

theorem vaonPowerLoss_only (s : State) : Only [.pwr, .isl, .out, .cams, .od, .tick, .irq, .mbox, .rings, .dp, .log, .host, .sessions, .odx, .net, .time, .boot, .emit, .weir, .fm, .rx, .plan, .servo, .fsync, .points, .acq, .qdr, .lane, .hk] s (vaonPowerLoss s) := by
  unfold vaonPowerLoss
  dsimp only
  refine Only.set_pwr rfl ?_
  refine Only.step (vaonPowerOn_only ..) rfl ?_
  exact Only.refl _ _

theorem execVaonPowerLoss_only (s : State) : OutcomeOnly [.pwr, .isl, .out, .cams, .od, .tick, .irq, .mbox, .rings, .dp, .log, .host, .sessions, .odx, .net, .time, .boot, .emit, .weir, .fm, .rx, .plan, .servo, .fsync, .points, .acq, .qdr, .lane, .hk] s (execVaonPowerLoss s) := by
  unfold execVaonPowerLoss
  refine outcomeLost_only rfl ?_
  refine Only.step (vaonPowerLoss_only ..) rfl ?_
  exact Only.refl _ _

theorem execVaonLow_only (s : State) : OutcomeOnly [.pwr] s (execVaonLow s) := by
  unfold execVaonLow
  dsimp only
  refine outcome_only ?_
  refine Only.step (supplySet_only ..) rfl ?_
  refine Only.set_pwr rfl ?_
  exact Only.refl _ _

theorem execLprLimit_only (s : State) : OutcomeOnly [.pwr] s (execLprLimit s) := by
  unfold execLprLimit
  refine outcome_only ?_
  refine Only.ite ?_ ?_
  refine Only.step (supplySet_only ..) rfl ?_
  exact Only.refl _ _
  exact Only.refl _ _

theorem brownOut_only (s : State) a1 : Only [.pwr, .isl, .out, .cams, .od, .tick, .irq, .mbox, .rings, .dp, .log, .host, .sessions, .odx, .net, .time, .boot, .emit, .weir, .fm, .rx, .plan, .servo, .fsync, .points, .acq, .qdr, .lane, .hk] s (brownOut s a1) := by
  unfold brownOut
  split
  refine Only.step (deviceReset_only ..) rfl ?_
  refine Only.step (supplySet_only ..) rfl ?_
  exact Only.refl _ _
  refine Only.step (islRaise_only ..) rfl ?_
  refine Only.step (updIsl_only ..) rfl ?_
  refine Only.step (supplySet_only ..) rfl ?_
  exact Only.refl _ _
  refine Only.step (deviceReset_only ..) rfl ?_
  refine Only.step (supplySet_only ..) rfl ?_
  exact Only.refl _ _
  exact Only.refl _ _

theorem execBrownOut_only a0 (s : State) : OutcomeOnly [.pwr, .isl, .out, .cams, .od, .tick, .irq, .mbox, .rings, .dp, .log, .host, .sessions, .odx, .net, .time, .boot, .emit, .weir, .fm, .rx, .plan, .servo, .fsync, .points, .acq, .qdr, .lane, .hk] s (execBrownOut a0 s) := by
  unfold execBrownOut
  refine outcomeLost_only rfl ?_
  refine Only.step (brownOut_only ..) rfl ?_
  exact Only.refl _ _

theorem resetPin_only (s : State) : Only [.boot, .pwr, .isl, .out, .cams, .od, .tick, .irq, .mbox, .rings, .dp, .log, .host, .sessions, .odx, .net, .time, .emit, .weir, .fm, .rx, .plan, .servo, .fsync, .points, .acq, .qdr, .lane, .hk] s (resetPin s) := by
  unfold resetPin
  refine Only.ite ?_ ?_
  exact Only.refl _ _
  refine Only.step (deviceReset_only ..) rfl ?_
  refine Only.step (updBoot_only ..) rfl ?_
  exact Only.refl _ _

theorem execResetN_only (s : State) : OutcomeOnly [.boot, .pwr, .isl, .out, .cams, .od, .tick, .irq, .mbox, .rings, .dp, .log, .host, .sessions, .odx, .net, .time, .emit, .weir, .fm, .rx, .plan, .servo, .fsync, .points, .acq, .qdr, .lane, .hk] s (execResetN s) := by
  unfold execResetN
  refine outcomeLost_only rfl ?_
  refine Only.step (resetPin_only ..) rfl ?_
  exact Only.refl _ _

theorem resetStuck_only (s : State) : Only [.boot] s (resetStuck s) := by
  unfold resetStuck
  refine Only.ite ?_ ?_
  refine Only.step (updBoot_only ..) rfl ?_
  exact Only.refl _ _
  exact Only.refl _ _

theorem execResetStuck_only (s : State) : OutcomeOnly [.boot] s (execResetStuck s) := by
  unfold execResetStuck
  refine outcome_only ?_
  refine Only.step (resetStuck_only ..) rfl ?_
  exact Only.refl _ _

theorem resetAttended_only (s : State) : Only [.boot, .emit] s (resetAttended s) := by
  unfold resetAttended
  refine Only.ite ?_ ?_
  refine Only.step (inhibitClear_only ..) rfl ?_
  refine Only.step (updBoot_only ..) rfl ?_
  exact Only.refl _ _
  exact Only.refl _ _

theorem execResetNAttended_only (s : State) : OutcomeOnly [.boot, .emit] s (execResetNAttended s) := by
  unfold execResetNAttended
  refine outcome_only ?_
  refine Only.step (resetAttended_only ..) rfl ?_
  exact Only.refl _ _

theorem softResetHook_only  : HookOnly [.pwr, .isl, .out, .cams, .od, .tick, .irq, .mbox, .rings, .dp, .log, .host, .sessions, .odx, .net, .time, .boot, .emit, .weir, .fm, .rx, .plan, .servo, .fsync, .points, .acq, .qdr, .lane, .hk] (softResetHook ) := by
  intro s v
  unfold softResetHook
  dsimp only
  refine ⟨?_, ?_⟩
  exact GateOnly.none _ _
  refine VerdictOnly.answered ?_ (fun u => ?_)
  exact Only.refl _ _
  refine Only.ite ?_ ?_
  refine Only.step (deviceReset_only ..) rfl ?_
  exact Only.refl _ _
  exact Only.refl _ _

theorem execSoftwareReset_only a0 (s : State) : OutcomeOnly [.sessions, .out, .mbox, .irq, .pwr, .isl, .cams, .od, .tick, .rings, .dp, .log, .host, .odx, .net, .time, .boot, .emit, .weir, .fm, .rx, .plan, .servo, .fsync, .points, .acq, .qdr, .lane, .hk] s (execSoftwareReset a0 s) := by
  unfold execSoftwareReset
  refine outcomeLost_only rfl ?_
  refine requestWrite_only (softResetHook_only) rfl rfl (by first | rfl | (unfold axisIx; cases a1 <;> rfl) | (simp [loopFreeObject]; omega)) ?_
  exact Only.refl _ _

theorem execWdtSvc_only (s : State) : OutcomeOnly [.pwr, .isl, .out, .cams, .od, .tick, .irq, .mbox, .rings, .dp, .log, .host, .sessions, .odx, .net, .time, .boot, .emit, .weir, .fm, .rx, .plan, .servo, .fsync, .points, .acq, .qdr, .lane, .hk] s (execWdtSvc s) := by
  unfold execWdtSvc
  refine outcomeLost_only rfl ?_
  refine Only.ite ?_ ?_
  refine Only.step (deviceReset_only ..) rfl ?_
  exact Only.refl _ _
  exact Only.refl _ _

end Sys2Proof.Machine
end

