-- ==== Sys2Proof/Laws/FramePower.lean ====
section
/-! SUPPORT. Frames of the operations and commands of Machine/Power.lean: one lemma per operation says what it changes at
most. -/

namespace Sys2Proof.Machine

theorem updPwr_only (s : State) a1 : Only [.pwr] s (updPwr s a1) := by
  unfold updPwr
  refine Only.set_pwr rfl ?_
  exact Only.refl _ _

theorem powerCause_only (s : State) : Only [.emit, .regs 16384 1, .pwr, .irq, .out] s (powerCause s) := by
  unfold powerCause
  refine Only.step (inhibitSet_only ..) rfl ?_
  exact Only.refl _ _

theorem setPower_only (s : State) a1 : Only [.emit, .regs 16384 1, .pwr, .irq, .out] s (setPower s a1) := by
  unfold setPower
  refine Only.ite ?_ ?_
  refine Only.step (powerCause_only ..) rfl ?_
  exact Only.refl _ _
  refine Only.step (powerCause_only ..) rfl ?_
  refine Only.step (setInt_only ..) rfl ?_
  refine Only.step (updPwr_only ..) rfl ?_
  exact Only.refl _ _

theorem exitDone_only (s : State) : Only [.pwr, .emit, .regs 16384 1, .irq, .out, .regs 36866 1] s (exitDone s) := by
  unfold exitDone
  dsimp only
  split
  exact Only.refl _ _
  refine Only.ite ?_ ?_
  exact Only.refl _ _
  refine Only.step (odSetN_fam 36866 1 (by decide) (by decide) ..) rfl ?_
  refine Only.step (setPower_only ..) rfl ?_
  refine Only.step (updPwr_only ..) rfl ?_
  exact Only.refl _ _

theorem gate_only (s : State) : Only [.pwr, .emit, .regs 16384 1, .irq, .out, .regs 36866 1] s (gate s) := by
  unfold gate
  dsimp only
  refine Only.ite ?_ ?_
  exact Only.refl _ _
  refine Only.step (exitDone_only ..) rfl ?_
  refine Only.step (updPwr_only ..) rfl ?_
  exact Only.refl _ _

theorem voteRegistered_only (s : State) a1 : Only [.pwr, .emit, .regs 16384 1, .irq, .out, .regs 36866 1] s (voteRegistered s a1) := by
  unfold voteRegistered
  dsimp only
  split
  exact Only.refl _ _
  refine Only.step (gate_only ..) rfl ?_
  refine Only.step (updPwr_only ..) rfl ?_
  refine Only.step (updPwr_only ..) rfl ?_
  exact Only.refl _ _

theorem execVoteRegistered_only a0 (s : State) : OutcomeOnly [.pwr, .emit, .regs 16384 1, .irq, .out, .regs 36866 1] s (execVoteRegistered a0 s) := by
  unfold execVoteRegistered
  refine outcome_only ?_
  refine Only.step (voteRegistered_only ..) rfl ?_
  exact Only.refl _ _

theorem domClear_only (s : State) a1 : Only [.pwr] s (domClear s a1) := by
  unfold domClear
  dsimp only
  refine Only.step (updPwr_only ..) rfl ?_
  exact Only.refl _ _

theorem memOff_only (s : State) : Only [.acq, .irq, .out, .regs 28672 1, .cams, .points, .qdr] s (memOff s) := by
  unfold memOff
  dsimp only
  refine Only.set_cams_points_qdr rfl ?_
  refine Only.step (acqMemLost_only ..) rfl ?_
  refine Only.step (acqDrained_only ..) rfl ?_
  exact Only.refl _ _

theorem dropDomain_only (s : State) a1 : Only [.pwr, .emit, .isl, .regs 16384 1, .irq, .out, .servo, .regs 12568 8, .rx, .regs 12600 8, .regs 12368 8, .regs 12392 8, .regs 24584 2, .cams, .regs 24580 2, .acq, .regs 28672 1, .points, .qdr, .regs 49184 16, .lane, .rings, .sessions, .boot, .odx, .mbox, .dp, .host, .fm, .plan, .regs 8192 1, .weir, .hk] s (dropDomain s a1) := by
  unfold dropDomain
  dsimp only
  refine Only.ite ?_ ?_
  refine Only.step (domClear_only ..) rfl ?_
  exact Only.refl _ _
  split
  refine Only.step (emitOffPower_only ..) rfl ?_
  refine Only.step (domClear_only ..) rfl ?_
  exact Only.refl _ _
  refine Only.step (servoOff_only ..) rfl ?_
  refine Only.step (domClear_only ..) rfl ?_
  exact Only.refl _ _
  refine Only.step (rxOff_only ..) rfl ?_
  refine Only.step (domClear_only ..) rfl ?_
  exact Only.refl _ _
  refine Only.step (camOff_only ..) rfl ?_
  refine Only.step (domClear_only ..) rfl ?_
  exact Only.refl _ _
  refine Only.step (memOff_only ..) rfl ?_
  refine Only.step (domClear_only ..) rfl ?_
  exact Only.refl _ _
  refine Only.step (lanesOff_only ..) rfl ?_
  refine Only.step (domClear_only ..) rfl ?_
  exact Only.refl _ _
  refine Only.step (pcieReset_only ..) rfl ?_
  refine Only.step (domClear_only ..) rfl ?_
  exact Only.refl _ _
  refine Only.step (islOff_only ..) rfl ?_
  refine Only.step (domClear_only ..) rfl ?_
  exact Only.refl _ _
  refine Only.step (hkStop_only ..) rfl ?_
  refine Only.step (planSuspend_only ..) rfl ?_
  refine Only.step (domClear_only ..) rfl ?_
  exact Only.refl _ _
  refine Only.step (domClear_only ..) rfl ?_
  exact Only.refl _ _

theorem idleDomain_only (s : State) a1 : Only [.plan, .regs 8192 1, .weir, .emit, .hk, .pwr] s (idleDomain s a1) := by
  unfold idleDomain
  dsimp only
  refine Only.ite ?_ ?_
  exact Only.refl _ _
  refine Only.step (updPwr_only ..) rfl ?_
  refine Only.ite ?_ ?_
  refine Only.step (hkStop_only ..) rfl ?_
  refine Only.step (planSuspend_only ..) rfl ?_
  exact Only.refl _ _
  exact Only.refl _ _

theorem startUpDone_only (s : State) a1 : Only [.pwr, .lane, .irq, .out, .cams, .regs 24580 2, .regs 24576 2, .regs 20544 3, .servo, .emit, .regs 16406 1] s (startUpDone s a1) := by
  unfold startUpDone
  dsimp only
  refine Only.ite ?_ ?_
  exact Only.refl _ _
  split
  refine Only.step (lanesStart_only ..) rfl ?_
  refine Only.step (updPwr_only ..) rfl ?_
  exact Only.refl _ _
  refine Only.step (camStart_only ..) rfl ?_
  refine Only.step (updPwr_only ..) rfl ?_
  exact Only.refl _ _
  refine Only.step (servoStart_only ..) rfl ?_
  refine Only.step (updPwr_only ..) rfl ?_
  exact Only.refl _ _
  refine Only.step (emitStarted_only ..) rfl ?_
  refine Only.step (updPwr_only ..) rfl ?_
  exact Only.refl _ _
  refine Only.step (updPwr_only ..) rfl ?_
  exact Only.refl _ _

theorem execDomainStartUpDone_only a0 (s : State) : OutcomeOnly [.pwr, .lane, .irq, .out, .cams, .regs 24580 2, .regs 24576 2, .regs 20544 3, .servo, .emit, .regs 16406 1] s (execDomainStartUpDone a0 s) := by
  unfold execDomainStartUpDone
  refine outcome_only ?_
  refine Only.step (startUpDone_only ..) rfl ?_
  exact Only.refl _ _

theorem domainDrop_only (s : State) a1 : Only [.pwr, .emit, .isl, .regs 16384 1, .irq, .out, .servo, .regs 12568 8, .rx, .regs 12600 8, .regs 12368 8, .regs 12392 8, .regs 24584 2, .cams, .regs 24580 2, .acq, .regs 28672 1, .points, .qdr, .regs 49184 16, .lane, .rings, .sessions, .boot, .odx, .mbox, .dp, .host, .fm, .plan, .regs 8192 1, .weir, .hk] s (domainDrop s a1) := by
  unfold domainDrop
  refine Only.ite ?_ ?_
  exact Only.refl _ _
  refine Only.step (dropDomain_only ..) rfl ?_
  exact Only.refl _ _

theorem execDomainDrop_only a0 (s : State) : OutcomeOnly [.pwr, .emit, .isl, .regs 16384 1, .irq, .out, .servo, .regs 12568 8, .rx, .regs 12600 8, .regs 12368 8, .regs 12392 8, .regs 24584 2, .cams, .regs 24580 2, .acq, .regs 28672 1, .points, .qdr, .regs 49184 16, .lane, .rings, .sessions, .boot, .odx, .mbox, .dp, .host, .fm, .plan, .regs 8192 1, .weir, .hk] s (execDomainDrop a0 s) := by
  unfold execDomainDrop
  refine outcomeLost_only rfl ?_
  refine Only.step (domainDrop_only ..) rfl ?_
  exact Only.refl _ _

theorem phaseA_only (s : State) a1 : Only [.regs 24584 2, .cams, .irq, .out, .acq, .regs 28673 1, .regs 28672 1] s (phaseA s a1) := by
  unfold phaseA
  dsimp only
  refine Only.ite ?_ ?_
  refine Only.step (acqHalt_only ..) rfl ?_
  refine Only.ite ?_ ?_
  refine Only.step (camClose_only ..) rfl ?_
  refine Only.step (camClose_only ..) rfl ?_
  exact Only.refl _ _
  exact Only.refl _ _
  refine Only.ite ?_ ?_
  refine Only.step (camClose_only ..) rfl ?_
  refine Only.step (camClose_only ..) rfl ?_
  exact Only.refl _ _
  exact Only.refl _ _

theorem startEntry_only (s : State) a1 a2 a3 a4 : Only [.pwr, .emit, .regs 16384 1, .irq, .out, .regs 24584 2, .cams, .acq, .regs 28673 1, .regs 28672 1] s (startEntry s a1 a2 a3 a4) := by
  unfold startEntry
  dsimp only
  refine Only.step (phaseA_only ..) rfl ?_
  refine Only.step (powerCause_only ..) rfl ?_
  refine Only.step (updPwr_only ..) rfl ?_
  exact Only.refl _ _

theorem startRun_only (s : State) : Only [.pwr, .emit, .regs 16384 1, .irq, .out, .regs 36866 1] s (startRun s) := by
  unfold startRun
  refine Only.step (gate_only ..) rfl ?_
  refine Only.step (updPwr_only ..) rfl ?_
  exact Only.refl _ _

theorem phaseAEnd_only (s : State) : Only [.pwr] s (phaseAEnd s) := by
  unfold phaseAEnd
  dsimp only
  split
  exact Only.refl _ _
  refine Only.ite ?_ ?_
  refine Only.step (updPwr_only ..) rfl ?_
  exact Only.refl _ _
  exact Only.refl _ _

theorem execPhaseAEnd_only (s : State) : OutcomeOnly [.pwr] s (execPhaseAEnd s) := by
  unfold execPhaseAEnd
  refine outcome_only ?_
  refine Only.step (phaseAEnd_only ..) rfl ?_
  exact Only.refl _ _

theorem wakeExit_only (s : State) a1 : Only [.pwr, .emit, .irq, .out, .boot, .isl, .cams, .od, .tick, .mbox, .rings, .dp, .log, .host, .sessions, .odx, .net, .time, .weir, .fm, .rx, .plan, .servo, .fsync, .points, .acq, .qdr, .lane, .hk] s (wakeExit s a1) := by
  unfold wakeExit
  dsimp only
  split
  refine Only.step (gate_only ..) rfl ?_
  refine Only.step (updPwr_only ..) rfl ?_
  refine Only.step (odSetN_fam 36867 1 (by decide) (by decide) ..) rfl ?_
  refine Only.step (odSetN_fam 36864 1 (by decide) (by decide) ..) rfl ?_
  exact Only.refl _ _
  refine Only.step (deviceReset_only ..) rfl ?_
  refine Only.step (supplySet_only ..) rfl ?_
  refine Only.step (updBoot_only ..) rfl ?_
  exact Only.refl _ _
  exact Only.refl _ _

theorem startForced_only (s : State) : Only [.pwr, .regs 36864 1, .emit, .regs 16384 1, .irq, .out, .regs 24584 2, .cams, .acq, .regs 28673 1, .regs 28672 1] s (startForced s) := by
  unfold startForced
  dsimp only
  refine Only.ite ?_ ?_
  refine Only.step (startEntry_only ..) rfl ?_
  refine Only.step (odSetN_fam 36864 1 (by decide) (by decide) ..) rfl ?_
  refine Only.step (updPwr_only ..) rfl ?_
  exact Only.refl _ _
  refine Only.step (updPwr_only ..) rfl ?_
  exact Only.refl _ _

theorem forcedNext_only (s : State) : Only [.pwr, .regs 36864 1, .emit, .regs 16384 1, .irq, .out, .regs 24584 2, .cams, .acq, .regs 28673 1, .regs 28672 1] s (forcedNext s) := by
  unfold forcedNext
  refine Only.ite ?_ ?_
  refine Only.step (startForced_only ..) rfl ?_
  exact Only.refl _ _
  exact Only.refl _ _

theorem powerGood_only (s : State) a1 : Only [.pwr, .regs 45072 1, .regs 45073 1, .hk, .plan, .isl, .out, .irq, .fm, .emit, .regs 16384 1, .weir, .rx, .regs 12600 8, .regs 12368 8, .regs 12392 8, .regs 36866 1, .regs 36864 1, .regs 24584 2, .cams, .acq, .regs 28673 1, .regs 28672 1] s (powerGood s a1) := by
  unfold powerGood
  dsimp only
  refine Only.ite ?_ ?_
  exact Only.refl _ _
  refine Only.step (forcedNext_only ..) rfl ?_
  refine Only.step (exitDone_only ..) rfl ?_
  split
  refine Only.step (planResume_only ..) rfl ?_
  refine Only.step (hkStart_only ..) rfl ?_
  refine Only.step (updPwr_only ..) rfl ?_
  exact Only.refl _ _
  refine Only.step (islStart_only ..) rfl ?_
  refine Only.step (updPwr_only ..) rfl ?_
  exact Only.refl _ _
  refine Only.ite ?_ ?_
  refine Only.step (updPwr_only ..) rfl ?_
  exact Only.refl _ _
  refine Only.step (updPwr_only ..) rfl ?_
  refine Only.step (updPwr_only ..) rfl ?_
  exact Only.refl _ _
  refine Only.step (updPwr_only ..) rfl ?_
  refine Only.step (updPwr_only ..) rfl ?_
  exact Only.refl _ _
  refine Only.step (updPwr_only ..) rfl ?_
  refine Only.step (updPwr_only ..) rfl ?_
  exact Only.refl _ _
  refine Only.step (emitStart_only ..) rfl ?_
  refine Only.step (updPwr_only ..) rfl ?_
  refine Only.step (updPwr_only ..) rfl ?_
  exact Only.refl _ _
  refine Only.step (rxStart_only ..) rfl ?_
  refine Only.step (updPwr_only ..) rfl ?_
  exact Only.refl _ _
  refine Only.step (updPwr_only ..) rfl ?_
  exact Only.refl _ _

theorem execDomainPowerGood_only a0 (s : State) : OutcomeOnly [.pwr, .regs 45072 1, .regs 45073 1, .hk, .plan, .isl, .out, .irq, .fm, .emit, .regs 16384 1, .weir, .rx, .regs 12600 8, .regs 12368 8, .regs 12392 8, .regs 36866 1, .regs 36864 1, .regs 24584 2, .cams, .acq, .regs 28673 1, .regs 28672 1] s (execDomainPowerGood a0 s) := by
  unfold execDomainPowerGood
  refine outcome_only ?_
  refine Only.step (powerGood_only ..) rfl ?_
  exact Only.refl _ _

theorem forceQuiet_only (s : State) : Only [.pwr, .regs 36864 1, .emit, .regs 16384 1, .irq, .out, .regs 24584 2, .cams, .acq, .regs 28673 1, .regs 28672 1] s (forceQuiet s) := by
  unfold forceQuiet
  refine Only.ite ?_ ?_
  exact Only.refl _ _
  refine Only.step (forcedNext_only ..) rfl ?_
  refine Only.step (updPwr_only ..) rfl ?_
  exact Only.refl _ _

theorem phaseC_only (s : State) a1 : Only [.pwr, .emit, .isl, .irq, .out, .servo, .rx, .cams, .acq, .points, .qdr, .lane, .rings, .sessions, .boot, .odx, .mbox, .dp, .host, .fm, .plan, .weir, .hk, .od, .tick, .log, .net, .time, .fsync] s (phaseC s a1) := by
  unfold phaseC
  dsimp only
  refine Only.ite ?_ ?_
  refine Only.step (startEntry_only ..) rfl ?_
  refine Only.ite ?_ ?_
  refine Only.step (aonLoss_only ..) rfl ?_
  refine Only.step (supplySet_only ..) rfl ?_
  refine Only.step (odSetN_fam 36866 1 (by decide) (by decide) ..) rfl ?_
  refine Only.step (bump_fam 36866 1 (by decide) (by decide) ..) rfl ?_
  refine Only.step (setPower_only ..) rfl ?_
  refine Only.step (updPwr_only ..) rfl ?_
  refine Only.foldl _ _ (fun t x => ?_) ?_
  refine Only.ite ?_ ?_
  refine Only.ite ?_ ?_
  refine Only.step (dropDomain_only ..) rfl ?_
  exact Only.refl _ _
  refine Only.step (idleDomain_only ..) rfl ?_
  exact Only.refl _ _
  exact Only.refl _ _
  refine Only.step (updFail_only ..) rfl ?_
  exact Only.refl _ _
  refine Only.step (odSetN_fam 36866 1 (by decide) (by decide) ..) rfl ?_
  refine Only.step (bump_fam 36866 1 (by decide) (by decide) ..) rfl ?_
  refine Only.step (setPower_only ..) rfl ?_
  refine Only.step (updPwr_only ..) rfl ?_
  refine Only.foldl _ _ (fun t x => ?_) ?_
  refine Only.ite ?_ ?_
  refine Only.ite ?_ ?_
  refine Only.step (dropDomain_only ..) rfl ?_
  exact Only.refl _ _
  refine Only.step (idleDomain_only ..) rfl ?_
  exact Only.refl _ _
  exact Only.refl _ _
  refine Only.step (updFail_only ..) rfl ?_
  exact Only.refl _ _
  split
  refine Only.step (wakeExit_only ..) rfl ?_
  refine Only.step (bump_fam 36866 1 (by decide) (by decide) ..) rfl ?_
  refine Only.ite ?_ ?_
  refine Only.step (aonLoss_only ..) rfl ?_
  refine Only.step (supplySet_only ..) rfl ?_
  refine Only.step (odSetN_fam 36866 1 (by decide) (by decide) ..) rfl ?_
  refine Only.step (bump_fam 36866 1 (by decide) (by decide) ..) rfl ?_
  refine Only.step (setPower_only ..) rfl ?_
  refine Only.step (updPwr_only ..) rfl ?_
  refine Only.foldl _ _ (fun t x => ?_) ?_
  refine Only.ite ?_ ?_
  refine Only.ite ?_ ?_
  refine Only.step (dropDomain_only ..) rfl ?_
  exact Only.refl _ _
  refine Only.step (idleDomain_only ..) rfl ?_
  exact Only.refl _ _
  exact Only.refl _ _
  refine Only.step (updFail_only ..) rfl ?_
  exact Only.refl _ _
  refine Only.step (odSetN_fam 36866 1 (by decide) (by decide) ..) rfl ?_
  refine Only.step (bump_fam 36866 1 (by decide) (by decide) ..) rfl ?_
  refine Only.step (setPower_only ..) rfl ?_
  refine Only.step (updPwr_only ..) rfl ?_
  refine Only.foldl _ _ (fun t x => ?_) ?_
  refine Only.ite ?_ ?_
  refine Only.ite ?_ ?_
  refine Only.step (dropDomain_only ..) rfl ?_
  exact Only.refl _ _
  refine Only.step (idleDomain_only ..) rfl ?_
  exact Only.refl _ _
  exact Only.refl _ _
  refine Only.step (updFail_only ..) rfl ?_
  exact Only.refl _ _
  refine Only.ite ?_ ?_
  refine Only.step (forcedNext_only ..) rfl ?_
  refine Only.step (gate_only ..) rfl ?_
  refine Only.ite ?_ ?_
  refine Only.step (aonLoss_only ..) rfl ?_
  refine Only.step (supplySet_only ..) rfl ?_
  refine Only.step (odSetN_fam 36866 1 (by decide) (by decide) ..) rfl ?_
  refine Only.step (bump_fam 36866 1 (by decide) (by decide) ..) rfl ?_
  refine Only.step (setPower_only ..) rfl ?_
  refine Only.step (updPwr_only ..) rfl ?_
  refine Only.foldl _ _ (fun t x => ?_) ?_
  refine Only.ite ?_ ?_
  refine Only.ite ?_ ?_
  refine Only.step (dropDomain_only ..) rfl ?_
  exact Only.refl _ _
  refine Only.step (idleDomain_only ..) rfl ?_
  exact Only.refl _ _
  exact Only.refl _ _
  refine Only.step (updFail_only ..) rfl ?_
  exact Only.refl _ _
  refine Only.step (odSetN_fam 36866 1 (by decide) (by decide) ..) rfl ?_
  refine Only.step (bump_fam 36866 1 (by decide) (by decide) ..) rfl ?_
  refine Only.step (setPower_only ..) rfl ?_
  refine Only.step (updPwr_only ..) rfl ?_
  refine Only.foldl _ _ (fun t x => ?_) ?_
  refine Only.ite ?_ ?_
  refine Only.ite ?_ ?_
  refine Only.step (dropDomain_only ..) rfl ?_
  exact Only.refl _ _
  refine Only.step (idleDomain_only ..) rfl ?_
  exact Only.refl _ _
  exact Only.refl _ _
  refine Only.step (updFail_only ..) rfl ?_
  exact Only.refl _ _
  refine Only.step (updPwr_only ..) rfl ?_
  refine Only.ite ?_ ?_
  refine Only.step (aonLoss_only ..) rfl ?_
  refine Only.step (supplySet_only ..) rfl ?_
  refine Only.step (odSetN_fam 36866 1 (by decide) (by decide) ..) rfl ?_
  refine Only.step (bump_fam 36866 1 (by decide) (by decide) ..) rfl ?_
  refine Only.step (setPower_only ..) rfl ?_
  refine Only.step (updPwr_only ..) rfl ?_
  refine Only.foldl _ _ (fun t x => ?_) ?_
  refine Only.ite ?_ ?_
  refine Only.ite ?_ ?_
  refine Only.step (dropDomain_only ..) rfl ?_
  exact Only.refl _ _
  refine Only.step (idleDomain_only ..) rfl ?_
  exact Only.refl _ _
  exact Only.refl _ _
  refine Only.step (updFail_only ..) rfl ?_
  exact Only.refl _ _
  refine Only.step (odSetN_fam 36866 1 (by decide) (by decide) ..) rfl ?_
  refine Only.step (bump_fam 36866 1 (by decide) (by decide) ..) rfl ?_
  refine Only.step (setPower_only ..) rfl ?_
  refine Only.step (updPwr_only ..) rfl ?_
  refine Only.foldl _ _ (fun t x => ?_) ?_
  refine Only.ite ?_ ?_
  refine Only.ite ?_ ?_
  refine Only.step (dropDomain_only ..) rfl ?_
  exact Only.refl _ _
  refine Only.step (idleDomain_only ..) rfl ?_
  exact Only.refl _ _
  exact Only.refl _ _
  refine Only.step (updFail_only ..) rfl ?_
  exact Only.refl _ _

theorem drainComplete_only (s : State) : Only [.pwr, .emit, .isl, .irq, .out, .servo, .rx, .cams, .acq, .points, .qdr, .lane, .rings, .sessions, .boot, .odx, .mbox, .dp, .host, .fm, .plan, .weir, .hk, .od, .tick, .log, .net, .time, .fsync] s (drainComplete s) := by
  unfold drainComplete
  split
  refine Only.ite ?_ ?_
  refine Only.step (phaseC_only ..) rfl ?_
  exact Only.refl _ _
  exact Only.refl _ _
  exact Only.refl _ _

theorem execDrainComplete_only (s : State) : OutcomeOnly [.pwr, .emit, .isl, .irq, .out, .servo, .rx, .cams, .acq, .points, .qdr, .lane, .rings, .sessions, .boot, .odx, .mbox, .dp, .host, .fm, .plan, .weir, .hk, .od, .tick, .log, .net, .time, .fsync] s (execDrainComplete s) := by
  unfold execDrainComplete
  refine outcomeLost_only rfl ?_
  refine Only.step (drainComplete_only ..) rfl ?_
  exact Only.refl _ _

theorem abortEntry_only (s : State) a1 a2 : Only [.pwr, .emit, .regs 16384 1, .irq, .out, .regs 36866 1, .regs 36864 1] s (abortEntry s a1 a2) := by
  unfold abortEntry
  dsimp only
  refine Only.step (setInt_only ..) rfl ?_
  refine Only.step (odSetN_fam 36864 1 (by decide) (by decide) ..) rfl ?_
  refine Only.step (odSetN_fam 36866 1 (by decide) (by decide) ..) rfl ?_
  refine Only.step (bump_fam 36866 1 (by decide) (by decide) ..) rfl ?_
  refine Only.step (powerCause_only ..) rfl ?_
  refine Only.step (updPwr_only ..) rfl ?_
  exact Only.refl _ _

theorem drainTimeout_only (s : State) : Only [.pwr, .emit, .isl, .irq, .out, .servo, .rx, .cams, .acq, .points, .qdr, .lane, .rings, .sessions, .boot, .odx, .mbox, .dp, .host, .fm, .plan, .weir, .hk, .od, .tick, .log, .net, .time, .fsync] s (drainTimeout s) := by
  unfold drainTimeout
  split
  exact Only.refl _ _
  split
  exact Only.refl _ _
  refine Only.ite ?_ ?_
  exact Only.refl _ _
  refine Only.ite ?_ ?_
  refine Only.step (phaseC_only ..) rfl ?_
  refine Only.step (bump_fam 36866 1 (by decide) (by decide) ..) rfl ?_
  exact Only.refl _ _
  refine Only.step (forcedNext_only ..) rfl ?_
  refine Only.step (gate_only ..) rfl ?_
  refine Only.step (abortEntry_only ..) rfl ?_
  exact Only.refl _ _

theorem execDrainTimeout_only (s : State) : OutcomeOnly [.pwr, .emit, .isl, .irq, .out, .servo, .rx, .cams, .acq, .points, .qdr, .lane, .rings, .sessions, .boot, .odx, .mbox, .dp, .host, .fm, .plan, .weir, .hk, .od, .tick, .log, .net, .time, .fsync] s (execDrainTimeout s) := by
  unfold execDrainTimeout
  refine outcomeLost_only rfl ?_
  refine Only.step (drainTimeout_only ..) rfl ?_
  exact Only.refl _ _

theorem powerHook_only  : HookOnly [.regs 36866 1, .irq, .out, .regs 36864 1, .pwr, .emit, .regs 16384 1, .regs 24584 2, .cams, .acq, .regs 28673 1, .regs 28672 1] (powerHook ) := by
  intro s v
  unfold powerHook
  dsimp only
  refine ⟨?_, ?_⟩
  split
  refine GateOnly.some ?_
  refine Only.step (setInt_only ..) rfl ?_
  refine Only.step (odSetN_fam 36866 1 (by decide) (by decide) ..) rfl ?_
  refine Only.step (bump_fam 36866 1 (by decide) (by decide) ..) rfl ?_
  exact Only.refl _ _
  exact GateOnly.none _ _
  refine VerdictOnly.answered ?_ (fun u => ?_)
  refine Only.step (odSet_fam 36864 1 (by decide) (by decide) ..) rfl ?_
  exact Only.refl _ _
  refine Only.ite ?_ ?_
  exact Only.refl _ _
  refine Only.ite ?_ ?_
  refine Only.step (startRun_only ..) rfl ?_
  exact Only.refl _ _
  refine Only.step (startEntry_only ..) rfl ?_
  exact Only.refl _ _

theorem execPowerStateRequest_only a0 a1 (s : State) : OutcomeOnly [.sessions, .out, .mbox, .irq, .regs 36866 1, .regs 36864 1, .pwr, .emit, .regs 16384 1, .regs 24584 2, .cams, .acq, .regs 28673 1, .regs 28672 1] s (execPowerStateRequest a0 a1 s) := by
  unfold execPowerStateRequest
  refine outcome_only ?_
  refine requestWrite_only (powerHook_only) rfl rfl (by first | rfl | (unfold axisIx; cases a1 <;> rfl) | (simp [loopFreeObject]; omega)) ?_
  exact Only.refl _ _

theorem wakeEvent_only (s : State) a1 : Only [.pwr, .emit, .irq, .out, .boot, .isl, .cams, .od, .tick, .mbox, .rings, .dp, .log, .host, .sessions, .odx, .net, .time, .weir, .fm, .rx, .plan, .servo, .fsync, .points, .acq, .qdr, .lane, .hk] s (wakeEvent s a1) := by
  unfold wakeEvent
  split
  refine Only.ite ?_ ?_
  refine Only.step (updPwr_only ..) rfl ?_
  exact Only.refl _ _
  refine Only.step (bump_fam 36866 1 (by decide) (by decide) ..) rfl ?_
  exact Only.refl _ _
  refine Only.ite ?_ ?_
  exact Only.refl _ _
  refine Only.ite ?_ ?_
  refine Only.step (wakeExit_only ..) rfl ?_
  exact Only.refl _ _
  exact Only.refl _ _

theorem rtcAlarm_only (s : State) : Only [.pwr, .emit, .irq, .out, .boot, .isl, .cams, .od, .tick, .mbox, .rings, .dp, .log, .host, .sessions, .odx, .net, .time, .weir, .fm, .rx, .plan, .servo, .fsync, .points, .acq, .qdr, .lane, .hk] s (rtcAlarm s) := by
  unfold rtcAlarm
  dsimp only
  refine Only.ite ?_ ?_
  exact Only.refl _ _
  refine Only.ite ?_ ?_
  refine Only.step (bump_fam 36866 1 (by decide) (by decide) ..) rfl ?_
  refine Only.step (odSetN_fam 36867 1 (by decide) (by decide) ..) rfl ?_
  refine Only.ite ?_ ?_
  refine Only.step (updPwr_only ..) rfl ?_
  refine Only.step (odSetN_fam 36867 1 (by decide) (by decide) ..) rfl ?_
  exact Only.refl _ _
  exact Only.refl _ _
  refine Only.step (wakeEvent_only ..) rfl ?_
  refine Only.ite ?_ ?_
  refine Only.step (updPwr_only ..) rfl ?_
  refine Only.step (odSetN_fam 36867 1 (by decide) (by decide) ..) rfl ?_
  exact Only.refl _ _
  exact Only.refl _ _

theorem execRtcAlarm_only (s : State) : OutcomeOnly [.pwr, .emit, .irq, .out, .boot, .isl, .cams, .od, .tick, .mbox, .rings, .dp, .log, .host, .sessions, .odx, .net, .time, .weir, .fm, .rx, .plan, .servo, .fsync, .points, .acq, .qdr, .lane, .hk] s (execRtcAlarm s) := by
  unfold execRtcAlarm
  refine outcomeLost_only rfl ?_
  refine Only.step (rtcAlarm_only ..) rfl ?_
  exact Only.refl _ _

theorem wakeReq_only (s : State) a1 : Only [.pwr, .emit, .irq, .out, .boot, .isl, .cams, .od, .tick, .mbox, .rings, .dp, .log, .host, .sessions, .odx, .net, .time, .weir, .fm, .rx, .plan, .servo, .fsync, .points, .acq, .qdr, .lane, .hk] s (wakeReq s a1) := by
  unfold wakeReq
  dsimp only
  refine Only.ite ?_ ?_
  refine Only.step (wakeEvent_only ..) rfl ?_
  refine Only.step (updPwr_only ..) rfl ?_
  exact Only.refl _ _
  refine Only.step (updPwr_only ..) rfl ?_
  exact Only.refl _ _

theorem execWakeReq_only a0 (s : State) : OutcomeOnly [.pwr, .emit, .irq, .out, .boot, .isl, .cams, .od, .tick, .mbox, .rings, .dp, .log, .host, .sessions, .odx, .net, .time, .weir, .fm, .rx, .plan, .servo, .fsync, .points, .acq, .lane, .hk] s (execWakeReq a0 s) := by
  unfold execWakeReq
  refine outcome_only ?_
  refine Only.step (wakeReq_only ..) rfl ?_
  exact Only.refl _ _

theorem execNetworkWake_only (s : State) : OutcomeOnly [.pwr, .emit, .irq, .out, .boot, .isl, .cams, .od, .tick, .mbox, .rings, .dp, .log, .host, .sessions, .odx, .net, .time, .weir, .fm, .rx, .plan, .servo, .fsync, .points, .acq, .lane, .hk] s (execNetworkWake s) := by
  unfold execNetworkWake
  refine outcome_only ?_
  refine Only.ite ?_ ?_
  refine Only.step (wakeEvent_only ..) rfl ?_
  exact Only.refl _ _
  exact Only.refl _ _

theorem norEnd_only (s : State) : Only [.odx, .out, .mbox, .irq, .sessions, .boot, .regs 4112 1, .isl, .pwr] s (norEnd s) := by
  unfold norEnd
  dsimp only
  refine Only.step (supplySet_only ..) rfl ?_
  refine Only.foldl _ _ (fun t x => ?_) ?_
  refine Only.step (longAnswer_only ..) rfl ?_
  exact Only.refl _ _
  refine Only.set_odx_boot_isl rfl ?_
  refine Only.ite ?_ ?_
  refine Only.step (odSetN_fam 4112 1 (by decide) (by decide) ..) rfl ?_
  refine Only.step (updFail_only ..) rfl ?_
  exact Only.refl _ _
  refine Only.step (updFail_only ..) rfl ?_
  exact Only.refl _ _

theorem quiesce_only (s : State) a1 : Only [.pwr, .emit, .regs 16384 1, .irq, .out, .regs 36866 1, .regs 36864 1, .regs 36868 1, .isl, .fm, .regs 32769 1, .odx, .mbox, .sessions, .boot, .regs 4112 1] s (quiesce s a1) := by
  unfold quiesce
  dsimp only
  refine Only.ite ?_ ?_
  refine Only.step (updPwr_only ..) rfl ?_
  exact Only.refl _ _
  refine Only.ite ?_ ?_
  refine Only.step (updPwr_only ..) rfl ?_
  refine Only.step (supplySet_only ..) rfl ?_
  refine Only.ite ?_ ?_
  refine Only.step (abortEntry_only ..) rfl ?_
  refine Only.step (updPwr_only ..) rfl ?_
  exact Only.refl _ _
  refine Only.step (updPwr_only ..) rfl ?_
  exact Only.refl _ _
  refine Only.step (quiesceNote_only ..) rfl ?_
  refine Only.ite ?_ ?_
  refine Only.step (updPwr_only ..) rfl ?_
  refine Only.step (norEnd_only ..) rfl ?_
  refine Only.step (setPower_only ..) rfl ?_
  refine Only.step (setInt_only ..) rfl ?_
  refine Only.step (odSetN_fam 36864 1 (by decide) (by decide) ..) rfl ?_
  refine Only.step (islRaise_only ..) rfl ?_
  refine Only.step (updIsl_only ..) rfl ?_
  refine Only.step (inhibit_only ..) rfl ?_
  refine Only.step (updPwr_only ..) rfl ?_
  refine Only.step (bump_fam 36868 1 (by decide) (by decide) ..) rfl ?_
  refine Only.step (supplySet_only ..) rfl ?_
  refine Only.ite ?_ ?_
  refine Only.step (abortEntry_only ..) rfl ?_
  refine Only.step (updPwr_only ..) rfl ?_
  exact Only.refl _ _
  refine Only.step (updPwr_only ..) rfl ?_
  exact Only.refl _ _
  refine Only.ite ?_ ?_
  refine Only.step (updStopped_only ..) rfl ?_
  refine Only.step (setPower_only ..) rfl ?_
  refine Only.step (setInt_only ..) rfl ?_
  refine Only.step (odSetN_fam 36864 1 (by decide) (by decide) ..) rfl ?_
  refine Only.step (islRaise_only ..) rfl ?_
  refine Only.step (updIsl_only ..) rfl ?_
  refine Only.step (inhibit_only ..) rfl ?_
  refine Only.step (updPwr_only ..) rfl ?_
  refine Only.step (bump_fam 36868 1 (by decide) (by decide) ..) rfl ?_
  refine Only.step (supplySet_only ..) rfl ?_
  refine Only.ite ?_ ?_
  refine Only.step (abortEntry_only ..) rfl ?_
  refine Only.step (updPwr_only ..) rfl ?_
  exact Only.refl _ _
  refine Only.step (updPwr_only ..) rfl ?_
  exact Only.refl _ _
  refine Only.step (updFail_only ..) rfl ?_
  refine Only.step (setPower_only ..) rfl ?_
  refine Only.step (setInt_only ..) rfl ?_
  refine Only.step (odSetN_fam 36864 1 (by decide) (by decide) ..) rfl ?_
  refine Only.step (islRaise_only ..) rfl ?_
  refine Only.step (updIsl_only ..) rfl ?_
  refine Only.step (inhibit_only ..) rfl ?_
  refine Only.step (updPwr_only ..) rfl ?_
  refine Only.step (bump_fam 36868 1 (by decide) (by decide) ..) rfl ?_
  refine Only.step (supplySet_only ..) rfl ?_
  refine Only.ite ?_ ?_
  refine Only.step (abortEntry_only ..) rfl ?_
  refine Only.step (updPwr_only ..) rfl ?_
  exact Only.refl _ _
  refine Only.step (updPwr_only ..) rfl ?_
  exact Only.refl _ _

theorem execQuiesceStart_only a0 (s : State) : OutcomeOnly [.pwr, .emit, .regs 16384 1, .irq, .out, .regs 36866 1, .regs 36864 1, .regs 36868 1, .isl, .fm, .regs 32769 1, .odx, .mbox, .sessions, .boot, .regs 4112 1] s (execQuiesceStart a0 s) := by
  unfold execQuiesceStart
  refine outcome_only ?_
  refine Only.ite ?_ ?_
  refine Only.step (updPwr_only ..) rfl ?_
  exact Only.refl _ _
  refine Only.step (quiesce_only ..) rfl ?_
  exact Only.refl _ _

theorem quiesceDrop_only (s : State) : Only [.pwr, .emit, .isl, .regs 16384 1, .irq, .out, .servo, .regs 12568 8, .rx, .regs 12600 8, .regs 12368 8, .regs 12392 8, .regs 24584 2, .cams, .regs 24580 2, .acq, .regs 28672 1, .points, .qdr, .regs 49184 16, .lane, .rings, .sessions, .boot, .odx, .mbox, .dp, .host, .fm, .plan, .regs 8192 1, .weir, .hk, .regs 36866 1] s (quiesceDrop s) := by
  unfold quiesceDrop
  dsimp only
  split
  exact Only.refl _ _
  refine Only.ite ?_ ?_
  exact Only.refl _ _
  refine Only.step (bump_fam 36866 1 (by decide) (by decide) ..) rfl ?_
  refine Only.step (quiesceNote_only ..) rfl ?_
  refine Only.step (updPwr_only ..) rfl ?_
  refine Only.foldl _ _ (fun t x => ?_) ?_
  refine Only.step (dropDomain_only ..) rfl ?_
  exact Only.refl _ _
  exact Only.refl _ _

theorem execQuiesceDrop_only (s : State) : OutcomeOnly [.pwr, .emit, .isl, .regs 16384 1, .irq, .out, .servo, .regs 12568 8, .rx, .regs 12600 8, .regs 12368 8, .regs 12392 8, .regs 24584 2, .cams, .regs 24580 2, .acq, .regs 28672 1, .points, .qdr, .regs 49184 16, .lane, .rings, .sessions, .boot, .odx, .mbox, .dp, .host, .fm, .plan, .regs 8192 1, .weir, .hk, .regs 36866 1] s (execQuiesceDrop s) := by
  unfold execQuiesceDrop
  refine outcomeLost_only rfl ?_
  refine Only.step (quiesceDrop_only ..) rfl ?_
  exact Only.refl _ _

theorem norLimit_only (s : State) : Only [.odx, .out, .mbox, .irq, .sessions, .boot, .regs 4112 1, .isl, .pwr] s (norLimit s) := by
  unfold norLimit
  split
  refine Only.ite ?_ ?_
  refine Only.step (quiesceNote_only ..) rfl ?_
  refine Only.step (updPwr_only ..) rfl ?_
  refine Only.step (norEnd_only ..) rfl ?_
  exact Only.refl _ _
  exact Only.refl _ _
  exact Only.refl _ _

theorem execNorProgramLimit_only (s : State) : OutcomeOnly [.odx, .out, .mbox, .irq, .sessions, .boot, .regs 4112 1, .isl, .pwr] s (execNorProgramLimit s) := by
  unfold execNorProgramLimit
  refine outcome_only ?_
  refine Only.step (norLimit_only ..) rfl ?_
  exact Only.refl _ _

theorem quiesceDone_only (s : State) : Only [.pwr] s (quiesceDone s) := by
  unfold quiesceDone
  dsimp only
  split
  exact Only.refl _ _
  refine Only.ite ?_ ?_
  exact Only.refl _ _
  refine Only.step (updPwr_only ..) rfl ?_
  refine Only.step (supplySet_only ..) rfl ?_
  refine Only.step (stopRecord_only ..) rfl ?_
  exact Only.refl _ _

theorem execQuiesceDone_only (s : State) : OutcomeOnly [.pwr] s (execQuiesceDone s) := by
  unfold execQuiesceDone
  refine outcome_only ?_
  refine Only.step (quiesceDone_only ..) rfl ?_
  exact Only.refl _ _

theorem pwrFailRise_only (s : State) : Only [.pwr, .regs 36868 1] s (pwrFailRise s) := by
  unfold pwrFailRise
  dsimp only
  refine Only.ite ?_ ?_
  refine Only.step (updPwr_only ..) rfl ?_
  exact Only.refl _ _
  refine Only.ite ?_ ?_
  refine Only.step (bump_fam 36868 1 (by decide) (by decide) ..) rfl ?_
  refine Only.ite ?_ ?_
  exact Only.refl _ _
  refine Only.step (updPwr_only ..) rfl ?_
  exact Only.refl _ _
  refine Only.ite ?_ ?_
  exact Only.refl _ _
  refine Only.step (updPwr_only ..) rfl ?_
  exact Only.refl _ _

theorem execPwrFailNRise_only (s : State) : OutcomeOnly [.pwr, .regs 36868 1] s (execPwrFailNRise s) := by
  unfold execPwrFailNRise
  refine outcome_only ?_
  refine Only.step (pwrFailRise_only ..) rfl ?_
  exact Only.refl _ _

theorem pwrFailRelease_only (s : State) : Only [.pwr, .emit, .isl, .regs 16384 1, .irq, .out, .regs 36866 1] s (pwrFailRelease s) := by
  unfold pwrFailRelease
  dsimp only
  split
  exact Only.refl _ _
  refine Only.ite ?_ ?_
  exact Only.refl _ _
  refine Only.step (gate_only ..) rfl ?_
  refine Only.step (islClear_only ..) rfl ?_
  refine Only.step (inhibitClear_only ..) rfl ?_
  refine Only.step (updPwr_only ..) rfl ?_
  exact Only.refl _ _

theorem execPwrFailRelease_only (s : State) : OutcomeOnly [.pwr, .emit, .isl, .regs 16384 1, .irq, .out, .regs 36866 1] s (execPwrFailRelease s) := by
  unfold execPwrFailRelease
  refine outcome_only ?_
  refine Only.step (pwrFailRelease_only ..) rfl ?_
  exact Only.refl _ _

theorem railOut_only (s : State) a1 : Only [.regs 8000 1, .pwr, .irq, .out, .regs 32769 1, .fm, .isl, .emit, .regs 16384 1, .regs 36866 1] s (railOut s a1) := by
  unfold railOut
  dsimp only
  refine Only.ite ?_ ?_
  exact Only.refl _ _
  refine Only.step (exitDone_only ..) rfl ?_
  refine Only.ite ?_ ?_
  refine Only.step (updPwr_only ..) rfl ?_
  refine Only.step (odSetN_fam 8000 1 (by decide) (by decide) ..) rfl ?_
  exact Only.refl _ _
  refine Only.step (reportFault_only ..) rfl ?_
  refine Only.step (updPwr_only ..) rfl ?_
  refine Only.step (odSetN_fam 8000 1 (by decide) (by decide) ..) rfl ?_
  exact Only.refl _ _

theorem execRailOutOfWindow_only a0 (s : State) : OutcomeOnly [.regs 8000 1, .pwr, .irq, .out, .regs 32769 1, .fm, .isl, .emit, .regs 16384 1, .regs 36866 1] s (execRailOutOfWindow a0 s) := by
  unfold execRailOutOfWindow
  refine outcome_only ?_
  refine Only.step (railOut_only ..) rfl ?_
  exact Only.refl _ _

theorem islWatchdog_only (s : State) : Only [.isl, .fm, .out, .irq, .emit, .regs 16384 1, .pwr, .regs 32769 1] s (islWatchdog s) := by
  unfold islWatchdog
  refine Only.ite ?_ ?_
  refine Only.step (islCheck_only ..) rfl ?_
  refine Only.step (islRaise_only ..) rfl ?_
  refine Only.step (updIsl_only ..) rfl ?_
  exact Only.refl _ _
  exact Only.refl _ _

theorem wdtExpired_only (s : State) a1 : Only [.emit, .isl, .fm, .out, .irq, .regs 16384 1, .pwr, .regs 32769 1] s (wdtExpired s a1) := by
  unfold wdtExpired
  dsimp only
  refine Only.step (islWatchdog_only ..) rfl ?_
  refine Only.set_emit rfl ?_
  exact Only.refl _ _

theorem execWdtPlan_only (s : State) : OutcomeOnly [.emit, .isl, .fm, .out, .irq, .regs 16384 1, .pwr, .regs 32769 1] s (execWdtPlan s) := by
  unfold execWdtPlan
  refine outcome_only ?_
  refine Only.ite ?_ ?_
  refine Only.step (wdtExpired_only ..) rfl ?_
  exact Only.refl _ _
  exact Only.refl _ _

theorem execWdtCal_only (s : State) : OutcomeOnly [.emit, .isl, .fm, .out, .irq, .regs 16384 1, .pwr, .regs 32769 1] s (execWdtCal s) := by
  unfold execWdtCal
  refine outcome_only ?_
  refine Only.ite ?_ ?_
  refine Only.step (wdtExpired_only ..) rfl ?_
  exact Only.refl _ _
  exact Only.refl _ _

end Sys2Proof.Machine
end

