-- ==== Sys2Proof/Laws/FrameBoot.lean ====
section
/-! SUPPORT. Frames of the operations and commands of Machine/Boot.lean: one lemma per operation says what it changes at
most. -/

namespace Sys2Proof.Machine

theorem setSlot_only (s : State) a1 a2 : Only [.boot] s (setSlot s a1 a2) := by
  unfold setSlot
  refine Only.step (updBoot_only ..) rfl ?_
  exact Only.refl _ _

theorem writeCtl_only (s : State) a1 : Only [.boot] s (writeCtl s a1) := by
  unfold writeCtl
  dsimp only
  refine Only.step (updBoot_only ..) rfl ?_
  exact Only.refl _ _

theorem resetRelease_only (s : State) : Only [.boot, .pwr, .regs 45072 1, .regs 45073 1, .hk, .rx, .regs 8000 1] s (resetRelease s) := by
  unfold resetRelease
  dsimp only
  refine Only.ite ?_ ?_
  exact Only.refl _ _
  split
  refine Only.ite ?_ ?_
  refine Only.step (bump_fam 8000 1 (by decide) (by decide) ..) rfl ?_
  refine Only.step (updBoot_only ..) rfl ?_
  refine Only.step (ditherInit_only ..) rfl ?_
  refine Only.step (updBoot_only ..) rfl ?_
  split
  try dsimp only
  refine Only.step (writeCtl_only ..) rfl ?_
  refine Only.step (hkStart_only ..) rfl ?_
  refine Only.step (updPwr_only ..) rfl ?_
  refine Only.step (updBoot_only ..) rfl ?_
  exact Only.refl _ _
  try dsimp only
  refine Only.step (updBoot_only ..) rfl ?_
  refine Only.step (writeCtl_only ..) rfl ?_
  refine Only.step (hkStart_only ..) rfl ?_
  refine Only.step (updPwr_only ..) rfl ?_
  refine Only.step (updBoot_only ..) rfl ?_
  exact Only.refl _ _
  try dsimp only
  refine Only.step (hkStart_only ..) rfl ?_
  refine Only.step (updPwr_only ..) rfl ?_
  refine Only.step (updBoot_only ..) rfl ?_
  exact Only.refl _ _
  refine Only.step (updBoot_only ..) rfl ?_
  refine Only.step (ditherInit_only ..) rfl ?_
  refine Only.step (updBoot_only ..) rfl ?_
  split
  try dsimp only
  refine Only.step (writeCtl_only ..) rfl ?_
  refine Only.step (hkStart_only ..) rfl ?_
  refine Only.step (updPwr_only ..) rfl ?_
  refine Only.step (updBoot_only ..) rfl ?_
  exact Only.refl _ _
  try dsimp only
  refine Only.step (updBoot_only ..) rfl ?_
  refine Only.step (writeCtl_only ..) rfl ?_
  refine Only.step (hkStart_only ..) rfl ?_
  refine Only.step (updPwr_only ..) rfl ?_
  refine Only.step (updBoot_only ..) rfl ?_
  exact Only.refl _ _
  try dsimp only
  refine Only.step (hkStart_only ..) rfl ?_
  refine Only.step (updPwr_only ..) rfl ?_
  refine Only.step (updBoot_only ..) rfl ?_
  exact Only.refl _ _
  refine Only.step (updPwr_only ..) rfl ?_
  refine Only.step (updBoot_only ..) rfl ?_
  refine Only.ite ?_ ?_
  refine Only.step (bump_fam 8000 1 (by decide) (by decide) ..) rfl ?_
  refine Only.step (ditherInit_only ..) rfl ?_
  refine Only.step (updBoot_only ..) rfl ?_
  split
  try dsimp only
  refine Only.step (writeCtl_only ..) rfl ?_
  refine Only.step (hkStart_only ..) rfl ?_
  refine Only.step (updPwr_only ..) rfl ?_
  refine Only.step (updBoot_only ..) rfl ?_
  exact Only.refl _ _
  try dsimp only
  refine Only.step (updBoot_only ..) rfl ?_
  refine Only.step (writeCtl_only ..) rfl ?_
  refine Only.step (hkStart_only ..) rfl ?_
  refine Only.step (updPwr_only ..) rfl ?_
  refine Only.step (updBoot_only ..) rfl ?_
  exact Only.refl _ _
  try dsimp only
  refine Only.step (hkStart_only ..) rfl ?_
  refine Only.step (updPwr_only ..) rfl ?_
  refine Only.step (updBoot_only ..) rfl ?_
  exact Only.refl _ _
  refine Only.step (ditherInit_only ..) rfl ?_
  refine Only.step (updBoot_only ..) rfl ?_
  split
  try dsimp only
  refine Only.step (writeCtl_only ..) rfl ?_
  refine Only.step (hkStart_only ..) rfl ?_
  refine Only.step (updPwr_only ..) rfl ?_
  refine Only.step (updBoot_only ..) rfl ?_
  exact Only.refl _ _
  try dsimp only
  refine Only.step (updBoot_only ..) rfl ?_
  refine Only.step (writeCtl_only ..) rfl ?_
  refine Only.step (hkStart_only ..) rfl ?_
  refine Only.step (updPwr_only ..) rfl ?_
  refine Only.step (updBoot_only ..) rfl ?_
  exact Only.refl _ _
  try dsimp only
  refine Only.step (hkStart_only ..) rfl ?_
  refine Only.step (updPwr_only ..) rfl ?_
  refine Only.step (updBoot_only ..) rfl ?_
  exact Only.refl _ _

theorem execResetRelease_only (s : State) : OutcomeOnly [.boot, .pwr, .regs 45072 1, .regs 45073 1, .hk, .rx, .regs 8000 1] s (execResetRelease s) := by
  unfold execResetRelease
  refine outcome_only ?_
  refine Only.step (resetRelease_only ..) rfl ?_
  exact Only.refl _ _

theorem execResetOutputRelease_only a0 (s : State) : OutcomeOnly [.boot, .out] s (execResetOutputRelease a0 s) := by
  unfold execResetOutputRelease
  refine outcome_only ?_
  refine Only.ite ?_ ?_
  exact Only.refl _ _
  refine Only.ite ?_ ?_
  refine Only.ite ?_ ?_
  exact Only.refl _ _
  refine Only.step (send_only ..) rfl ?_
  refine Only.step (updBoot_only ..) rfl ?_
  exact Only.refl _ _
  refine Only.ite ?_ ?_
  exact Only.refl _ _
  refine Only.step (send_only ..) rfl ?_
  refine Only.step (updBoot_only ..) rfl ?_
  exact Only.refl _ _

theorem restoreOne_only (s : State) a1 : Only [.od] s (restoreOne s a1) := by
  unfold restoreOne
  split
  exact Only.refl _ _
  refine Only.ite ?_ ?_
  exact Only.refl _ _
  refine Only.ite ?_ ?_
  refine Only.step (odSet_od ..) rfl ?_
  exact Only.refl _ _
  refine Only.step (bump_fam 8000 1 (by decide) (by decide) ..) rfl ?_
  exact Only.refl _ _

theorem tdel_od (s : State) (k : Nat) : Only [.od] s { s with od := tdel s.od k } :=
  Only.set_od rfl (Only.refl _ _)

theorem restoreRules_only (n : Nat) (s : State) : Only [.od] s (restoreRules n s) := by
  induction n generalizing s with
  | zero => exact Only.refl _ _
  | succ n ih =>
    unfold restoreRules
    split
    · exact Only.refl _ _
    · exact Only.step (ih _) rfl (Only.foldl _ _ (fun t x =>
        Only.step (bump_od ..) rfl (tdel_od ..)) (Only.refl _ _))

theorem restoreAll_only (s : State) : Only [.od, .boot] s (restoreAll s) := by
  unfold restoreAll
  split
  exact Only.refl _ _
  refine Only.step (restoreRules_only ..) rfl ?_
  refine Only.foldl _ _ (fun t x => ?_) ?_
  refine Only.step (restoreOne_only ..) rfl ?_
  exact Only.refl _ _
  refine Only.step (updBoot_only ..) rfl ?_
  exact Only.refl _ _

theorem firmwareStart_only (s : State) : Only [.boot, .od, .tick, .irq, .out, .net, .odx, .pwr, .emit, .isl, .fm] s (firmwareStart s) := by
  unfold firmwareStart
  dsimp only
  refine Only.ite ?_ ?_
  exact Only.refl _ _
  refine Only.step (allReports_only ..) rfl ?_
  refine Only.step (gate_only ..) rfl ?_
  refine Only.step (setPower_only ..) rfl ?_
  refine Only.ite ?_ ?_
  refine Only.ite ?_ ?_
  refine Only.step (setInt_only ..) rfl ?_
  refine Only.step (islCause_only ..) rfl ?_
  refine Only.step (inhibit_only ..) rfl ?_
  refine Only.step (updPwr_only ..) rfl ?_
  refine Only.step (odSetN_fam 36864 1 (by decide) (by decide) ..) rfl ?_
  refine Only.set_odx rfl ?_
  refine Only.step (updBoot_only ..) rfl ?_
  refine Only.set_net rfl ?_
  refine Only.ite ?_ ?_
  refine Only.step (restoreAll_only ..) rfl ?_
  refine Only.step (odSetN_fam 8000 1 (by decide) (by decide) ..) rfl ?_
  refine Only.step (updBoot_only ..) rfl ?_
  exact Only.refl _ _
  refine Only.step (syncRestart_only ..) rfl ?_
  refine Only.step (restoreAll_only ..) rfl ?_
  refine Only.step (odSetN_fam 8000 1 (by decide) (by decide) ..) rfl ?_
  refine Only.step (updBoot_only ..) rfl ?_
  exact Only.refl _ _
  refine Only.step (inhibitClear_only ..) rfl ?_
  refine Only.step (setInt_only ..) rfl ?_
  refine Only.step (islCause_only ..) rfl ?_
  refine Only.step (inhibit_only ..) rfl ?_
  refine Only.step (updPwr_only ..) rfl ?_
  refine Only.step (odSetN_fam 36864 1 (by decide) (by decide) ..) rfl ?_
  refine Only.set_odx rfl ?_
  refine Only.step (updBoot_only ..) rfl ?_
  refine Only.set_net rfl ?_
  refine Only.ite ?_ ?_
  refine Only.step (restoreAll_only ..) rfl ?_
  refine Only.step (odSetN_fam 8000 1 (by decide) (by decide) ..) rfl ?_
  refine Only.step (updBoot_only ..) rfl ?_
  exact Only.refl _ _
  refine Only.step (syncRestart_only ..) rfl ?_
  refine Only.step (restoreAll_only ..) rfl ?_
  refine Only.step (odSetN_fam 8000 1 (by decide) (by decide) ..) rfl ?_
  refine Only.step (updBoot_only ..) rfl ?_
  exact Only.refl _ _
  refine Only.step (updPwr_only ..) rfl ?_
  refine Only.step (odSetN_fam 36864 1 (by decide) (by decide) ..) rfl ?_
  refine Only.set_odx rfl ?_
  refine Only.step (updBoot_only ..) rfl ?_
  refine Only.set_net rfl ?_
  refine Only.ite ?_ ?_
  refine Only.step (restoreAll_only ..) rfl ?_
  refine Only.step (odSetN_fam 8000 1 (by decide) (by decide) ..) rfl ?_
  refine Only.step (updBoot_only ..) rfl ?_
  exact Only.refl _ _
  refine Only.step (syncRestart_only ..) rfl ?_
  refine Only.step (restoreAll_only ..) rfl ?_
  refine Only.step (odSetN_fam 8000 1 (by decide) (by decide) ..) rfl ?_
  refine Only.step (updBoot_only ..) rfl ?_
  exact Only.refl _ _

theorem execFirmwareStart_only (s : State) : OutcomeOnly [.boot, .od, .tick, .irq, .out, .net, .odx, .pwr, .emit, .isl, .fm] s (execFirmwareStart s) := by
  unfold execFirmwareStart
  refine outcome_only ?_
  refine Only.step (firmwareStart_only ..) rfl ?_
  exact Only.refl _ _

theorem storeHook_only a0 : HookOnly [.odx] (storeHook a0) := by
  intro s v
  unfold storeHook
  dsimp only
  refine ⟨?_, ?_⟩
  refine GateOnly.step (norGate_only ..) rfl ?_
  exact Only.refl _ _
  split
  refine VerdictOnly.done ?_
  exact Only.refl _ _
  refine VerdictOnly.later ?_
  refine Only.set_odx rfl ?_
  exact Only.refl _ _

theorem execStorePersistentValues_only a0 (s : State) : OutcomeOnly [.sessions, .out, .mbox, .irq, .odx] s (execStorePersistentValues a0 s) := by
  unfold execStorePersistentValues
  refine outcome_only ?_
  refine requestWrite_only (storeHook_only _) rfl rfl (by first | rfl | (unfold axisIx; cases a1 <;> rfl) | (simp [loopFreeObject]; omega)) ?_
  exact Only.refl _ _

theorem storeComplete_only (s : State) a1 : Only [.odx, .regs 4112 1, .out, .mbox, .irq, .sessions, .pwr] s (storeComplete s a1) := by
  unfold storeComplete
  dsimp only
  split
  exact Only.refl _ _
  refine Only.ite ?_ ?_
  refine Only.step (norDone_only ..) rfl ?_
  refine Only.step (longAnswer_only ..) rfl ?_
  refine Only.step (odSetN_fam 4112 1 (by decide) (by decide) ..) rfl ?_
  refine Only.step (bump_fam 4112 1 (by decide) (by decide) ..) rfl ?_
  split
  refine Only.set_odx rfl ?_
  exact Only.refl _ _
  refine Only.set_odx rfl ?_
  exact Only.refl _ _
  refine Only.step (norDone_only ..) rfl ?_
  refine Only.step (longAnswer_only ..) rfl ?_
  refine Only.step (odSetN_fam 4112 1 (by decide) (by decide) ..) rfl ?_
  refine Only.set_odx rfl ?_
  exact Only.refl _ _

theorem execStoreComplete_only a0 (s : State) : OutcomeOnly [.odx, .regs 4112 1, .out, .mbox, .irq, .sessions, .pwr] s (execStoreComplete a0 s) := by
  unfold execStoreComplete
  refine outcome_only ?_
  refine Only.step (storeComplete_only ..) rfl ?_
  exact Only.refl _ _

theorem restoreHook_only  : HookOnly [.odx] (restoreHook ) := by
  intro s v
  unfold restoreHook
  dsimp only
  refine ⟨?_, ?_⟩
  refine GateOnly.step (norGate_only ..) rfl ?_
  exact Only.refl _ _
  refine VerdictOnly.done ?_
  refine Only.ite ?_ ?_
  refine Only.set_odx rfl ?_
  exact Only.refl _ _
  exact Only.refl _ _

theorem execRestoreDefaults_only a0 (s : State) : OutcomeOnly [.sessions, .out, .mbox, .irq, .odx] s (execRestoreDefaults a0 s) := by
  unfold execRestoreDefaults
  refine outcome_only ?_
  refine requestWrite_only (restoreHook_only) rfl rfl (by first | rfl | (unfold axisIx; cases a1 <;> rfl) | (simp [loopFreeObject]; omega)) ?_
  exact Only.refl _ _

theorem beginUpdate_only (s : State) : VerdictOnly [.boot, .irq, .out] s (beginUpdate s) := by
  unfold beginUpdate
  dsimp only
  split
  refine VerdictOnly.abort ?_
  exact Only.refl _ _
  refine VerdictOnly.done ?_
  refine Only.step (updEnter_only ..) rfl ?_
  refine Only.step (updBoot_only ..) rfl ?_
  refine Only.step (setSlot_only ..) rfl ?_
  refine Only.ite ?_ ?_
  refine Only.step (writeCtl_only ..) rfl ?_
  exact Only.refl _ _
  exact Only.refl _ _

theorem activateUpdate_only (s : State) : VerdictOnly [.boot, .irq, .out] s (activateUpdate s) := by
  unfold activateUpdate
  split
  refine VerdictOnly.abort ?_
  exact Only.refl _ _
  split
  refine VerdictOnly.abort ?_
  exact Only.refl _ _
  refine VerdictOnly.done ?_
  refine Only.step (updEnter_only ..) rfl ?_
  refine Only.step (writeCtl_only ..) rfl ?_
  exact Only.refl _ _

theorem confirmUpdate_only (s : State) a1 : VerdictOnly [.odx] s (confirmUpdate s a1) := by
  unfold confirmUpdate
  dsimp only
  split
  refine VerdictOnly.abort ?_
  exact Only.refl _ _
  refine VerdictOnly.later ?_
  refine Only.set_odx rfl ?_
  exact Only.refl _ _

theorem dropImage_only (s : State) : Only [.sessions] s (dropImage s) := by
  unfold dropImage
  dsimp only
  refine Only.set_sessions rfl ?_
  exact Only.refl _ _

theorem cancelled_only (s : State) : Only [.sessions, .odx, .out, .mbox, .irq, .boot] s (cancelled s) := by
  unfold cancelled
  dsimp only
  refine Only.step (updEnter_only ..) rfl ?_
  refine Only.step (updBoot_only ..) rfl ?_
  refine Only.step (setSlot_only ..) rfl ?_
  refine Only.step (segmentAnswer_only ..) rfl ?_
  refine Only.step (dropImage_only ..) rfl ?_
  exact Only.refl _ _

theorem cancelUpdate_only (s : State) : VerdictOnly [.boot, .irq, .out, .sessions, .odx, .mbox] s (cancelUpdate s) := by
  unfold cancelUpdate
  split
  refine VerdictOnly.done ?_
  refine Only.step (updEnter_only ..) rfl ?_
  refine Only.step (writeCtl_only ..) rfl ?_
  exact Only.refl _ _
  refine VerdictOnly.done ?_
  refine Only.step (cancelled_only ..) rfl ?_
  exact Only.refl _ _
  refine VerdictOnly.done ?_
  refine Only.step (cancelled_only ..) rfl ?_
  exact Only.refl _ _
  refine VerdictOnly.done ?_
  refine Only.step (cancelled_only ..) rfl ?_
  exact Only.refl _ _
  refine VerdictOnly.abort ?_
  exact Only.refl _ _

theorem updateHook_only a0 : HookOnly [.boot, .irq, .out, .odx, .sessions, .mbox] (updateHook a0) := by
  intro s v
  unfold updateHook
  dsimp only
  refine ⟨?_, ?_⟩
  split
  exact GateOnly.none _ _
  refine GateOnly.step (norGate_only ..) rfl ?_
  exact Only.refl _ _
  split
  refine VerdictOnly.step (beginUpdate_only ..) rfl ?_
  exact Only.refl _ _
  refine VerdictOnly.step (activateUpdate_only ..) rfl ?_
  exact Only.refl _ _
  refine VerdictOnly.step (confirmUpdate_only ..) rfl ?_
  exact Only.refl _ _
  refine VerdictOnly.step (cancelUpdate_only ..) rfl ?_
  exact Only.refl _ _

theorem execUpdateBegin_only a0 (s : State) : OutcomeOnly [.sessions, .out, .mbox, .irq, .boot, .odx] s (execUpdateBegin a0 s) := by
  unfold execUpdateBegin
  refine outcome_only ?_
  refine requestWrite_only (updateHook_only _) rfl rfl (by first | rfl | (unfold axisIx; cases a1 <;> rfl) | (simp [loopFreeObject]; omega)) ?_
  exact Only.refl _ _

theorem execUpdateActivate_only a0 (s : State) : OutcomeOnly [.sessions, .out, .mbox, .irq, .boot, .odx] s (execUpdateActivate a0 s) := by
  unfold execUpdateActivate
  refine outcome_only ?_
  refine requestWrite_only (updateHook_only _) rfl rfl (by first | rfl | (unfold axisIx; cases a1 <;> rfl) | (simp [loopFreeObject]; omega)) ?_
  exact Only.refl _ _

theorem execUpdateConfirm_only a0 (s : State) : OutcomeOnly [.sessions, .out, .mbox, .irq, .boot, .odx] s (execUpdateConfirm a0 s) := by
  unfold execUpdateConfirm
  refine outcome_only ?_
  refine requestWrite_only (updateHook_only _) rfl rfl (by first | rfl | (unfold axisIx; cases a1 <;> rfl) | (simp [loopFreeObject]; omega)) ?_
  exact Only.refl _ _

theorem execUpdateCancel_only a0 (s : State) : OutcomeOnly [.sessions, .out, .mbox, .irq, .boot, .odx] s (execUpdateCancel a0 s) := by
  unfold execUpdateCancel
  refine outcome_only ?_
  refine requestWrite_only (updateHook_only _) rfl rfl (by first | rfl | (unfold axisIx; cases a1 <;> rfl) | (simp [loopFreeObject]; omega)) ?_
  exact Only.refl _ _

theorem eraseComplete_only (s : State) a1 : Only [.boot, .irq, .out, .odx, .mbox, .sessions] s (eraseComplete s a1) := by
  unfold eraseComplete
  dsimp only
  refine Only.ite ?_ ?_
  exact Only.refl _ _
  refine Only.ite ?_ ?_
  refine Only.step (updEnter_only ..) rfl ?_
  refine Only.step (updBoot_only ..) rfl ?_
  exact Only.refl _ _
  refine Only.step (updFail_only ..) rfl ?_
  refine Only.step (updBoot_only ..) rfl ?_
  exact Only.refl _ _

theorem execEraseComplete_only a0 (s : State) : OutcomeOnly [.boot, .irq, .out, .odx, .mbox, .sessions] s (execEraseComplete a0 s) := by
  unfold execEraseComplete
  refine outcome_only ?_
  refine Only.step (eraseComplete_only ..) rfl ?_
  exact Only.refl _ _

theorem imageDone_only (s : State) : Only [.boot, .irq, .out] s (imageDone s) := by
  unfold imageDone
  dsimp only
  refine Only.ite ?_ ?_
  refine Only.step (updBoot_only ..) rfl ?_
  exact Only.refl _ _
  refine Only.step (updStopped_only ..) rfl ?_
  exact Only.refl _ _

theorem updProgrammed_only (s : State) a1 : Only [.boot, .odx, .out, .mbox, .irq, .sessions] s (updProgrammed s a1) := by
  unfold updProgrammed
  dsimp only
  refine Only.ite ?_ ?_
  refine Only.step (segmentAnswer_only ..) rfl ?_
  refine Only.step (updBoot_only ..) rfl ?_
  exact Only.refl _ _
  refine Only.ite ?_ ?_
  refine Only.step (updFail_only ..) rfl ?_
  refine Only.step (updBoot_only ..) rfl ?_
  exact Only.refl _ _
  refine Only.ite ?_ ?_
  refine Only.step (updEnter_only ..) rfl ?_
  refine Only.step (updBoot_only ..) rfl ?_
  refine Only.step (setSlot_only ..) rfl ?_
  refine Only.step (updBoot_only ..) rfl ?_
  exact Only.refl _ _
  split
  refine Only.step (updBoot_only ..) rfl ?_
  exact Only.refl _ _
  refine Only.ite ?_ ?_
  refine Only.step (imageDone_only ..) rfl ?_
  refine Only.step (updSession_only ..) rfl ?_
  refine Only.step (segmentAnswer_only ..) rfl ?_
  refine Only.step (updBoot_only ..) rfl ?_
  refine Only.step (setSlot_only ..) rfl ?_
  refine Only.step (updBoot_only ..) rfl ?_
  exact Only.refl _ _
  refine Only.step (segmentAnswer_only ..) rfl ?_
  refine Only.step (updBoot_only ..) rfl ?_
  refine Only.step (setSlot_only ..) rfl ?_
  refine Only.step (updBoot_only ..) rfl ?_
  exact Only.refl _ _

theorem confirmDone_only (s : State) a1 : Only [.odx, .out, .mbox, .irq, .sessions, .pwr, .boot] s (confirmDone s a1) := by
  unfold confirmDone
  dsimp only
  refine Only.ite ?_ ?_
  refine Only.step (norDone_only ..) rfl ?_
  refine Only.step (longAnswer_only ..) rfl ?_
  exact Only.refl _ _
  refine Only.step (norDone_only ..) rfl ?_
  refine Only.step (longAnswer_only ..) rfl ?_
  refine Only.step (writeCtl_only ..) rfl ?_
  refine Only.step (updBoot_only ..) rfl ?_
  exact Only.refl _ _

theorem keyDone_only (s : State) a1 a2 : Only [.odx, .out, .mbox, .irq, .sessions] s (keyDone s a1 a2) := by
  unfold keyDone
  dsimp only
  refine Only.step (longAnswer_only ..) rfl ?_
  refine Only.set_odx rfl ?_
  exact Only.refl _ _

theorem nvDone_only (s : State) a1 : Only [.boot, .odx, .out, .mbox, .irq, .sessions, .pwr] s (nvDone s a1) := by
  unfold nvDone
  dsimp only
  refine Only.ite ?_ ?_
  refine Only.step (norDone_only ..) rfl ?_
  refine Only.step (updProgrammed_only ..) rfl ?_
  exact Only.refl _ _
  refine Only.ite ?_ ?_
  refine Only.step (norDone_only ..) rfl ?_
  refine Only.step (keyDone_only ..) rfl ?_
  exact Only.refl _ _
  refine Only.ite ?_ ?_
  refine Only.step (norDone_only ..) rfl ?_
  refine Only.step (keyDone_only ..) rfl ?_
  exact Only.refl _ _
  refine Only.ite ?_ ?_
  refine Only.step (confirmDone_only ..) rfl ?_
  exact Only.refl _ _
  split
  refine Only.step (norDone_only ..) rfl ?_
  refine Only.set_odx rfl ?_
  exact Only.refl _ _
  exact Only.refl _ _

theorem execNonVolatileWriteDone_only a0 (s : State) : OutcomeOnly [.boot, .odx, .out, .mbox, .irq, .sessions, .pwr] s (execNonVolatileWriteDone a0 s) := by
  unfold execNonVolatileWriteDone
  refine outcome_only ?_
  refine Only.step (nvDone_only ..) rfl ?_
  exact Only.refl _ _

theorem revokeHook_only  : HookOnly [.boot] (revokeHook ) := by
  intro s v
  unfold revokeHook
  dsimp only
  refine ⟨?_, ?_⟩
  split
  refine GateOnly.some ?_
  exact Only.refl _ _
  exact GateOnly.none _ _
  refine VerdictOnly.done ?_
  refine Only.step (updBoot_only ..) rfl ?_
  exact Only.refl _ _

theorem execKeyRevocation_only a0 a1 (s : State) : OutcomeOnly [.sessions, .out, .mbox, .irq, .boot] s (execKeyRevocation a0 a1 s) := by
  unfold execKeyRevocation
  refine outcome_only ?_
  refine requestWrite_only (revokeHook_only) rfl rfl (by first | rfl | (unfold axisIx; cases a1 <;> rfl) | (simp [loopFreeObject]; omega)) ?_
  exact Only.refl _ _

end Sys2Proof.Machine
end

