-- ==== Sys2Proof/Laws/FrameOdx.lean ====
section
/-! SUPPORT. Frames of the operations and commands of Machine/Odx.lean: one lemma per operation says what it changes at
most. -/

namespace Sys2Proof.Machine

theorem respondSeg_only (s : State) a1 a2 a3 a4 a5 : Only [.out, .mbox, .irq, .sessions] s (respondSeg s a1 a2 a3 a4 a5) := by
  unfold respondSeg
  refine Only.step (answer_only ..) rfl ?_
  exact Only.refl _ _

theorem odxRead_only (s : State) a1 a2 a3 a4 : Only [.sessions, .out, .mbox, .irq, .hk, .free] s (odxRead s a1 a2 a3 a4) := by
  unfold odxRead
  dsimp only
  refine withSession_only rfl (fun t x => ?_) ?_
  split
  refine Only.step (respondAbort_only ..) rfl ?_
  exact Only.refl _ _
  refine Only.ite ?_ ?_
  refine Only.step (respondSeg_only ..) rfl ?_
  refine Only.step (updSession_only ..) rfl ?_
  refine Only.step (afterRead_only ..) rfl ?_
  exact Only.refl _ _
  refine Only.step (respond_only ..) rfl ?_
  refine Only.step (afterRead_only ..) rfl ?_
  exact Only.refl _ _
  exact Only.refl _ _

theorem execOdxRead_only a0 a1 a2 a3 (s : State) : OutcomeOnly [.sessions, .out, .mbox, .irq, .hk, .free] s (execOdxRead a0 a1 a2 a3 s) := by
  unfold execOdxRead
  refine outcome_only ?_
  refine Only.step (odxRead_only ..) rfl ?_
  exact Only.refl _ _

theorem odxReadSeg_only (s : State) a1 a2 a3 a4 : Only [.sessions, .out, .mbox, .irq] s (odxReadSeg s a1 a2 a3 a4) := by
  unfold odxReadSeg
  dsimp only
  refine withSession_only rfl (fun t x => ?_) ?_
  refine Only.ite ?_ ?_
  refine Only.step (respondAbort_only ..) rfl ?_
  exact Only.refl _ _
  split
  refine Only.step (respondAbort_only ..) rfl ?_
  exact Only.refl _ _
  refine Only.ite ?_ ?_
  refine Only.step (respondAbort_only ..) rfl ?_
  exact Only.refl _ _
  refine Only.step (respond_only ..) rfl ?_
  refine Only.step (updSession_only ..) rfl ?_
  exact Only.refl _ _
  exact Only.refl _ _

theorem execOdxReadSeg_only a0 a1 a2 a3 (s : State) : OutcomeOnly [.sessions, .out, .mbox, .irq] s (execOdxReadSeg a0 a1 a2 a3 s) := by
  unfold execOdxReadSeg
  refine outcome_only ?_
  refine Only.step (odxReadSeg_only ..) rfl ?_
  exact Only.refl _ _

theorem writeValue_only (s : State) a1 a2 a3 a4 a5 a6 : Only [.od, .fuses, .tick, .irq, .mbox, .rings, .dp, .log, .host, .sessions, .odx, .net, .time, .pwr, .boot, .emit, .weir, .isl, .fm,
    .rx, .plan, .servo, .cams, .fsync, .points, .acq, .qdr, .lane, .hk, .free, .out, .pending] s (writeValue s a1 a2 a3 a4 a5 a6) := Only.all _ _


theorem startXfer_only (s : State) a1 a2 a3 a4 a5 : Only [.od, .fuses, .tick, .irq, .mbox, .rings, .dp, .log, .host, .sessions, .odx, .net, .time, .pwr, .boot, .emit, .weir, .isl, .fm,
    .rx, .plan, .servo, .cams, .fsync, .points, .acq, .qdr, .lane, .hk, .free, .out, .pending] s (startXfer s a1 a2 a3 a4 a5) := Only.all _ _

theorem netServe_only (n : Nat) (s : State) : Only [.od, .fuses, .tick, .irq, .mbox, .rings, .dp, .log, .host, .sessions, .odx, .net, .time, .pwr, .boot, .emit, .weir, .isl, .fm,
    .rx, .plan, .servo, .cams, .fsync, .points, .acq, .qdr, .lane, .hk, .free, .out, .pending] s (netServe n s) := Only.all _ _

theorem readMulti_only (x : Session) (room n : Nat) (p : Bytes) (s : State) : Only [.hk, .free] s (readMulti x room n p s).2 := by
  induction n generalizing room p s with
  | zero => exact Only.refl _ _
  | succ n ih =>
    unfold readMulti
    dsimp only
    split
    · exact ih ..
    · split
      · exact Only.step (ih ..) rfl (Only.step (afterRead_only ..) rfl (Only.refl _ _))
      · exact ih ..

theorem odxReadMulti_only (s : State) a1 a2 a3 a4 :
    Only [.sessions, .out, .mbox, .irq, .hk, .free] s (odxReadMulti s a1 a2 a3 a4) := by
  unfold odxReadMulti
  refine withSession_only rfl (fun _ _ => ?_) (Only.refl _ _)
  dsimp only
  refine Only.ite (Only.step (respondAbort_only ..) rfl (Only.refl _ _)) ?_
  exact Only.step (respond_only ..) rfl (Only.step (readMulti_only ..) rfl (Only.refl _ _))

theorem execOdxReadMulti_only a0 a1 (s : State) : OutcomeOnly [.sessions, .out, .mbox, .irq, .hk, .free] s (execOdxReadMulti a0 a1 s) := by
  unfold execOdxReadMulti
  refine outcome_only ?_
  refine Only.step (odxReadMulti_only ..) rfl ?_
  exact Only.refl _ _

theorem imageChunk_only (s : State) a1 a2 a3 a4 a5 : Only [.sessions, .boot, .odx, .out, .mbox, .irq] s (imageChunk s a1 a2 a3 a4 a5) := by
  unfold imageChunk
  dsimp only
  refine Only.ite ?_ ?_
  refine Only.set_sessions_odx rfl ?_
  refine Only.step (updBoot_only ..) rfl ?_
  refine Only.step (updBoot_only ..) rfl ?_
  refine Only.step (updSession_only ..) rfl ?_
  exact Only.refl _ _
  refine Only.step (respond_only ..) rfl ?_
  refine Only.step (updBoot_only ..) rfl ?_
  refine Only.step (updSession_only ..) rfl ?_
  exact Only.refl _ _

theorem takeChunk_only (s : State) a1 a2 a3 a4 a5 : Only [.sessions, .boot, .irq, .out, .odx, .mbox, .od, .fuses, .tick, .rings, .dp, .log, .host, .net, .time, .pwr, .emit, .weir, .isl, .fm, .rx, .plan, .servo, .cams, .fsync, .points, .acq, .qdr, .lane, .hk, .free, .pending] s (takeChunk s a1 a2 a3 a4 a5) := by
  unfold takeChunk
  dsimp only
  split
  refine Only.step (respondAbort_only ..) rfl ?_
  refine Only.step (dropXfer_only ..) rfl ?_
  exact Only.refl _ _
  refine Only.ite ?_ ?_
  refine Only.step (imageChunk_only ..) rfl ?_
  exact Only.refl _ _
  refine Only.step (respond_only ..) rfl ?_
  refine Only.step (updSession_only ..) rfl ?_
  exact Only.refl _ _
  refine Only.ite ?_ ?_
  refine Only.step (imageChunk_only ..) rfl ?_
  exact Only.refl _ _
  refine Only.step (writeValue_only ..) rfl ?_
  refine Only.step (updSession_only ..) rfl ?_
  exact Only.refl _ _

theorem odxWrite_only (s : State) a1 a2 a3 a4 a5 : Only [.sessions, .out, .mbox, .irq, .od, .fuses, .tick, .rings, .dp, .log, .host, .odx, .net, .time, .pwr, .boot, .emit, .weir, .isl, .fm, .rx, .plan, .servo, .cams, .fsync, .points, .acq, .qdr, .lane, .hk, .free, .pending] s (odxWrite s a1 a2 a3 a4 a5) := by
  unfold odxWrite
  refine withSession_only rfl (fun t x => ?_) ?_
  refine Only.ite ?_ ?_
  refine Only.step (startXfer_only ..) rfl ?_
  exact Only.refl _ _
  refine Only.step (writeValue_only ..) rfl ?_
  exact Only.refl _ _
  exact Only.refl _ _

theorem execOdxWrite_only a0 a1 a2 a3 a4 (s : State) : OutcomeOnly [.sessions, .out, .mbox, .irq, .od, .tick, .rings, .dp, .log, .host, .odx, .net, .time, .pwr, .boot, .emit, .weir, .isl, .fm, .rx, .plan, .servo, .cams, .fsync, .points, .acq, .qdr, .lane, .hk, .free] s (execOdxWrite a0 a1 a2 a3 a4 s) := by
  unfold execOdxWrite
  refine outcomeLost_only rfl ?_
  refine Only.step (odxWrite_only ..) rfl ?_
  exact Only.refl _ _

theorem odxWriteSeg_only (s : State) a1 a2 a3 a4 : Only [.sessions, .out, .mbox, .irq, .boot, .odx, .od, .fuses, .tick, .rings, .dp, .log, .host, .net, .time, .pwr, .emit, .weir, .isl, .fm, .rx, .plan, .servo, .cams, .fsync, .points, .acq, .qdr, .lane, .hk, .free, .pending] s (odxWriteSeg s a1 a2 a3 a4) := by
  unfold odxWriteSeg
  dsimp only
  refine withSession_only rfl (fun t x => ?_) ?_
  refine Only.ite ?_ ?_
  refine Only.step (respondAbort_only ..) rfl ?_
  exact Only.refl _ _
  split
  refine Only.step (respondAbort_only ..) rfl ?_
  exact Only.refl _ _
  refine Only.ite ?_ ?_
  refine Only.step (respondAbort_only ..) rfl ?_
  exact Only.refl _ _
  refine Only.ite ?_ ?_
  refine Only.step (takeChunk_only ..) rfl ?_
  exact Only.refl _ _
  refine Only.ite ?_ ?_
  refine Only.step (respond_only ..) rfl ?_
  exact Only.refl _ _
  refine Only.step (respondAbort_only ..) rfl ?_
  refine Only.step (dropXfer_only ..) rfl ?_
  exact Only.refl _ _
  exact Only.refl _ _

theorem execOdxWriteSeg_only a0 a1 a2 a3 (s : State) : OutcomeOnly [.sessions, .out, .mbox, .irq, .boot, .odx, .od, .tick, .rings, .dp, .log, .host, .net, .time, .pwr, .emit, .weir, .isl, .fm, .rx, .plan, .servo, .cams, .fsync, .points, .acq, .qdr, .lane, .hk, .free] s (execOdxWriteSeg a0 a1 a2 a3 s) := by
  unfold execOdxWriteSeg
  refine outcomeLost_only rfl ?_
  refine Only.step (odxWriteSeg_only ..) rfl ?_
  exact Only.refl _ _

theorem openAnswer_only (s : State) a1 a2 : Only [.out, .mbox, .irq] s (openAnswer s a1 a2) := by
  unfold openAnswer
  dsimp only
  refine Only.ite ?_ ?_
  refine Only.step (mailboxTake_only ..) rfl ?_
  refine Only.step (carry_only ..) rfl ?_
  refine Only.step (send_only ..) rfl ?_
  exact Only.refl _ _
  refine Only.step (carry_only ..) rfl ?_
  refine Only.step (send_only ..) rfl ?_
  exact Only.refl _ _

theorem openAbort_only (s : State) a1 a2 : Only [.out, .mbox, .irq] s (openAbort s a1 a2) := by
  unfold openAbort
  refine Only.step (openAnswer_only ..) rfl ?_
  exact Only.refl _ _

theorem odxOpen_only (s : State) a1 a2 a3 : Only [.sessions, .out, .mbox, .irq, .boot, .odx, .free] s (odxOpen s a1 a2 a3) := by
  unfold odxOpen
  dsimp only
  refine Only.ite ?_ ?_
  refine Only.step (netQueue_only ..) rfl ?_
  exact Only.refl _ _
  refine Only.ite ?_ ?_
  exact Only.refl _ _
  refine Only.ite ?_ ?_
  refine Only.step (openAbort_only ..) rfl ?_
  refine Only.step (netTurn_only ..) rfl ?_
  exact Only.refl _ _
  split
  refine Only.step (openAbort_only ..) rfl ?_
  refine Only.ite ?_ ?_
  refine Only.step (closeVia_only ..) rfl ?_
  refine Only.step (netTurn_only ..) rfl ?_
  exact Only.refl _ _
  refine Only.step (netTurn_only ..) rfl ?_
  exact Only.refl _ _
  refine Only.ite ?_ ?_
  refine Only.step (openAbort_only ..) rfl ?_
  refine Only.ite ?_ ?_
  refine Only.step (closeVia_only ..) rfl ?_
  refine Only.step (netTurn_only ..) rfl ?_
  exact Only.refl _ _
  refine Only.step (netTurn_only ..) rfl ?_
  exact Only.refl _ _
  refine Only.step (openAnswer_only ..) rfl ?_
  refine Only.set_sessions rfl ?_
  refine Only.step (takeFree_only ..) rfl ?_
  refine Only.ite ?_ ?_
  refine Only.step (closeVia_only ..) rfl ?_
  refine Only.step (netTurn_only ..) rfl ?_
  exact Only.refl _ _
  refine Only.step (netTurn_only ..) rfl ?_
  exact Only.refl _ _

theorem execOdxOpen_only a0 a1 a2 (s : State) : OutcomeOnly [.sessions, .out, .mbox, .irq, .boot, .odx, .free] s (execOdxOpen a0 a1 a2 s) := by
  unfold execOdxOpen
  refine outcome_only ?_
  refine Only.step (odxOpen_only ..) rfl ?_
  exact Only.refl _ _

theorem odxClose_only (s : State) a1 a2 a3 : Only [.sessions, .out, .mbox, .irq, .boot, .odx] s (odxClose s a1 a2 a3) := by
  unfold odxClose
  refine withSession_only rfl (fun t x => ?_) ?_
  refine Only.step (closeSession_only ..) rfl ?_
  refine Only.step (respond_only ..) rfl ?_
  exact Only.refl _ _
  exact Only.refl _ _

theorem execOdxClose_only a0 (s : State) : OutcomeOnly [.sessions, .out, .mbox, .irq, .boot, .odx] s (execOdxClose a0 s) := by
  unfold execOdxClose
  refine outcome_only ?_
  refine Only.step (odxClose_only ..) rfl ?_
  exact Only.refl _ _

theorem odxKeepalive_only (s : State) a1 a2 a3 : Only [.sessions, .out, .mbox, .irq] s (odxKeepalive s a1 a2 a3) := by
  unfold odxKeepalive
  refine withSession_only rfl (fun t x => ?_) ?_
  refine Only.ite ?_ ?_
  refine Only.step (respondAbort_only ..) rfl ?_
  exact Only.refl _ _
  refine Only.step (respond_only ..) rfl ?_
  exact Only.refl _ _
  exact Only.refl _ _

theorem execOdxKeepalive_only a0 (s : State) : OutcomeOnly [.sessions, .out, .mbox, .irq] s (execOdxKeepalive a0 s) := by
  unfold execOdxKeepalive
  refine outcome_only ?_
  refine Only.step (odxKeepalive_only ..) rfl ?_
  exact Only.refl _ _

theorem odxChallenge_only (s : State) a1 a2 a3 a4 : Only [.sessions, .out, .mbox, .irq, .free] s (odxChallenge s a1 a2 a3 a4) := by
  unfold odxChallenge
  dsimp only
  refine withSession_only rfl (fun t x => ?_) ?_
  split
  refine Only.step (respondAbort_only ..) rfl ?_
  exact Only.refl _ _
  refine Only.step (respond_only ..) rfl ?_
  refine Only.step (updSession_only ..) rfl ?_
  refine Only.set_free rfl ?_
  exact Only.refl _ _
  exact Only.refl _ _

theorem execOdxChallenge_only a0 a1 (s : State) : OutcomeOnly [.sessions, .out, .mbox, .irq, .free] s (execOdxChallenge a0 a1 s) := by
  unfold execOdxChallenge
  refine outcome_only ?_
  refine Only.step (odxChallenge_only ..) rfl ?_
  exact Only.refl _ _

theorem setAuth_only (s : State) a1 a2 : Only [.sessions, .odx] s (setAuth s a1 a2) := by
  unfold setAuth
  dsimp only
  refine Only.set_sessions_odx rfl ?_
  exact Only.refl _ _

theorem authFailed_only (s : State) a1 : Only [.sessions, .odx, .regs 7968 1] s (authFailed s a1) := by
  unfold authFailed
  dsimp only
  refine Only.step (bump_fam 7968 1 (by decide) (by decide) ..) rfl ?_
  refine Only.step (setAuth_only ..) rfl ?_
  exact Only.refl _ _

theorem odxAuth_only (s : State) a1 a2 a3 a4 : Only [.sessions, .out, .mbox, .irq, .odx, .regs 7968 1] s (odxAuth s a1 a2 a3 a4) := by
  unfold odxAuth
  dsimp only
  refine withSession_only rfl (fun t x => ?_) ?_
  refine Only.ite ?_ ?_
  refine Only.step (respondAbort_only ..) rfl ?_
  exact Only.refl _ _
  refine Only.ite ?_ ?_
  refine Only.step (respondAbort_only ..) rfl ?_
  exact Only.refl _ _
  split
  refine Only.step (respondAbort_only ..) rfl ?_
  refine Only.step (authFailed_only ..) rfl ?_
  refine Only.step (updSession_only ..) rfl ?_
  exact Only.refl _ _
  refine Only.ite ?_ ?_
  refine Only.step (respond_only ..) rfl ?_
  refine Only.step (updSession_only ..) rfl ?_
  refine Only.step (updSession_only ..) rfl ?_
  exact Only.refl _ _
  refine Only.step (respondAbort_only ..) rfl ?_
  refine Only.step (authFailed_only ..) rfl ?_
  refine Only.step (updSession_only ..) rfl ?_
  exact Only.refl _ _
  exact Only.refl _ _

theorem execOdxAuth_only a0 a1 (s : State) : OutcomeOnly [.sessions, .out, .mbox, .irq, .odx, .regs 7968 1] s (execOdxAuth a0 a1 s) := by
  unfold execOdxAuth
  refine outcome_only ?_
  refine Only.step (odxAuth_only ..) rfl ?_
  exact Only.refl _ _

theorem execAuthLockoutEnd_only a0 (s : State) : OutcomeOnly [.sessions, .odx] s (execAuthLockoutEnd a0 s) := by
  unfold execAuthLockoutEnd
  dsimp only
  refine outcome_only ?_
  split
  refine Only.ite ?_ ?_
  refine Only.step (setAuth_only ..) rfl ?_
  exact Only.refl _ _
  exact Only.refl _ _
  exact Only.refl _ _

theorem execSessionIdleTimeout_only a0 (s : State) : OutcomeOnly [.sessions, .boot, .irq, .out, .odx, .mbox] s (execSessionIdleTimeout a0 s) := by
  unfold execSessionIdleTimeout
  refine outcome_only ?_
  split
  refine Only.ite ?_ ?_
  refine Only.step (closeSession_only ..) rfl ?_
  exact Only.refl _ _
  exact Only.refl _ _
  exact Only.refl _ _

theorem segmentTimeout_only (s : State) a1 : Only [.sessions, .boot, .irq, .out, .odx, .mbox] s (segmentTimeout s a1) := by
  unfold segmentTimeout
  dsimp only
  refine Only.ite ?_ ?_
  refine Only.step (updSession_only ..) rfl ?_
  refine Only.ite ?_ ?_
  refine Only.step (dropXfer_only ..) rfl ?_
  exact Only.refl _ _
  exact Only.refl _ _
  refine Only.ite ?_ ?_
  refine Only.step (dropXfer_only ..) rfl ?_
  exact Only.refl _ _
  exact Only.refl _ _

theorem execSegmentTransferTimeout_only a0 (s : State) : OutcomeOnly [.sessions, .boot, .irq, .out, .odx, .mbox] s (execSegmentTransferTimeout a0 s) := by
  unfold execSegmentTransferTimeout
  refine outcome_only ?_
  split
  refine Only.step (segmentTimeout_only ..) rfl ?_
  exact Only.refl _ _
  exact Only.refl _ _

theorem odxMessageIn_only (s : State) a1 a2 : Only [.sessions, .out, .mbox, .irq, .boot, .odx, .free, .hk, .od, .fuses, .tick, .rings, .dp, .log, .host, .net, .time, .pwr, .emit, .weir, .isl, .fm, .rx, .plan, .servo, .cams, .fsync, .points, .acq, .qdr, .lane, .pending] s (odxMessageIn s a1 a2) := by
  unfold odxMessageIn
  dsimp only
  refine Only.ite ?_ ?_
  refine Only.step (netQueue_only ..) rfl ?_
  exact Only.refl _ _
  refine Only.ite ?_ ?_
  exact Only.refl _ _
  refine Only.ite ?_ ?_
  refine Only.step (openAnswer_only ..) rfl ?_
  refine Only.step (netTurn_only ..) rfl ?_
  exact Only.refl _ _
  split
  refine Only.step (odxOpen_only ..) rfl ?_
  exact Only.refl _ _
  refine Only.step (odxClose_only ..) rfl ?_
  exact Only.refl _ _
  refine Only.step (odxRead_only ..) rfl ?_
  exact Only.refl _ _
  refine Only.step (odxWrite_only ..) rfl ?_
  exact Only.refl _ _
  refine Only.step (odxReadSeg_only ..) rfl ?_
  exact Only.refl _ _
  refine Only.step (odxWriteSeg_only ..) rfl ?_
  exact Only.refl _ _
  refine Only.step (odxChallenge_only ..) rfl ?_
  exact Only.refl _ _
  refine Only.step (odxAuth_only ..) rfl ?_
  exact Only.refl _ _
  refine Only.step (odxReadMulti_only ..) rfl ?_
  exact Only.refl _ _
  refine Only.step (odxKeepalive_only ..) rfl ?_
  exact Only.refl _ _
  refine withSession_only rfl (fun t x => ?_) ?_
  refine Only.step (respondAbort_only ..) rfl ?_
  exact Only.refl _ _
  exact Only.refl _ _

theorem netServeAll_only (s : State) : Only [.od, .fuses, .tick, .irq, .mbox, .rings, .dp, .log, .host, .sessions, .odx, .net, .time, .pwr, .boot, .emit, .weir, .isl, .fm, .rx, .plan, .servo, .cams, .fsync, .points, .acq, .qdr, .lane, .hk, .free, .out, .pending] s (netServeAll s) := by
  unfold netServeAll
  refine Only.step (netServe_only ..) rfl ?_
  exact Only.refl _ _

end Sys2Proof.Machine
end

