-- ==== Sys2Proof/Laws/FrameHostIf.lean ====
section
/-! SUPPORT. Frames of the operations and commands of Machine/HostIf.lean: one lemma per operation says what it changes at
most. -/

namespace Sys2Proof.Machine

theorem linkTrained_only (s : State) a1 a2 a3 a4 : Only [.host] s (linkTrained s a1 a2 a3 a4) := by
  unfold linkTrained
  dsimp only [updHost]
  refine Only.ite ?_ ?_
  exact Only.refl _ _
  refine Only.set_host rfl ?_
  exact Only.refl _ _

theorem execPcieLinkTrained_only a0 a1 a2 a3 (s : State) : OutcomeOnly [.host] s (execPcieLinkTrained a0 a1 a2 a3 s) := by
  unfold execPcieLinkTrained
  refine outcome_only ?_
  refine Only.step (linkTrained_only ..) rfl ?_
  exact Only.refl _ _

theorem latchTime_only (s : State) a1 : Only [.host] s (latchTime s a1) := by
  unfold latchTime
  dsimp only [updHost]
  refine Only.ite ?_ ?_
  exact Only.refl _ _
  refine Only.set_host rfl ?_
  exact Only.refl _ _

theorem hostAt_only {C : List Part} {s0 s : State} {off : Nat} {w : Bool} {k : State → State}
    (hC : ([Part.out, .log, .irq].all (Part.within C)) = true) (hk : ∀ t, Only C t (k t)) (h0 : Only C s0 s) :
    Only C s0 (hostAt s off w k) := by
  unfold hostAt
  dsimp only
  split
  · exact h0
  · have hl : Only C s0 (logAccess s off 1 1 w) := Only.step (logAccess_only ..) (by simp at hC ⊢; simp [hC]) h0
    split
    · split
      · exact hl
      · exact Only.step (send_only ..) (by simp at hC ⊢; simp [hC]) hl
    · exact Only.step (hk _) Part.within_refl h0

theorem hostWriteAt_only {C : List Part} {s0 s : State} {off : Nat} {k : State → State}
    (hC : ([Part.out, .log, .irq].all (Part.within C)) = true) (hk : ∀ t, Only C t (k t)) (h0 : Only C s0 s) :
    Only C s0 (hostWriteAt s off k) := hostAt_only hC hk h0

theorem hostReadAt_only {C : List Part} {s0 s : State} {off : Nat} {k : State → Nat × State}
    (hC : ([Part.out, .log, .irq].all (Part.within C)) = true) (hk : ∀ t, Only C t (k t).2) (h0 : Only C s0 s) :
    Only C s0 (hostReadAt s off k) :=
  hostAt_only hC (fun t => Only.step (send_only ..) (by simp at hC ⊢; simp [hC]) (hk t)) h0

theorem execTimeLatch_only a0 (s : State) : OutcomeOnly [.out, .log, .irq, .host] s (execTimeLatch a0 s) := by
  unfold execTimeLatch
  refine outcome_only ?_
  refine hostWriteAt_only rfl (fun t => ?_) ?_
  refine Only.step (latchTime_only ..) rfl ?_
  exact Only.refl _ _
  exact Only.refl _ _

theorem latchComplete_only (s : State) : Only [.host, .irq, .out] s (latchComplete s) := by
  unfold latchComplete
  dsimp only [updHost]
  split
  refine Only.step (setInt_only ..) rfl ?_
  refine Only.set_host rfl ?_
  exact Only.refl _ _
  exact Only.refl _ _

theorem execLatchComplete_only (s : State) : OutcomeOnly [.host, .irq, .out] s (execLatchComplete s) := by
  unfold execLatchComplete
  refine outcome_only ?_
  refine Only.step (latchComplete_only ..) rfl ?_
  exact Only.refl _ _

theorem readTimeHi_only (s : State) : Only [.host] s (readTimeHi s).2 := by
  unfold readTimeHi
  dsimp only
  try dsimp only
  refine Only.set_host rfl ?_
  exact Only.refl _ _

theorem execTimeHiRead_only (s : State) : OutcomeOnly [.out, .log, .irq, .host] s (execTimeHiRead s) := by
  unfold execTimeHiRead
  refine outcome_only ?_
  refine hostReadAt_only rfl (fun t => ?_) ?_
  try dsimp only
  refine Only.step (readTimeHi_only ..) rfl ?_
  exact Only.refl _ _
  exact Only.refl _ _

theorem writeVote_only (s : State) a1 : Only [.host, .pwr, .emit, .irq, .out, .boot, .isl, .cams, .od, .tick, .mbox, .rings, .dp, .log, .sessions, .odx, .net, .time, .weir, .fm, .rx, .plan, .servo, .fsync, .points, .acq, .qdr, .lane, .hk] s (writeVote s a1) := by
  unfold writeVote
  dsimp only [updHost]
  refine Only.ite ?_ ?_
  refine Only.step (wakeEvent_only ..) rfl ?_
  refine Only.step (castVote_only ..) rfl ?_
  refine Only.set_host rfl ?_
  exact Only.refl _ _
  refine Only.step (castVote_only ..) rfl ?_
  refine Only.set_host rfl ?_
  exact Only.refl _ _

theorem execVoteWrite_only a0 (s : State) : OutcomeOnly [.out, .log, .irq, .host, .pwr, .emit, .boot, .isl, .cams, .od, .tick, .mbox, .rings, .dp, .sessions, .odx, .net, .time, .weir, .fm, .rx, .plan, .servo, .fsync, .points, .acq, .lane, .hk] s (execVoteWrite a0 s) := by
  unfold execVoteWrite
  refine outcome_only ?_
  refine hostWriteAt_only rfl (fun t => ?_) ?_
  refine Only.step (writeVote_only ..) rfl ?_
  exact Only.refl _ _
  exact Only.refl _ _

theorem clearInts_only (s : State) a1 a2 : Only [.irq, .out] s (clearInts s a1 a2) := by
  unfold clearInts
  dsimp only [updHost]
  refine Only.step (sendVecs_only ..) rfl ?_
  refine Only.set_irq rfl ?_
  exact Only.refl _ _

theorem execInterruptStatusClear_only a0 a1 (s : State) : OutcomeOnly [.out, .log, .irq] s (execInterruptStatusClear a0 a1 s) := by
  unfold execInterruptStatusClear
  refine outcome_only ?_
  refine hostWriteAt_only rfl (fun t => ?_) ?_
  refine Only.step (clearInts_only ..) rfl ?_
  exact Only.refl _ _
  exact Only.refl _ _

theorem sendPending_only (s : State) : Only [.irq, .out] s (sendPending s) := by
  unfold sendPending
  dsimp only [updHost]
  refine Only.step (sendVecs_only ..) rfl ?_
  refine Only.set_irq rfl ?_
  exact Only.refl _ _

theorem unmask_only (s : State) a1 : Only [.host, .irq, .out] s (unmask s a1) := by
  unfold unmask
  dsimp only [updHost]
  split
  refine Only.step (sendPending_only ..) rfl ?_
  refine Only.set_host rfl ?_
  exact Only.refl _ _
  refine Only.step (sendPending_only ..) rfl ?_
  refine Only.set_host rfl ?_
  exact Only.refl _ _

theorem execMsixUnmask_only a0 (s : State) : OutcomeOnly [.out, .log, .irq, .host] s (execMsixUnmask a0 s) := by
  unfold execMsixUnmask
  refine outcome_only ?_
  refine hostWriteAt_only rfl (fun t => ?_) ?_
  refine Only.step (unmask_only ..) rfl ?_
  exact Only.refl _ _
  exact Only.refl _ _

theorem mboxEnd_only (s : State) a1 : Only [.mbox, .irq, .out] s (mboxEnd s a1) := by
  unfold mboxEnd
  dsimp only [updMbox, updHost]
  refine Only.step (setInt_only ..) rfl ?_
  refine Only.set_mbox rfl ?_
  exact Only.refl _ _

theorem mboxGo_only (s : State) : Only [.log, .irq, .out, .mbox] s (mboxGo s) := by
  unfold mboxGo
  dsimp only [updMbox, updHost]
  refine Only.ite ?_ ?_
  refine Only.step (logAccess_only ..) rfl ?_
  exact Only.refl _ _
  refine Only.ite ?_ ?_
  refine Only.step (mboxEnd_only ..) rfl ?_
  exact Only.refl _ _
  refine Only.set_mbox rfl ?_
  exact Only.refl _ _

theorem execMailboxGo_only (s : State) : OutcomeOnly [.out, .log, .irq, .mbox] s (execMailboxGo s) := by
  unfold execMailboxGo
  refine outcome_only ?_
  refine hostWriteAt_only rfl (fun t => ?_) ?_
  refine Only.step (mboxGo_only ..) rfl ?_
  exact Only.refl _ _
  exact Only.refl _ _

theorem mboxAbort_only (s : State) : Only [.mbox, .irq, .out] s (mboxAbort s) := by
  unfold mboxAbort
  refine Only.ite ?_ ?_
  refine Only.step (mboxEnd_only ..) rfl ?_
  exact Only.refl _ _
  exact Only.refl _ _

theorem execMailboxAbort_only (s : State) : OutcomeOnly [.out, .log, .irq, .mbox] s (execMailboxAbort s) := by
  unfold execMailboxAbort
  refine outcome_only ?_
  refine hostWriteAt_only rfl (fun t => ?_) ?_
  refine Only.step (mboxAbort_only ..) rfl ?_
  exact Only.refl _ _
  exact Only.refl _ _

theorem mailboxGrant_only (s : State) : Only [.sessions, .mbox, .irq, .out, .boot, .odx, .free, .hk, .od, .fuses, .tick, .rings, .dp, .log, .host, .net, .time, .pwr, .emit, .weir, .isl, .fm, .rx, .plan, .servo, .cams, .fsync, .points, .acq, .qdr, .lane, .pending] s (mailboxGrant s) := by
  unfold mailboxGrant
  dsimp only [updMbox, updHost]
  refine Only.ite ?_ ?_
  exact Only.refl _ _
  refine Only.ite ?_ ?_
  refine Only.step (mboxEnd_only ..) rfl ?_
  refine Only.set_sessions rfl ?_
  exact Only.refl _ _
  refine Only.step (odxMessageIn_only ..) rfl ?_
  refine Only.set_mbox_sessions rfl ?_
  exact Only.refl _ _

theorem mailboxServe_only (s : State) : Only [.od, .fuses, .tick, .irq, .mbox, .rings, .dp, .log, .host, .sessions, .odx, .net, .time, .pwr, .boot, .emit, .weir, .isl, .fm, .rx, .plan, .servo, .cams, .fsync, .points, .acq, .qdr, .lane, .hk, .free, .out, .pending] s (mailboxServe s) := by
  unfold mailboxServe
  refine Only.step (netServeAll_only ..) rfl ?_
  refine Only.step (mailboxGrant_only ..) rfl ?_
  refine Only.ite ?_ ?_
  refine Only.step (netServe_only ..) rfl ?_
  exact Only.refl _ _
  exact Only.refl _ _

theorem execMailboxResponse_only (s : State) : OutcomeOnly [.od, .tick, .irq, .mbox, .rings, .dp, .log, .host, .sessions, .odx, .net, .time, .pwr, .boot, .emit, .weir, .isl, .fm, .rx, .plan, .servo, .cams, .fsync, .points, .acq, .qdr, .lane, .hk, .free, .out] s (execMailboxResponse s) := by
  unfold execMailboxResponse
  refine outcomeLost_only rfl ?_
  refine Only.step (mailboxServe_only ..) rfl ?_
  exact Only.refl _ _

theorem readMboxStatus_only (s : State) : Only [.mbox] s (readMboxStatus s).2 := by
  unfold readMboxStatus
  dsimp only [updMbox, updHost]
  try dsimp only
  refine Only.set_mbox rfl ?_
  exact Only.refl _ _

theorem execMailboxStatusRead_only (s : State) : OutcomeOnly [.out, .log, .irq, .mbox] s (execMailboxStatusRead s) := by
  unfold execMailboxStatusRead
  refine outcome_only ?_
  refine hostReadAt_only rfl (fun t => ?_) ?_
  try dsimp only
  refine Only.step (readMboxStatus_only ..) rfl ?_
  exact Only.refl _ _
  exact Only.refl _ _

theorem busLog_only (s : State) a1 a2 a3 : Only [.log, .irq, .out, .dp] s (busLog s a1 a2 a3) := by
  unfold busLog
  dsimp only [updHost]
  split
  exact Only.refl _ _
  refine Only.ite ?_ ?_
  refine Only.step (setInt_only ..) rfl ?_
  refine Only.set_dp rfl ?_
  refine Only.step (logAccess_only ..) rfl ?_
  exact Only.refl _ _
  refine Only.step (send_only ..) rfl ?_
  refine Only.step (logAccess_only ..) rfl ?_
  exact Only.refl _ _

theorem busRead_only (s : State) a1 a2 a3 : Only [.hk, .free, .log, .irq, .out, .dp] s (busRead s a1 a2 a3).2 := by
  unfold busRead
  dsimp only
  try dsimp only
  refine Only.step (busLog_only ..) rfl ?_
  refine Only.set_free rfl ?_
  split
  refine Only.step (readHkData_only ..) rfl ?_
  exact Only.refl _ _
  try dsimp only
  exact Only.refl _ _

theorem busWrite_only (s : State) a1 a2 a3 : Only [.boot, .qdr, .log, .irq, .out, .dp] s (busWrite s a1 a2 a3) := by
  unfold busWrite
  dsimp only
  refine Only.step (busLog_only ..) rfl ?_
  refine Only.set_boot_qdr rfl ?_
  exact Only.refl _ _

theorem busAccess_only (s : State) a1 a2 a3 a4 : Only [.boot, .qdr, .log, .irq, .out, .dp, .hk, .free] s (busAccess s a1 a2 a3 a4) := by
  unfold busAccess
  dsimp only
  refine Only.ite ?_ ?_
  exact Only.refl _ _
  split
  refine Only.step (busWrite_only ..) rfl ?_
  exact Only.refl _ _
  refine Only.step (send_only ..) rfl ?_
  refine Only.step (busRead_only ..) rfl ?_
  exact Only.refl _ _

theorem execInternalBusAccess_only a0 a1 a2 a3 (s : State) : OutcomeOnly [.boot, .qdr, .log, .irq, .out, .dp, .hk, .free] s (execInternalBusAccess a0 a1 a2 a3 s) := by
  unfold execInternalBusAccess
  refine outcomeMem_only ?_
  refine Only.step (busAccess_only ..) rfl ?_
  exact Only.refl _ _

theorem dpRefuse_only (s : State) a1 a2 a3 a4 : Only [.log, .irq, .out] s (dpRefuse s a1 a2 a3 a4) := by
  unfold dpRefuse
  dsimp only
  refine Only.ite ?_ ?_
  refine Only.step (logAccess_only ..) rfl ?_
  exact Only.refl _ _
  refine Only.step (send_only ..) rfl ?_
  refine Only.step (logAccess_only ..) rfl ?_
  exact Only.refl _ _

theorem dpError_only (s : State) a1 : Only [.dp, .irq, .out] s (dpError s a1) := by
  unfold dpError
  dsimp only [updDp, updHost]
  refine Only.step (setInt_only ..) rfl ?_
  refine Only.set_dp rfl ?_
  exact Only.refl _ _

theorem pullRead_only (s : State) a1 a2 : Only [.rings, .out, .dp, .irq] s (pullRead s a1 a2) := by
  unfold pullRead
  dsimp only
  refine Only.ite ?_ ?_
  refine Only.step (dpError_only ..) rfl ?_
  refine Only.step (send_only ..) rfl ?_
  refine Only.step (setRing_only ..) rfl ?_
  exact Only.refl _ _
  refine Only.step (send_only ..) rfl ?_
  refine Only.step (setRing_only ..) rfl ?_
  exact Only.refl _ _

theorem dpAccess_only (s : State) a1 a2 a3 a4 : Only [.log, .irq, .out, .dp, .rings, .boot, .qdr, .hk, .free] s (dpAccess s a1 a2 a3 a4) := by
  unfold dpAccess
  dsimp only [updDp, updHost]
  refine Only.ite ?_ ?_
  exact Only.refl _ _
  refine Only.ite ?_ ?_
  refine Only.step (dpRefuse_only ..) rfl ?_
  exact Only.refl _ _
  refine Only.ite ?_ ?_
  refine Only.step (dpError_only ..) rfl ?_
  refine Only.step (dpRefuse_only ..) rfl ?_
  exact Only.refl _ _
  refine Only.ite ?_ ?_
  refine Only.step (dpError_only ..) rfl ?_
  refine Only.step (dpRefuse_only ..) rfl ?_
  exact Only.refl _ _
  refine Only.ite ?_ ?_
  refine Only.ite ?_ ?_
  refine Only.step (dpError_only ..) rfl ?_
  refine Only.step (dpRefuse_only ..) rfl ?_
  exact Only.refl _ _
  refine Only.ite ?_ ?_
  refine Only.step (dpError_only ..) rfl ?_
  refine Only.step (dpRefuse_only ..) rfl ?_
  exact Only.refl _ _
  refine Only.ite ?_ ?_
  refine Only.step (dpError_only ..) rfl ?_
  refine Only.step (dpRefuse_only ..) rfl ?_
  exact Only.refl _ _
  refine Only.set_dp rfl ?_
  refine Only.step (pullRead_only ..) rfl ?_
  exact Only.refl _ _
  refine Only.ite ?_ ?_
  split
  refine Only.step (busWrite_only ..) rfl ?_
  exact Only.refl _ _
  refine Only.step (send_only ..) rfl ?_
  refine Only.step (busRead_only ..) rfl ?_
  exact Only.refl _ _
  refine Only.set_dp rfl ?_
  split
  refine Only.step (busWrite_only ..) rfl ?_
  exact Only.refl _ _
  refine Only.step (send_only ..) rfl ?_
  refine Only.step (busRead_only ..) rfl ?_
  exact Only.refl _ _

theorem execDataPortAccess_only a0 a1 a2 a3 (s : State) : OutcomeOnly [.log, .irq, .out, .dp, .rings, .boot, .qdr, .hk, .free] s (execDataPortAccess a0 a1 a2 a3 s) := by
  unfold execDataPortAccess
  refine outcomeMem_only ?_
  refine Only.step (dpAccess_only ..) rfl ?_
  exact Only.refl _ _

theorem execPullRead_only a0 a1 (s : State) : OutcomeOnly [.log, .irq, .out, .dp, .rings, .boot, .qdr, .hk, .free] s (execPullRead a0 a1 s) := by
  unfold execPullRead
  refine outcomeMem_only ?_
  refine Only.ite ?_ ?_
  refine Only.step (dpAccess_only ..) rfl ?_
  exact Only.refl _ _
  exact Only.refl _ _

theorem execRingEnable_only a0 (s : State) : OutcomeOnly [.out, .log, .irq, .rings] s (execRingEnable a0 s) := by
  unfold execRingEnable
  refine outcome_only ?_
  refine hostWriteAt_only rfl (fun t => ?_) ?_
  refine Only.step (enableRing_only ..) rfl ?_
  exact Only.refl _ _
  exact Only.refl _ _

theorem execRingDisable_only a0 (s : State) : OutcomeOnly [.out, .log, .irq, .rings] s (execRingDisable a0 s) := by
  unfold execRingDisable
  refine outcome_only ?_
  refine hostWriteAt_only rfl (fun t => ?_) ?_
  refine Only.step (disableRing_only ..) rfl ?_
  exact Only.refl _ _
  exact Only.refl _ _

theorem execTailWrite_only a0 a1 (s : State) : OutcomeOnly [.out, .log, .irq, .rings] s (execTailWrite a0 a1 s) := by
  unfold execTailWrite
  refine outcome_only ?_
  refine hostWriteAt_only rfl (fun t => ?_) ?_
  refine Only.step (writeTail_only ..) rfl ?_
  exact Only.refl _ _
  exact Only.refl _ _

theorem execRingEntryPublish_only a0 (s : State) : OutcomeOnly [.rings, .out, .irq] s (execRingEntryPublish a0 s) := by
  unfold execRingEntryPublish
  refine outcome_only ?_
  refine Only.ite ?_ ?_
  refine Only.step (publish_only ..) rfl ?_
  exact Only.refl _ _
  exact Only.refl _ _

theorem execRingSignalTimer_only a0 (s : State) : OutcomeOnly [.rings, .irq, .out] s (execRingSignalTimer a0 s) := by
  unfold execRingSignalTimer
  refine outcome_only ?_
  refine Only.ite ?_ ?_
  refine Only.step (ringTimer_only ..) rfl ?_
  exact Only.refl _ _
  exact Only.refl _ _

theorem readDrops_only a0 a1 (s : State) : Only [.rings] s (readDrops a0 a1 s).2 := by
  unfold readDrops
  dsimp only
  split
  try dsimp only
  refine Only.step (setRing_only ..) rfl ?_
  exact Only.refl _ _
  try dsimp only
  refine Only.step (setRing_only ..) rfl ?_
  exact Only.refl _ _

theorem execRingDropCounterRead_only a0 a1 (s : State) : OutcomeOnly [.out, .log, .irq, .rings] s (execRingDropCounterRead a0 a1 s) := by
  unfold execRingDropCounterRead
  refine outcome_only ?_
  refine hostReadAt_only rfl (fun t => ?_) ?_
  try dsimp only
  refine Only.step (readDrops_only ..) rfl ?_
  exact Only.refl _ _
  exact Only.refl _ _

theorem popLog_only (s : State) : Only [.log] s (popLog s) := by
  unfold popLog
  dsimp only [updHost]
  refine Only.set_log rfl ?_
  exact Only.refl _ _

theorem execFaultLogPop_only (s : State) : OutcomeOnly [.out, .log, .irq] s (execFaultLogPop s) := by
  unfold execFaultLogPop
  refine outcome_only ?_
  refine hostWriteAt_only rfl (fun t => ?_) ?_
  refine Only.step (popLog_only ..) rfl ?_
  exact Only.refl _ _
  exact Only.refl _ _

theorem readLog_only (s : State) : Only [.log] s (readLog s).2 := by
  unfold readLog
  dsimp only [updHost]
  try dsimp only
  refine Only.set_log rfl ?_
  exact Only.refl _ _

theorem execAccessFaultLogRead_only (s : State) : OutcomeOnly [.out, .log, .irq] s (execAccessFaultLogRead s) := by
  unfold execAccessFaultLogRead
  refine outcome_only ?_
  refine hostReadAt_only rfl (fun t => ?_) ?_
  try dsimp only
  refine Only.step (readLog_only ..) rfl ?_
  exact Only.refl _ _
  exact Only.refl _ _

theorem readClears_only (s : State) a1 : Only [.host, .mbox, .log, .rings, .free] s (readClears s a1) := by
  unfold readClears
  dsimp only [updHost]
  refine Only.ite ?_ ?_
  refine Only.set_host rfl ?_
  exact Only.refl _ _
  refine Only.ite ?_ ?_
  refine Only.step (readMboxStatus_only ..) rfl ?_
  exact Only.refl _ _
  refine Only.ite ?_ ?_
  refine Only.step (readLog_only ..) rfl ?_
  exact Only.refl _ _
  refine Only.ite ?_ ?_
  refine Only.step (readDrops_only ..) rfl ?_
  exact Only.refl _ _
  refine Only.ite ?_ ?_
  refine Only.step (readDrops_only ..) rfl ?_
  exact Only.refl _ _
  refine Only.ite ?_ ?_
  refine Only.set_free rfl ?_
  exact Only.refl _ _
  exact Only.refl _ _

theorem readWord_only (s : State) a1 : Only [.host, .mbox, .log, .rings, .free] s (readWord s a1).2 := by
  unfold readWord
  dsimp only [updHost]
  split
  try dsimp only
  refine Only.set_host rfl ?_
  refine Only.step (readClears_only ..) rfl ?_
  exact Only.refl _ _
  try dsimp only
  refine Only.set_host rfl ?_
  refine Only.step (readClears_only ..) rfl ?_
  exact Only.refl _ _
  try dsimp only
  refine Only.set_host rfl ?_
  refine Only.step (readClears_only ..) rfl ?_
  exact Only.refl _ _
  refine Only.step (readTimeHi_only ..) rfl ?_
  exact Only.refl _ _
  try dsimp only
  refine Only.set_host rfl ?_
  refine Only.step (readClears_only ..) rfl ?_
  exact Only.refl _ _
  try dsimp only
  refine Only.set_host rfl ?_
  refine Only.step (readClears_only ..) rfl ?_
  exact Only.refl _ _
  try dsimp only
  refine Only.step (readClears_only ..) rfl ?_
  exact Only.refl _ _

theorem readWide_only (s : State) a1 : Only [.host, .mbox, .log, .rings, .free] s (readWide s a1).2 := by
  unfold readWide
  split
  refine Only.step (readWord_only ..) rfl ?_
  exact Only.refl _ _
  try dsimp only
  refine Only.step (readClears_only ..) rfl ?_
  exact Only.refl _ _

theorem cfgRead_only (s : State) a1 : Only [.out, .free] s (cfgRead s a1) := by
  unfold cfgRead
  refine Only.ite ?_ ?_
  refine Only.step (send_only ..) rfl ?_
  exact Only.refl _ _
  refine Only.ite ?_ ?_
  exact Only.refl _ _
  refine Only.step (send_only ..) rfl ?_
  refine Only.set_free rfl ?_
  exact Only.refl _ _

theorem capWrite_only (s : State) a1 a2 : Only [.irq, .mbox, .rings, .dp, .log, .host, .sessions, .boot, .out, .odx, .pwr] s (capWrite s a1 a2) := by
  unfold capWrite
  dsimp only [updHost]
  refine Only.ite ?_ ?_
  refine Only.set_irq_mbox_rings_dp_log_host rfl ?_
  exact Only.refl _ _
  refine Only.ite ?_ ?_
  refine Only.ite ?_ ?_
  refine Only.set_host rfl ?_
  refine Only.step (pcieReset_only ..) rfl ?_
  exact Only.refl _ _
  refine Only.set_irq_mbox_rings_dp_log_host rfl ?_
  exact Only.refl _ _
  refine Only.ite ?_ ?_
  refine Only.ite ?_ ?_
  refine Only.set_irq_mbox_rings_dp_log_host rfl ?_
  exact Only.refl _ _
  refine Only.step (unmask_only ..) rfl ?_
  refine Only.set_irq_mbox_rings_dp_log_host rfl ?_
  exact Only.refl _ _
  refine Only.set_irq_mbox_rings_dp_log_host rfl ?_
  exact Only.refl _ _

theorem cfgWrite_only (s : State) a1 a2 : Only [.out, .host, .irq, .mbox, .rings, .dp, .log, .sessions, .boot, .odx, .pwr] s (cfgWrite s a1 a2) := by
  unfold cfgWrite
  dsimp only [updHost]
  refine Only.ite ?_ ?_
  refine Only.step (send_only ..) rfl ?_
  exact Only.refl _ _
  refine Only.ite ?_ ?_
  exact Only.refl _ _
  split
  refine Only.set_host rfl ?_
  exact Only.refl _ _
  refine Only.set_host rfl ?_
  exact Only.refl _ _
  refine Only.set_host rfl ?_
  exact Only.refl _ _
  refine Only.set_host rfl ?_
  exact Only.refl _ _
  refine Only.set_host rfl ?_
  exact Only.refl _ _
  refine Only.step (capWrite_only ..) rfl ?_
  exact Only.refl _ _

theorem bar0Read_only (s : State) a1 : Only [.out, .free, .log, .irq, .host, .mbox, .rings] s (bar0Read s a1) := by
  unfold bar0Read
  dsimp only
  refine Only.ite ?_ ?_
  refine Only.step (cfgRead_only ..) rfl ?_
  exact Only.refl _ _
  refine Only.ite ?_ ?_
  exact Only.refl _ _
  refine Only.ite ?_ ?_
  refine Only.step (send_only ..) rfl ?_
  refine Only.step (logAccess_only ..) rfl ?_
  exact Only.refl _ _
  refine Only.ite ?_ ?_
  refine hostReadAt_only rfl (fun t => ?_) ?_
  try dsimp only
  refine Only.step (readWord_only ..) rfl ?_
  exact Only.refl _ _
  exact Only.refl _ _
  refine Only.ite ?_ ?_
  refine Only.step (send_only ..) rfl ?_
  refine Only.step (logAccess_only ..) rfl ?_
  exact Only.refl _ _
  refine Only.step (send_only ..) rfl ?_
  refine Only.step (readWide_only ..) rfl ?_
  refine Only.step (readWide_only ..) rfl ?_
  exact Only.refl _ _

theorem execUpperHalfLatchRead_only a0 (s : State) : OutcomeOnly [.out, .free, .log, .irq, .host, .mbox, .rings] s (execUpperHalfLatchRead a0 s) := by
  unfold execUpperHalfLatchRead
  refine outcome_only ?_
  refine Only.step (bar0Read_only ..) rfl ?_
  exact Only.refl _ _

theorem writeDpCtl_only (s : State) a1 : Only [.dp, .irq, .out, .log] s (writeDpCtl s a1) := by
  unfold writeDpCtl
  dsimp only [updDp, updHost]
  refine Only.set_dp rfl ?_
  refine Only.ite ?_ ?_
  refine Only.ite ?_ ?_
  refine Only.step (logAccess_only ..) rfl ?_
  refine Only.ite ?_ ?_
  exact Only.refl _ _
  refine Only.step (dpError_only ..) rfl ?_
  exact Only.refl _ _
  refine Only.ite ?_ ?_
  exact Only.refl _ _
  refine Only.step (dpError_only ..) rfl ?_
  exact Only.refl _ _
  refine Only.ite ?_ ?_
  refine Only.set_dp rfl ?_
  refine Only.ite ?_ ?_
  exact Only.refl _ _
  refine Only.step (dpError_only ..) rfl ?_
  exact Only.refl _ _
  refine Only.step (logAccess_only ..) rfl ?_
  refine Only.set_dp rfl ?_
  refine Only.ite ?_ ?_
  exact Only.refl _ _
  refine Only.step (dpError_only ..) rfl ?_
  exact Only.refl _ _

theorem writeMbox_only (s : State) a1 a2 : Only [.mbox, .log, .irq, .out] s (writeMbox s a1 a2) := by
  unfold writeMbox
  dsimp only [updMbox, updHost]
  refine Only.ite ?_ ?_
  refine Only.set_mbox rfl ?_
  exact Only.refl _ _
  refine Only.step (logAccess_only ..) rfl ?_
  exact Only.refl _ _

theorem writeRingLocked_only (s : State) a1 a2 a3 : Only [.log, .irq, .out, .rings] s (writeRingLocked s a1 a2 a3) := by
  unfold writeRingLocked
  refine Only.ite ?_ ?_
  refine Only.step (logAccess_only ..) rfl ?_
  exact Only.refl _ _
  refine Only.step (setRing_only ..) rfl ?_
  exact Only.refl _ _

theorem writeRingCtl_only (s : State) a1 a2 : Only [.log, .irq, .out, .rings] s (writeRingCtl s a1 a2) := by
  unfold writeRingCtl
  dsimp only
  refine Only.ite ?_ ?_
  refine Only.step (enableRing_only ..) rfl ?_
  refine Only.ite ?_ ?_
  refine Only.ite ?_ ?_
  refine Only.step (logAccess_only ..) rfl ?_
  exact Only.refl _ _
  exact Only.refl _ _
  refine Only.step (setRing_only ..) rfl ?_
  exact Only.refl _ _
  refine Only.step (disableRing_only ..) rfl ?_
  refine Only.ite ?_ ?_
  refine Only.ite ?_ ?_
  refine Only.step (logAccess_only ..) rfl ?_
  exact Only.refl _ _
  exact Only.refl _ _
  refine Only.step (setRing_only ..) rfl ?_
  exact Only.refl _ _

theorem writeRing_only (s : State) a1 a2 a3 : Only [.log, .irq, .out, .rings] s (writeRing s a1 a2 a3) := by
  unfold writeRing
  dsimp only
  split
  refine Only.step (writeRingLocked_only ..) rfl ?_
  exact Only.refl _ _
  refine Only.step (writeRingLocked_only ..) rfl ?_
  exact Only.refl _ _
  refine Only.step (writeRingLocked_only ..) rfl ?_
  exact Only.refl _ _
  refine Only.step (writeRingCtl_only ..) rfl ?_
  exact Only.refl _ _
  refine Only.step (writeTail_only ..) rfl ?_
  exact Only.refl _ _
  refine Only.step (writeRingLocked_only ..) rfl ?_
  exact Only.refl _ _
  refine Only.step (writeRingLocked_only ..) rfl ?_
  exact Only.refl _ _
  refine Only.step (setRing_only ..) rfl ?_
  exact Only.refl _ _
  refine Only.step (setRing_only ..) rfl ?_
  exact Only.refl _ _
  refine Only.step (setRing_only ..) rfl ?_
  exact Only.refl _ _
  exact Only.refl _ _

theorem writeMsix_only (s : State) a1 a2 a3 : Only [.host, .irq, .out] s (writeMsix s a1 a2 a3) := by
  unfold writeMsix
  dsimp only [updHost]
  split
  refine Only.set_host rfl ?_
  exact Only.refl _ _
  refine Only.set_host rfl ?_
  exact Only.refl _ _
  refine Only.set_host rfl ?_
  exact Only.refl _ _
  refine Only.ite ?_ ?_
  refine Only.set_host rfl ?_
  exact Only.refl _ _
  refine Only.step (unmask_only ..) rfl ?_
  exact Only.refl _ _

theorem writeReg_only (s : State) a1 a2 a3 : Only [.host, .pwr, .emit, .irq, .out, .boot, .isl, .cams, .od, .tick, .mbox, .rings, .dp, .log, .sessions, .odx, .net, .time, .weir, .fm, .rx, .plan, .servo, .fsync, .points, .acq, .qdr, .lane, .hk] s (writeReg s a1 a2 a3) := by
  unfold writeReg
  dsimp only [updDp, withHostBits, updHost]
  refine Only.ite ?_ ?_
  split
  refine Only.ite ?_ ?_
  refine Only.step (latchTime_only ..) rfl ?_
  exact Only.refl _ _
  exact Only.refl _ _
  refine Only.step (writeVote_only ..) rfl ?_
  exact Only.refl _ _
  refine Only.step (clearInts_only ..) rfl ?_
  exact Only.refl _ _
  refine Only.step (sendVecs_only ..) rfl ?_
  refine Only.set_host rfl ?_
  exact Only.refl _ _
  refine Only.step (clearInts_only ..) rfl ?_
  exact Only.refl _ _
  refine Only.step (sendVecs_only ..) rfl ?_
  refine Only.set_host rfl ?_
  exact Only.refl _ _
  refine Only.ite ?_ ?_
  refine Only.step (mboxGo_only ..) rfl ?_
  refine Only.ite ?_ ?_
  refine Only.step (mboxAbort_only ..) rfl ?_
  exact Only.refl _ _
  exact Only.refl _ _
  refine Only.ite ?_ ?_
  refine Only.step (mboxAbort_only ..) rfl ?_
  exact Only.refl _ _
  exact Only.refl _ _
  refine Only.step (writeMbox_only ..) rfl ?_
  exact Only.refl _ _
  refine Only.set_dp rfl ?_
  exact Only.refl _ _
  refine Only.set_dp rfl ?_
  exact Only.refl _ _
  refine Only.step (writeDpCtl_only ..) rfl ?_
  exact Only.refl _ _
  refine Only.set_dp rfl ?_
  exact Only.refl _ _
  refine Only.ite ?_ ?_
  refine Only.step (popLog_only ..) rfl ?_
  exact Only.refl _ _
  exact Only.refl _ _
  exact Only.refl _ _
  refine Only.ite ?_ ?_
  refine Only.step (writeRing_only ..) rfl ?_
  exact Only.refl _ _
  refine Only.ite ?_ ?_
  refine Only.step (writeMbox_only ..) rfl ?_
  exact Only.refl _ _
  refine Only.ite ?_ ?_
  refine Only.step (writeMsix_only ..) rfl ?_
  exact Only.refl _ _
  exact Only.refl _ _

theorem bar0Write_only (s : State) a1 : Only [.out, .host, .irq, .mbox, .rings, .dp, .log, .sessions, .boot, .odx, .pwr, .emit, .isl, .cams, .od, .tick, .net, .time, .weir, .fm, .rx, .plan, .servo, .fsync, .points, .acq, .qdr, .lane, .hk] s (bar0Write s a1) := by
  unfold bar0Write
  dsimp only
  refine Only.ite ?_ ?_
  refine Only.step (cfgWrite_only ..) rfl ?_
  exact Only.refl _ _
  refine Only.ite ?_ ?_
  exact Only.refl _ _
  refine Only.ite ?_ ?_
  refine Only.step (logAccess_only ..) rfl ?_
  exact Only.refl _ _
  refine hostWriteAt_only rfl (fun t => ?_) ?_
  refine Only.step (writeReg_only ..) rfl ?_
  exact Only.refl _ _
  exact Only.refl _ _

theorem execRegisterWrite_only a0 (s : State) : OutcomeOnly [.out, .host, .irq, .mbox, .rings, .dp, .log, .sessions, .boot, .odx, .pwr, .emit, .isl, .cams, .od, .tick, .net, .time, .weir, .fm, .rx, .plan, .servo, .fsync, .points, .acq, .lane, .hk] s (execRegisterWrite a0 s) := by
  unfold execRegisterWrite
  refine outcome_only ?_
  refine Only.step (bar0Write_only ..) rfl ?_
  exact Only.refl _ _

end Sys2Proof.Machine
end

