-- ==== Sys2Proof/Laws/FrameNet.lean ====
section
/-! SUPPORT. Frames of the operations and commands of Machine/Net.lean: one lemma per operation says what it changes at
most. -/

namespace Sys2Proof.Machine

theorem hearPeer_only (s : State) a1 a2 a3 : Only [.net, .regs 53280 1] s (hearPeer s a1 a2 a3) := by
  unfold hearPeer
  dsimp only
  split
  refine Only.step (updNet_only ..) rfl ?_
  exact Only.refl _ _
  refine Only.ite ?_ ?_
  refine Only.step (updNet_only ..) rfl ?_
  exact Only.refl _ _
  split
  refine Only.step (bump_fam 53280 1 (by decide) (by decide) ..) rfl ?_
  refine Only.step (updNet_only ..) rfl ?_
  exact Only.refl _ _
  exact Only.refl _ _

theorem peerAgeOut_only (s : State) a1 : Only [.net] s (peerAgeOut s a1) := by
  unfold peerAgeOut
  dsimp only
  refine Only.step (updNet_only ..) rfl ?_
  exact Only.refl _ _

theorem execPeerAgeOut_only a0 (s : State) : OutcomeOnly [.net] s (execPeerAgeOut a0 s) := by
  unfold execPeerAgeOut
  refine outcome_only ?_
  refine Only.step (peerAgeOut_only ..) rfl ?_
  exact Only.refl _ _

theorem discardDatagram_only (s : State) : Only [.regs 53264 1] s (discardDatagram s) := by
  unfold discardDatagram
  refine Only.step (bump_fam 53264 1 (by decide) (by decide) ..) rfl ?_
  exact Only.refl _ _

theorem netMessage_only (s : State) a1 a2 : Only [.sessions, .out, .mbox, .irq, .boot, .odx, .free, .hk, .od, .fuses, .tick, .rings, .dp, .log, .host, .net, .time, .pwr, .emit, .weir, .isl, .fm, .rx, .plan, .servo, .cams, .fsync, .points, .acq, .qdr, .lane, .pending] s (netMessage s a1 a2) := by
  unfold netMessage
  refine Only.ite ?_ ?_
  refine Only.step (discardDatagram_only ..) rfl ?_
  exact Only.refl _ _
  refine Only.step (odxMessageIn_only ..) rfl ?_
  exact Only.refl _ _

theorem port17225_only (s : State) a1 a2 : Only [.net, .sessions, .out, .mbox, .irq, .boot, .odx, .free, .hk, .od, .fuses, .tick, .rings, .dp, .log, .host, .time, .pwr, .emit, .weir, .isl, .fm, .rx, .plan, .servo, .cams, .fsync, .points, .acq, .qdr, .lane, .pending] s (port17225 s a1 a2) := by
  unfold port17225
  dsimp only
  refine Only.ite ?_ ?_
  exact Only.refl _ _
  refine Only.ite ?_ ?_
  refine Only.ite ?_ ?_
  refine Only.step (netMessage_only ..) rfl ?_
  refine Only.step (hearPeer_only ..) rfl ?_
  exact Only.refl _ _
  refine Only.step (discardDatagram_only ..) rfl ?_
  refine Only.step (hearPeer_only ..) rfl ?_
  exact Only.refl _ _
  refine Only.ite ?_ ?_
  refine Only.step (netMessage_only ..) rfl ?_
  refine Only.step (hearPeer_only ..) rfl ?_
  exact Only.refl _ _
  refine Only.step (discardDatagram_only ..) rfl ?_
  exact Only.refl _ _

theorem execTrdpMessageRequest_only a0 a1 (s : State) : OutcomeOnly [.net, .sessions, .out, .mbox, .irq, .boot, .odx, .free, .hk, .od, .tick, .rings, .dp, .log, .host, .time, .pwr, .emit, .weir, .isl, .fm, .rx, .plan, .servo, .cams, .fsync, .points, .acq, .qdr, .lane] s (execTrdpMessageRequest a0 a1 s) := by
  unfold execTrdpMessageRequest
  refine outcomeLost_only rfl ?_
  refine Only.step (port17225_only ..) rfl ?_
  exact Only.refl _ _

theorem execDirectOdx_only a0 a1 (s : State) : OutcomeOnly [.net, .sessions, .out, .mbox, .irq, .boot, .odx, .free, .hk, .od, .tick, .rings, .dp, .log, .host, .time, .pwr, .emit, .weir, .isl, .fm, .rx, .plan, .servo, .cams, .fsync, .points, .acq, .qdr, .lane] s (execDirectOdx a0 a1 s) := by
  unfold execDirectOdx
  refine outcomeLost_only rfl ?_
  refine Only.step (port17225_only ..) rfl ?_
  exact Only.refl _ _

theorem netWrite_only {s t : State} {ip : BitVec 32} {sub : Nat} {b : Bytes} (h : netWrite s ip sub b = some t) :
    Only [.regs 8464 1, .plan] s t := by
  unfold netWrite at h
  dsimp only at h
  split at h
  · cases h
  · rename_i v _
    have hv := (speedHook_only sub s v).2
    split at h
    · rename_i hr; rw [hr] at hv; cases h; exact Only.mono hv rfl
    · cases h

theorem speedDataset_only (s : State) a1 a2 a3 :
    Only [.regs 53266 1, .net, .regs 8464 1, .plan, .regs 53280 1] s (speedDataset s a1 a2 a3) := by
  unfold speedDataset
  dsimp only
  refine Only.ite (Only.refl _ _) ?_
  have hp : Only [.regs 53266 1, .net, .regs 8464 1, .plan, .regs 53280 1] s (hearPeer s a1 a2 none) :=
    Only.step (hearPeer_only ..) rfl (Only.refl _ _)
  split
  · rename_i t ht
    refine Only.step (bump_fam 53266 1 (by decide) (by decide)) rfl ?_
    obtain ⟨b, -, ht⟩ := Option.bind_eq_some_iff.mp ht
    obtain ⟨u, hu, ht⟩ := Option.bind_eq_some_iff.mp ht
    have h1 := Only.step (netWrite_only hu) rfl hp
    split at ht
    · cases ht; exact h1
    · obtain ⟨b, -, ht⟩ := Option.bind_eq_some_iff.mp ht
      exact Only.step (netWrite_only ht) rfl h1
  · exact Only.step (bump_fam 53266 1 (by decide) (by decide)) rfl hp

theorem execSpeedDataset_only a0 a1 a2 (s : State) : OutcomeOnly [.regs 53266 1, .net, .regs 8464 1, .plan, .regs 53280 1] s (execSpeedDataset a0 a1 a2 s) := by
  unfold execSpeedDataset
  refine outcome_only ?_
  refine Only.step (speedDataset_only ..) rfl ?_
  exact Only.refl _ _

theorem announce_only (s : State) : Only [.net, .out] s (announce s) := by
  unfold announce
  dsimp only
  refine Only.ite ?_ ?_
  exact Only.refl _ _
  refine Only.step (send_only ..) rfl ?_
  refine Only.step (updNet_only ..) rfl ?_
  exact Only.refl _ _

theorem execAnnouncement_only (s : State) : OutcomeOnly [.net, .out] s (execAnnouncement s) := by
  unfold execAnnouncement
  refine outcome_only ?_
  refine Only.step (announce_only ..) rfl ?_
  exact Only.refl _ _

theorem port17224_only (s : State) a1 a2 : Only [.regs 32769 1, .out, .net, .isl, .fm, .irq, .emit, .regs 16384 1, .pwr, .regs 53280 1, .regs 53266 1, .regs 8464 1, .plan] s (port17224 s a1 a2) := by
  unfold port17224
  dsimp only
  refine Only.ite ?_ ?_
  exact Only.refl _ _
  refine Only.foldl _ _ (fun t x => ?_) ?_
  refine Only.ite ?_ ?_
  refine Only.step (bslReceive_only ..) rfl ?_
  exact Only.refl _ _
  exact Only.refl _ _
  refine Only.step (speedDataset_only ..) rfl ?_
  refine Only.step (hearPeer_only ..) rfl ?_
  exact Only.refl _ _

theorem dozeReceive_only (s : State) a1 : Only [.pwr, .emit, .irq, .out, .boot, .isl, .cams, .od, .tick, .mbox, .rings, .dp, .log, .host, .sessions, .odx, .net, .time, .weir, .fm, .rx, .plan, .servo, .fsync, .points, .acq, .qdr, .lane, .hk] s (dozeReceive s a1) := by
  unfold dozeReceive
  refine Only.ite ?_ ?_
  refine Only.step (wakeEvent_only ..) rfl ?_
  exact Only.refl _ _
  exact Only.refl _ _

theorem udpReceive_only (s : State) a1 a2 : Only [.net, .sessions, .out, .mbox, .irq, .boot, .odx, .free, .hk, .od, .fuses, .tick, .rings, .dp, .log, .host, .time, .pwr, .emit, .weir, .isl, .fm, .rx, .plan, .servo, .cams, .fsync, .points, .acq, .qdr, .lane, .pending] s (udpReceive s a1 a2) := by
  unfold udpReceive
  refine Only.ite ?_ ?_
  refine Only.step (port17225_only ..) rfl ?_
  exact Only.refl _ _
  refine Only.ite ?_ ?_
  refine Only.step (port17224_only ..) rfl ?_
  exact Only.refl _ _
  refine Only.ite ?_ ?_
  refine Only.step (ptpReceive_only ..) rfl ?_
  exact Only.refl _ _
  exact Only.refl _ _

theorem ipReceive_only (s : State) a1 a2 : Only [.pwr, .emit, .irq, .out, .boot, .isl, .cams, .od, .tick, .mbox, .rings, .dp, .log, .host, .sessions, .odx, .net, .time, .weir, .fm, .rx, .plan, .servo, .fsync, .points, .acq, .qdr, .lane, .hk, .free, .fuses, .pending] s (ipReceive s a1 a2).1 := by
  unfold ipReceive
  dsimp only
  split
  try dsimp only
  exact Only.refl _ _
  split
  try dsimp only
  refine Only.step (dozeReceive_only ..) rfl ?_
  exact Only.refl _ _
  split
  try dsimp only
  refine Only.step (dozeReceive_only ..) rfl ?_
  exact Only.refl _ _
  split
  try dsimp only
  exact Only.refl _ _
  split
  try dsimp only
  refine Only.ite ?_ ?_
  refine Only.step (dozeReceive_only ..) rfl ?_
  exact Only.refl _ _
  exact Only.refl _ _
  split
  try dsimp only
  refine Only.ite ?_ ?_
  refine Only.step (dozeReceive_only ..) rfl ?_
  exact Only.refl _ _
  exact Only.refl _ _
  split
  try dsimp only
  refine Only.step (udpReceive_only ..) rfl ?_
  refine Only.ite ?_ ?_
  refine Only.step (dozeReceive_only ..) rfl ?_
  exact Only.refl _ _
  exact Only.refl _ _
  try dsimp only
  refine Only.ite ?_ ?_
  refine Only.step (dozeReceive_only ..) rfl ?_
  exact Only.refl _ _
  exact Only.refl _ _

theorem stackReceive_only (s : State) a1 a2 : Only [.time, .pwr, .emit, .irq, .out, .boot, .isl, .cams, .od, .tick, .mbox, .rings, .dp, .log, .host, .sessions, .odx, .net, .weir, .fm, .rx, .plan, .servo, .fsync, .points, .acq, .qdr, .lane, .hk, .free, .fuses, .pending] s (stackReceive s a1 a2).1 := by
  unfold stackReceive
  dsimp only
  split
  try dsimp only
  refine Only.step (gptpAnnounce_only ..) rfl ?_
  exact Only.refl _ _
  split
  try dsimp only
  exact Only.refl _ _
  split
  refine Only.step (ipReceive_only ..) rfl ?_
  exact Only.refl _ _
  try dsimp only
  exact Only.refl _ _

theorem learn_only (s : State) a1 a2 : Only [.net] s (learn s a1 a2) := by
  unfold learn
  dsimp only
  refine Only.ite ?_ ?_
  exact Only.refl _ _
  refine Only.ite ?_ ?_
  refine Only.step (updNet_only ..) rfl ?_
  exact Only.refl _ _
  refine Only.ite ?_ ?_
  refine Only.step (updNet_only ..) rfl ?_
  exact Only.refl _ _
  exact Only.refl _ _

theorem sendPort_only (s : State) a1 a2 a3 : Only [.regs 53248 1, .net, .out] s (sendPort s a1 a2 a3) := by
  unfold sendPort
  refine Only.ite ?_ ?_
  refine Only.step (bump_fam 53248 1 (by decide) (by decide) ..) rfl ?_
  exact Only.refl _ _
  refine Only.ite ?_ ?_
  exact Only.refl _ _
  refine Only.step (portSend_only ..) rfl ?_
  exact Only.refl _ _

theorem switchFrame_only (s : State) a1 a2 : Only [.net, .out, .time, .pwr, .emit, .irq, .boot, .isl, .cams, .od, .tick, .mbox, .rings, .dp, .log, .host, .sessions, .odx, .weir, .fm, .rx, .plan, .servo, .fsync, .points, .acq, .qdr, .lane, .hk, .free, .fuses, .pending] s (switchFrame s a1 a2) := by
  unfold switchFrame
  dsimp only
  refine Only.ite ?_ ?_
  exact Only.refl _ _
  refine Only.ite ?_ ?_
  refine Only.step (bump_fam 53248 1 (by decide) (by decide) ..) rfl ?_
  exact Only.refl _ _
  refine Only.ite ?_ ?_
  refine Only.ite ?_ ?_
  exact Only.refl _ _
  refine Only.step (bump_fam 53248 1 (by decide) (by decide) ..) rfl ?_
  refine Only.foldl _ _ (fun t x => ?_) ?_
  refine Only.step (sendPort_only ..) rfl ?_
  exact Only.refl _ _
  exact Only.refl _ _
  refine Only.ite ?_ ?_
  refine Only.foldl _ _ (fun t x => ?_) ?_
  refine Only.step (stackSend_only ..) rfl ?_
  exact Only.refl _ _
  refine Only.step (stackReceive_only ..) rfl ?_
  refine Only.foldl _ _ (fun t x => ?_) ?_
  refine Only.step (sendPort_only ..) rfl ?_
  exact Only.refl _ _
  refine Only.ite ?_ ?_
  refine Only.step (learn_only ..) rfl ?_
  exact Only.refl _ _
  refine Only.step (bump_fam 53248 1 (by decide) (by decide) ..) rfl ?_
  refine Only.step (learn_only ..) rfl ?_
  exact Only.refl _ _
  refine Only.foldl _ _ (fun t x => ?_) ?_
  refine Only.step (sendPort_only ..) rfl ?_
  exact Only.refl _ _
  refine Only.ite ?_ ?_
  refine Only.step (learn_only ..) rfl ?_
  exact Only.refl _ _
  refine Only.step (bump_fam 53248 1 (by decide) (by decide) ..) rfl ?_
  refine Only.step (learn_only ..) rfl ?_
  exact Only.refl _ _

theorem execEthernetFrame_only a0 a1 (s : State) : OutcomeOnly [.net, .out, .time, .pwr, .emit, .irq, .boot, .isl, .cams, .od, .tick, .mbox, .rings, .dp, .log, .host, .sessions, .odx, .weir, .fm, .rx, .plan, .servo, .fsync, .points, .acq, .qdr, .lane, .hk, .free] s (execEthernetFrame a0 a1 s) := by
  unfold execEthernetFrame
  refine outcomeLost_only rfl ?_
  refine Only.step (switchFrame_only ..) rfl ?_
  exact Only.refl _ _

theorem flushAddrs_only (s : State) : Only [.net] s (flushAddrs s) := by
  unfold flushAddrs
  refine Only.step (updNet_only ..) rfl ?_
  exact Only.refl _ _

theorem portLost_only (s : State) a1 : Only [.time] s (portLost s a1) := by
  unfold portLost
  refine Only.step (updTime_only ..) rfl ?_
  exact Only.refl _ _

theorem portReports_only (s : State) a1 : Only [.net, .out] s (portReports s a1) := by
  unfold portReports
  refine Only.ite ?_ ?_
  refine Only.foldl _ _ (fun t x => ?_) ?_
  refine Only.step (portSend_only ..) rfl ?_
  exact Only.refl _ _
  exact Only.refl _ _
  exact Only.refl _ _

theorem ethLink_only (s : State) a1 a2 a3 : Only [.net, .time, .out] s (ethLink s a1 a2 a3) := by
  unfold ethLink
  dsimp only
  refine Only.ite ?_ ?_
  exact Only.refl _ _
  refine Only.ite ?_ ?_
  refine Only.step (portLost_only ..) rfl ?_
  refine Only.step (flushAddrs_only ..) rfl ?_
  refine Only.step (updNet_only ..) rfl ?_
  exact Only.refl _ _
  refine Only.ite ?_ ?_
  refine Only.step (portReports_only ..) rfl ?_
  refine Only.step (flushAddrs_only ..) rfl ?_
  refine Only.step (updNet_only ..) rfl ?_
  exact Only.refl _ _
  refine Only.step (flushAddrs_only ..) rfl ?_
  refine Only.step (updNet_only ..) rfl ?_
  exact Only.refl _ _

theorem execEthLinkChange_only a0 a1 a2 (s : State) : OutcomeOnly [.net, .time, .out] s (execEthLinkChange a0 a1 a2 s) := by
  unfold execEthLinkChange
  refine outcome_only ?_
  refine Only.step (ethLink_only ..) rfl ?_
  exact Only.refl _ _

theorem ageAddress_only (s : State) a1 : Only [.net] s (ageAddress s a1) := by
  unfold ageAddress
  refine Only.step (updNet_only ..) rfl ?_
  exact Only.refl _ _

theorem execAddressAgeing_only a0 (s : State) : OutcomeOnly [.net] s (execAddressAgeing a0 s) := by
  unfold execAddressAgeing
  refine outcome_only ?_
  refine Only.step (ageAddress_only ..) rfl ?_
  exact Only.refl _ _

theorem ringChange_only (s : State) a1 : Only [.net, .regs 53248 1, .out] s (ringChange s a1) := by
  unfold ringChange
  dsimp only
  refine Only.step (portSend_only ..) rfl ?_
  refine Only.step (portSend_only ..) rfl ?_
  refine Only.step (bump_fam 53248 1 (by decide) (by decide) ..) rfl ?_
  refine Only.step (flushAddrs_only ..) rfl ?_
  refine Only.step (updNet_only ..) rfl ?_
  exact Only.refl _ _

theorem ringCheck_only (s : State) a1 : Only [.net, .regs 53248 1, .out] s (ringCheck s a1) := by
  unfold ringCheck
  dsimp only
  refine Only.ite ?_ ?_
  exact Only.refl _ _
  refine Only.step (portSend_only ..) rfl ?_
  refine Only.ite ?_ ?_
  refine Only.step (ringChange_only ..) rfl ?_
  refine Only.step (updNet_only ..) rfl ?_
  exact Only.refl _ _
  refine Only.ite ?_ ?_
  refine Only.step (ringChange_only ..) rfl ?_
  refine Only.step (updNet_only ..) rfl ?_
  exact Only.refl _ _
  refine Only.step (updNet_only ..) rfl ?_
  exact Only.refl _ _

theorem execRingCheck_only a0 (s : State) : OutcomeOnly [.net, .regs 53248 1, .out] s (execRingCheck a0 s) := by
  unfold execRingCheck
  refine outcome_only ?_
  refine Only.step (ringCheck_only ..) rfl ?_
  exact Only.refl _ _

theorem flushFrame_only (s : State) a1 : Only [.net, .out] s (flushFrame s a1) := by
  unfold flushFrame
  dsimp only
  refine Only.ite ?_ ?_
  exact Only.refl _ _
  refine Only.ite ?_ ?_
  refine Only.step (portSend_only ..) rfl ?_
  refine Only.step (flushAddrs_only ..) rfl ?_
  exact Only.refl _ _
  refine Only.step (flushAddrs_only ..) rfl ?_
  exact Only.refl _ _

theorem execFlushFrame_only a0 (s : State) : OutcomeOnly [.net, .out] s (execFlushFrame a0 s) := by
  unfold execFlushFrame
  refine outcome_only ?_
  refine Only.step (flushFrame_only ..) rfl ?_
  exact Only.refl _ _

end Sys2Proof.Machine
end

