-- ==== Sys2Proof/Laws/FrameTick.lean ====
section
/-! SUPPORT. Frames of the operations and commands of Machine/Tick.lean: one lemma per operation says what it changes at
most. -/

namespace Sys2Proof.Machine

theorem nextTick_only (s : State) : Only [.tick] s (nextTick s) := by
  unfold nextTick
  dsimp only
  refine Only.ite ?_ ?_
  refine Only.set_tick rfl ?_
  exact Only.refl _ _
  refine Only.set_tick rfl ?_
  exact Only.refl _ _

theorem rtcTick_only (s : State) : Only [.pwr, .regs 36867 1] s (rtcTick s) := by
  unfold rtcTick
  dsimp only
  refine Only.ite ?_ ?_
  refine Only.step (updPwr_only ..) rfl ?_
  exact Only.refl _ _
  refine Only.step (updPwr_only ..) rfl ?_
  refine Only.step (odSetN_fam 36867 1 (by decide) (by decide) ..) rfl ?_
  exact Only.refl _ _

theorem timeStrobe_only (s : State) a1 : Only [.pwr, .regs 36867 1, .regs 53297 1, .time, .tick] s (timeStrobe s a1) := by
  unfold timeStrobe
  refine Only.ite ?_ ?_
  exact Only.refl _ _
  refine Only.step (timeTick_only ..) rfl ?_
  refine Only.step (rtcTick_only ..) rfl ?_
  exact Only.refl _ _

theorem eventCauses_only (s : State) : Only [.emit] s (eventCauses s) := by
  unfold eventCauses
  dsimp only
  refine Only.set_emit rfl ?_
  exact Only.refl _ _

theorem wdtTake_only (s : State) : Only [.pwr, .regs 36864 1, .emit, .regs 16384 1, .irq, .out, .regs 24584 2, .cams, .acq, .regs 28673 1, .regs 28672 1] s (wdtTake s) := by
  unfold wdtTake
  dsimp only
  refine Only.ite ?_ ?_
  refine Only.step (forcedNext_only ..) rfl ?_
  exact Only.refl _ _
  refine Only.step (forceQuiet_only ..) rfl ?_
  refine Only.ite ?_ ?_
  refine Only.step (inhibit_only ..) rfl ?_
  refine Only.ite ?_ ?_
  refine Only.step (inhibit_only ..) rfl ?_
  refine Only.set_emit rfl ?_
  exact Only.refl _ _
  refine Only.set_emit rfl ?_
  exact Only.refl _ _
  refine Only.ite ?_ ?_
  refine Only.step (inhibit_only ..) rfl ?_
  refine Only.set_emit rfl ?_
  exact Only.refl _ _
  refine Only.set_emit rfl ?_
  exact Only.refl _ _

theorem syncOutTake_only (s : State) : Only [.tick] s (syncOutTake s) := by
  unfold syncOutTake
  dsimp only
  refine Only.set_tick rfl ?_
  exact Only.refl _ _

theorem unitsTick_only (s : State) : Only [.tick, .emit, .pwr, .regs 36864 1, .regs 16384 1, .irq, .out, .regs 24584 2, .cams, .acq, .regs 28673 1, .regs 28672 1, .rx, .regs 12600 8, .regs 12368 8, .regs 12392 8, .servo, .regs 49200 1, .weir, .regs 16424 1, .plan, .regs 8480 1, .regs 8192 1, .points, .hk, .regs 45120 1, .net, .time, .regs 53298 1, .regs 53297 1, .free, .lane, .regs 49184 16, .regs 24594 1, .fsync, .isl] s (unitsTick s) := by
  unfold unitsTick
  dsimp only
  refine Only.step (islTick_only ..) rfl ?_
  refine Only.step (fsyncTick_only ..) rfl ?_
  refine Only.step (lanesTick_only ..) rfl ?_
  refine Only.step (gptpTick_only ..) rfl ?_
  refine Only.ite ?_ ?_
  refine Only.step (netTick_only ..) rfl ?_
  refine Only.ite ?_ ?_
  refine Only.step (hkTick_only ..) rfl ?_
  refine Only.ite ?_ ?_
  refine Only.step (planTick_only ..) rfl ?_
  refine Only.step (ditherDraw_only ..) rfl ?_
  refine Only.step (ditherTake_only ..) rfl ?_
  refine Only.step (driveTake_only ..) rfl ?_
  refine Only.step (emitTick_only ..) rfl ?_
  refine Only.step (rxTick_only ..) rfl ?_
  refine Only.step (wdtTake_only ..) rfl ?_
  refine Only.step (syncOutTake_only ..) rfl ?_
  refine Only.step (eventCauses_only ..) rfl ?_
  refine Only.set_tick rfl ?_
  exact Only.refl _ _
  refine Only.step (ditherDraw_only ..) rfl ?_
  refine Only.step (ditherTake_only ..) rfl ?_
  refine Only.step (driveTake_only ..) rfl ?_
  refine Only.step (emitTick_only ..) rfl ?_
  refine Only.step (rxTick_only ..) rfl ?_
  refine Only.step (wdtTake_only ..) rfl ?_
  refine Only.step (syncOutTake_only ..) rfl ?_
  refine Only.step (eventCauses_only ..) rfl ?_
  refine Only.set_tick rfl ?_
  exact Only.refl _ _
  refine Only.ite ?_ ?_
  refine Only.step (planTick_only ..) rfl ?_
  refine Only.step (ditherDraw_only ..) rfl ?_
  refine Only.step (ditherTake_only ..) rfl ?_
  refine Only.step (driveTake_only ..) rfl ?_
  refine Only.step (emitTick_only ..) rfl ?_
  refine Only.step (rxTick_only ..) rfl ?_
  refine Only.step (wdtTake_only ..) rfl ?_
  refine Only.step (syncOutTake_only ..) rfl ?_
  refine Only.step (eventCauses_only ..) rfl ?_
  refine Only.set_tick rfl ?_
  exact Only.refl _ _
  refine Only.step (ditherDraw_only ..) rfl ?_
  refine Only.step (ditherTake_only ..) rfl ?_
  refine Only.step (driveTake_only ..) rfl ?_
  refine Only.step (emitTick_only ..) rfl ?_
  refine Only.step (rxTick_only ..) rfl ?_
  refine Only.step (wdtTake_only ..) rfl ?_
  refine Only.step (syncOutTake_only ..) rfl ?_
  refine Only.step (eventCauses_only ..) rfl ?_
  refine Only.set_tick rfl ?_
  exact Only.refl _ _
  refine Only.ite ?_ ?_
  refine Only.step (hkTick_only ..) rfl ?_
  refine Only.ite ?_ ?_
  refine Only.step (planTick_only ..) rfl ?_
  refine Only.step (ditherDraw_only ..) rfl ?_
  refine Only.step (ditherTake_only ..) rfl ?_
  refine Only.step (driveTake_only ..) rfl ?_
  refine Only.step (emitTick_only ..) rfl ?_
  refine Only.step (rxTick_only ..) rfl ?_
  refine Only.step (wdtTake_only ..) rfl ?_
  refine Only.step (syncOutTake_only ..) rfl ?_
  refine Only.step (eventCauses_only ..) rfl ?_
  refine Only.set_tick rfl ?_
  exact Only.refl _ _
  refine Only.step (ditherDraw_only ..) rfl ?_
  refine Only.step (ditherTake_only ..) rfl ?_
  refine Only.step (driveTake_only ..) rfl ?_
  refine Only.step (emitTick_only ..) rfl ?_
  refine Only.step (rxTick_only ..) rfl ?_
  refine Only.step (wdtTake_only ..) rfl ?_
  refine Only.step (syncOutTake_only ..) rfl ?_
  refine Only.step (eventCauses_only ..) rfl ?_
  refine Only.set_tick rfl ?_
  exact Only.refl _ _
  refine Only.ite ?_ ?_
  refine Only.step (planTick_only ..) rfl ?_
  refine Only.step (ditherDraw_only ..) rfl ?_
  refine Only.step (ditherTake_only ..) rfl ?_
  refine Only.step (driveTake_only ..) rfl ?_
  refine Only.step (emitTick_only ..) rfl ?_
  refine Only.step (rxTick_only ..) rfl ?_
  refine Only.step (wdtTake_only ..) rfl ?_
  refine Only.step (syncOutTake_only ..) rfl ?_
  refine Only.step (eventCauses_only ..) rfl ?_
  refine Only.set_tick rfl ?_
  exact Only.refl _ _
  refine Only.step (ditherDraw_only ..) rfl ?_
  refine Only.step (ditherTake_only ..) rfl ?_
  refine Only.step (driveTake_only ..) rfl ?_
  refine Only.step (emitTick_only ..) rfl ?_
  refine Only.step (rxTick_only ..) rfl ?_
  refine Only.step (wdtTake_only ..) rfl ?_
  refine Only.step (syncOutTake_only ..) rfl ?_
  refine Only.step (eventCauses_only ..) rfl ?_
  refine Only.set_tick rfl ?_
  exact Only.refl _ _

theorem strobe_only (s : State) : Only [.tick, .pwr, .regs 36867 1, .regs 53297 1, .time, .regs 49184 16, .lane, .rings, .irq, .out, .regs 13057 1, .points, .emit, .regs 36864 1, .regs 16384 1, .regs 24584 2, .cams, .acq, .regs 28673 1, .regs 28672 1, .rx, .regs 12600 8, .regs 12368 8, .regs 12392 8, .servo, .regs 49200 1, .weir, .regs 16424 1, .plan, .regs 8480 1, .regs 8192 1, .hk, .regs 45120 1, .net, .regs 53298 1, .free, .regs 24594 1, .fsync, .isl] s (strobe s) := by
  unfold strobe
  refine Only.ite ?_ ?_
  exact Only.refl _ _
  refine Only.step (unitsTick_only ..) rfl ?_
  refine Only.step (flushPoints_only ..) rfl ?_
  refine Only.step (timeStrobe_only ..) rfl ?_
  refine Only.step (nextTick_only ..) rfl ?_
  exact Only.refl _ _

theorem tickStrobe_only (s : State) : Only [.tick, .pwr, .time, .lane, .rings, .irq, .out, .points, .emit, .cams, .acq, .rx, .servo, .weir, .plan, .hk, .net, .free, .fsync, .isl, .od, .fuses, .mbox, .dp, .log, .host, .sessions, .odx, .boot, .fm, .qdr, .pending] s (tickStrobe s) := by
  unfold tickStrobe
  refine Only.ite ?_ ?_
  exact Only.refl _ _
  refine Only.step (netServeAll_only ..) rfl ?_
  refine Only.step (strobe_only ..) rfl ?_
  exact Only.refl _ _

theorem execTickStrobe_only (s : State) : OutcomeOnly [.tick, .pwr, .time, .lane, .rings, .irq, .out, .points, .emit, .cams, .acq, .rx, .servo, .weir, .plan, .hk, .net, .free, .fsync, .isl, .od, .mbox, .dp, .log, .host, .sessions, .odx, .boot, .fm, .qdr] s (execTickStrobe s) := by
  unfold execTickStrobe
  refine outcomeLost_only rfl ?_
  refine Only.step (tickStrobe_only ..) rfl ?_
  exact Only.refl _ _

theorem shadowLoad_only (s : State) : Only [.regs 16424 1, .weir, .emit, .pwr, .plan, .regs 16406 1, .regs 20592 1, .rx, .regs 12416 1] s (shadowLoad s) := by
  unfold shadowLoad
  refine Only.ite ?_ ?_
  refine Only.step (rxShadow_only ..) rfl ?_
  refine Only.step (emitShadow_only ..) rfl ?_
  exact Only.refl _ _
  exact Only.refl _ _

theorem execShadowLoad_only (s : State) : OutcomeOnly [.regs 16424 1, .weir, .emit, .pwr, .plan, .regs 16406 1, .regs 20592 1, .rx, .regs 12416 1] s (execShadowLoad s) := by
  unfold execShadowLoad
  refine outcome_only ?_
  refine Only.step (shadowLoad_only ..) rfl ?_
  exact Only.refl _ _

theorem tickMonitor_only (s : State) : Only [.isl, .fm, .out, .irq, .emit, .regs 16384 1, .pwr, .regs 32769 1] s (tickMonitor s) := by
  unfold tickMonitor
  dsimp only
  refine Only.ite ?_ ?_
  exact Only.refl _ _
  refine Only.step (islRaise_only ..) rfl ?_
  refine Only.set_isl rfl ?_
  exact Only.refl _ _

theorem execTickMonitorFault_only a0 (s : State) : OutcomeOnly [.isl, .fm, .out, .irq, .emit, .regs 16384 1, .pwr, .regs 32769 1] s (execTickMonitorFault a0 s) := by
  unfold execTickMonitorFault
  refine outcome_only ?_
  refine Only.step (tickMonitor_only ..) rfl ?_
  exact Only.refl _ _

end Sys2Proof.Machine
end

