-- ==== Sys2Proof/Laws/Memory.lean ====
section
/-! SUPPORT. The QDR memory: what is read after a write, and that every operation keeps the canonical form. -/

namespace Sys2Proof.Machine

/-- The canonical form as the order of the entries: no entry is 0, each is below the rest. -/
theorem memWf_cons {a : Nat} {v : Byte} {m : List Host.Cell} :
    memWf ((a, v) :: m) = true ↔ v ≠ 0 ∧ (∀ b w r, m = (b, w) :: r → a < b) ∧ memWf m = true := by
  cases m with
  | nil => simp [memWf]
  | cons c r => obtain ⟨b, w⟩ := c; simp [memWf, and_assoc]

/-- Every entry of a canonical memory behind its first lies above it. -/
theorem memWf_below {a : Nat} {v : Byte} {m : List Host.Cell} (h : memWf ((a, v) :: m) = true) :
    ∀ c ∈ m, a < c.1 := by
  induction m generalizing a v with
  | nil => simp
  | cons c r ih =>
    obtain ⟨b, w⟩ := c
    obtain ⟨-, hb, hr⟩ := memWf_cons.1 h
    have hab := hb b w r rfl
    intro c hc
    rcases List.mem_cons.1 hc with rfl | hc
    · exact hab
    · exact Nat.lt_trans hab (ih hr c hc)

/-- An address below every entry reads 0. -/
theorem memGet_below {m : List Host.Cell} {a : Nat} (h : ∀ c ∈ m, a < c.1) : memGet m a = 0 := by
  cases m with
  | nil => rfl
  | cons c r =>
    obtain ⟨b, w⟩ := c
    have hb : a < b := h (b, w) List.mem_cons_self
    simp [memGet, Nat.ne_of_gt hb, hb]

/-- The entries of a memory with one byte written. -/
theorem memSet_mem {m : List Host.Cell} {a : Nat} {v : Byte} {c : Host.Cell} (h : c ∈ memSet m a v) : c.1 = a ∨ c ∈ m := by
  induction m with
  | nil =>
    unfold memSet at h
    split at h
    · cases h
    · rw [List.mem_singleton.1 h]; exact .inl rfl
  | cons d r ih =>
    obtain ⟨b, w⟩ := d
    unfold memSet at h
    split at h
    · split at h
      · exact .inr h
      · rcases List.mem_cons.1 h with rfl | h
        · exact .inl rfl
        · exact .inr h
    split at h
    · split at h
      · exact .inr (List.mem_cons_of_mem _ h)
      · rcases List.mem_cons.1 h with rfl | h
        · exact .inl rfl
        · exact .inr (List.mem_cons_of_mem _ h)
    · rcases List.mem_cons.1 h with rfl | h
      · exact .inr List.mem_cons_self
      · exact (ih h).imp_right (List.mem_cons_of_mem _)

/-- A byte written keeps the canonical form. -/
theorem memSet_wf {m : List Host.Cell} (h : memWf m = true) (a : Nat) (v : Byte) : memWf (memSet m a v) = true := by
  induction m with
  | nil =>
    unfold memSet
    split
    · rfl
    · rename_i hv; simpa [memWf] using hv
  | cons d r ih =>
    obtain ⟨b, w⟩ := d
    obtain ⟨hw, hb, hr⟩ := memWf_cons.1 h
    have hlow := memWf_below h
    unfold memSet
    split
    · rename_i hab
      split
      · exact h
      · rename_i hv
        refine memWf_cons.2 ⟨hv, ?_, h⟩
        intro x y z e
        cases e; exact hab
    split
    · rename_i e
      split
      · exact hr
      · rename_i hv
        refine memWf_cons.2 ⟨hv, ?_, hr⟩
        intro x y z e'
        subst e
        exact hb x y z e'
    · rename_i h1 h2
      refine memWf_cons.2 ⟨hw, ?_, ih hr⟩
      intro x y z e
      have hm : (x, y) ∈ memSet r a v := e ▸ List.mem_cons_self
      rcases memSet_mem hm with e1 | hm
      · dsimp only at e1; omega
      · exact hlow _ hm

/-- Bytes written keep the canonical form. -/
theorem memWrite_wf {m : List Host.Cell} (h : memWf m = true) (a : Nat) (bs : Bytes) : memWf (memWrite m a bs) = true := by
  induction bs generalizing m a with
  | nil => exact h
  | cons b r ih => exact ih (memSet_wf h a b) (a + 1)

/-- What is read after a byte is written. -/
theorem memGet_memSet {m : List Host.Cell} (h : memWf m = true) (a b : Nat) (v : Byte) :
    memGet (memSet m a v) b = if b = a then v else memGet m b := by
  induction m with
  | nil =>
    unfold memSet
    split
    · rename_i hv; subst hv; simp [memGet]
    · by_cases e : b = a
      · subst e; simp [memGet]
      · simp [memGet, e, Ne.symm e]
  | cons d r ih =>
    obtain ⟨c, w⟩ := d
    obtain ⟨-, -, hr⟩ := memWf_cons.1 h
    have hlow := memWf_below h
    unfold memSet
    split
    · rename_i hac
      split
      · rename_i hv
        subst hv
        split
        · rename_i e; subst e
          simp [memGet, Nat.ne_of_gt hac, hac]
        · rfl
      · by_cases e : b = a
        · subst e; simp [memGet]
        · simp only [memGet, Ne.symm e, if_false, e]
          by_cases hab : a < b
          · have : ¬b < a := by omega
            simp [this]
          · have : b < a := by omega
            have h2 : b < c := by omega
            have h3 : ¬c = b := by omega
            simp [this, h2, h3]
    split
    · rename_i h1 e
      subst e
      split
      · rename_i hv
        subst hv
        by_cases e : b = a
        · subst e; simp [memGet_below hlow]
        · simp only [e, if_false, memGet, Ne.symm e]
          by_cases hb : b < a
          · simp only [hb, if_true]
            exact memGet_below fun c hc => Nat.lt_trans hb (hlow c hc)
          · rw [if_neg hb]
      · by_cases e : b = a
        · subst e; simp [memGet]
        · simp [memGet, e, Ne.symm e]
    · rename_i h1 h2
      have hca : c < a := by omega
      by_cases e : c = b
      · subst e
        have : ¬c = a := by omega
        simp [memGet, this]
      · simp only [memGet, e, if_false]
        by_cases hbc : b < c
        · have : ¬b = a := by omega
          simp [hbc, this]
        · simp [hbc, ih hr]

/-- Every byte outside a write reads as before. -/
theorem memGet_memWrite_out {m : List Host.Cell} (h : memWf m = true) (a : Nat) (bs : Bytes) {b : Nat}
    (hb : b < a ∨ a + bs.length ≤ b) : memGet (memWrite m a bs) b = memGet m b := by
  induction bs generalizing m a with
  | nil => rfl
  | cons x r ih =>
    simp only [List.length_cons] at hb
    have hne : b ≠ a := by omega
    rw [memWrite, ih (memSet_wf h a x) (a + 1) (by omega), memGet_memSet h, if_neg hne]

/-- The bytes of a write read as written. -/
theorem memGet_memWrite_in {m : List Host.Cell} (h : memWf m = true) (a : Nat) (bs : Bytes) (i : Nat) (hi : i < bs.length) :
    memGet (memWrite m a bs) (a + i) = bs[i] := by
  induction bs generalizing m a i with
  | nil => cases hi
  | cons x r ih =>
    cases i with
    | zero =>
      rw [memWrite, memGet_memWrite_out (memSet_wf h a x) (a + 1) r (by omega), memGet_memSet h]
      simp
    | succ i =>
      have := ih (memSet_wf h a x) (a + 1) i (by simpa using hi)
      rw [memWrite, show a + (i + 1) = a + 1 + i by omega, this]
      rfl

/-- A write of bytes to the memory keeps its form. -/
theorem qdrWrite_wf {s : State} (h : MemoryWf s) (a : Nat) (bs : Bytes) : MemoryWf (qdrWrite s a bs) := memWrite_wf h a bs

end Sys2Proof.Machine
end

