-- ==== Sys2Proof/Laws/PerInstr.lean ====
section
/-! SUPPORT. What holds of every command as syntax, command by command: no word of the opcode table spells it, since the table's rows give no bits; commands come from outside as events. -/

namespace Sys2Proof.Laws.Unspelt

open Sys2Proof

/-- No word of the table, of any width, spells the command. -/
def Statement (i : Instr) : Prop := ∀ nbits w : Nat, decodeTableWord nbits w ≠ some i

theorem tickStrobe : Statement .tickStrobe := fun _ _ h => nomatch h
theorem shotLaunch (e : LaunchEdge) : Statement (.shotLaunch e) := fun _ _ h => nomatch h
theorem swapPointBSlot : Statement .swapPointBSlot := fun _ _ h => nomatch h
theorem frontEndEvent (c : Fin 512) (p : Pulse) : Statement (.frontEndEvent c p) := fun _ _ h => nomatch h
theorem stuckTick (c : StuckInput) : Statement (.stuckTick c) := fun _ _ h => nomatch h
theorem blankingIntervalEnd (c : Fin 512) : Statement (.blankingIntervalEnd c) := fun _ _ h => nomatch h
theorem coincidenceDecision (c : Fin 512) (time : Nat) (cycle : FilterCycle) : Statement (.coincidenceDecision c time cycle) := fun _ _ h => nomatch h
theorem positionSampleLatch (x : LatchInputs) : Statement (.positionSampleLatch x) := fun _ _ h => nomatch h
theorem gateClose : Statement .gateClose := fun _ _ h => nomatch h
theorem earlyTerminationTest : Statement .earlyTerminationTest := fun _ _ h => nomatch h
theorem calibrationHits (h : List CalHits) : Statement (.calibrationHits h) := fun _ _ h => nomatch h
theorem shadowLoad : Statement .shadowLoad := fun _ _ h => nomatch h
theorem driveValueWrite : Statement .driveValueWrite := fun _ _ h => nomatch h
theorem shadowFreeze (late : Bool) : Statement (.shadowFreeze late) := fun _ _ h => nomatch h
theorem probePulse : Statement .probePulse := fun _ _ h => nomatch h
theorem shotSyncEdge (ref : SyncEdge) : Statement (.shotSyncEdge ref) := fun _ _ h => nomatch h
theorem missedEdge : Statement .missedEdge := fun _ _ h => nomatch h
theorem tickStretch : Statement .tickStretch := fun _ _ h => nomatch h
theorem tickMonitorFault (noStrobe : Bool) : Statement (.tickMonitorFault noStrobe) := fun _ _ h => nomatch h
theorem wdtSvc : Statement .wdtSvc := fun _ _ h => nomatch h
theorem wdtPlan : Statement .wdtPlan := fun _ _ h => nomatch h
theorem wdtCal : Statement .wdtCal := fun _ _ h => nomatch h
theorem internalBusAccess (client : BusClient) (addr : BitVec 40) (len : Nat) (wr : Option Bytes) : Statement (.internalBusAccess client addr len wr) := fun _ _ h => nomatch h
theorem calibrationPeriodEnd (osc : List Nat) : Statement (.calibrationPeriodEnd osc) := fun _ _ h => nomatch h
theorem fullCalibrationRequest (req : Req) : Statement (.fullCalibrationRequest req) := fun _ _ h => nomatch h
theorem fullCalibrationEnd (r : FullCalResult) : Statement (.fullCalibrationEnd r) := fun _ _ h => nomatch h
theorem readPassComplete (c : Fin 512) (corrected : Nat) (bad : Bool) : Statement (.readPassComplete c corrected bad) := fun _ _ h => nomatch h
theorem readPassOverrun (c : Fin 512) : Statement (.readPassOverrun c) := fun _ _ h => nomatch h
theorem echoExtraction (c : Fin 512) : Statement (.echoExtraction c) := fun _ _ h => nomatch h
theorem oxbowDecision (c : ResultTurn) : Statement (.oxbowDecision c) := fun _ _ h => nomatch h
theorem confluence : Statement .confluence := fun _ _ h => nomatch h
theorem pixelReadReturn : Statement .pixelReadReturn := fun _ _ h => nomatch h
theorem memLate : Statement .memLate := fun _ _ h => nomatch h
theorem planWrite (req : Req) (plan : Bytes) : Statement (.planWrite req plan) := fun _ _ h => nomatch h
theorem admissionEnd : Statement .admissionEnd := fun _ _ h => nomatch h
theorem planSwitch : Statement .planSwitch := fun _ _ h => nomatch h
theorem stopRunningPlan (req : Req) : Statement (.stopRunningPlan req) := fun _ _ h => nomatch h
theorem planStopEffect : Statement .planStopEffect := fun _ _ h => nomatch h
theorem vehicleSpeedWrite (req : Req) (sub : Fin 2) (bits : BitVec 32) : Statement (.vehicleSpeedWrite req sub bits) := fun _ _ h => nomatch h
theorem speedTimeout : Statement .speedTimeout := fun _ _ h => nomatch h
theorem weirHoldOffEnd : Statement .weirHoldOffEnd := fun _ _ h => nomatch h
theorem emissionEnable (req : Req) : Statement (.emissionEnable req) := fun _ _ h => nomatch h
theorem emissionDisable (req : Req) : Statement (.emissionDisable req) := fun _ _ h => nomatch h
theorem faultAcknowledge (req : Req) : Statement (.faultAcknowledge req) := fun _ _ h => nomatch h
theorem bankVoltageFault (b : Fin 8) : Statement (.bankVoltageFault b) := fun _ _ h => nomatch h
theorem diagnosisWindow (g : Fin 16) : Statement (.diagnosisWindow g) := fun _ _ h => nomatch h
theorem stuckOn (g : Fin 16) : Statement (.stuckOn g) := fun _ _ h => nomatch h
theorem stuckOnClear (g : Fin 16) : Statement (.stuckOnClear g) := fun _ _ h => nomatch h
theorem diagnosisClear (req : Req) (mask : BitVec 64) : Statement (.diagnosisClear req mask) := fun _ _ h => nomatch h
theorem loopCommandOpen (req : Req) (a : Axis) : Statement (.loopCommandOpen req a) := fun _ _ h => nomatch h
theorem loopCommandClose (req : Req) (a : Axis) : Statement (.loopCommandClose req a) := fun _ _ h => nomatch h
theorem loopCommandPark (req : Req) (a : Axis) : Statement (.loopCommandPark req a) := fun _ _ h => nomatch h
theorem feedbackLoss (a : Axis) : Statement (.feedbackLoss a) := fun _ _ h => nomatch h
theorem servoFaultClear (req : Req) (a : Axis) : Statement (.servoFaultClear req a) := fun _ _ h => nomatch h
theorem decimatorStart (req : Req) (d : Fin 3) : Statement (.decimatorStart req d) := fun _ _ h => nomatch h
theorem decimatorStop (req : Req) (d : Fin 3) : Statement (.decimatorStop req d) := fun _ _ h => nomatch h
theorem spPulsePeriod (high : Nat) (period : Nat) : Statement (.spPulsePeriod high period) := fun _ _ h => nomatch h
theorem countGate (count : Nat) : Statement (.countGate count) := fun _ _ h => nomatch h
theorem sourceTimeout : Statement .sourceTimeout := fun _ _ h => nomatch h
theorem traceArm (req : Req) : Statement (.traceArm req) := fun _ _ h => nomatch h
theorem traceManualTrigger (req : Req) : Statement (.traceManualTrigger req) := fun _ _ h => nomatch h
theorem traceStop (req : Req) : Statement (.traceStop req) := fun _ _ h => nomatch h
theorem traceDone : Statement .traceDone := fun _ _ h => nomatch h
theorem pr32VersionWrite (req : Req) (sub : Fin 256) (v : BitVec 8) : Statement (.pr32VersionWrite req sub v) := fun _ _ h => nomatch h
theorem frameStart (k : Fin 2) (p : FramePacket) : Statement (.frameStart k p) := fun _ _ h => nomatch h
theorem frameEnd (k : Fin 2) (p : FramePacket) : Statement (.frameEnd k p) := fun _ _ h => nomatch h
theorem linePacket (k : Fin 2) (p : LinePacket) : Statement (.linePacket k p) := fun _ _ h => nomatch h
theorem lineService : Statement .lineService := fun _ _ h => nomatch h
theorem frameStored (k : Fin 2) : Statement (.frameStored k) := fun _ _ h => nomatch h
theorem frameTimeout (k : Fin 2) : Statement (.frameTimeout k) := fun _ _ h => nomatch h
theorem portEnableWrite (req : Req) (k : Fin 2) (v : Bool) : Statement (.portEnableWrite req k v) := fun _ _ h => nomatch h
theorem testRequestWrite (req : Req) (k : Fin 2) (v : Bool) : Statement (.testRequestWrite req k v) := fun _ _ h => nomatch h
theorem camFsyncPulseEnd (k : Fin 2) : Statement (.camFsyncPulseEnd k) := fun _ _ h => nomatch h
theorem islandInitComplete (ok : Bool) : Statement (.islandInitComplete ok) := fun _ _ h => nomatch h
theorem lockstepFault : Statement .lockstepFault := fun _ _ h => nomatch h
theorem supplyMonitorFault : Statement .supplyMonitorFault := fun _ _ h => nomatch h
theorem islandWatchdog : Statement .islandWatchdog := fun _ _ h => nomatch h
theorem evalTimeout : Statement .evalTimeout := fun _ _ h => nomatch h
theorem sealSample (a : BitVec 8) (b : BitVec 8) : Statement (.sealSample a b) := fun _ _ h => nomatch h
theorem storeConfiguration (req : Req) (n : BitVec 8) : Statement (.storeConfiguration req n) := fun _ _ h => nomatch h
theorem pairConfiguration (req : Req) (n : BitVec 8) : Statement (.pairConfiguration req n) := fun _ _ h => nomatch h
theorem deleteConfiguration (req : Req) (n : BitVec 8) : Statement (.deleteConfiguration req n) := fun _ _ h => nomatch h
theorem configNorWriteDone (ok : Bool) : Statement (.configNorWriteDone ok) := fun _ _ h => nomatch h
theorem zoneEvaluation : Statement .zoneEvaluation := fun _ _ h => nomatch h
theorem coverageMarker : Statement .coverageMarker := fun _ _ h => nomatch h
theorem coverageTimeout (z : Fin 16) : Statement (.coverageTimeout z) := fun _ _ h => nomatch h
theorem ossdTestPulse (ch : Fin 2) (fb : Bool) : Statement (.ossdTestPulse ch fb) := fun _ _ h => nomatch h
theorem ossdFeedbackTimeout (ch : Fin 2) : Statement (.ossdFeedbackTimeout ch) := fun _ _ h => nomatch h
theorem safetyInputSample (x : SafetyInputs) : Statement (.safetyInputSample x) := fun _ _ h => nomatch h
theorem bslCycle (c : Fin 4) : Statement (.bslCycle c) := fun _ _ h => nomatch h
theorem bslTelegramReceive (c : Fin 4) (t : Bytes) : Statement (.bslTelegramReceive c t) := fun _ _ h => nomatch h
theorem bslWatchdog (c : Fin 4) : Statement (.bslWatchdog c) := fun _ _ h => nomatch h
theorem bslRetry (c : Fin 4) : Statement (.bslRetry c) := fun _ _ h => nomatch h
theorem recoveryComplete : Statement .recoveryComplete := fun _ _ h => nomatch h
theorem acqArm (req : Req) : Statement (.acqArm req) := fun _ _ h => nomatch h
theorem acqStop (req : Req) : Statement (.acqStop req) := fun _ _ h => nomatch h
theorem acqManualTrigger (req : Req) : Statement (.acqManualTrigger req) := fun _ _ h => nomatch h
theorem acqRow : Statement .acqRow := fun _ _ h => nomatch h
theorem acqDrainComplete : Statement .acqDrainComplete := fun _ _ h => nomatch h
theorem probeBurst (l : Fin 16) : Statement (.probeBurst l) := fun _ _ h => nomatch h
theorem partnerProbeReceived (l : Fin 16) (w : BitVec 64) : Statement (.partnerProbeReceived l w) := fun _ _ h => nomatch h
theorem trainRequest (l : Fin 16) (w : BitVec 64) : Statement (.trainRequest l w) := fun _ _ h => nomatch h
theorem eqComplete (l : Fin 16) (eyeH : BitVec 16) (eyeW : BitVec 16) : Statement (.eqComplete l eyeH eyeW) := fun _ _ h => nomatch h
theorem fecAlignComplete (l : Fin 16) : Statement (.fecAlignComplete l) := fun _ _ h => nomatch h
theorem deskewComplete (j : Fin 16) (skews : List Nat) : Statement (.deskewComplete j skews) := fun _ _ h => nomatch h
theorem capsReceived (l : Fin 16) (w : BitVec 64) : Statement (.capsReceived l w) := fun _ _ h => nomatch h
theorem trainingTimeout (l : Fin 16) : Statement (.trainingTimeout l) := fun _ _ h => nomatch h
theorem linkLoss (l : Fin 16) (cause : LossCause) : Statement (.linkLoss l cause) := fun _ _ h => nomatch h
theorem idleEntry (j : Fin 16) : Statement (.idleEntry j) := fun _ _ h => nomatch h
theorem idleExit (j : Fin 16) : Statement (.idleExit j) := fun _ _ h => nomatch h
theorem superframe (j : Fin 16) (ofs : BitVec 12) : Statement (.superframe j ofs) := fun _ _ h => nomatch h
theorem tickMarker (j : Fin 16) (m : MarkerItem) : Statement (.tickMarker j m) := fun _ _ h => nomatch h
theorem dstateItem (j : Fin 16) (aux : BitVec 32) : Statement (.dstateItem j aux) := fun _ _ h => nomatch h
theorem dmaskItem (j : Fin 16) (aux : BitVec 32) : Statement (.dmaskItem j aux) := fun _ _ h => nomatch h
theorem creditItem (j : Fin 16) (aux : BitVec 32) : Statement (.creditItem j aux) := fun _ _ h => nomatch h
theorem pcieReset : Statement .pcieReset := fun _ _ h => nomatch h
theorem registerWrite (a : RegWrite) : Statement (.registerWrite a) := fun _ _ h => nomatch h
theorem upperHalfLatchRead (a : RegRead) : Statement (.upperHalfLatchRead a) := fun _ _ h => nomatch h
theorem timeLatch (cycle : Nat) : Statement (.timeLatch cycle) := fun _ _ h => nomatch h
theorem timeHiRead : Statement .timeHiRead := fun _ _ h => nomatch h
theorem voteWrite (v : BitVec 32) : Statement (.voteWrite v) := fun _ _ h => nomatch h
theorem voteRegistered (client : VoteClient) : Statement (.voteRegistered client) := fun _ _ h => nomatch h
theorem interruptStatusClear (ring : Bool) (v : BitVec 32) : Statement (.interruptStatusClear ring v) := fun _ _ h => nomatch h
theorem msixUnmask (vec : Option (Fin 64)) : Statement (.msixUnmask vec) := fun _ _ h => nomatch h
theorem mailboxGo : Statement .mailboxGo := fun _ _ h => nomatch h
theorem mailboxAbort : Statement .mailboxAbort := fun _ _ h => nomatch h
theorem mailboxResponse : Statement .mailboxResponse := fun _ _ h => nomatch h
theorem mailboxStatusRead : Statement .mailboxStatusRead := fun _ _ h => nomatch h
theorem dataPortAccess (off : BitVec 24) (len : Nat) (wr : Option Bytes) (full : Bool) : Statement (.dataPortAccess off len wr full) := fun _ _ h => nomatch h
theorem pullRead (r : Fin 16) (len : Nat) : Statement (.pullRead r len) := fun _ _ h => nomatch h
theorem ringEnable (r : Fin 16) : Statement (.ringEnable r) := fun _ _ h => nomatch h
theorem ringDisable (r : Fin 16) : Statement (.ringDisable r) := fun _ _ h => nomatch h
theorem tailWrite (r : Fin 16) (v : BitVec 32) : Statement (.tailWrite r v) := fun _ _ h => nomatch h
theorem ringEntryPublish (r : Fin 16) : Statement (.ringEntryPublish r) := fun _ _ h => nomatch h
theorem ringSignalTimer (r : Fin 16) : Statement (.ringSignalTimer r) := fun _ _ h => nomatch h
theorem ringDropCounterRead (r : Fin 16) (records : Bool) : Statement (.ringDropCounterRead r records) := fun _ _ h => nomatch h
theorem faultLogPop : Statement .faultLogPop := fun _ _ h => nomatch h
theorem accessFaultLogRead : Statement .accessFaultLogRead := fun _ _ h => nomatch h
theorem odxOpen (req : Req) (version : BitVec 8) (payload : Bytes) : Statement (.odxOpen req version payload) := fun _ _ h => nomatch h
theorem odxClose (req : Req) : Statement (.odxClose req) := fun _ _ h => nomatch h
theorem odxRead (req : Req) (index : BitVec 16) (sub : BitVec 8) (seg : Bool) : Statement (.odxRead req index sub seg) := fun _ _ h => nomatch h
theorem odxWrite (req : Req) (index : BitVec 16) (sub : BitVec 8) (data : Bytes) (seg : Bool) : Statement (.odxWrite req index sub data seg) := fun _ _ h => nomatch h
theorem odxReadSeg (req : Req) (index : BitVec 16) (sub : BitVec 8) (payload : Bytes) : Statement (.odxReadSeg req index sub payload) := fun _ _ h => nomatch h
theorem odxWriteSeg (req : Req) (index : BitVec 16) (sub : BitVec 8) (payload : Bytes) : Statement (.odxWriteSeg req index sub payload) := fun _ _ h => nomatch h
theorem odxChallenge (req : Req) (payload : Bytes) : Statement (.odxChallenge req payload) := fun _ _ h => nomatch h
theorem odxAuth (req : Req) (payload : Bytes) : Statement (.odxAuth req payload) := fun _ _ h => nomatch h
theorem odxReadMulti (req : Req) (payload : Bytes) : Statement (.odxReadMulti req payload) := fun _ _ h => nomatch h
theorem odxKeepalive (req : Req) : Statement (.odxKeepalive req) := fun _ _ h => nomatch h
theorem sessionIdleTimeout (sess : Fin 8) : Statement (.sessionIdleTimeout sess) := fun _ _ h => nomatch h
theorem segmentTransferTimeout (sess : Fin 8) : Statement (.segmentTransferTimeout sess) := fun _ _ h => nomatch h
theorem authLockoutEnd (via : Transport) : Statement (.authLockoutEnd via) := fun _ _ h => nomatch h
theorem storePersistentValues (req : Req) : Statement (.storePersistentValues req) := fun _ _ h => nomatch h
theorem storeComplete (ok : Bool) : Statement (.storeComplete ok) := fun _ _ h => nomatch h
theorem restoreDefaults (req : Req) : Statement (.restoreDefaults req) := fun _ _ h => nomatch h
theorem ethernetFrame (port : Fin 3) (f : EthFrame) : Statement (.ethernetFrame port f) := fun _ _ h => nomatch h
theorem ethLinkChange (port : Fin 3) (speed : Fin 4) (full : Bool) : Statement (.ethLinkChange port speed full) := fun _ _ h => nomatch h
theorem addressAgeing (mac : BitVec 48) : Statement (.addressAgeing mac) := fun _ _ h => nomatch h
theorem ringCheck (arrived : Bool) : Statement (.ringCheck arrived) := fun _ _ h => nomatch h
theorem flushFrame (port : Fin 3) : Statement (.flushFrame port) := fun _ _ h => nomatch h
theorem trdpMessageRequest (src : NetFrom) (tel : Bytes) : Statement (.trdpMessageRequest src tel) := fun _ _ h => nomatch h
theorem directOdx (src : NetFrom) (dgram : Bytes) : Statement (.directOdx src dgram) := fun _ _ h => nomatch h
theorem announcement : Statement .announcement := fun _ _ h => nomatch h
theorem speedDataset (src : NetFrom) (comId : BitVec 32) (data : Bytes) : Statement (.speedDataset src comId data) := fun _ _ h => nomatch h
theorem peerAgeOut (ip : BitVec 32) : Statement (.peerAgeOut ip) := fun _ _ h => nomatch h
theorem gptpSync (m : SyncMeas) : Statement (.gptpSync m) := fun _ _ h => nomatch h
theorem neighbourDelayMeasurement (m : DelayMeas) : Statement (.neighbourDelayMeasurement m) := fun _ _ h => nomatch h
theorem delayExchange (m : DelayExch) : Statement (.delayExchange m) := fun _ _ h => nomatch h
theorem ppsEdge (c : Nat) : Statement (.ppsEdge c) := fun _ _ h => nomatch h
theorem timeHoldover : Statement .timeHoldover := fun _ _ h => nomatch h
theorem powerStateRequest (req : Req) (v : BitVec 8) : Statement (.powerStateRequest req v) := fun _ _ h => nomatch h
theorem phaseAEnd : Statement .phaseAEnd := fun _ _ h => nomatch h
theorem drainComplete : Statement .drainComplete := fun _ _ h => nomatch h
theorem drainTimeout : Statement .drainTimeout := fun _ _ h => nomatch h
theorem domainPowerGood (d : Dom) : Statement (.domainPowerGood d) := fun _ _ h => nomatch h
theorem domainDrop (d : Dom) : Statement (.domainDrop d) := fun _ _ h => nomatch h
theorem rtcAlarm : Statement .rtcAlarm := fun _ _ h => nomatch h
theorem wakeReq (level : Bool) : Statement (.wakeReq level) := fun _ _ h => nomatch h
theorem networkWake : Statement .networkWake := fun _ _ h => nomatch h
theorem quiesceStart (edge : Int) : Statement (.quiesceStart edge) := fun _ _ h => nomatch h
theorem quiesceDrop : Statement .quiesceDrop := fun _ _ h => nomatch h
theorem norProgramLimit : Statement .norProgramLimit := fun _ _ h => nomatch h
theorem quiesceDone : Statement .quiesceDone := fun _ _ h => nomatch h
theorem pwrFailNRise : Statement .pwrFailNRise := fun _ _ h => nomatch h
theorem pwrFailRelease : Statement .pwrFailRelease := fun _ _ h => nomatch h
theorem brownOut (r : Fin 16) : Statement (.brownOut r) := fun _ _ h => nomatch h
theorem railOutOfWindow (r : Fin 16) : Statement (.railOutOfWindow r) := fun _ _ h => nomatch h
theorem aonBrownOut : Statement .aonBrownOut := fun _ _ h => nomatch h
theorem vaonPowerOn : Statement .vaonPowerOn := fun _ _ h => nomatch h
theorem conversionComplete (raw : Fin 4096) (oor : Bool) : Statement (.conversionComplete raw oor) := fun _ _ h => nomatch h
theorem hostGroupTrigger (req : Req) : Statement (.hostGroupTrigger req) := fun _ _ h => nomatch h
theorem converterCheck (input : Fin 32) : Statement (.converterCheck input) := fun _ _ h => nomatch h
theorem hkDataRegisterRead : Statement .hkDataRegisterRead := fun _ _ h => nomatch h
theorem resetN : Statement .resetN := fun _ _ h => nomatch h
theorem resetStuck : Statement .resetStuck := fun _ _ h => nomatch h
theorem resetNAttended : Statement .resetNAttended := fun _ _ h => nomatch h
theorem softwareReset (req : Req) : Statement (.softwareReset req) := fun _ _ h => nomatch h
theorem resetRelease : Statement .resetRelease := fun _ _ h => nomatch h
theorem firmwareStart : Statement .firmwareStart := fun _ _ h => nomatch h
theorem updateBegin (req : Req) : Statement (.updateBegin req) := fun _ _ h => nomatch h
theorem eraseComplete (ok : Bool) : Statement (.eraseComplete ok) := fun _ _ h => nomatch h
theorem updateActivate (req : Req) : Statement (.updateActivate req) := fun _ _ h => nomatch h
theorem updateConfirm (req : Req) : Statement (.updateConfirm req) := fun _ _ h => nomatch h
theorem updateCancel (req : Req) : Statement (.updateCancel req) := fun _ _ h => nomatch h
theorem keyRevocation (req : Req) (v : BitVec 8) : Statement (.keyRevocation req v) := fun _ _ h => nomatch h
theorem domainStartUpDone (d : Dom) : Statement (.domainStartUpDone d) := fun _ _ h => nomatch h
theorem shotSyncOutPulse : Statement .shotSyncOutPulse := fun _ _ h => nomatch h
theorem shotSyncOutPulseEnd : Statement .shotSyncOutPulseEnd := fun _ _ h => nomatch h
theorem segmentReceived (j : Fin 16) (stream : Fin 32) (fec : List CodewordCount) : Statement (.segmentReceived j stream fec) := fun _ _ h => nomatch h
theorem pcieLinkTrained (speed : Fin 5) (width : Fin 9) (bme : Bool) (mps : Fin 513) : Statement (.pcieLinkTrained speed width bme mps) := fun _ _ h => nomatch h
theorem latchComplete : Statement .latchComplete := fun _ _ h => nomatch h
theorem delayReqSend (cycle : Nat) : Statement (.delayReqSend cycle) := fun _ _ h => nomatch h
theorem acqQdrWrite (bad : Bool) : Statement (.acqQdrWrite bad) := fun _ _ h => nomatch h
theorem nonVolatileWriteDone (ok : Bool) : Statement (.nonVolatileWriteDone ok) := fun _ _ h => nomatch h
theorem lprLimit : Statement .lprLimit := fun _ _ h => nomatch h
theorem vaonLow : Statement .vaonLow := fun _ _ h => nomatch h
theorem vaonPowerLoss : Statement .vaonPowerLoss := fun _ _ h => nomatch h
theorem resetOutputRelease (phy : Bool) : Statement (.resetOutputRelease phy) := fun _ _ h => nomatch h

end Sys2Proof.Laws.Unspelt
end

