-- ==== Sys2Proof/Laws/State.lean ====
section
/-! SUPPORT. What the named updates leave alone, field by field, and what the object store and the interrupt status read
after them. -/

namespace Sys2Proof.Machine

/-! ### The object store -/

theorem odKey_inj {ix sub ix' sub' : Nat} (h : sub < 256) (h' : sub' < 256) :
    odKey ix sub = odKey ix' sub' ↔ ix = ix' ∧ sub = sub' := by
  unfold odKey
  constructor
  · intro e; omega
  · rintro ⟨rfl, rfl⟩; rfl

/-- The object just written reads the value. -/
@[simp] theorem odGet_odSet (s : State) (ix sub : Nat) (v : Val) : odGet (odSet s ix sub v) ix sub = v := by
  simp [odGet, odSet, tget_tset]

@[simp] theorem odI_odSet (s : State) (ix sub : Nat) (v : Int) : odI (odSet s ix sub (.num v)) ix sub = v := by
  simp [odI]

@[simp] theorem odN_odSetN (s : State) (ix sub n : Nat) : odN (odSetN s ix sub n) ix sub = n := by
  simp [odN, odI, odSetN]

@[simp] theorem odI_odSetI (s : State) (ix sub : Nat) (n : Int) : odI (odSetI s ix sub n) ix sub = n := by
  simp [odI, odSetI]

/-- What is read of the store depends on the store and the fuses alone. -/
theorem odGet_congr {s t : State} (h : t.od = s.od) (f : t.fuses = s.fuses) (ix sub : Nat) : odGet t ix sub = odGet s ix sub := by
  have hd : odDefault t ix sub = odDefault s ix sub := by
    have d : ∀ i, detType t i = detType s i := fun i => by rw [detType, detType, h]
    have nc : nChan t = nChan s := by unfold nChan isSmall; rw [f]
    have nb : nBank t = nBank s := by unfold nBank isSmall; rw [f]
    have m : defaultMap t = defaultMap s := by simp only [defaultMap, nc]
    have q : defaultSequence t = defaultSequence s := by simp only [defaultSequence, nb]
    have b : ∀ r i, byteDefault t r i = byteDefault s r i := fun r i => by unfold byteDefault; simp only [d, m, q]
    have n : ∀ r i, numDefault t r i = numDefault s r i := fun r i => by unfold numDefault; simp only [d, f]
    unfold odDefault
    simp only [b, n]
  simp only [odGet, h, hd]

theorem odI_congr {s t : State} (h : t.od = s.od) (f : t.fuses = s.fuses) (ix sub : Nat) : odI t ix sub = odI s ix sub := by
  simp only [odI, odGet_congr h f]

theorem odN_congr {s t : State} (h : t.od = s.od) (f : t.fuses = s.fuses) (ix sub : Nat) : odN t ix sub = odN s ix sub := by
  simp only [odN, odI_congr h f]

/-- A counter after its event (R20): one more, unless it is at its maximum. -/
@[simp] theorem odN_bumpBy (s : State) (ix sub k : Nat) :
    odN (bumpBy s ix sub k) ix sub = satN (odWidth ix sub) (odN s ix sub + k) := by
  simp [bumpBy]

@[simp] theorem odN_bump (s : State) (ix sub : Nat) : odN (bump s ix sub) ix sub = satN (odWidth ix sub) (odN s ix sub + 1) := by
  simp [bump]

/-! ### Interrupts -/

theorem sendVec_host (s : State) (v : Nat) : ∃ p, (sendVec s v).host = { s.host with pba := p } := by
  unfold sendVec
  split
  · exact ⟨_, rfl⟩
  · split <;> exact ⟨_, rfl⟩

theorem sendVecs_host (s : State) (m : BitVec 64) : ∃ p, (sendVecs s m).host = { s.host with pba := p } := by
  unfold sendVecs
  generalize (List.range 64).filter _ = l
  induction l generalizing s with
  | nil => exact ⟨_, rfl⟩
  | cons v l ih =>
    obtain ⟨p, h⟩ := sendVec_host s v
    obtain ⟨q, h'⟩ := ih (sendVec s v)
    exact ⟨q, by rw [List.foldl_cons, h', h]⟩

/-- A status bit raised: the status gains the bit, the rest of the host interface but the pending bits stands. -/
theorem setInt_host (s : State) (b : Nat) :
    ∃ p, (setInt s b).host = { s.host with intStatus := s.host.intStatus ||| (1#21 <<< b), pba := p } := by
  unfold setInt withHostBits
  obtain ⟨p, h⟩ := sendVecs_host { s with host := { s.host with intStatus := s.host.intStatus ||| (1#21 <<< b) } }
    (asserted { s with host := { s.host with intStatus := s.host.intStatus ||| (1#21 <<< b) } } &&& ~~~ asserted s)
  exact ⟨p, h⟩

@[simp] theorem setInt_intStatus (s : State) (b : Nat) :
    (setInt s b).host.intStatus = s.host.intStatus ||| (1#21 <<< b) := by
  obtain ⟨p, h⟩ := setInt_host s b
  rw [h]

theorem setRingInt_host (s : State) (r : Nat) :
    ∃ p, (setRingInt s r).host = { s.host with ringInt := s.host.ringInt ||| (1#16 <<< r), pba := p } := by
  unfold setRingInt withHostBits
  obtain ⟨p, h⟩ := sendVecs_host { s with host := { s.host with ringInt := s.host.ringInt ||| (1#16 <<< r) } }
    (asserted { s with host := { s.host with ringInt := s.host.ringInt ||| (1#16 <<< r) } } &&& ~~~ asserted s)
  exact ⟨p, h⟩

theorem sendVecs_out (s : State) (m : BitVec 64) : ∃ o, (sendVecs s m).out = o ++ s.out := by
  unfold sendVecs
  generalize (List.range 64).filter _ = l
  induction l generalizing s with
  | nil => exact ⟨[], rfl⟩
  | cons v l ih =>
    have hv : ∃ o, (sendVec s v).out = o ++ s.out := by
      unfold sendVec
      split
      · exact ⟨[], rfl⟩
      · split
        · exact ⟨[_], rfl⟩
        · exact ⟨[], rfl⟩
    obtain ⟨o, h⟩ := hv
    obtain ⟨p, h'⟩ := ih (sendVec s v)
    exact ⟨p ++ o, by rw [List.foldl_cons, h', h, List.append_assoc]⟩

/-- Messages of vectors leave after what left before. -/
theorem setInt_out (s : State) (b : Nat) : ∃ o, (setInt s b).out = o ++ s.out := by
  unfold setInt withHostBits
  exact sendVecs_out _ _

/-! ### Fields -/

@[simp] theorem send_fuses (s : State) (o : Out) : (send s o).fuses = s.fuses := rfl
@[simp] theorem send_tick (s : State) (o : Out) : (send s o).tick = s.tick := rfl
@[simp] theorem send_host (s : State) (o : Out) : (send s o).host = s.host := rfl
@[simp] theorem send_odx (s : State) (o : Out) : (send s o).odx = s.odx := rfl
@[simp] theorem send_net (s : State) (o : Out) : (send s o).net = s.net := rfl
@[simp] theorem send_time (s : State) (o : Out) : (send s o).time = s.time := rfl
@[simp] theorem send_pwr (s : State) (o : Out) : (send s o).pwr = s.pwr := rfl
@[simp] theorem send_boot (s : State) (o : Out) : (send s o).boot = s.boot := rfl
@[simp] theorem send_emit (s : State) (o : Out) : (send s o).emit = s.emit := rfl
@[simp] theorem send_weir (s : State) (o : Out) : (send s o).weir = s.weir := rfl
@[simp] theorem send_isl (s : State) (o : Out) : (send s o).isl = s.isl := rfl
@[simp] theorem send_fm (s : State) (o : Out) : (send s o).fm = s.fm := rfl
@[simp] theorem send_rx (s : State) (o : Out) : (send s o).rx = s.rx := rfl
@[simp] theorem send_plan (s : State) (o : Out) : (send s o).plan = s.plan := rfl
@[simp] theorem send_servo (s : State) (o : Out) : (send s o).servo = s.servo := rfl
@[simp] theorem send_cams (s : State) (o : Out) : (send s o).cams = s.cams := rfl
@[simp] theorem send_fsync (s : State) (o : Out) : (send s o).fsync = s.fsync := rfl
@[simp] theorem send_points (s : State) (o : Out) : (send s o).points = s.points := rfl
@[simp] theorem send_acq (s : State) (o : Out) : (send s o).acq = s.acq := rfl
@[simp] theorem send_qdr (s : State) (o : Out) : (send s o).qdr = s.qdr := rfl
@[simp] theorem send_lane (s : State) (o : Out) : (send s o).lane = s.lane := rfl
@[simp] theorem send_hk (s : State) (o : Out) : (send s o).hk = s.hk := rfl
@[simp] theorem send_free (s : State) (o : Out) : (send s o).free = s.free := rfl
@[simp] theorem send_pending (s : State) (o : Out) : (send s o).pending = s.pending := rfl
@[simp] theorem send_od (s : State) (o : Out) : (send s o).od = s.od := rfl

@[simp] theorem odSet_fuses (s : State) (ix : Nat) (sub : Nat) (v : Val) : (odSet s ix sub v).fuses = s.fuses := rfl
@[simp] theorem odSet_tick (s : State) (ix : Nat) (sub : Nat) (v : Val) : (odSet s ix sub v).tick = s.tick := rfl
@[simp] theorem odSet_host (s : State) (ix : Nat) (sub : Nat) (v : Val) : (odSet s ix sub v).host = s.host := rfl
@[simp] theorem odSet_odx (s : State) (ix : Nat) (sub : Nat) (v : Val) : (odSet s ix sub v).odx = s.odx := rfl
@[simp] theorem odSet_net (s : State) (ix : Nat) (sub : Nat) (v : Val) : (odSet s ix sub v).net = s.net := rfl
@[simp] theorem odSet_time (s : State) (ix : Nat) (sub : Nat) (v : Val) : (odSet s ix sub v).time = s.time := rfl
@[simp] theorem odSet_pwr (s : State) (ix : Nat) (sub : Nat) (v : Val) : (odSet s ix sub v).pwr = s.pwr := rfl
@[simp] theorem odSet_boot (s : State) (ix : Nat) (sub : Nat) (v : Val) : (odSet s ix sub v).boot = s.boot := rfl
@[simp] theorem odSet_emit (s : State) (ix : Nat) (sub : Nat) (v : Val) : (odSet s ix sub v).emit = s.emit := rfl
@[simp] theorem odSet_weir (s : State) (ix : Nat) (sub : Nat) (v : Val) : (odSet s ix sub v).weir = s.weir := rfl
@[simp] theorem odSet_isl (s : State) (ix : Nat) (sub : Nat) (v : Val) : (odSet s ix sub v).isl = s.isl := rfl
@[simp] theorem odSet_fm (s : State) (ix : Nat) (sub : Nat) (v : Val) : (odSet s ix sub v).fm = s.fm := rfl
@[simp] theorem odSet_rx (s : State) (ix : Nat) (sub : Nat) (v : Val) : (odSet s ix sub v).rx = s.rx := rfl
@[simp] theorem odSet_plan (s : State) (ix : Nat) (sub : Nat) (v : Val) : (odSet s ix sub v).plan = s.plan := rfl
@[simp] theorem odSet_servo (s : State) (ix : Nat) (sub : Nat) (v : Val) : (odSet s ix sub v).servo = s.servo := rfl
@[simp] theorem odSet_cams (s : State) (ix : Nat) (sub : Nat) (v : Val) : (odSet s ix sub v).cams = s.cams := rfl
@[simp] theorem odSet_fsync (s : State) (ix : Nat) (sub : Nat) (v : Val) : (odSet s ix sub v).fsync = s.fsync := rfl
@[simp] theorem odSet_points (s : State) (ix : Nat) (sub : Nat) (v : Val) : (odSet s ix sub v).points = s.points := rfl
@[simp] theorem odSet_acq (s : State) (ix : Nat) (sub : Nat) (v : Val) : (odSet s ix sub v).acq = s.acq := rfl
@[simp] theorem odSet_qdr (s : State) (ix : Nat) (sub : Nat) (v : Val) : (odSet s ix sub v).qdr = s.qdr := rfl
@[simp] theorem odSet_lane (s : State) (ix : Nat) (sub : Nat) (v : Val) : (odSet s ix sub v).lane = s.lane := rfl
@[simp] theorem odSet_hk (s : State) (ix : Nat) (sub : Nat) (v : Val) : (odSet s ix sub v).hk = s.hk := rfl
@[simp] theorem odSet_free (s : State) (ix : Nat) (sub : Nat) (v : Val) : (odSet s ix sub v).free = s.free := rfl
@[simp] theorem odSet_out (s : State) (ix : Nat) (sub : Nat) (v : Val) : (odSet s ix sub v).out = s.out := rfl
@[simp] theorem odSet_pending (s : State) (ix : Nat) (sub : Nat) (v : Val) : (odSet s ix sub v).pending = s.pending := rfl

@[simp] theorem odSetN_fuses (s : State) (ix : Nat) (sub : Nat) (n : Nat) : (odSetN s ix sub n).fuses = s.fuses := rfl
@[simp] theorem odSetN_tick (s : State) (ix : Nat) (sub : Nat) (n : Nat) : (odSetN s ix sub n).tick = s.tick := rfl
@[simp] theorem odSetN_host (s : State) (ix : Nat) (sub : Nat) (n : Nat) : (odSetN s ix sub n).host = s.host := rfl
@[simp] theorem odSetN_odx (s : State) (ix : Nat) (sub : Nat) (n : Nat) : (odSetN s ix sub n).odx = s.odx := rfl
@[simp] theorem odSetN_net (s : State) (ix : Nat) (sub : Nat) (n : Nat) : (odSetN s ix sub n).net = s.net := rfl
@[simp] theorem odSetN_time (s : State) (ix : Nat) (sub : Nat) (n : Nat) : (odSetN s ix sub n).time = s.time := rfl
@[simp] theorem odSetN_pwr (s : State) (ix : Nat) (sub : Nat) (n : Nat) : (odSetN s ix sub n).pwr = s.pwr := rfl
@[simp] theorem odSetN_boot (s : State) (ix : Nat) (sub : Nat) (n : Nat) : (odSetN s ix sub n).boot = s.boot := rfl
@[simp] theorem odSetN_emit (s : State) (ix : Nat) (sub : Nat) (n : Nat) : (odSetN s ix sub n).emit = s.emit := rfl
@[simp] theorem odSetN_weir (s : State) (ix : Nat) (sub : Nat) (n : Nat) : (odSetN s ix sub n).weir = s.weir := rfl
@[simp] theorem odSetN_isl (s : State) (ix : Nat) (sub : Nat) (n : Nat) : (odSetN s ix sub n).isl = s.isl := rfl
@[simp] theorem odSetN_fm (s : State) (ix : Nat) (sub : Nat) (n : Nat) : (odSetN s ix sub n).fm = s.fm := rfl
@[simp] theorem odSetN_rx (s : State) (ix : Nat) (sub : Nat) (n : Nat) : (odSetN s ix sub n).rx = s.rx := rfl
@[simp] theorem odSetN_plan (s : State) (ix : Nat) (sub : Nat) (n : Nat) : (odSetN s ix sub n).plan = s.plan := rfl
@[simp] theorem odSetN_servo (s : State) (ix : Nat) (sub : Nat) (n : Nat) : (odSetN s ix sub n).servo = s.servo := rfl
@[simp] theorem odSetN_cams (s : State) (ix : Nat) (sub : Nat) (n : Nat) : (odSetN s ix sub n).cams = s.cams := rfl
@[simp] theorem odSetN_fsync (s : State) (ix : Nat) (sub : Nat) (n : Nat) : (odSetN s ix sub n).fsync = s.fsync := rfl
@[simp] theorem odSetN_points (s : State) (ix : Nat) (sub : Nat) (n : Nat) : (odSetN s ix sub n).points = s.points := rfl
@[simp] theorem odSetN_acq (s : State) (ix : Nat) (sub : Nat) (n : Nat) : (odSetN s ix sub n).acq = s.acq := rfl
@[simp] theorem odSetN_qdr (s : State) (ix : Nat) (sub : Nat) (n : Nat) : (odSetN s ix sub n).qdr = s.qdr := rfl
@[simp] theorem odSetN_lane (s : State) (ix : Nat) (sub : Nat) (n : Nat) : (odSetN s ix sub n).lane = s.lane := rfl
@[simp] theorem odSetN_hk (s : State) (ix : Nat) (sub : Nat) (n : Nat) : (odSetN s ix sub n).hk = s.hk := rfl
@[simp] theorem odSetN_free (s : State) (ix : Nat) (sub : Nat) (n : Nat) : (odSetN s ix sub n).free = s.free := rfl
@[simp] theorem odSetN_out (s : State) (ix : Nat) (sub : Nat) (n : Nat) : (odSetN s ix sub n).out = s.out := rfl
@[simp] theorem odSetN_pending (s : State) (ix : Nat) (sub : Nat) (n : Nat) : (odSetN s ix sub n).pending = s.pending := rfl

@[simp] theorem odSetI_fuses (s : State) (ix : Nat) (sub : Nat) (n : Int) : (odSetI s ix sub n).fuses = s.fuses := rfl
@[simp] theorem odSetI_tick (s : State) (ix : Nat) (sub : Nat) (n : Int) : (odSetI s ix sub n).tick = s.tick := rfl
@[simp] theorem odSetI_host (s : State) (ix : Nat) (sub : Nat) (n : Int) : (odSetI s ix sub n).host = s.host := rfl
@[simp] theorem odSetI_odx (s : State) (ix : Nat) (sub : Nat) (n : Int) : (odSetI s ix sub n).odx = s.odx := rfl
@[simp] theorem odSetI_net (s : State) (ix : Nat) (sub : Nat) (n : Int) : (odSetI s ix sub n).net = s.net := rfl
@[simp] theorem odSetI_time (s : State) (ix : Nat) (sub : Nat) (n : Int) : (odSetI s ix sub n).time = s.time := rfl
@[simp] theorem odSetI_pwr (s : State) (ix : Nat) (sub : Nat) (n : Int) : (odSetI s ix sub n).pwr = s.pwr := rfl
@[simp] theorem odSetI_boot (s : State) (ix : Nat) (sub : Nat) (n : Int) : (odSetI s ix sub n).boot = s.boot := rfl
@[simp] theorem odSetI_emit (s : State) (ix : Nat) (sub : Nat) (n : Int) : (odSetI s ix sub n).emit = s.emit := rfl
@[simp] theorem odSetI_weir (s : State) (ix : Nat) (sub : Nat) (n : Int) : (odSetI s ix sub n).weir = s.weir := rfl
@[simp] theorem odSetI_isl (s : State) (ix : Nat) (sub : Nat) (n : Int) : (odSetI s ix sub n).isl = s.isl := rfl
@[simp] theorem odSetI_fm (s : State) (ix : Nat) (sub : Nat) (n : Int) : (odSetI s ix sub n).fm = s.fm := rfl
@[simp] theorem odSetI_rx (s : State) (ix : Nat) (sub : Nat) (n : Int) : (odSetI s ix sub n).rx = s.rx := rfl
@[simp] theorem odSetI_plan (s : State) (ix : Nat) (sub : Nat) (n : Int) : (odSetI s ix sub n).plan = s.plan := rfl
@[simp] theorem odSetI_servo (s : State) (ix : Nat) (sub : Nat) (n : Int) : (odSetI s ix sub n).servo = s.servo := rfl
@[simp] theorem odSetI_cams (s : State) (ix : Nat) (sub : Nat) (n : Int) : (odSetI s ix sub n).cams = s.cams := rfl
@[simp] theorem odSetI_fsync (s : State) (ix : Nat) (sub : Nat) (n : Int) : (odSetI s ix sub n).fsync = s.fsync := rfl
@[simp] theorem odSetI_points (s : State) (ix : Nat) (sub : Nat) (n : Int) : (odSetI s ix sub n).points = s.points := rfl
@[simp] theorem odSetI_acq (s : State) (ix : Nat) (sub : Nat) (n : Int) : (odSetI s ix sub n).acq = s.acq := rfl
@[simp] theorem odSetI_qdr (s : State) (ix : Nat) (sub : Nat) (n : Int) : (odSetI s ix sub n).qdr = s.qdr := rfl
@[simp] theorem odSetI_lane (s : State) (ix : Nat) (sub : Nat) (n : Int) : (odSetI s ix sub n).lane = s.lane := rfl
@[simp] theorem odSetI_hk (s : State) (ix : Nat) (sub : Nat) (n : Int) : (odSetI s ix sub n).hk = s.hk := rfl
@[simp] theorem odSetI_free (s : State) (ix : Nat) (sub : Nat) (n : Int) : (odSetI s ix sub n).free = s.free := rfl
@[simp] theorem odSetI_out (s : State) (ix : Nat) (sub : Nat) (n : Int) : (odSetI s ix sub n).out = s.out := rfl
@[simp] theorem odSetI_pending (s : State) (ix : Nat) (sub : Nat) (n : Int) : (odSetI s ix sub n).pending = s.pending := rfl

@[simp] theorem bumpBy_fuses (s : State) (ix : Nat) (sub : Nat) (k : Nat) : (bumpBy s ix sub k).fuses = s.fuses := rfl
@[simp] theorem bumpBy_tick (s : State) (ix : Nat) (sub : Nat) (k : Nat) : (bumpBy s ix sub k).tick = s.tick := rfl
@[simp] theorem bumpBy_host (s : State) (ix : Nat) (sub : Nat) (k : Nat) : (bumpBy s ix sub k).host = s.host := rfl
@[simp] theorem bumpBy_odx (s : State) (ix : Nat) (sub : Nat) (k : Nat) : (bumpBy s ix sub k).odx = s.odx := rfl
@[simp] theorem bumpBy_net (s : State) (ix : Nat) (sub : Nat) (k : Nat) : (bumpBy s ix sub k).net = s.net := rfl
@[simp] theorem bumpBy_time (s : State) (ix : Nat) (sub : Nat) (k : Nat) : (bumpBy s ix sub k).time = s.time := rfl
@[simp] theorem bumpBy_pwr (s : State) (ix : Nat) (sub : Nat) (k : Nat) : (bumpBy s ix sub k).pwr = s.pwr := rfl
@[simp] theorem bumpBy_boot (s : State) (ix : Nat) (sub : Nat) (k : Nat) : (bumpBy s ix sub k).boot = s.boot := rfl
@[simp] theorem bumpBy_emit (s : State) (ix : Nat) (sub : Nat) (k : Nat) : (bumpBy s ix sub k).emit = s.emit := rfl
@[simp] theorem bumpBy_weir (s : State) (ix : Nat) (sub : Nat) (k : Nat) : (bumpBy s ix sub k).weir = s.weir := rfl
@[simp] theorem bumpBy_isl (s : State) (ix : Nat) (sub : Nat) (k : Nat) : (bumpBy s ix sub k).isl = s.isl := rfl
@[simp] theorem bumpBy_fm (s : State) (ix : Nat) (sub : Nat) (k : Nat) : (bumpBy s ix sub k).fm = s.fm := rfl
@[simp] theorem bumpBy_rx (s : State) (ix : Nat) (sub : Nat) (k : Nat) : (bumpBy s ix sub k).rx = s.rx := rfl
@[simp] theorem bumpBy_plan (s : State) (ix : Nat) (sub : Nat) (k : Nat) : (bumpBy s ix sub k).plan = s.plan := rfl
@[simp] theorem bumpBy_servo (s : State) (ix : Nat) (sub : Nat) (k : Nat) : (bumpBy s ix sub k).servo = s.servo := rfl
@[simp] theorem bumpBy_cams (s : State) (ix : Nat) (sub : Nat) (k : Nat) : (bumpBy s ix sub k).cams = s.cams := rfl
@[simp] theorem bumpBy_fsync (s : State) (ix : Nat) (sub : Nat) (k : Nat) : (bumpBy s ix sub k).fsync = s.fsync := rfl
@[simp] theorem bumpBy_points (s : State) (ix : Nat) (sub : Nat) (k : Nat) : (bumpBy s ix sub k).points = s.points := rfl
@[simp] theorem bumpBy_acq (s : State) (ix : Nat) (sub : Nat) (k : Nat) : (bumpBy s ix sub k).acq = s.acq := rfl
@[simp] theorem bumpBy_qdr (s : State) (ix : Nat) (sub : Nat) (k : Nat) : (bumpBy s ix sub k).qdr = s.qdr := rfl
@[simp] theorem bumpBy_lane (s : State) (ix : Nat) (sub : Nat) (k : Nat) : (bumpBy s ix sub k).lane = s.lane := rfl
@[simp] theorem bumpBy_hk (s : State) (ix : Nat) (sub : Nat) (k : Nat) : (bumpBy s ix sub k).hk = s.hk := rfl
@[simp] theorem bumpBy_free (s : State) (ix : Nat) (sub : Nat) (k : Nat) : (bumpBy s ix sub k).free = s.free := rfl
@[simp] theorem bumpBy_out (s : State) (ix : Nat) (sub : Nat) (k : Nat) : (bumpBy s ix sub k).out = s.out := rfl
@[simp] theorem bumpBy_pending (s : State) (ix : Nat) (sub : Nat) (k : Nat) : (bumpBy s ix sub k).pending = s.pending := rfl

@[simp] theorem bump_fuses (s : State) (ix : Nat) (sub : Nat) : (bump s ix sub).fuses = s.fuses := rfl
@[simp] theorem bump_tick (s : State) (ix : Nat) (sub : Nat) : (bump s ix sub).tick = s.tick := rfl
@[simp] theorem bump_host (s : State) (ix : Nat) (sub : Nat) : (bump s ix sub).host = s.host := rfl
@[simp] theorem bump_odx (s : State) (ix : Nat) (sub : Nat) : (bump s ix sub).odx = s.odx := rfl
@[simp] theorem bump_net (s : State) (ix : Nat) (sub : Nat) : (bump s ix sub).net = s.net := rfl
@[simp] theorem bump_time (s : State) (ix : Nat) (sub : Nat) : (bump s ix sub).time = s.time := rfl
@[simp] theorem bump_pwr (s : State) (ix : Nat) (sub : Nat) : (bump s ix sub).pwr = s.pwr := rfl
@[simp] theorem bump_boot (s : State) (ix : Nat) (sub : Nat) : (bump s ix sub).boot = s.boot := rfl
@[simp] theorem bump_emit (s : State) (ix : Nat) (sub : Nat) : (bump s ix sub).emit = s.emit := rfl
@[simp] theorem bump_weir (s : State) (ix : Nat) (sub : Nat) : (bump s ix sub).weir = s.weir := rfl
@[simp] theorem bump_isl (s : State) (ix : Nat) (sub : Nat) : (bump s ix sub).isl = s.isl := rfl
@[simp] theorem bump_fm (s : State) (ix : Nat) (sub : Nat) : (bump s ix sub).fm = s.fm := rfl
@[simp] theorem bump_rx (s : State) (ix : Nat) (sub : Nat) : (bump s ix sub).rx = s.rx := rfl
@[simp] theorem bump_plan (s : State) (ix : Nat) (sub : Nat) : (bump s ix sub).plan = s.plan := rfl
@[simp] theorem bump_servo (s : State) (ix : Nat) (sub : Nat) : (bump s ix sub).servo = s.servo := rfl
@[simp] theorem bump_cams (s : State) (ix : Nat) (sub : Nat) : (bump s ix sub).cams = s.cams := rfl
@[simp] theorem bump_fsync (s : State) (ix : Nat) (sub : Nat) : (bump s ix sub).fsync = s.fsync := rfl
@[simp] theorem bump_points (s : State) (ix : Nat) (sub : Nat) : (bump s ix sub).points = s.points := rfl
@[simp] theorem bump_acq (s : State) (ix : Nat) (sub : Nat) : (bump s ix sub).acq = s.acq := rfl
@[simp] theorem bump_qdr (s : State) (ix : Nat) (sub : Nat) : (bump s ix sub).qdr = s.qdr := rfl
@[simp] theorem bump_lane (s : State) (ix : Nat) (sub : Nat) : (bump s ix sub).lane = s.lane := rfl
@[simp] theorem bump_hk (s : State) (ix : Nat) (sub : Nat) : (bump s ix sub).hk = s.hk := rfl
@[simp] theorem bump_free (s : State) (ix : Nat) (sub : Nat) : (bump s ix sub).free = s.free := rfl
@[simp] theorem bump_out (s : State) (ix : Nat) (sub : Nat) : (bump s ix sub).out = s.out := rfl
@[simp] theorem bump_pending (s : State) (ix : Nat) (sub : Nat) : (bump s ix sub).pending = s.pending := rfl

@[simp] theorem bumpChan_fuses (s : State) (b : Nat) (c : Nat) (k : Nat) : (bumpChan s b c k).fuses = s.fuses := rfl
@[simp] theorem bumpChan_tick (s : State) (b : Nat) (c : Nat) (k : Nat) : (bumpChan s b c k).tick = s.tick := rfl
@[simp] theorem bumpChan_host (s : State) (b : Nat) (c : Nat) (k : Nat) : (bumpChan s b c k).host = s.host := rfl
@[simp] theorem bumpChan_odx (s : State) (b : Nat) (c : Nat) (k : Nat) : (bumpChan s b c k).odx = s.odx := rfl
@[simp] theorem bumpChan_net (s : State) (b : Nat) (c : Nat) (k : Nat) : (bumpChan s b c k).net = s.net := rfl
@[simp] theorem bumpChan_time (s : State) (b : Nat) (c : Nat) (k : Nat) : (bumpChan s b c k).time = s.time := rfl
@[simp] theorem bumpChan_pwr (s : State) (b : Nat) (c : Nat) (k : Nat) : (bumpChan s b c k).pwr = s.pwr := rfl
@[simp] theorem bumpChan_boot (s : State) (b : Nat) (c : Nat) (k : Nat) : (bumpChan s b c k).boot = s.boot := rfl
@[simp] theorem bumpChan_emit (s : State) (b : Nat) (c : Nat) (k : Nat) : (bumpChan s b c k).emit = s.emit := rfl
@[simp] theorem bumpChan_weir (s : State) (b : Nat) (c : Nat) (k : Nat) : (bumpChan s b c k).weir = s.weir := rfl
@[simp] theorem bumpChan_isl (s : State) (b : Nat) (c : Nat) (k : Nat) : (bumpChan s b c k).isl = s.isl := rfl
@[simp] theorem bumpChan_fm (s : State) (b : Nat) (c : Nat) (k : Nat) : (bumpChan s b c k).fm = s.fm := rfl
@[simp] theorem bumpChan_rx (s : State) (b : Nat) (c : Nat) (k : Nat) : (bumpChan s b c k).rx = s.rx := rfl
@[simp] theorem bumpChan_plan (s : State) (b : Nat) (c : Nat) (k : Nat) : (bumpChan s b c k).plan = s.plan := rfl
@[simp] theorem bumpChan_servo (s : State) (b : Nat) (c : Nat) (k : Nat) : (bumpChan s b c k).servo = s.servo := rfl
@[simp] theorem bumpChan_cams (s : State) (b : Nat) (c : Nat) (k : Nat) : (bumpChan s b c k).cams = s.cams := rfl
@[simp] theorem bumpChan_fsync (s : State) (b : Nat) (c : Nat) (k : Nat) : (bumpChan s b c k).fsync = s.fsync := rfl
@[simp] theorem bumpChan_points (s : State) (b : Nat) (c : Nat) (k : Nat) : (bumpChan s b c k).points = s.points := rfl
@[simp] theorem bumpChan_acq (s : State) (b : Nat) (c : Nat) (k : Nat) : (bumpChan s b c k).acq = s.acq := rfl
@[simp] theorem bumpChan_qdr (s : State) (b : Nat) (c : Nat) (k : Nat) : (bumpChan s b c k).qdr = s.qdr := rfl
@[simp] theorem bumpChan_lane (s : State) (b : Nat) (c : Nat) (k : Nat) : (bumpChan s b c k).lane = s.lane := rfl
@[simp] theorem bumpChan_hk (s : State) (b : Nat) (c : Nat) (k : Nat) : (bumpChan s b c k).hk = s.hk := rfl
@[simp] theorem bumpChan_free (s : State) (b : Nat) (c : Nat) (k : Nat) : (bumpChan s b c k).free = s.free := rfl
@[simp] theorem bumpChan_out (s : State) (b : Nat) (c : Nat) (k : Nat) : (bumpChan s b c k).out = s.out := rfl
@[simp] theorem bumpChan_pending (s : State) (b : Nat) (c : Nat) (k : Nat) : (bumpChan s b c k).pending = s.pending := rfl

@[simp] theorem setInt_fuses (s : State) (b : Nat) : (setInt s b).fuses = s.fuses := (setInt_only ..).same .fuses rfl
@[simp] theorem setInt_tick (s : State) (b : Nat) : (setInt s b).tick = s.tick := (setInt_only ..).same .tick rfl
@[simp] theorem setInt_net (s : State) (b : Nat) : (setInt s b).net = s.net := (setInt_only ..).same .net rfl
@[simp] theorem setInt_time (s : State) (b : Nat) : (setInt s b).time = s.time := (setInt_only ..).same .time rfl
@[simp] theorem setInt_pwr (s : State) (b : Nat) : (setInt s b).pwr = s.pwr := (setInt_only ..).same .pwr rfl
@[simp] theorem setInt_boot (s : State) (b : Nat) : (setInt s b).boot = s.boot := (setInt_only ..).same .boot rfl
@[simp] theorem setInt_emit (s : State) (b : Nat) : (setInt s b).emit = s.emit := (setInt_only ..).same .emit rfl
@[simp] theorem setInt_weir (s : State) (b : Nat) : (setInt s b).weir = s.weir := (setInt_only ..).same .weir rfl
@[simp] theorem setInt_isl (s : State) (b : Nat) : (setInt s b).isl = s.isl := (setInt_only ..).same .isl rfl
@[simp] theorem setInt_fm (s : State) (b : Nat) : (setInt s b).fm = s.fm := (setInt_only ..).same .fm rfl
@[simp] theorem setInt_rx (s : State) (b : Nat) : (setInt s b).rx = s.rx := (setInt_only ..).same .rx rfl
@[simp] theorem setInt_plan (s : State) (b : Nat) : (setInt s b).plan = s.plan := (setInt_only ..).same .plan rfl
@[simp] theorem setInt_servo (s : State) (b : Nat) : (setInt s b).servo = s.servo := (setInt_only ..).same .servo rfl
@[simp] theorem setInt_cams (s : State) (b : Nat) : (setInt s b).cams = s.cams := (setInt_only ..).same .cams rfl
@[simp] theorem setInt_fsync (s : State) (b : Nat) : (setInt s b).fsync = s.fsync := (setInt_only ..).same .fsync rfl
@[simp] theorem setInt_points (s : State) (b : Nat) : (setInt s b).points = s.points := (setInt_only ..).same .points rfl
@[simp] theorem setInt_acq (s : State) (b : Nat) : (setInt s b).acq = s.acq := (setInt_only ..).same .acq rfl
@[simp] theorem setInt_qdr (s : State) (b : Nat) : (setInt s b).qdr = s.qdr := (setInt_only ..).same .qdr rfl
@[simp] theorem setInt_lane (s : State) (b : Nat) : (setInt s b).lane = s.lane := (setInt_only ..).same .lane rfl
@[simp] theorem setInt_hk (s : State) (b : Nat) : (setInt s b).hk = s.hk := (setInt_only ..).same .hk rfl
@[simp] theorem setInt_free (s : State) (b : Nat) : (setInt s b).free = s.free := (setInt_only ..).same .free rfl
@[simp] theorem setInt_pending (s : State) (b : Nat) : (setInt s b).pending = s.pending := (setInt_only ..).same .pending rfl
@[simp] theorem setInt_od (s : State) (b : Nat) : (setInt s b).od = s.od := (setInt_only ..).store rfl
@[simp] theorem setInt_odx (s : State) (b : Nat) : (setInt s b).odx = s.odx := by
  have a := (setInt_only s b).same .sessions rfl
  have b := (setInt_only s b).same .odx rfl
  simp only [Part.same] at a b
  rw [b, a.1, a.2.1, a.2.2]

@[simp] theorem setRingInt_fuses (s : State) (r : Nat) : (setRingInt s r).fuses = s.fuses := (setRingInt_only ..).same .fuses rfl
@[simp] theorem setRingInt_tick (s : State) (r : Nat) : (setRingInt s r).tick = s.tick := (setRingInt_only ..).same .tick rfl
@[simp] theorem setRingInt_net (s : State) (r : Nat) : (setRingInt s r).net = s.net := (setRingInt_only ..).same .net rfl
@[simp] theorem setRingInt_time (s : State) (r : Nat) : (setRingInt s r).time = s.time := (setRingInt_only ..).same .time rfl
@[simp] theorem setRingInt_pwr (s : State) (r : Nat) : (setRingInt s r).pwr = s.pwr := (setRingInt_only ..).same .pwr rfl
@[simp] theorem setRingInt_boot (s : State) (r : Nat) : (setRingInt s r).boot = s.boot := (setRingInt_only ..).same .boot rfl
@[simp] theorem setRingInt_emit (s : State) (r : Nat) : (setRingInt s r).emit = s.emit := (setRingInt_only ..).same .emit rfl
@[simp] theorem setRingInt_weir (s : State) (r : Nat) : (setRingInt s r).weir = s.weir := (setRingInt_only ..).same .weir rfl
@[simp] theorem setRingInt_isl (s : State) (r : Nat) : (setRingInt s r).isl = s.isl := (setRingInt_only ..).same .isl rfl
@[simp] theorem setRingInt_fm (s : State) (r : Nat) : (setRingInt s r).fm = s.fm := (setRingInt_only ..).same .fm rfl
@[simp] theorem setRingInt_rx (s : State) (r : Nat) : (setRingInt s r).rx = s.rx := (setRingInt_only ..).same .rx rfl
@[simp] theorem setRingInt_plan (s : State) (r : Nat) : (setRingInt s r).plan = s.plan := (setRingInt_only ..).same .plan rfl
@[simp] theorem setRingInt_servo (s : State) (r : Nat) : (setRingInt s r).servo = s.servo := (setRingInt_only ..).same .servo rfl
@[simp] theorem setRingInt_cams (s : State) (r : Nat) : (setRingInt s r).cams = s.cams := (setRingInt_only ..).same .cams rfl
@[simp] theorem setRingInt_fsync (s : State) (r : Nat) : (setRingInt s r).fsync = s.fsync := (setRingInt_only ..).same .fsync rfl
@[simp] theorem setRingInt_points (s : State) (r : Nat) : (setRingInt s r).points = s.points := (setRingInt_only ..).same .points rfl
@[simp] theorem setRingInt_acq (s : State) (r : Nat) : (setRingInt s r).acq = s.acq := (setRingInt_only ..).same .acq rfl
@[simp] theorem setRingInt_qdr (s : State) (r : Nat) : (setRingInt s r).qdr = s.qdr := (setRingInt_only ..).same .qdr rfl
@[simp] theorem setRingInt_lane (s : State) (r : Nat) : (setRingInt s r).lane = s.lane := (setRingInt_only ..).same .lane rfl
@[simp] theorem setRingInt_hk (s : State) (r : Nat) : (setRingInt s r).hk = s.hk := (setRingInt_only ..).same .hk rfl
@[simp] theorem setRingInt_free (s : State) (r : Nat) : (setRingInt s r).free = s.free := (setRingInt_only ..).same .free rfl
@[simp] theorem setRingInt_pending (s : State) (r : Nat) : (setRingInt s r).pending = s.pending := (setRingInt_only ..).same .pending rfl
@[simp] theorem setRingInt_od (s : State) (r : Nat) : (setRingInt s r).od = s.od := (setRingInt_only ..).store rfl
@[simp] theorem setRingInt_odx (s : State) (r : Nat) : (setRingInt s r).odx = s.odx := by
  have a := (setRingInt_only s r).same .sessions rfl
  have b := (setRingInt_only s r).same .odx rfl
  simp only [Part.same] at a b
  rw [b, a.1, a.2.1, a.2.2]

@[simp] theorem logAccess_fuses (s : State) (addr : Nat) (client : Nat) (type : Nat) (write : Bool) : (logAccess s addr client type write).fuses = s.fuses := (logAccess_only ..).same .fuses rfl
@[simp] theorem logAccess_tick (s : State) (addr : Nat) (client : Nat) (type : Nat) (write : Bool) : (logAccess s addr client type write).tick = s.tick := (logAccess_only ..).same .tick rfl
@[simp] theorem logAccess_net (s : State) (addr : Nat) (client : Nat) (type : Nat) (write : Bool) : (logAccess s addr client type write).net = s.net := (logAccess_only ..).same .net rfl
@[simp] theorem logAccess_time (s : State) (addr : Nat) (client : Nat) (type : Nat) (write : Bool) : (logAccess s addr client type write).time = s.time := (logAccess_only ..).same .time rfl
@[simp] theorem logAccess_pwr (s : State) (addr : Nat) (client : Nat) (type : Nat) (write : Bool) : (logAccess s addr client type write).pwr = s.pwr := (logAccess_only ..).same .pwr rfl
@[simp] theorem logAccess_boot (s : State) (addr : Nat) (client : Nat) (type : Nat) (write : Bool) : (logAccess s addr client type write).boot = s.boot := (logAccess_only ..).same .boot rfl
@[simp] theorem logAccess_emit (s : State) (addr : Nat) (client : Nat) (type : Nat) (write : Bool) : (logAccess s addr client type write).emit = s.emit := (logAccess_only ..).same .emit rfl
@[simp] theorem logAccess_weir (s : State) (addr : Nat) (client : Nat) (type : Nat) (write : Bool) : (logAccess s addr client type write).weir = s.weir := (logAccess_only ..).same .weir rfl
@[simp] theorem logAccess_isl (s : State) (addr : Nat) (client : Nat) (type : Nat) (write : Bool) : (logAccess s addr client type write).isl = s.isl := (logAccess_only ..).same .isl rfl
@[simp] theorem logAccess_fm (s : State) (addr : Nat) (client : Nat) (type : Nat) (write : Bool) : (logAccess s addr client type write).fm = s.fm := (logAccess_only ..).same .fm rfl
@[simp] theorem logAccess_rx (s : State) (addr : Nat) (client : Nat) (type : Nat) (write : Bool) : (logAccess s addr client type write).rx = s.rx := (logAccess_only ..).same .rx rfl
@[simp] theorem logAccess_plan (s : State) (addr : Nat) (client : Nat) (type : Nat) (write : Bool) : (logAccess s addr client type write).plan = s.plan := (logAccess_only ..).same .plan rfl
@[simp] theorem logAccess_servo (s : State) (addr : Nat) (client : Nat) (type : Nat) (write : Bool) : (logAccess s addr client type write).servo = s.servo := (logAccess_only ..).same .servo rfl
@[simp] theorem logAccess_cams (s : State) (addr : Nat) (client : Nat) (type : Nat) (write : Bool) : (logAccess s addr client type write).cams = s.cams := (logAccess_only ..).same .cams rfl
@[simp] theorem logAccess_fsync (s : State) (addr : Nat) (client : Nat) (type : Nat) (write : Bool) : (logAccess s addr client type write).fsync = s.fsync := (logAccess_only ..).same .fsync rfl
@[simp] theorem logAccess_points (s : State) (addr : Nat) (client : Nat) (type : Nat) (write : Bool) : (logAccess s addr client type write).points = s.points := (logAccess_only ..).same .points rfl
@[simp] theorem logAccess_acq (s : State) (addr : Nat) (client : Nat) (type : Nat) (write : Bool) : (logAccess s addr client type write).acq = s.acq := (logAccess_only ..).same .acq rfl
@[simp] theorem logAccess_qdr (s : State) (addr : Nat) (client : Nat) (type : Nat) (write : Bool) : (logAccess s addr client type write).qdr = s.qdr := (logAccess_only ..).same .qdr rfl
@[simp] theorem logAccess_lane (s : State) (addr : Nat) (client : Nat) (type : Nat) (write : Bool) : (logAccess s addr client type write).lane = s.lane := (logAccess_only ..).same .lane rfl
@[simp] theorem logAccess_hk (s : State) (addr : Nat) (client : Nat) (type : Nat) (write : Bool) : (logAccess s addr client type write).hk = s.hk := (logAccess_only ..).same .hk rfl
@[simp] theorem logAccess_free (s : State) (addr : Nat) (client : Nat) (type : Nat) (write : Bool) : (logAccess s addr client type write).free = s.free := (logAccess_only ..).same .free rfl
@[simp] theorem logAccess_pending (s : State) (addr : Nat) (client : Nat) (type : Nat) (write : Bool) : (logAccess s addr client type write).pending = s.pending := (logAccess_only ..).same .pending rfl
@[simp] theorem logAccess_od (s : State) (addr : Nat) (client : Nat) (type : Nat) (write : Bool) : (logAccess s addr client type write).od = s.od := (logAccess_only ..).store rfl
@[simp] theorem logAccess_odx (s : State) (addr : Nat) (client : Nat) (type : Nat) (write : Bool) : (logAccess s addr client type write).odx = s.odx := by
  have a := (logAccess_only s addr client type write).same .sessions rfl
  have b := (logAccess_only s addr client type write).same .odx rfl
  simp only [Part.same] at a b
  rw [b, a.1, a.2.1, a.2.2]

@[simp] theorem taken_fuses (s : State) (r : Req) : (taken s r).fuses = s.fuses := by unfold taken netTurn; split <;> rfl
@[simp] theorem taken_tick (s : State) (r : Req) : (taken s r).tick = s.tick := by unfold taken netTurn; split <;> rfl
@[simp] theorem taken_host (s : State) (r : Req) : (taken s r).host = s.host := by unfold taken netTurn; split <;> rfl
@[simp] theorem taken_net (s : State) (r : Req) : (taken s r).net = s.net := by unfold taken netTurn; split <;> rfl
@[simp] theorem taken_time (s : State) (r : Req) : (taken s r).time = s.time := by unfold taken netTurn; split <;> rfl
@[simp] theorem taken_pwr (s : State) (r : Req) : (taken s r).pwr = s.pwr := by unfold taken netTurn; split <;> rfl
@[simp] theorem taken_boot (s : State) (r : Req) : (taken s r).boot = s.boot := by unfold taken netTurn; split <;> rfl
@[simp] theorem taken_emit (s : State) (r : Req) : (taken s r).emit = s.emit := by unfold taken netTurn; split <;> rfl
@[simp] theorem taken_weir (s : State) (r : Req) : (taken s r).weir = s.weir := by unfold taken netTurn; split <;> rfl
@[simp] theorem taken_isl (s : State) (r : Req) : (taken s r).isl = s.isl := by unfold taken netTurn; split <;> rfl
@[simp] theorem taken_fm (s : State) (r : Req) : (taken s r).fm = s.fm := by unfold taken netTurn; split <;> rfl
@[simp] theorem taken_rx (s : State) (r : Req) : (taken s r).rx = s.rx := by unfold taken netTurn; split <;> rfl
@[simp] theorem taken_plan (s : State) (r : Req) : (taken s r).plan = s.plan := by unfold taken netTurn; split <;> rfl
@[simp] theorem taken_servo (s : State) (r : Req) : (taken s r).servo = s.servo := by unfold taken netTurn; split <;> rfl
@[simp] theorem taken_cams (s : State) (r : Req) : (taken s r).cams = s.cams := by unfold taken netTurn; split <;> rfl
@[simp] theorem taken_fsync (s : State) (r : Req) : (taken s r).fsync = s.fsync := by unfold taken netTurn; split <;> rfl
@[simp] theorem taken_points (s : State) (r : Req) : (taken s r).points = s.points := by unfold taken netTurn; split <;> rfl
@[simp] theorem taken_acq (s : State) (r : Req) : (taken s r).acq = s.acq := by unfold taken netTurn; split <;> rfl
@[simp] theorem taken_qdr (s : State) (r : Req) : (taken s r).qdr = s.qdr := by unfold taken netTurn; split <;> rfl
@[simp] theorem taken_lane (s : State) (r : Req) : (taken s r).lane = s.lane := by unfold taken netTurn; split <;> rfl
@[simp] theorem taken_hk (s : State) (r : Req) : (taken s r).hk = s.hk := by unfold taken netTurn; split <;> rfl
@[simp] theorem taken_free (s : State) (r : Req) : (taken s r).free = s.free := by unfold taken netTurn; split <;> rfl
@[simp] theorem taken_out (s : State) (r : Req) : (taken s r).out = s.out := by unfold taken netTurn; split <;> rfl
@[simp] theorem taken_pending (s : State) (r : Req) : (taken s r).pending = s.pending := by unfold taken netTurn; split <;> rfl
@[simp] theorem taken_od (s : State) (r : Req) : (taken s r).od = s.od := by unfold taken netTurn; split <;> rfl

@[simp] theorem respond_fuses (s : State) (r : Req) (cmd : Nat) (ix : Nat) (sub : Nat) (bs : Bytes) : (respond s r cmd ix sub bs).fuses = s.fuses := (respond_only ..).same .fuses rfl
@[simp] theorem respond_tick (s : State) (r : Req) (cmd : Nat) (ix : Nat) (sub : Nat) (bs : Bytes) : (respond s r cmd ix sub bs).tick = s.tick := (respond_only ..).same .tick rfl
@[simp] theorem respond_net (s : State) (r : Req) (cmd : Nat) (ix : Nat) (sub : Nat) (bs : Bytes) : (respond s r cmd ix sub bs).net = s.net := (respond_only ..).same .net rfl
@[simp] theorem respond_time (s : State) (r : Req) (cmd : Nat) (ix : Nat) (sub : Nat) (bs : Bytes) : (respond s r cmd ix sub bs).time = s.time := (respond_only ..).same .time rfl
@[simp] theorem respond_pwr (s : State) (r : Req) (cmd : Nat) (ix : Nat) (sub : Nat) (bs : Bytes) : (respond s r cmd ix sub bs).pwr = s.pwr := (respond_only ..).same .pwr rfl
@[simp] theorem respond_boot (s : State) (r : Req) (cmd : Nat) (ix : Nat) (sub : Nat) (bs : Bytes) : (respond s r cmd ix sub bs).boot = s.boot := (respond_only ..).same .boot rfl
@[simp] theorem respond_emit (s : State) (r : Req) (cmd : Nat) (ix : Nat) (sub : Nat) (bs : Bytes) : (respond s r cmd ix sub bs).emit = s.emit := (respond_only ..).same .emit rfl
@[simp] theorem respond_weir (s : State) (r : Req) (cmd : Nat) (ix : Nat) (sub : Nat) (bs : Bytes) : (respond s r cmd ix sub bs).weir = s.weir := (respond_only ..).same .weir rfl
@[simp] theorem respond_isl (s : State) (r : Req) (cmd : Nat) (ix : Nat) (sub : Nat) (bs : Bytes) : (respond s r cmd ix sub bs).isl = s.isl := (respond_only ..).same .isl rfl
@[simp] theorem respond_fm (s : State) (r : Req) (cmd : Nat) (ix : Nat) (sub : Nat) (bs : Bytes) : (respond s r cmd ix sub bs).fm = s.fm := (respond_only ..).same .fm rfl
@[simp] theorem respond_rx (s : State) (r : Req) (cmd : Nat) (ix : Nat) (sub : Nat) (bs : Bytes) : (respond s r cmd ix sub bs).rx = s.rx := (respond_only ..).same .rx rfl
@[simp] theorem respond_plan (s : State) (r : Req) (cmd : Nat) (ix : Nat) (sub : Nat) (bs : Bytes) : (respond s r cmd ix sub bs).plan = s.plan := (respond_only ..).same .plan rfl
@[simp] theorem respond_servo (s : State) (r : Req) (cmd : Nat) (ix : Nat) (sub : Nat) (bs : Bytes) : (respond s r cmd ix sub bs).servo = s.servo := (respond_only ..).same .servo rfl
@[simp] theorem respond_cams (s : State) (r : Req) (cmd : Nat) (ix : Nat) (sub : Nat) (bs : Bytes) : (respond s r cmd ix sub bs).cams = s.cams := (respond_only ..).same .cams rfl
@[simp] theorem respond_fsync (s : State) (r : Req) (cmd : Nat) (ix : Nat) (sub : Nat) (bs : Bytes) : (respond s r cmd ix sub bs).fsync = s.fsync := (respond_only ..).same .fsync rfl
@[simp] theorem respond_points (s : State) (r : Req) (cmd : Nat) (ix : Nat) (sub : Nat) (bs : Bytes) : (respond s r cmd ix sub bs).points = s.points := (respond_only ..).same .points rfl
@[simp] theorem respond_acq (s : State) (r : Req) (cmd : Nat) (ix : Nat) (sub : Nat) (bs : Bytes) : (respond s r cmd ix sub bs).acq = s.acq := (respond_only ..).same .acq rfl
@[simp] theorem respond_qdr (s : State) (r : Req) (cmd : Nat) (ix : Nat) (sub : Nat) (bs : Bytes) : (respond s r cmd ix sub bs).qdr = s.qdr := (respond_only ..).same .qdr rfl
@[simp] theorem respond_lane (s : State) (r : Req) (cmd : Nat) (ix : Nat) (sub : Nat) (bs : Bytes) : (respond s r cmd ix sub bs).lane = s.lane := (respond_only ..).same .lane rfl
@[simp] theorem respond_hk (s : State) (r : Req) (cmd : Nat) (ix : Nat) (sub : Nat) (bs : Bytes) : (respond s r cmd ix sub bs).hk = s.hk := (respond_only ..).same .hk rfl
@[simp] theorem respond_free (s : State) (r : Req) (cmd : Nat) (ix : Nat) (sub : Nat) (bs : Bytes) : (respond s r cmd ix sub bs).free = s.free := (respond_only ..).same .free rfl
@[simp] theorem respond_pending (s : State) (r : Req) (cmd : Nat) (ix : Nat) (sub : Nat) (bs : Bytes) : (respond s r cmd ix sub bs).pending = s.pending := (respond_only ..).same .pending rfl
@[simp] theorem respond_od (s : State) (r : Req) (cmd : Nat) (ix : Nat) (sub : Nat) (bs : Bytes) : (respond s r cmd ix sub bs).od = s.od := (respond_only ..).store rfl

@[simp] theorem respondAbort_fuses (s : State) (r : Req) (cmd : Nat) (ix : Nat) (sub : Nat) (c : Nat) : (respondAbort s r cmd ix sub c).fuses = s.fuses := (respondAbort_only ..).same .fuses rfl
@[simp] theorem respondAbort_tick (s : State) (r : Req) (cmd : Nat) (ix : Nat) (sub : Nat) (c : Nat) : (respondAbort s r cmd ix sub c).tick = s.tick := (respondAbort_only ..).same .tick rfl
@[simp] theorem respondAbort_net (s : State) (r : Req) (cmd : Nat) (ix : Nat) (sub : Nat) (c : Nat) : (respondAbort s r cmd ix sub c).net = s.net := (respondAbort_only ..).same .net rfl
@[simp] theorem respondAbort_time (s : State) (r : Req) (cmd : Nat) (ix : Nat) (sub : Nat) (c : Nat) : (respondAbort s r cmd ix sub c).time = s.time := (respondAbort_only ..).same .time rfl
@[simp] theorem respondAbort_pwr (s : State) (r : Req) (cmd : Nat) (ix : Nat) (sub : Nat) (c : Nat) : (respondAbort s r cmd ix sub c).pwr = s.pwr := (respondAbort_only ..).same .pwr rfl
@[simp] theorem respondAbort_boot (s : State) (r : Req) (cmd : Nat) (ix : Nat) (sub : Nat) (c : Nat) : (respondAbort s r cmd ix sub c).boot = s.boot := (respondAbort_only ..).same .boot rfl
@[simp] theorem respondAbort_emit (s : State) (r : Req) (cmd : Nat) (ix : Nat) (sub : Nat) (c : Nat) : (respondAbort s r cmd ix sub c).emit = s.emit := (respondAbort_only ..).same .emit rfl
@[simp] theorem respondAbort_weir (s : State) (r : Req) (cmd : Nat) (ix : Nat) (sub : Nat) (c : Nat) : (respondAbort s r cmd ix sub c).weir = s.weir := (respondAbort_only ..).same .weir rfl
@[simp] theorem respondAbort_isl (s : State) (r : Req) (cmd : Nat) (ix : Nat) (sub : Nat) (c : Nat) : (respondAbort s r cmd ix sub c).isl = s.isl := (respondAbort_only ..).same .isl rfl
@[simp] theorem respondAbort_fm (s : State) (r : Req) (cmd : Nat) (ix : Nat) (sub : Nat) (c : Nat) : (respondAbort s r cmd ix sub c).fm = s.fm := (respondAbort_only ..).same .fm rfl
@[simp] theorem respondAbort_rx (s : State) (r : Req) (cmd : Nat) (ix : Nat) (sub : Nat) (c : Nat) : (respondAbort s r cmd ix sub c).rx = s.rx := (respondAbort_only ..).same .rx rfl
@[simp] theorem respondAbort_plan (s : State) (r : Req) (cmd : Nat) (ix : Nat) (sub : Nat) (c : Nat) : (respondAbort s r cmd ix sub c).plan = s.plan := (respondAbort_only ..).same .plan rfl
@[simp] theorem respondAbort_servo (s : State) (r : Req) (cmd : Nat) (ix : Nat) (sub : Nat) (c : Nat) : (respondAbort s r cmd ix sub c).servo = s.servo := (respondAbort_only ..).same .servo rfl
@[simp] theorem respondAbort_cams (s : State) (r : Req) (cmd : Nat) (ix : Nat) (sub : Nat) (c : Nat) : (respondAbort s r cmd ix sub c).cams = s.cams := (respondAbort_only ..).same .cams rfl
@[simp] theorem respondAbort_fsync (s : State) (r : Req) (cmd : Nat) (ix : Nat) (sub : Nat) (c : Nat) : (respondAbort s r cmd ix sub c).fsync = s.fsync := (respondAbort_only ..).same .fsync rfl
@[simp] theorem respondAbort_points (s : State) (r : Req) (cmd : Nat) (ix : Nat) (sub : Nat) (c : Nat) : (respondAbort s r cmd ix sub c).points = s.points := (respondAbort_only ..).same .points rfl
@[simp] theorem respondAbort_acq (s : State) (r : Req) (cmd : Nat) (ix : Nat) (sub : Nat) (c : Nat) : (respondAbort s r cmd ix sub c).acq = s.acq := (respondAbort_only ..).same .acq rfl
@[simp] theorem respondAbort_qdr (s : State) (r : Req) (cmd : Nat) (ix : Nat) (sub : Nat) (c : Nat) : (respondAbort s r cmd ix sub c).qdr = s.qdr := (respondAbort_only ..).same .qdr rfl
@[simp] theorem respondAbort_lane (s : State) (r : Req) (cmd : Nat) (ix : Nat) (sub : Nat) (c : Nat) : (respondAbort s r cmd ix sub c).lane = s.lane := (respondAbort_only ..).same .lane rfl
@[simp] theorem respondAbort_hk (s : State) (r : Req) (cmd : Nat) (ix : Nat) (sub : Nat) (c : Nat) : (respondAbort s r cmd ix sub c).hk = s.hk := (respondAbort_only ..).same .hk rfl
@[simp] theorem respondAbort_free (s : State) (r : Req) (cmd : Nat) (ix : Nat) (sub : Nat) (c : Nat) : (respondAbort s r cmd ix sub c).free = s.free := (respondAbort_only ..).same .free rfl
@[simp] theorem respondAbort_pending (s : State) (r : Req) (cmd : Nat) (ix : Nat) (sub : Nat) (c : Nat) : (respondAbort s r cmd ix sub c).pending = s.pending := (respondAbort_only ..).same .pending rfl
@[simp] theorem respondAbort_od (s : State) (r : Req) (cmd : Nat) (ix : Nat) (sub : Nat) (c : Nat) : (respondAbort s r cmd ix sub c).od = s.od := (respondAbort_only ..).store rfl

@[simp] theorem halt_fuses (s : State) (b : Nat) : (halt s b).fuses = s.fuses := (halt_only ..).same .fuses rfl
@[simp] theorem halt_tick (s : State) (b : Nat) : (halt s b).tick = s.tick := (halt_only ..).same .tick rfl
@[simp] theorem halt_net (s : State) (b : Nat) : (halt s b).net = s.net := (halt_only ..).same .net rfl
@[simp] theorem halt_time (s : State) (b : Nat) : (halt s b).time = s.time := (halt_only ..).same .time rfl
@[simp] theorem halt_boot (s : State) (b : Nat) : (halt s b).boot = s.boot := (halt_only ..).same .boot rfl
@[simp] theorem halt_weir (s : State) (b : Nat) : (halt s b).weir = s.weir := (halt_only ..).same .weir rfl
@[simp] theorem halt_isl (s : State) (b : Nat) : (halt s b).isl = s.isl := (halt_only ..).same .isl rfl
@[simp] theorem halt_fm (s : State) (b : Nat) : (halt s b).fm = s.fm := (halt_only ..).same .fm rfl
@[simp] theorem halt_rx (s : State) (b : Nat) : (halt s b).rx = s.rx := (halt_only ..).same .rx rfl
@[simp] theorem halt_plan (s : State) (b : Nat) : (halt s b).plan = s.plan := (halt_only ..).same .plan rfl
@[simp] theorem halt_servo (s : State) (b : Nat) : (halt s b).servo = s.servo := (halt_only ..).same .servo rfl
@[simp] theorem halt_cams (s : State) (b : Nat) : (halt s b).cams = s.cams := (halt_only ..).same .cams rfl
@[simp] theorem halt_fsync (s : State) (b : Nat) : (halt s b).fsync = s.fsync := (halt_only ..).same .fsync rfl
@[simp] theorem halt_points (s : State) (b : Nat) : (halt s b).points = s.points := (halt_only ..).same .points rfl
@[simp] theorem halt_acq (s : State) (b : Nat) : (halt s b).acq = s.acq := (halt_only ..).same .acq rfl
@[simp] theorem halt_qdr (s : State) (b : Nat) : (halt s b).qdr = s.qdr := (halt_only ..).same .qdr rfl
@[simp] theorem halt_lane (s : State) (b : Nat) : (halt s b).lane = s.lane := (halt_only ..).same .lane rfl
@[simp] theorem halt_hk (s : State) (b : Nat) : (halt s b).hk = s.hk := (halt_only ..).same .hk rfl
@[simp] theorem halt_free (s : State) (b : Nat) : (halt s b).free = s.free := (halt_only ..).same .free rfl
@[simp] theorem halt_pending (s : State) (b : Nat) : (halt s b).pending = s.pending := (halt_only ..).same .pending rfl
@[simp] theorem halt_odx (s : State) (b : Nat) : (halt s b).odx = s.odx := by
  have a := (halt_only s b).same .sessions rfl
  have b := (halt_only s b).same .odx rfl
  simp only [Part.same] at a b
  rw [b, a.1, a.2.1, a.2.2]

@[simp] theorem inhibit_fuses (s : State) (b : Nat) : (inhibit s b).fuses = s.fuses := (inhibit_only ..).same .fuses rfl
@[simp] theorem inhibit_tick (s : State) (b : Nat) : (inhibit s b).tick = s.tick := (inhibit_only ..).same .tick rfl
@[simp] theorem inhibit_net (s : State) (b : Nat) : (inhibit s b).net = s.net := (inhibit_only ..).same .net rfl
@[simp] theorem inhibit_time (s : State) (b : Nat) : (inhibit s b).time = s.time := (inhibit_only ..).same .time rfl
@[simp] theorem inhibit_boot (s : State) (b : Nat) : (inhibit s b).boot = s.boot := (inhibit_only ..).same .boot rfl
@[simp] theorem inhibit_weir (s : State) (b : Nat) : (inhibit s b).weir = s.weir := (inhibit_only ..).same .weir rfl
@[simp] theorem inhibit_isl (s : State) (b : Nat) : (inhibit s b).isl = s.isl := (inhibit_only ..).same .isl rfl
@[simp] theorem inhibit_fm (s : State) (b : Nat) : (inhibit s b).fm = s.fm := (inhibit_only ..).same .fm rfl
@[simp] theorem inhibit_rx (s : State) (b : Nat) : (inhibit s b).rx = s.rx := (inhibit_only ..).same .rx rfl
@[simp] theorem inhibit_plan (s : State) (b : Nat) : (inhibit s b).plan = s.plan := (inhibit_only ..).same .plan rfl
@[simp] theorem inhibit_servo (s : State) (b : Nat) : (inhibit s b).servo = s.servo := (inhibit_only ..).same .servo rfl
@[simp] theorem inhibit_cams (s : State) (b : Nat) : (inhibit s b).cams = s.cams := (inhibit_only ..).same .cams rfl
@[simp] theorem inhibit_fsync (s : State) (b : Nat) : (inhibit s b).fsync = s.fsync := (inhibit_only ..).same .fsync rfl
@[simp] theorem inhibit_points (s : State) (b : Nat) : (inhibit s b).points = s.points := (inhibit_only ..).same .points rfl
@[simp] theorem inhibit_acq (s : State) (b : Nat) : (inhibit s b).acq = s.acq := (inhibit_only ..).same .acq rfl
@[simp] theorem inhibit_qdr (s : State) (b : Nat) : (inhibit s b).qdr = s.qdr := (inhibit_only ..).same .qdr rfl
@[simp] theorem inhibit_lane (s : State) (b : Nat) : (inhibit s b).lane = s.lane := (inhibit_only ..).same .lane rfl
@[simp] theorem inhibit_hk (s : State) (b : Nat) : (inhibit s b).hk = s.hk := (inhibit_only ..).same .hk rfl
@[simp] theorem inhibit_free (s : State) (b : Nat) : (inhibit s b).free = s.free := (inhibit_only ..).same .free rfl
@[simp] theorem inhibit_pending (s : State) (b : Nat) : (inhibit s b).pending = s.pending := (inhibit_only ..).same .pending rfl
@[simp] theorem inhibit_odx (s : State) (b : Nat) : (inhibit s b).odx = s.odx := by
  have a := (inhibit_only s b).same .sessions rfl
  have b := (inhibit_only s b).same .odx rfl
  simp only [Part.same] at a b
  rw [b, a.1, a.2.1, a.2.2]

@[simp] theorem inhibitClear_fuses (s : State) (b : Nat) : (inhibitClear s b).fuses = s.fuses := rfl
@[simp] theorem inhibitClear_tick (s : State) (b : Nat) : (inhibitClear s b).tick = s.tick := rfl
@[simp] theorem inhibitClear_host (s : State) (b : Nat) : (inhibitClear s b).host = s.host := rfl
@[simp] theorem inhibitClear_odx (s : State) (b : Nat) : (inhibitClear s b).odx = s.odx := rfl
@[simp] theorem inhibitClear_net (s : State) (b : Nat) : (inhibitClear s b).net = s.net := rfl
@[simp] theorem inhibitClear_time (s : State) (b : Nat) : (inhibitClear s b).time = s.time := rfl
@[simp] theorem inhibitClear_pwr (s : State) (b : Nat) : (inhibitClear s b).pwr = s.pwr := rfl
@[simp] theorem inhibitClear_boot (s : State) (b : Nat) : (inhibitClear s b).boot = s.boot := rfl
@[simp] theorem inhibitClear_weir (s : State) (b : Nat) : (inhibitClear s b).weir = s.weir := rfl
@[simp] theorem inhibitClear_isl (s : State) (b : Nat) : (inhibitClear s b).isl = s.isl := rfl
@[simp] theorem inhibitClear_fm (s : State) (b : Nat) : (inhibitClear s b).fm = s.fm := rfl
@[simp] theorem inhibitClear_rx (s : State) (b : Nat) : (inhibitClear s b).rx = s.rx := rfl
@[simp] theorem inhibitClear_plan (s : State) (b : Nat) : (inhibitClear s b).plan = s.plan := rfl
@[simp] theorem inhibitClear_servo (s : State) (b : Nat) : (inhibitClear s b).servo = s.servo := rfl
@[simp] theorem inhibitClear_cams (s : State) (b : Nat) : (inhibitClear s b).cams = s.cams := rfl
@[simp] theorem inhibitClear_fsync (s : State) (b : Nat) : (inhibitClear s b).fsync = s.fsync := rfl
@[simp] theorem inhibitClear_points (s : State) (b : Nat) : (inhibitClear s b).points = s.points := rfl
@[simp] theorem inhibitClear_acq (s : State) (b : Nat) : (inhibitClear s b).acq = s.acq := rfl
@[simp] theorem inhibitClear_qdr (s : State) (b : Nat) : (inhibitClear s b).qdr = s.qdr := rfl
@[simp] theorem inhibitClear_lane (s : State) (b : Nat) : (inhibitClear s b).lane = s.lane := rfl
@[simp] theorem inhibitClear_hk (s : State) (b : Nat) : (inhibitClear s b).hk = s.hk := rfl
@[simp] theorem inhibitClear_free (s : State) (b : Nat) : (inhibitClear s b).free = s.free := rfl
@[simp] theorem inhibitClear_out (s : State) (b : Nat) : (inhibitClear s b).out = s.out := rfl
@[simp] theorem inhibitClear_pending (s : State) (b : Nat) : (inhibitClear s b).pending = s.pending := rfl
@[simp] theorem inhibitClear_od (s : State) (b : Nat) : (inhibitClear s b).od = s.od := rfl

@[simp] theorem islCause_fuses (s : State) (b : Nat) : (islCause s b).fuses = s.fuses := (islCause_only ..).same .fuses rfl
@[simp] theorem islCause_tick (s : State) (b : Nat) : (islCause s b).tick = s.tick := (islCause_only ..).same .tick rfl
@[simp] theorem islCause_net (s : State) (b : Nat) : (islCause s b).net = s.net := (islCause_only ..).same .net rfl
@[simp] theorem islCause_time (s : State) (b : Nat) : (islCause s b).time = s.time := (islCause_only ..).same .time rfl
@[simp] theorem islCause_boot (s : State) (b : Nat) : (islCause s b).boot = s.boot := (islCause_only ..).same .boot rfl
@[simp] theorem islCause_weir (s : State) (b : Nat) : (islCause s b).weir = s.weir := (islCause_only ..).same .weir rfl
@[simp] theorem islCause_rx (s : State) (b : Nat) : (islCause s b).rx = s.rx := (islCause_only ..).same .rx rfl
@[simp] theorem islCause_plan (s : State) (b : Nat) : (islCause s b).plan = s.plan := (islCause_only ..).same .plan rfl
@[simp] theorem islCause_servo (s : State) (b : Nat) : (islCause s b).servo = s.servo := (islCause_only ..).same .servo rfl
@[simp] theorem islCause_cams (s : State) (b : Nat) : (islCause s b).cams = s.cams := (islCause_only ..).same .cams rfl
@[simp] theorem islCause_fsync (s : State) (b : Nat) : (islCause s b).fsync = s.fsync := (islCause_only ..).same .fsync rfl
@[simp] theorem islCause_points (s : State) (b : Nat) : (islCause s b).points = s.points := (islCause_only ..).same .points rfl
@[simp] theorem islCause_acq (s : State) (b : Nat) : (islCause s b).acq = s.acq := (islCause_only ..).same .acq rfl
@[simp] theorem islCause_qdr (s : State) (b : Nat) : (islCause s b).qdr = s.qdr := (islCause_only ..).same .qdr rfl
@[simp] theorem islCause_lane (s : State) (b : Nat) : (islCause s b).lane = s.lane := (islCause_only ..).same .lane rfl
@[simp] theorem islCause_hk (s : State) (b : Nat) : (islCause s b).hk = s.hk := (islCause_only ..).same .hk rfl
@[simp] theorem islCause_free (s : State) (b : Nat) : (islCause s b).free = s.free := (islCause_only ..).same .free rfl
@[simp] theorem islCause_pending (s : State) (b : Nat) : (islCause s b).pending = s.pending := (islCause_only ..).same .pending rfl
@[simp] theorem islCause_odx (s : State) (b : Nat) : (islCause s b).odx = s.odx := by
  have a := (islCause_only s b).same .sessions rfl
  have b := (islCause_only s b).same .odx rfl
  simp only [Part.same] at a b
  rw [b, a.1, a.2.1, a.2.2]

@[simp] theorem reportFault_fuses (s : State) (g : FGroup) : (reportFault s g).fuses = s.fuses := (reportFault_only ..).same .fuses rfl
@[simp] theorem reportFault_tick (s : State) (g : FGroup) : (reportFault s g).tick = s.tick := (reportFault_only ..).same .tick rfl
@[simp] theorem reportFault_net (s : State) (g : FGroup) : (reportFault s g).net = s.net := (reportFault_only ..).same .net rfl
@[simp] theorem reportFault_time (s : State) (g : FGroup) : (reportFault s g).time = s.time := (reportFault_only ..).same .time rfl
@[simp] theorem reportFault_boot (s : State) (g : FGroup) : (reportFault s g).boot = s.boot := (reportFault_only ..).same .boot rfl
@[simp] theorem reportFault_weir (s : State) (g : FGroup) : (reportFault s g).weir = s.weir := (reportFault_only ..).same .weir rfl
@[simp] theorem reportFault_rx (s : State) (g : FGroup) : (reportFault s g).rx = s.rx := (reportFault_only ..).same .rx rfl
@[simp] theorem reportFault_plan (s : State) (g : FGroup) : (reportFault s g).plan = s.plan := (reportFault_only ..).same .plan rfl
@[simp] theorem reportFault_servo (s : State) (g : FGroup) : (reportFault s g).servo = s.servo := (reportFault_only ..).same .servo rfl
@[simp] theorem reportFault_cams (s : State) (g : FGroup) : (reportFault s g).cams = s.cams := (reportFault_only ..).same .cams rfl
@[simp] theorem reportFault_fsync (s : State) (g : FGroup) : (reportFault s g).fsync = s.fsync := (reportFault_only ..).same .fsync rfl
@[simp] theorem reportFault_points (s : State) (g : FGroup) : (reportFault s g).points = s.points := (reportFault_only ..).same .points rfl
@[simp] theorem reportFault_acq (s : State) (g : FGroup) : (reportFault s g).acq = s.acq := (reportFault_only ..).same .acq rfl
@[simp] theorem reportFault_qdr (s : State) (g : FGroup) : (reportFault s g).qdr = s.qdr := (reportFault_only ..).same .qdr rfl
@[simp] theorem reportFault_lane (s : State) (g : FGroup) : (reportFault s g).lane = s.lane := (reportFault_only ..).same .lane rfl
@[simp] theorem reportFault_hk (s : State) (g : FGroup) : (reportFault s g).hk = s.hk := (reportFault_only ..).same .hk rfl
@[simp] theorem reportFault_free (s : State) (g : FGroup) : (reportFault s g).free = s.free := (reportFault_only ..).same .free rfl
@[simp] theorem reportFault_pending (s : State) (g : FGroup) : (reportFault s g).pending = s.pending := (reportFault_only ..).same .pending rfl
@[simp] theorem reportFault_odx (s : State) (g : FGroup) : (reportFault s g).odx = s.odx := by
  have a := (reportFault_only s g).same .sessions rfl
  have b := (reportFault_only s g).same .odx rfl
  simp only [Part.same] at a b
  rw [b, a.1, a.2.1, a.2.2]

@[simp] theorem islRaise_fuses (s : State) (b : Nat) : (islRaise s b).fuses = s.fuses := (islRaise_only ..).same .fuses rfl
@[simp] theorem islRaise_tick (s : State) (b : Nat) : (islRaise s b).tick = s.tick := (islRaise_only ..).same .tick rfl
@[simp] theorem islRaise_net (s : State) (b : Nat) : (islRaise s b).net = s.net := (islRaise_only ..).same .net rfl
@[simp] theorem islRaise_time (s : State) (b : Nat) : (islRaise s b).time = s.time := (islRaise_only ..).same .time rfl
@[simp] theorem islRaise_boot (s : State) (b : Nat) : (islRaise s b).boot = s.boot := (islRaise_only ..).same .boot rfl
@[simp] theorem islRaise_weir (s : State) (b : Nat) : (islRaise s b).weir = s.weir := (islRaise_only ..).same .weir rfl
@[simp] theorem islRaise_rx (s : State) (b : Nat) : (islRaise s b).rx = s.rx := (islRaise_only ..).same .rx rfl
@[simp] theorem islRaise_plan (s : State) (b : Nat) : (islRaise s b).plan = s.plan := (islRaise_only ..).same .plan rfl
@[simp] theorem islRaise_servo (s : State) (b : Nat) : (islRaise s b).servo = s.servo := (islRaise_only ..).same .servo rfl
@[simp] theorem islRaise_cams (s : State) (b : Nat) : (islRaise s b).cams = s.cams := (islRaise_only ..).same .cams rfl
@[simp] theorem islRaise_fsync (s : State) (b : Nat) : (islRaise s b).fsync = s.fsync := (islRaise_only ..).same .fsync rfl
@[simp] theorem islRaise_points (s : State) (b : Nat) : (islRaise s b).points = s.points := (islRaise_only ..).same .points rfl
@[simp] theorem islRaise_acq (s : State) (b : Nat) : (islRaise s b).acq = s.acq := (islRaise_only ..).same .acq rfl
@[simp] theorem islRaise_qdr (s : State) (b : Nat) : (islRaise s b).qdr = s.qdr := (islRaise_only ..).same .qdr rfl
@[simp] theorem islRaise_lane (s : State) (b : Nat) : (islRaise s b).lane = s.lane := (islRaise_only ..).same .lane rfl
@[simp] theorem islRaise_hk (s : State) (b : Nat) : (islRaise s b).hk = s.hk := (islRaise_only ..).same .hk rfl
@[simp] theorem islRaise_free (s : State) (b : Nat) : (islRaise s b).free = s.free := (islRaise_only ..).same .free rfl
@[simp] theorem islRaise_pending (s : State) (b : Nat) : (islRaise s b).pending = s.pending := (islRaise_only ..).same .pending rfl
@[simp] theorem islRaise_odx (s : State) (b : Nat) : (islRaise s b).odx = s.odx := by
  have a := (islRaise_only s b).same .sessions rfl
  have b := (islRaise_only s b).same .odx rfl
  simp only [Part.same] at a b
  rw [b, a.1, a.2.1, a.2.2]

@[simp] theorem islClear_fuses (s : State) (b : Nat) : (islClear s b).fuses = s.fuses := (islClear_only ..).same .fuses rfl
@[simp] theorem islClear_tick (s : State) (b : Nat) : (islClear s b).tick = s.tick := (islClear_only ..).same .tick rfl
@[simp] theorem islClear_net (s : State) (b : Nat) : (islClear s b).net = s.net := (islClear_only ..).same .net rfl
@[simp] theorem islClear_time (s : State) (b : Nat) : (islClear s b).time = s.time := (islClear_only ..).same .time rfl
@[simp] theorem islClear_boot (s : State) (b : Nat) : (islClear s b).boot = s.boot := (islClear_only ..).same .boot rfl
@[simp] theorem islClear_weir (s : State) (b : Nat) : (islClear s b).weir = s.weir := (islClear_only ..).same .weir rfl
@[simp] theorem islClear_fm (s : State) (b : Nat) : (islClear s b).fm = s.fm := (islClear_only ..).same .fm rfl
@[simp] theorem islClear_rx (s : State) (b : Nat) : (islClear s b).rx = s.rx := (islClear_only ..).same .rx rfl
@[simp] theorem islClear_plan (s : State) (b : Nat) : (islClear s b).plan = s.plan := (islClear_only ..).same .plan rfl
@[simp] theorem islClear_servo (s : State) (b : Nat) : (islClear s b).servo = s.servo := (islClear_only ..).same .servo rfl
@[simp] theorem islClear_cams (s : State) (b : Nat) : (islClear s b).cams = s.cams := (islClear_only ..).same .cams rfl
@[simp] theorem islClear_fsync (s : State) (b : Nat) : (islClear s b).fsync = s.fsync := (islClear_only ..).same .fsync rfl
@[simp] theorem islClear_points (s : State) (b : Nat) : (islClear s b).points = s.points := (islClear_only ..).same .points rfl
@[simp] theorem islClear_acq (s : State) (b : Nat) : (islClear s b).acq = s.acq := (islClear_only ..).same .acq rfl
@[simp] theorem islClear_qdr (s : State) (b : Nat) : (islClear s b).qdr = s.qdr := (islClear_only ..).same .qdr rfl
@[simp] theorem islClear_lane (s : State) (b : Nat) : (islClear s b).lane = s.lane := (islClear_only ..).same .lane rfl
@[simp] theorem islClear_hk (s : State) (b : Nat) : (islClear s b).hk = s.hk := (islClear_only ..).same .hk rfl
@[simp] theorem islClear_free (s : State) (b : Nat) : (islClear s b).free = s.free := (islClear_only ..).same .free rfl
@[simp] theorem islClear_pending (s : State) (b : Nat) : (islClear s b).pending = s.pending := (islClear_only ..).same .pending rfl
@[simp] theorem islClear_odx (s : State) (b : Nat) : (islClear s b).odx = s.odx := by
  have a := (islClear_only s b).same .sessions rfl
  have b := (islClear_only s b).same .odx rfl
  simp only [Part.same] at a b
  rw [b, a.1, a.2.1, a.2.2]

end Sys2Proof.Machine
end

