-- ==== Sys2Proof/Laws/Requests.lean ====
section
/-! SUPPORT. A request that is taken and a write that passes its checks: what they come to. -/

namespace Sys2Proof.Machine

/-- A fresh request goes to its handler, after its session's time is noted. -/
theorem withSession_fresh {s : State} {r : Req} {x : Session} (h : Fresh s r x) (cmd ix sub : Nat) (p : Bytes) (seg : Bool)
    (k : State → Session → State) : withSession s r cmd ix sub p seg k = k (taken s r) x := by
  obtain ⟨ht, hw, hr, hx, hg⟩ := h
  have h1 : ¬(s.boot.phase = .recovery ∧ ¬r.via = .mailbox) := fun ⟨a, b⟩ => b (hr a)
  have h2 : ¬(¬r.via = .mailbox ∧ x.lastTag = some r.tag) := fun ⟨a, b⟩ => hg a b
  unfold withSession
  simp [ht, hw, h1, hx, h2]

/-- A write that passes its checks runs the hook of its object and is answered as the verdict says. -/
theorem requestWrite_ok {s : State} {r : Req} {ix sub : Nat} {data : Bytes} {h : State → WriteHook} {v : Val}
    (hw : WriteOk s r ix sub data h v) :
    requestWrite s r ix sub data h = match (h (taken s r)).run (taken s r) v with
      | .done u => respond u r cmdWrite ix sub []
      | .answered u f => f (respond u r cmdWrite ix sub [])
      | .later u => u
      | .abort c u => respondAbort u r cmdWrite ix sub c := by
  obtain ⟨x, hf, hv⟩ := hw
  unfold requestWrite
  rw [withSession_fresh hf]
  unfold writeObject
  cases e : (h (taken s r)).run (taken s r) v <;> simp only [hv, e]

/-- What a passed write says of its value, its range and its gate. -/
theorem WriteOk.passed {s : State} {r : Req} {ix sub : Nat} {data : Bytes} {h : State → WriteHook} {v : Val}
    (hw : WriteOk s r ix sub data h v) :
    ∃ row, objRow0 ix sub = some row ∧ v = decodeVal row.ty data ∧ (h (taken s r)).range v = true ∧
      (h (taken s r)).powered = true ∧ condCheck (taken s r) row ix = none ∧ (h (taken s r)).gate (taken s r) v = none := by
  obtain ⟨x, -, hv⟩ := hw
  unfold writeChecks writeChecksOf at hv
  dsimp only at hv
  split at hv
  · cases hv
  rename_i row hrow
  split at hv
  · cases hv
  split at hv
  · cases hv
  rename_i hr
  split at hv
  · cases hv
  split at hv
  · cases hv
  rename_i hp
  split at hv
  · cases hv
  rename_i hc
  split at hv
  · cases hv
  rename_i hg
  cases hv
  simp at hr hp
  exact ⟨row, writeGrant_row hrow, rfl, hr.2, hp.2, hc, hg⟩

/-- The value of a passed write of a one-byte object. -/
theorem WriteOk.byte {s : State} {r : Req} {ix sub : Nat} {b : Byte} {h : State → WriteHook} {v : Val}
    (hw : WriteOk s r ix sub [b] h v) (ht : (objRow0 ix sub).map (·.ty) = some (.u 1) ∨ (objRow0 ix sub).map (·.ty) = some .bool) :
    v = .num (b.toNat : Nat) := by
  obtain ⟨row, hr, hv, -⟩ := hw.passed
  rw [hr] at ht
  simp only [Option.map_some, Option.some.injEq] at ht
  rcases ht with ht | ht <;> rw [hv, ht] <;> simp [decodeVal, leNat]

/-- The telegram of an answer adds to what leaves the block. -/
theorem carry_out (s : State) (r : Req) (msg : Bytes) : ∃ l, (carry s r msg).out = l ++ s.out := by
  unfold carry
  split
  · exact ⟨[], rfl⟩
  · exact ⟨[_], rfl⟩
  · exact ⟨[_], rfl⟩

/-- The mailbox, too, adds to what leaves the block. -/
theorem mailboxTake_out (s : State) (msg : Bytes) : ∃ l, (mailboxTake s msg).out = l ++ s.out := by
  unfold mailboxTake
  dsimp only
  split
  · exact setInt_out ..
  · exact ⟨[], rfl⟩

/-- An answer leaves the block. -/
theorem answer_sent (s : State) (r : Req) (msg : Bytes) : .response r msg ∈ (answer s r msg).out := by
  have hc : .response r msg ∈ (carry (send s (.response r msg)) r msg).out := by
    obtain ⟨l, h⟩ := carry_out (send s (.response r msg)) r msg
    rw [h]
    exact List.mem_append_right l (.head _)
  unfold answer
  dsimp only
  split
  · obtain ⟨l, h⟩ := mailboxTake_out (carry (send s (.response r msg)) r msg) msg
    rw [h]
    exact List.mem_append_right l hc
  · exact hc

/-- The state of a command whose write passes and is done: the state of the hook, with the answer. -/
theorem write_done {s u : State} {r : Req} {ix sub : Nat} {data : Bytes} {h : State → WriteHook} {v : Val}
    (hw : WriteOk s r ix sub data h v) (hu : (h (taken s r)).run (taken s r) v = .done u) :
    ∃ t, outcome s (requestWrite s r ix sub data h) = .next t ∧
      Only [.sessions, .out, .mbox, .irq, .fuses, .pending, .qdr] u t ∧ t.fuses = s.fuses ∧
      .response r (odxMessage (verOf u r) cmdWrite 1 r.session.toNat r.tag.toNat ix sub []) ∈ t.out := by
  refine ⟨_, rfl, ?_, rfl, ?_⟩
  · rw [requestWrite_ok hw, hu]
    refine Only.set_fuses_pending_qdr rfl ?_
    exact Only.mono (respond_only ..) rfl
  · show _ ∈ (requestWrite s r ix sub data h).out
    rw [requestWrite_ok hw, hu]
    exact answer_sent _ _ _

/-- What is read of the store after a write that is done. -/
theorem Only.odN {C : List Part} {s t : State} (h : Only C s t) (hC : C.any Part.stores = false) (f : t.fuses = s.fuses)
    (ix sub : Nat) : Machine.odN t ix sub = Machine.odN s ix sub := odN_congr (h.store hC) f ix sub

end Sys2Proof.Machine
end

