-- ==== Sys2Proof/WellFormed.lean ====
section
/-! DEFINITION. Which commands are well formed: what the manual fixes about the shape of their operands beyond the
operands' types. A command that is not is no stimulus of the device. -/

namespace Sys2Proof

/-- The samples of a waveform follow each other in time. -/
def waveWf : List Sample → Bool
  | [] => true
  | [_] => true
  | a :: b :: r => decide (a.t < b.t) && waveWf (b :: r)

/-- A waveform has a sample, and its samples follow each other (R56). -/
def pulseWf (p : Pulse) : Bool := !p.wave.isEmpty && waveWf p.wave

/-- Four modulators, sixteen sense groups (R229, R214). -/
def latchWf (x : LatchInputs) : Bool := x.sdm.length == 4 && x.charge.length == 16 && x.quiet.length == 16

/-- A channel's hits of a tick: 128 over the 16 phases (R61). -/
def hitsWf (l : List Nat) : Bool := l.length == 16 && l.foldl (· + ·) 0 == 128

/-- An access has a length, at most that of a PCIe read, and a write brings that many bytes (R371, R384). -/
def accessWf (len : Nat) (wr : Option Bytes) : Bool :=
  decide (0 < len) && decide (len ≤ 4096) &&
    match wr with
    | none => true
    | some b => b.length == len

/-- A pulse on an input pin is shorter than its period (R241). -/
def pulseInWf (high period : Nat) : Bool := decide (high ≤ period) && decide (0 < period)

/-- The sizes of a BAR0 access (R375). -/
def sizeWf (n : Nat) : Bool := [1, 2, 4, 8].contains n

/-- The payload of an ODX message fits into the largest message beside its header (R400). -/
def payloadWf (b : Bytes) : Bool := decide (b.length ≤ 4080)

/-- The check of a command. -/
def Instr.wf (i : Instr) : Bool :=
  match i with
  | .tickStrobe => true
  | .shotLaunch _ => true
  | .swapPointBSlot => true
  | .frontEndEvent _ p => pulseWf p
  | .stuckTick _ => true
  | .blankingIntervalEnd _ => true
  | .coincidenceDecision _ _ cycle => decide (cycle.cycle < 12800)
  | .positionSampleLatch x => latchWf x
  | .gateClose => true
  | .earlyTerminationTest => true
  | .calibrationHits h => h.all fun x => hitsWf x.counts
  | .shadowLoad => true
  | .driveValueWrite => true
  | .shadowFreeze _ => true
  | .probePulse => true
  | .shotSyncEdge _ => true
  | .missedEdge => true
  | .tickStretch => true
  | .tickMonitorFault _ => true
  | .wdtSvc => true
  | .wdtPlan => true
  | .wdtCal => true
  | .internalBusAccess _ _ len wr => accessWf len wr
  | .calibrationPeriodEnd osc => osc.length == 8
  | .fullCalibrationRequest _ => true
  | .fullCalibrationEnd r => r.chans.all fun x => x.counts.length == 16
  | .readPassComplete _ _ _ => true
  | .readPassOverrun _ => true
  | .echoExtraction _ => true
  | .oxbowDecision _ => true
  | .confluence => true
  | .pixelReadReturn => true
  | .memLate => true
  | .planWrite _ plan => decide (plan.length ≤ 131072)
  | .admissionEnd => true
  | .planSwitch => true
  | .stopRunningPlan _ => true
  | .planStopEffect => true
  | .vehicleSpeedWrite _ _ _ => true
  | .speedTimeout => true
  | .weirHoldOffEnd => true
  | .emissionEnable _ => true
  | .emissionDisable _ => true
  | .faultAcknowledge _ => true
  | .bankVoltageFault _ => true
  | .diagnosisWindow _ => true
  | .stuckOn _ => true
  | .stuckOnClear _ => true
  | .diagnosisClear _ _ => true
  | .loopCommandOpen _ _ => true
  | .loopCommandClose _ _ => true
  | .loopCommandPark _ _ => true
  | .feedbackLoss _ => true
  | .servoFaultClear _ _ => true
  | .decimatorStart _ _ => true
  | .decimatorStop _ _ => true
  | .spPulsePeriod high period => pulseInWf high period
  | .countGate _ => true
  | .sourceTimeout => true
  | .traceArm _ => true
  | .traceManualTrigger _ => true
  | .traceStop _ => true
  | .traceDone => true
  | .pr32VersionWrite _ _ _ => true
  | .frameStart _ _ => true
  | .frameEnd _ _ => true
  | .linePacket _ p => p.px.all fun v => decide (v < 65536)
  | .lineService => true
  | .frameStored _ => true
  | .frameTimeout _ => true
  | .portEnableWrite _ _ _ => true
  | .testRequestWrite _ _ _ => true
  | .camFsyncPulseEnd _ => true
  | .islandInitComplete _ => true
  | .lockstepFault => true
  | .supplyMonitorFault => true
  | .islandWatchdog => true
  | .evalTimeout => true
  | .sealSample _ _ => true
  | .storeConfiguration _ _ => true
  | .pairConfiguration _ _ => true
  | .deleteConfiguration _ _ => true
  | .configNorWriteDone _ => true
  | .zoneEvaluation => true
  | .coverageMarker => true
  | .coverageTimeout _ => true
  | .ossdTestPulse _ _ => true
  | .ossdFeedbackTimeout _ => true
  | .safetyInputSample _ => true
  | .bslCycle _ => true
  | .bslTelegramReceive _ _ => true
  | .bslWatchdog _ => true
  | .bslRetry _ => true
  | .recoveryComplete => true
  | .acqArm _ => true
  | .acqStop _ => true
  | .acqManualTrigger _ => true
  | .acqRow => true
  | .acqDrainComplete => true
  | .probeBurst _ => true
  | .partnerProbeReceived _ _ => true
  | .trainRequest _ _ => true
  | .eqComplete _ _ _ => true
  | .fecAlignComplete _ => true
  | .deskewComplete _ skews => decide (skews.length ≤ 16)
  | .capsReceived _ _ => true
  | .trainingTimeout _ => true
  | .linkLoss _ _ => true
  | .idleEntry _ => true
  | .idleExit _ => true
  | .superframe _ _ => true
  | .tickMarker _ _ => true
  | .dstateItem _ _ => true
  | .dmaskItem _ _ => true
  | .creditItem _ _ => true
  | .pcieReset => true
  | .registerWrite a => sizeWf a.size
  | .upperHalfLatchRead a => sizeWf a.size
  | .timeLatch _ => true
  | .timeHiRead => true
  | .voteWrite _ => true
  | .voteRegistered _ => true
  | .interruptStatusClear _ _ => true
  | .msixUnmask _ => true
  | .mailboxGo => true
  | .mailboxAbort => true
  | .mailboxResponse => true
  | .mailboxStatusRead => true
  | .dataPortAccess _ len wr _ => accessWf len wr
  | .pullRead _ len => decide (0 < len)
  | .ringEnable _ => true
  | .ringDisable _ => true
  | .tailWrite _ _ => true
  | .ringEntryPublish _ => true
  | .ringSignalTimer _ => true
  | .ringDropCounterRead _ _ => true
  | .faultLogPop => true
  | .accessFaultLogRead => true
  | .odxOpen _ _ payload => payloadWf payload
  | .odxClose _ => true
  | .odxRead _ _ _ _ => true
  | .odxWrite _ _ _ data _ => payloadWf data
  | .odxReadSeg _ _ _ payload => payloadWf payload
  | .odxWriteSeg _ _ _ payload => payloadWf payload
  | .odxChallenge _ payload => payloadWf payload
  | .odxAuth _ payload => payloadWf payload
  | .odxReadMulti _ payload => payloadWf payload
  | .odxKeepalive _ => true
  | .sessionIdleTimeout _ => true
  | .segmentTransferTimeout _ => true
  | .authLockoutEnd _ => true
  | .storePersistentValues _ => true
  | .storeComplete _ => true
  | .restoreDefaults _ => true
  | .ethernetFrame _ f => decide (14 ≤ f.data.length)
  | .ethLinkChange _ _ _ => true
  | .addressAgeing _ => true
  | .ringCheck _ => true
  | .flushFrame _ => true
  | .trdpMessageRequest _ _ => true
  | .directOdx _ _ => true
  | .announcement => true
  | .speedDataset _ _ _ => true
  | .peerAgeOut _ => true
  | .gptpSync _ => true
  | .neighbourDelayMeasurement _ => true
  | .delayExchange _ => true
  | .ppsEdge _ => true
  | .timeHoldover => true
  | .powerStateRequest _ _ => true
  | .phaseAEnd => true
  | .drainComplete => true
  | .drainTimeout => true
  | .domainPowerGood _ => true
  | .domainDrop _ => true
  | .rtcAlarm => true
  | .wakeReq _ => true
  | .networkWake => true
  | .quiesceStart _ => true
  | .quiesceDrop => true
  | .norProgramLimit => true
  | .quiesceDone => true
  | .pwrFailNRise => true
  | .pwrFailRelease => true
  | .brownOut _ => true
  | .railOutOfWindow _ => true
  | .aonBrownOut => true
  | .vaonPowerOn => true
  | .conversionComplete _ _ => true
  | .hostGroupTrigger _ => true
  | .converterCheck _ => true
  | .hkDataRegisterRead => true
  | .resetN => true
  | .resetStuck => true
  | .resetNAttended => true
  | .softwareReset _ => true
  | .resetRelease => true
  | .firmwareStart => true
  | .updateBegin _ => true
  | .eraseComplete _ => true
  | .updateActivate _ => true
  | .updateConfirm _ => true
  | .updateCancel _ => true
  | .keyRevocation _ _ => true
  | .domainStartUpDone _ => true
  | .shotSyncOutPulse => true
  | .shotSyncOutPulseEnd => true
  | .segmentReceived _ _ _ => true
  | .pcieLinkTrained _ _ _ _ => true
  | .latchComplete => true
  | .delayReqSend _ => true
  | .acqQdrWrite _ => true
  | .nonVolatileWriteDone _ => true
  | .lprLimit => true
  | .vaonLow => true
  | .vaonPowerLoss => true
  | .resetOutputRelease _ => true

end Sys2Proof
end

