-- ==== Sys2Proof/Tests/Slice0.lean ====
section
/-! SUPPORT. Tests: the checks of WellFormed refuse an ill-formed command each; published values of the codes; single steps
against the manual; and, for every statement with hypotheses, a theorem that shows states and operands which meet them, one
conjunct per clause. The states are the running device with what the clause needs. -/

namespace Sys2Proof.Tests

open Sys2Proof Sys2Proof.Machine

set_option maxRecDepth 100000
set_option Elab.async false

/-- A mailbox session of the SERVICE role and a request of it. -/
def sesM : Session := { number := 7, via := .mailbox, role := .service, version := 3, lastReq := 0 }
def reqM : Req := ⟨.mailbox, 7, 1⟩
/-- A network session and a request of it. -/
def sesN : Session := { number := 9, via := .udp 0x0A000001 5000, role := .net, version := 3, lastReq := 0 }
def reqN : Req := ⟨.udp 0x0A000001 5000, 9, 1⟩

/-- The device with its firmware running, every domain on, the host link up and both sessions open. -/
def up : State := {
  boot.phase := .firmware, pwr.on := 0x1FF, host.linkUp := true, host.bme := true
  odx.sessions := [sesM, sesN] }

/-- The mailbox session in the SAFE-CFG role. -/
def sesS : Session := { sesM with role := .safeCfg }

/-- A state with objects set. -/
def withOd (s : State) (l : List (Nat × Nat × Nat)) : State := l.foldl (fun s p => odSetN s p.1 p.2.1 p.2.2) s

/-- A result compared with a value. -/
def okIs {ε α : Type} [DecidableEq α] (e : Except ε α) (v : α) : Bool :=
  match e with
  | .ok w => decide (w = v)
  | .error _ => false

theorem ok_of {ε α : Type} [DecidableEq α] {e : Except ε α} {v : α} (h : okIs e v = true) : e = .ok v := by
  unfold okIs at h
  split at h
  · rw [of_decide_eq_true h]
  · cases h

/-- The state in which the end of an admission judges its image. -/
def atEnd (s : State) (a : Admission) : State :=
  let u := setInt (odSetN { s with plan := { s.plan with admission := none } } 0x2101 8 (tickUs (since s a.start))) 5
  { u with emit := { u.emit with model := a.model } }

theorem admitted_of {s : State} {b : Bytes} (h : (match admission s b with
    | .ok _ => true
    | .error _ => false) = true) : ∃ p, admission s b = .ok p := by
  split at h
  · exact ⟨_, by assumption⟩
  · cases h

theorem some_of {o : Option State} (h : o.isSome = true) : o = some (o.getD up) := by
  cases o
  · cases h
  · rfl

theorem loadCfg_empty {s : State} {c : SafeCfg} (ho : s.od = []) (hc : c.vals = []) : loadCfg s c = s := by
  have key : ∀ l : List (Nat × Nat), l.foldl (fun s x =>
      match tget c.vals (odKey x.1 x.2) with
      | some v => odSet s x.1 x.2 v
      | none => { s with od := tdel s.od (odKey x.1 x.2) }) s = s := by
    intro l
    induction l with
    | nil => rfl
    | cons x r ih =>
      rw [List.foldl_cons]
      have : (match tget c.vals (odKey x.1 x.2) with
          | some v => odSet s x.1 x.2 v
          | none => { s with od := tdel s.od (odKey x.1 x.2) }) = s := by
        rw [hc]
        show { s with od := tdel s.od (odKey x.1 x.2) } = s
        rw [ho]
        show { s with od := [] } = s
        rw [← ho]
      rw [this, ih]
  exact key workingSet

/-- With an empty stored configuration and nothing set, the pairing holds. -/
theorem pairing_empty {s : State} {n : Nat} {c : SafeCfg} (ho : s.od = []) (hs : tget s.isl.stored n = some c)
    (hc : c.vals = []) (hp : tget s.isl.paired n = some c.crc) (hk : c.crc = workingCrc s)
    (hw : c.whole = true) : pairingHolds s n = true := by
  unfold pairingHolds
  rw [hs]
  simp only [loadCfg_empty ho hc, hp, hk, hw]
  simp

/-- The requests that a repeated tag answers from the cache. -/
def repeated : List Instr :=
  [ .fullCalibrationRequest reqN, .planWrite reqN [], .stopRunningPlan reqN, .vehicleSpeedWrite reqN 0 0,
  .emissionEnable reqN, .emissionDisable reqN, .faultAcknowledge reqN, .diagnosisClear reqN 0, .loopCommandOpen reqN .h,
  .loopCommandClose reqN .h, .loopCommandPark reqN .h, .servoFaultClear reqN .h, .decimatorStart reqN 0, .decimatorStop
  reqN 0, .traceArm reqN, .traceManualTrigger reqN, .traceStop reqN, .pr32VersionWrite reqN 0 0, .portEnableWrite reqN 0
  true, .testRequestWrite reqN 0 true, .storeConfiguration reqN 0, .pairConfiguration reqN 0, .deleteConfiguration reqN
  0, .acqArm reqN, .acqStop reqN, .acqManualTrigger reqN, .odxClose reqN, .odxRead reqN 0 0 true, .odxWrite reqN 0 0 []
  true, .odxReadSeg reqN 0 0 [], .odxWriteSeg reqN 0 0 [], .odxChallenge reqN [], .odxAuth reqN [], .odxReadMulti reqN
  [], .odxKeepalive reqN, .storePersistentValues reqN, .restoreDefaults reqN, .powerStateRequest reqN 0,
  .hostGroupTrigger reqN, .softwareReset reqN, .updateBegin reqN, .updateActivate reqN, .updateConfirm reqN,
  .updateCancel reqN, .keyRevocation reqN 0]

/-! ### SyncEdgesAndStretch -/

def sLk : State := { withOd up [(0x2000,1,1)] with tick.sync := .locked, tick.held := some 7 }

def sAq : State := { withOd up [(0x2000,1,1)] with tick.sync := .acquire }

def sSt : State := { withOd up [(0x2000,1,1)] with tick.sync := .acquire, tick.valid := 8, tick.chain := some 100 }

def st1 : State := { sAq with tick.chain := some 100 }

def st2 : State := { sAq with tick.chain := some 100, tick.valid := 1 }

def st3 : State := { sAq with tick.chain := some 0, tick.valid := 7 }

def st4 : State := { sAq with
  tick.sync := .holdover, tick.held := some 9, tick.chain := some 9, tick.valid := 7, tick.syncLost := true }

def st5 : State := withOd sLk [(0x2000,4,1)]

def st6 : State := { withOd up [(0x2000,9,1)] with tick.syncOutOfs := 7 }

def st7 : State := { up with tick.syncOut := true }

theorem wit_SyncEdgesAndStretch :
    (domOn sLk .core = true ∧ odN sLk 0x2000 3 ≠ b2n !false) ∧
    (domOn sLk .core = true ∧ odN sLk 0x2000 1 = 1 ∧ odN sLk 0x2000 3 = b2n !true ∧ sLk.tick.sync = .locked ∧ edgePredicted
      sLk 7 = true) ∧
    (domOn sAq .core = true ∧ odN sAq 0x2000 1 = 1 ∧ odN sAq 0x2000 3 = b2n !true ∧ sAq.tick.sync = .acquire ∧
      sAq.tick.chain = none) ∧
    (domOn sLk .core = true ∧ odN sLk 0x2000 1 = 1 ∧ odN sLk 0x2000 3 = b2n !true ∧ edgePredicted sLk 900 = false ∧
      sLk.tick.sync = .locked ∧ sLk.tick.missRow + 1 < odN sLk 0x2000 4) ∧
    (domOn st1 .core = true ∧ odN st1 0x2000 1 = 1 ∧ odN st1 0x2000 3 = b2n !true ∧ edgePredicted st1 900 = false ∧
      (st1.tick.sync = .acquire ∨ st1.tick.sync = .holdover) ∧ st1.tick.chain.isSome = true) ∧
    (domOn st2 .core = true ∧ odN st2 0x2000 1 = 1 ∧ odN st2 0x2000 3 = b2n !true ∧ edgePredicted st2 100 = true ∧
      st2.tick.chain.isSome = true ∧ st2.tick.valid + 1 < 8 ∧ (st2.tick.sync = .acquire ∨ st2.tick.sync = .holdover)) ∧
    (domOn st3 .core = true ∧ odN st3 0x2000 1 = 1 ∧ odN st3 0x2000 3 = b2n !true ∧ edgePredicted st3 0 = true ∧
      st3.tick.chain.isSome = true ∧ st3.tick.valid = 7 ∧ (st3.tick.sync = .acquire ∧ (0 + odN st3 0x2000 2) % 2000 = 0 ∨
      st3.tick.sync = .holdover ∧ ∃ q, st3.tick.held = some q ∧ phaseDist 0 q ≤ 1)) ∧
    (domOn st4 .core = true ∧ odN st4 0x2000 1 = 1 ∧ odN st4 0x2000 3 = b2n !true ∧ edgePredicted st4 10 = true ∧
      st4.tick.chain.isSome = true ∧ st4.tick.valid = 7 ∧ (st4.tick.sync = .acquire ∧ (10 + odN st4 0x2000 2) % 2000 = 0 ∨
      st4.tick.sync = .holdover ∧ ∃ q, st4.tick.held = some q ∧ phaseDist 10 q ≤ 1)) ∧
    (domOn sLk .core = true ∧ sLk.tick.sync = .locked ∧ sLk.tick.missRow + 1 < odN sLk 0x2000 4) ∧
    (domOn st5 .core = true ∧ st5.tick.sync = .locked ∧ odN st5 0x2000 4 ≤ st5.tick.missRow + 1) ∧
    (domOn sSt .core = true ∧ odN sSt 0x2000 1 = 1 ∧ sSt.tick.sync = .acquire ∧ 8 ≤ sSt.tick.valid ∧ sSt.tick.chain = some
      100 ∧ emissionOff sSt = true ∧ sSt.servo.h.st ≠ .closed ∧ sSt.servo.v.st ≠ .closed ∧ (100 + odN sSt 0x2000 2) % 2000 ≠
      0) ∧
    (domOn st6 .core = true ∧ odN st6 0x2000 9 = 1 ∧ st6.tick.syncOut = false) ∧
    (domOn up .core = true ∧ (odN up 0x2000 9 = 0 ∨ up.tick.syncOut = true)) ∧
    (domOn st7 .core = true ∧ st7.tick.syncOut = true) := by
  refine ⟨?_, ?_, ?_, ?_, ?_, ?_, ?_, ?_, ?_, ?_, ?_, ?_, ?_, ?_⟩ <;> decide +kernel

/-! ### TickStrobeAndShadow -/

def sOp : State := { up with isl.st := .operate, isl.outA.on := true, isl.outB.on := true }

def sSh : State := { up with tick.started := true, servo.h.shadow := 5, servo.v.shadow := 6, servo.h.drive := 7 }

def st8 : State := { sSh with emit.active := 7 }

def st9 : State := { sSh with emit.wdtDue := 6 }

def st10 : State := { sSh with tick.overrun := true }

def st11 : State := { up with odx.netQ := [(reqN.via, [])] }

def st12 : State := { up with pwr.on := 0 }

def st13 : State := { up with emit.request := some true }

def st14 : State := { up with emit.request := some true, pwr.on := 0x1FB }

def st15 : State := { up with emit.request := some true, emit.state := .fadeOut }

def st16 : State := { up with emit.state := .on, emit.request := some false }

def st17 : State := { up with emit.state := .halted }

def st18 : State := { up with emit.state := .halted, emit.active := 1 }

def st19 : State := { up with pwr.on := 0 }

def sCh (x : Chan) : State := { up with rx.settled := false, rx.gate := true, rx.slotDone := false, rx.chans := [(3, x)] }

def st20 : State := { sCh { pair := .opened } with emit.state := .on }

def st21 : State := sCh { pair := .opened }

def st22 : State := sCh { pair := .opened, gone := true }

def st23 : State := { sOp with isl.active := 128, isl.st := .safe, isl.outA.on := false, isl.outB.on := false }

def st24 : State := { up with pwr.on := 0 }

theorem wit_TickStrobeAndShadow :
    (tickRuns st8 = true ∧ st8.odx.netQ = [] ∧ st8.emit.wdtDue = 0 ∧ st8.tick.overrun = false) ∧
    (tickRuns st9 = true ∧ st9.odx.netQ = [] ∧ st9.emit.wdtDue.getLsbD 1 = true ∧ st9.emit.wdtDue.getLsbD 2 = true ∧
      st9.emit.wdtDue ≠ 0 ∧ st9.pwr.state = .run ∧ st9.pwr.pfState = 0 ∧ st9.pwr.entry = none ∧ st9.pwr.exit = none ∧
      st9.tick.overrun = false) ∧
    (tickRuns st10 = true ∧ st10.odx.netQ = [] ∧ st10.emit.wdtDue = 0 ∧ st10.tick.overrun = true) ∧
    tickRuns st11 = true ∧
    tickRuns st12 = false ∧
    (running st13 = true ∧ st13.emit.state = .off ∧ st13.emit.request = some true ∧ domOn st13 .emit = true) ∧
    (running st14 = true ∧ st14.emit.state = .off ∧ st14.emit.request = some true ∧ (st14.emit.request ≠ some true ∨ domOn
      st14 .emit = false)) ∧
    (running st15 = true ∧ st15.emit.state = .fadeOut ∧ st15.emit.request = some true) ∧
    (running st16 = true ∧ (st16.emit.state = .on ∨ st16.emit.state = .fadeIn) ∧ st16.emit.request = some false) ∧
    (running st17 = true ∧ st17.emit.state = .halted ∧ st17.emit.active = 0 ∧ st17.emit.latched = 0) ∧
    (running st18 = true ∧ st18.emit.state = .halted ∧ st18.emit.active ≠ 0) ∧
    running st19 = false ∧
    st20.emit.active.getLsbD 0 = false ∧
    (islOn sOp = true ∧ sOp.isl.active.getLsbD 7 = false ∧ sOp.isl.st = .operate) ∧
    (islOn st23 = true ∧ st23.isl.active.getLsbD 7 = true) ∧
    islOn st24 = false := by
  refine ⟨?_, ?_, ?_, ?_, ?_, ?_, ?_, ?_, ?_, ?_, ?_, ?_, ?_, ?_, ?_, ?_⟩ <;> decide +kernel

/-! ### FrontEndAndFilter -/

def ht : Hit := { lead := { t := 1024, ph := 0, mv := 20 }, trail := some { t := 2048, ph := 0, mv := 0 }, high := none }

def ht2 : Hit := {
  lead := { t := 300032, ph := 0, mv := 20 }, trail := some { t := 310016, ph := 0, mv := 0 }, high := none }

def ht3 : Hit := {
  lead := { t := 1024, ph := 0, mv := 20 }, trail := some { t := 5000192, ph := 0, mv := 0 }, high := none }

def pu : Pulse := { base := 0, wave := [{ t := 1024, ph := 0, mv := 20 }, { t := 2048, ph := 0, mv := 0 }] }

def pu2 : Pulse := { base := 0, wave := [{ t := 300032, ph := 0, mv := 20 }, { t := 310016, ph := 0, mv := 0 }] }

def pu3 : Pulse := { base := 0, wave := [{ t := 1024, ph := 0, mv := 20 }, { t := 5000192, ph := 0, mv := 0 }] }

def xRun : Chan := { st := .run, assigned := true, lowEff := 10, highEff := 50 }

def st25 : State := sCh xRun

def st26 : State := sCh { xRun with trail := some 300000 }

def qd : Quad := { slope := false, ovlw := 100, wmax := 127, walk := List.replicate 256 0 }

def st27 : State := { sCh xRun with rx.quads := [(0, qd)] }

def st28 : State := sCh xRun

def st29 : State := { sCh xRun with rx.settled := true }

def st30 : State := { sCh xRun with rx.settled := true }

def st31 : State := withOd (sCh xRun) [(0x3000, 8, 1)]

def st32 : State := sCh xRun

def st33 : State := sCh {xRun with blank := some (1000, 50000)}

def ev : Event := { time := 5000, width := 4, ht := false, ovl := false, blank := false, wclamp := false, winv := false }

def evH : Event := { ev with ht := true }

def sEv : State := sCh { xRun with events := [ev] }

def st34 : State := { sEv with rx.coinc := [(0, (2, 1, 2, false))] }

def st35 : State := sCh { xRun with events := [ev], accepted := 1050}

theorem wit_FrontEndAndFilter :
    (chanLive st25 3 = true ∧ (nextHit st25 3 0 []).snd = none) ∧
    (chanLive st26 3 = true ∧ (nextHit st26 3 pu2.base pu2.wave).snd = some (ht2, []) ∧ st26.rx.settled = false ∧ (getChan
      st26 3).stuckNow = false ∧ ht2.lead.t < 5376000 ∧ activeFor ht2 ≤ 512 * odN st26 0x3000 7 ∧ (getChan st26 3).trail =
      some 300000 ∧ stamp (getChan st26 3) ht2.lead < 300000 + 1024 ∧ 300000 + 1024 < Hit.trailStamp (getChan st26 3) ht2) ∧
    (chanLive st27 3 = true ∧ (nextHit st27 3 pu.base pu.wave).snd = some (ht, []) ∧ st27.rx.settled = false ∧ (getChan st27
      3).stuckNow = false ∧ ht.lead.t < 5376000 ∧ activeFor ht ≤ 512 * odN st27 0x3000 7 ∧ ht.open = false ∧ ht.high = none
      ∧ (getChan st27 3).trail = none ∧ (getChan st27 3).assigned = true ∧ 0 ≤ roundDiv (corrected (getChan st27 3) ht.lead
      + (walkWidth (quadOf st27 3) (max 0 (Hit.trailStamp (getChan st27 3) ht + (getChan st27 3).skew + (getChan st27
      3).trim - corrected (getChan st27 3) ht.lead)).toNat false).1) 16 ∧ (getChan st27 3).lambda ≤ (roundDiv (corrected
      (getChan st27 3) ht.lead + (walkWidth (quadOf st27 3) (max 0 (Hit.trailStamp (getChan st27 3) ht + (getChan st27
      3).skew + (getChan st27 3).trim - corrected (getChan st27 3) ht.lead)).toNat false).1) 16).toNat ∧ (roundDiv
      (corrected (getChan st27 3) ht.lead + (walkWidth (quadOf st27 3) (max 0 (Hit.trailStamp (getChan st27 3) ht + (getChan
      st27 3).skew + (getChan st27 3).trim - corrected (getChan st27 3) ht.lead)).toNat false).1) 16).toNat - (getChan st27
      3).lambda ≤ 327679) ∧
    (chanLive st28 3 = true ∧ (nextHit st28 3 pu3.base pu3.wave).snd = some (ht3, []) ∧ (getChan st28 3).stuckNow = false ∧
      512 * odN st28 0x3000 7 < activeFor ht3 ∧ (getChan st28 3).stuckRun + 1 < odN st28 0x3000 8) ∧
    (chanLive st29 3 = true ∧ (nextHit st29 3 pu3.base pu3.wave).snd = some (ht3, []) ∧ (getChan st29 3).stuckNow = false ∧
      512 * odN st29 0x3000 7 < activeFor ht3 ∧ (getChan st29 3).stuckRun + 1 < odN st29 0x3000 8) ∧
    (chanLive st30 3 = true ∧ odN st30 0x3000 7 < 60000 ∧ (getChan st30 3).stuckNow = false ∧ (getChan st30 3).stuckRun + 1
      < odN st30 0x3000 8) ∧
    (chanLive st31 3 = true ∧ odN st31 0x3000 7 < 60000 ∧ (getChan st31 3).stuckNow = false ∧ odN st31 0x3000 8 ≤ (getChan
      st31 3).stuckRun + 1) ∧
    (chanLive st32 3 = true ∧ 0 ≤ odN st32 0x3000 7) ∧
    (chanLive st33 3 = true ∧ (getChan st33 3).blank = some (1000, 50000) ∧ st33.rx.settled = false ∧ (getChan st33
      3).assigned = true ∧ (getChan st33 3).late = false) ∧
    (chanLive st34 3 = true ∧ st34.rx.settled = false ∧ (getChan st34 3).assigned = true ∧ (getChan st34 3).late = false ∧
      List.find? (fun w => w.time == 5000 && w.passed.isNone) (getChan st34 3).events = some ev ∧ coincCount st34 3 5000 <
      (coincOf st34 3).1 ∧ ((coincOf st34 3).2.2.2 && ev.ht) = false) ∧
    (chanLive st35 3 = true ∧ st35.rx.settled = false ∧ (getChan st35 3).assigned = true ∧ (getChan st35 3).late = false ∧
      List.find? (fun w => w.time == 5000 && w.passed.isNone) (getChan st35 3).events = some ev ∧ ((coincOf st35 3).1 ≤
      coincCount st35 3 5000 ∨ ((coincOf st35 3).2.2.2 && ev.ht) = true) ∧ 1050 ≤ (getChan st35 3).accepted) ∧
    (chanLive sEv 3 = true ∧ sEv.rx.settled = false ∧ (getChan sEv 3).assigned = true ∧ (getChan sEv 3).late = false ∧
      List.find? (fun w => w.time == 5000 && w.passed.isNone) (getChan sEv 3).events = some ev ∧ ((coincOf sEv 3).1 ≤
      coincCount sEv 3 5000 ∨ ((coincOf sEv 3).2.2.2 && ev.ht) = true) ∧ (getChan sEv 3).accepted < 1050 ∧ (tgetD
      sEv.rx.bufs (3 / 8) {}).entries.length < 64) := by
  refine ⟨?_, ?_, ?_, ?_, ?_, ?_, ?_, ?_, ?_, ?_, ?_, ?_⟩ <;> decide +kernel

/-! ### HighThresholdBypassAccepts -/

def st36 : State := sCh { xRun with events := [evH] }

theorem wit_HighThresholdBypassAccepts :
    (st36.rx.settled = false ∧ (getChan st36 3).assigned = true ∧ List.find? (fun w => w.time == 5000 && w.passed.isNone)
      (getChan st36 3).events = some evH ∧ evH.ht = true ∧ (coincOf st36 3).2.2.2 = true) :=
  by decide +kernel

/-! ### StacksCloseAndAreRead -/

def st37 : State := sCh { xRun with pair := .opened, acc.fired := 2, acc.planned := 2 }

def st38 : State := { sCh { xRun with pair := .opened } with rx.gate := false }

def sEarly : State :=
  withOd { sCh { xRun with pair := .opened, acc := { earlyOk := true, win := { s0 := 0, l0 := 10 }, fired := 30, planned := 60, peak0 := 60, inWin0 := 65, peak1 := 0 } } with rx.gate := false } [(0x3200, 0x0A, 1)]

def st39 : State := sCh { pair := .opened }

def st40 : State := sCh { reading := true }

def st41 : State := sCh { reading := true }

def st42 : State := sCh { reading := true }

theorem wit_StacksCloseAndAreRead :
    st37.rx.gate = true ∧
    (st38.rx.gate = false ∧ st38.rx.settled = false) ∧
    (sEarly.rx.gate = false ∧ sEarly.rx.settled = false) ∧
    st39.rx.slotDone = false ∧
    ((getChan st40 3).reading = true ∧ (getChan st40 3).held.eccErr = false ∧ beyondBound (getChan st40 3).held = false) ∧
    (getChan st41 3).reading = true ∧
    ((getChan st42 3).reading = true ∧ (getChan st42 3).due ≤ st42.tick.num) := by
  refine ⟨?_, ?_, ?_, ?_, ?_, ?_, ?_⟩ <;> decide +kernel

/-! ### CalibrationRuns -/

def yCal : FullCalResult := {
  chans := [{ c := 3, lockOk := true, dacOk := true, counts := [], delay := 0, spread := false, stuck := false, rate := 1 }]
  memBad := 0 }

def st43 : State := sCh xRun

def st44 : State := { sCh xRun with rx.periodDue := true }

def st45 : State := sCh xRun

def st46 : State := { sCh xRun with rx.cal := .running }

def st47 : State := { sCh xRun with pwr.on := 0x1FD }

def rowCal : ObjRow := ⟨0x3000, 1, 1, 1, .bool, 11, .wo, .emOff, 0, 1, 0, .no, .all⟩

def st48 : State := { sCh xRun with emit.state := .on }

def st49 : State := { sCh xRun with emit.state := .on }

def st50 : State := { sCh { st := .cal } with rx.cal := .running, tick.num := 20000 }

def st51 : State := { sCh { st := .cal } with rx.cal := .running, tick.num := 20000, odx.startDue := true }

theorem wit_CalibrationRuns :
    (domOn st43 .rx = true ∧ (tget st43.rx.chans 3).isSome = true) ∧
    st44.rx.periodDue = true ∧
    (WriteOk st45 reqM 0x3000 1 [1] calHook (.num 1) ∧ st45.rx.cal ≠ .running ∧ domOn st45 .rx = true) ∧
    (WriteOk st46 reqM 0x3000 1 [1] calHook (.num 1) ∧ (st46.rx.cal = .running ∨ domOn st46 .rx = false)) ∧
    (WriteOk st47 reqM 0x3000 1 [1] calHook (.num 1) ∧ (st47.rx.cal = .running ∨ domOn st47 .rx = false)) ∧
    (Fresh st48 reqM sesM ∧ writeGrant (taken st48 reqM) sesM 12288 1 = .ok rowCal ∧ emissionOff st48 = false) ∧
    (Fresh st49 reqM sesM ∧ writeChecks (taken st49 reqM) sesM 0x3000 1 [1] calHook = Except.error (abState, taken st49
      reqM)) ∧
    (st50.rx.cal = .running ∧ 9375 ≤ since st50 st50.rx.calStart ∧ st50.odx.startDue = false) ∧
    (st51.rx.cal = .running ∧ 9375 ≤ since st51 st51.rx.calStart ∧ st51.odx.startDue = true ∧ st51.plan.admission = none) := by
  refine ⟨?_, ?_,
    ⟨⟨sesM, by unfold Fresh; decide +kernel, ok_of (by decide +kernel)⟩, by decide +kernel, by decide +kernel⟩,
    ⟨⟨sesM, by unfold Fresh; decide +kernel, ok_of (by decide +kernel)⟩, by decide +kernel⟩,
    ⟨⟨sesM, by unfold Fresh; decide +kernel, ok_of (by decide +kernel)⟩, by decide +kernel⟩,
    ⟨by unfold Fresh; decide +kernel, rfl, by decide +kernel⟩, ⟨by unfold Fresh; decide +kernel, rfl⟩, ?_,
    ?_⟩ <;> decide +kernel

/-! ### NetworkSessionsClose -/

def st52 : State := { withOd up [(0x1F20,2,1)] with tick.num := 100000 }

theorem wit_NetworkSessionsClose :
    (st52.odx.sessions[1]? = some sesN ∧ sesN.via ≠ .mailbox ∧ odN st52 0x1F20 2 * 1000 * 10000 ≤ since st52 sesN.lastReq *
      128) ∧
    (up.odx.sessions[1]? = some sesN ∧ sesN.via ≠ .mailbox ∧ since up sesN.lastReq * 128 < odN up 0x1F20 2 * 1000 * 10000) ∧
    (Fresh up reqN sesN ∧ 3 ≤ sesN.version) ∧
    (Fresh up reqM sesM ∧ 1 ∈ [1, 2, 3] ∧ writeChecks (taken up reqM) sesM 0xD001 1 [10, 0, 0, 9] (hookAll reqM 0xD001 1) =
      .ok (.num 150994954)) ∧
    (up.odx.sessions[0]? = some sesM ∧ sesM.via = Transport.mailbox) := by
  refine ⟨?_, ?_, ⟨by unfold Fresh; decide +kernel, by decide +kernel⟩,
    ⟨by unfold Fresh; decide +kernel, by decide +kernel, ok_of (by decide +kernel)⟩, ?_⟩ <;> decide +kernel

/-! ### RepeatedRequestIsAnsweredFromTheCache -/

def sesR : Session := { sesN with lastTag := some 1, cached := [1, 2] }

def st53 : State := { up with odx.sessions := [sesR] }

theorem wit_RepeatedRequestIsAnsweredFromTheCache :
    (taking st53 = true ∧ netWaits st53 reqN = false ∧ st53.boot.phase ≠ .recovery ∧ reqN.via ≠ .mailbox ∧ sessionOf st53
      reqN = some sesR ∧ sesR.lastTag = some reqN.tag ∧ .planWrite reqN [] ∈ repeated) :=
  by decide +kernel

/-! ### PlainWriteChangesItsObjectAlone -/

theorem wit_PlainWriteChangesItsObjectAlone :
    (Fresh up reqM sesM ∧ hookAll reqM 0x3000 8 = plainHook 0x3000 8 ∧ writeChecks (taken up reqM) sesM 0x3000 8 [5]
      (hookAll reqM 0x3000 8) = .ok (.num 5)) :=
  ⟨by unfold Fresh; decide +kernel, rfl, ok_of (by decide +kernel)⟩

/-! ### FeatureRegisterLayout -/

theorem wit_FeatureRegisterLayout :
    hostReach up = true :=
  by decide +kernel

/-! ### ResultsBecomeRecords -/

def xEx : Chan := { st := .run, assigned := true }

def st54 : State := sCh { xEx with toExtract := true, held := { fired := 4, planned := 4, eOut := 100 } }

def resA : ChanResult := {
  chan := 3, half := { closeTick := 10 }, listF := [], listS := [], strong := none, support := [], ambient := 5
  eddy := 0 }

def st55 : State := { up with tick.num := 12, rx.results := [resA] }

def resB : ChanResult := {
  chan := 3, half := { closeTick := 10, win := { s0 := 100, l0 := 128 } }, listF := [], listS := [], strong := none
  support := [none], ambient := 5, eddy := 0 }

def st56 : State := { up with tick.num := 12, rx.results := [resB] }

def echoA : Echo := {
  range := 4000, inten := 100, width := 10, conf := 200, cls := 0, lead := 0, coarse := false, xtalk := false
  walk := false, paired := false, sigma := 3, e := 20000 }

def resC : ChanResult := {
  chan := 3, half := { closeTick := 10, win := { s0 := 100, l0 := 128 } }, listF := [echoA, echoA], listS := []
  strong := some (5, 20000, some 0), support := [some { e := 20000, range := 4000, support := none }], ambient := 5
  eddy := 0 }

def st57 : State := { up with tick.num := 12, rx.results := [resC] }

def recW : PointRec := {
  commit := 12, time := 0, chan := 3, range := 4000, flags := 0, idx := 0, az := 0, el := 0, conf := 200, width := 10
  inten := 100, colSeq := 1, ambient := 5, epoch := 0, planId := 1, outs := [], version := 2, laneVersion := 2
  cals := [] }

def st58 : State := { up with tick.num := 12, points.queue := [recW] }

def recR : PointRec := { recW with stage := .read 0 1 64 4 20 }

def st59 : State := { withOd up [(0x6040,1,0)] with tick.num := 12, points.queue := [recW] }

def st60 : State := { up with tick.num := 12, points.queue := [recR] }

def st61 : State := { up with tick.num := 12, points.late := [(0, 1)] }

def st62 : State := { up with tick.num := 12, points.queue := [recR] }

theorem wit_ResultsBecomeRecords :
    ((getChan st54 3).toExtract = true ∧ chanLive st54 3 = true) ∧
    List.find? (fun x => x.chan == 3 && decide (x.half.closeTick + 2 ≤ st55.tick.num)) st55.rx.results = some resA ∧
    List.find? (fun x => x.chan == 3 && decide (x.half.closeTick + 2 ≤ st56.tick.num)) st56.rx.results = some resB ∧
    List.find? (fun x => x.chan == 3 && decide (x.half.closeTick + 2 ≤ st57.tick.num)) st57.rx.results = some resC ∧
    (List.find? (fun q => q.stage == PStage.wait) st58.points.queue = some recW ∧ (∀ (q : PointRec), q ∈ st58.points.queue →
      st58.tick.num ≤ q.commit)) ∧
    (List.find? (fun q => q.stage == PStage.wait) st59.points.queue = some recW ∧ (∀ (q : PointRec), q ∈ st59.points.queue →
      st59.tick.num ≤ q.commit) ∧ odN st59 0x6040 1 = 0) ∧
    (st60.points.late = [] ∧ List.find? reading st60.points.queue = some recR ∧ recR.stage = PStage.read 0 1 64 4 20 ∧ (∀ (q
      : PointRec), q ∈ st60.points.queue → st60.tick.num ≤ q.commit)) ∧
    st61.points.late = [(0, 1)] ∧
    (List.find? reading st62.points.queue = some recR ∧ recR.stage = PStage.read 0 1 64 4 20 ∧ (∀ (q : PointRec), q ∈
      st62.points.queue → st62.tick.num ≤ q.commit)) ∧
    ((2 = 2 ∨ 2 = 3) ∧ WriteOk up reqM 0x1F12 2 [2] (versionHook 2) (.num 2)) ∧
    ((3 = 2 ∨ 3 = 3) ∧ WriteOk up reqM 0x1F12 3 [1] (versionHook 3) (.num 1)) := by
  refine ⟨?_, ?_, ?_, ?_, ?_, ?_, ?_, ?_, ?_,
    ⟨by decide +kernel, ⟨sesM, by unfold Fresh; decide +kernel, ok_of (by decide +kernel)⟩⟩,
    ⟨by decide +kernel, ⟨sesM, by unfold Fresh; decide +kernel, ok_of (by decide +kernel)⟩⟩⟩ <;> decide +kernel

/-! ### PlansAreAdmittedAndSwitched -/

def planBody : Bytes := leBytes 4 0x3150564C ++ [1, 1] ++ leBytes 2 1 ++ [0, 0, 0, 0] ++ leBytes 4 40 ++ leBytes 4 56 ++
  leBytes 4 88 ++ leBytes 4 88 ++ leBytes 4 88 ++ leBytes 4 88 ++ leBytes 4 604 ++ List.replicate 16 0 ++ ([1, 1, 1, 1, 1,
  1] ++ leBytes 2 100 ++ [0, 0, 0, 8] ++ List.replicate 20 0) ++ List.replicate 512 0xFF

def planImg : Bytes := planBody ++ leBytes 4 (crc32 planBody).toNat

def planDec : Plan := decodePlan planImg

def upL : State := { up with fuses.variant := .lf }

def st63 : State := { up with plan.admission := some ⟨[], none, 0, false, []⟩ }

def admBad : Admission := ⟨[1, 2, 3], none, 0, false, []⟩

def st64 : State := { up with plan.admission := some admBad, odx.startDue := true, odx.startUp := [1], rx.cal := .done }

def st65 : State := { up with plan.admission := some admBad }

def admGood : Admission := ⟨planImg, none, 0, false, []⟩

def planRun : Plan := {
  raw := [], id := 1, axsrc := 0, cols := [], regs := [], fovs := [], zones := [], map := [], outs := [] }

def st66 : State := { up with plan.switching := some (3, planRun), tick.num := 3 }

def st67 : State := { up with plan.switching := some (9, planRun), tick.num := 3 }

def st68 : State := { up with plan.running := some planRun, plan.stopAt := some 3, tick.num := 3 }

def st69 : State := { up with plan.speedTick := some 0, tick.num := 100000000 }

def st70 : State := { up with weir.hold := some 0, tick.num := 100000000 }

def sGood : State := { upL with plan.admission := some admGood }

def st71 : State := { upL with plan.admission := some { admGood with check := true } }

def st72 : State := { sGood with plan.switching := some (9, { planRun with id := 2 }) }

theorem wit_PlansAreAdmittedAndSwitched :
    (WriteOk up reqM 0x2100 1 [1, 2, 3] (planHook reqM) (.bytes [1, 2, 3]) ∧ up.plan.admission = none) ∧
    (WriteOk st63 reqM 0x2100 1 [1, 2, 3] (planHook reqM) (.bytes [1, 2, 3]) ∧ st63.plan.admission.isSome = true) ∧
    (st64.plan.admission = some admBad ∧ st64.odx.startDue = true ∧ (st64.rx.cal = .done ∨ st64.rx.cal = .faults)) ∧
    (st65.plan.admission = some admBad ∧ admission (atEnd st65 admBad) admBad.image = .error { code := 2, item := 1 } ∧
      st65.odx.startDue = false) ∧
    (st66.plan.switching = some (3, planRun) ∧ 3 ≤ st66.tick.num) ∧
    (WriteOk up reqM 0x2100 4 [1] stopHook (.num 1) ∧ up.plan.switching = none) ∧
    (WriteOk st67 reqM 0x2100 4 [1] stopHook (.num 1) ∧ st67.plan.switching = some (9, planRun) ∧ st67.tick.num < 9 ∧
      st67.plan.pending = none) ∧
    (st68.plan.stopAt = some 3 ∧ 3 ≤ st68.tick.num) ∧
    WriteOk up reqM 0x2110 (0 + 1) (leBytes 4 55) (speedHook (0 + 1)) (.num 55) ∧
    (st69.plan.speedTick = some 0 ∧ odN st69 0x2110 3 * 10000 < (st69.tick.num - 0) * 128) ∧
    weirHeld st70 st70.tick.num = false ∧
    (sGood.plan.admission = some admGood ∧ (∃ p, admission (atEnd sGood admGood) admGood.image = .ok p) ∧ sGood.odx.startDue
      = false ∧ admGood.check = false ∧ sGood.plan.switching = none) ∧
    (st71.plan.admission = some { admGood with check := true } ∧ (∃ p, admission (atEnd st71 admGood) admGood.image = .ok p)
      ∧ st71.odx.startDue = false ∧ ({ admGood with check := true } : Admission).check = true) ∧
    (st72.plan.admission = some admGood ∧ (∃ p, admission (atEnd st72 admGood) admGood.image = .ok p) ∧ st72.odx.startDue =
      false ∧ admGood.check = false ∧ st72.plan.switching = some (9, { planRun with id := 2 }) ∧ st72.tick.num < 9) := by
  refine ⟨⟨⟨sesM, by unfold Fresh; decide +kernel, ok_of (by decide +kernel)⟩, by decide +kernel⟩,
    ⟨⟨sesM, by unfold Fresh; decide +kernel, ok_of (by decide +kernel)⟩, by decide +kernel⟩, ?_,
    ⟨by decide +kernel, rfl, by decide +kernel⟩, ?_,
    ⟨⟨sesM, by unfold Fresh; decide +kernel, ok_of (by decide +kernel)⟩, by decide +kernel⟩,
    ⟨⟨sesM, by unfold Fresh; decide +kernel, ok_of (by decide +kernel)⟩, by decide +kernel, by decide +kernel, by decide +kernel⟩,
    ?_, ⟨sesM, by unfold Fresh; decide +kernel, ok_of (by decide +kernel)⟩, ?_, ?_,
    ⟨by decide +kernel, admitted_of (by decide +kernel), by decide +kernel, by decide +kernel, by decide +kernel⟩,
    ⟨by decide +kernel, admitted_of (by decide +kernel), by decide +kernel, rfl⟩,
    ⟨by decide +kernel, admitted_of (by decide +kernel), by decide +kernel, by decide +kernel, rfl, by decide +kernel⟩⟩ <;> decide +kernel

/-! ### EmissionCommandsAreTaken -/

def st73 : State := { up with emit.state := .on }

def st74 : State := { up with emit.latched := 7, emit.active := 2 }

def st75 : State := { up with boot.stuck := true, isl.active := 0x8000 }

def st76 : State := { up with
  emit.emitters := [(0, { diag := .weak }), (1, { diag := .weak })], emit.banks := [(0, { st := .short })] }

theorem wit_EmissionCommandsAreTaken :
    WriteOk up reqM 0x4000 1 [1] enableHook (.num 1) ∧
    WriteOk st73 reqM 0x4000 1 [0] enableHook (.num 0) ∧
    (WriteOk st74 reqM 0x4000 3 [1] ackHook (.num 1) ∧ st74.boot.stuck = false) ∧
    (WriteOk st75 reqM 0x4000 3 [1] ackHook (.num 1) ∧ st75.boot.stuck = true ∧ st75.boot.ignored = false) ∧
    WriteOk st76 reqM 0x4013 3 (leBytes 8 1) diagClearHook (.num 1) := by
  refine ⟨⟨sesM, by unfold Fresh; decide +kernel, ok_of (by decide +kernel)⟩,
    ⟨sesM, by unfold Fresh; decide +kernel, ok_of (by decide +kernel)⟩,
    ⟨⟨sesM, by unfold Fresh; decide +kernel, ok_of (by decide +kernel)⟩, by decide +kernel⟩,
    ⟨⟨sesM, by unfold Fresh; decide +kernel, ok_of (by decide +kernel)⟩, by decide +kernel, by decide +kernel⟩,
    ⟨sesM, by unfold Fresh; decide +kernel, ok_of (by decide +kernel)⟩⟩ <;> decide +kernel

/-! ### EmitterDiagnosisActs -/

def grpW : Group := { ticks := 1024, a := [100] ++ List.replicate 15 0, bv := [120, 0, 0, 0], fired := 1 }

def st77 : State := { up with emit.groups := [(2, grpW)] }

def st78 : State := { up with emit.state := .on, emit.groups := [(2, { quietRun := 2 })] }

def st79 : State := { up with emit.groups := [(2, { stuck := true, below := 64 })] }

def st80 : State := { up with emit.banks := [(1, { run := 64, overSeen := true })] }

def st81 : State := { up with emit.banks := [(1, { run := 64 })] }

theorem wit_EmitterDiagnosisActs :
    (1024 ≤ (getGroup st77 2).ticks ∧ 2 < nEmit st77 / 4 ∧ windowSolve (getGroup st77 2) = some [(0, 6 / 5)] ∧ diagHeld
      (getEmitter st77 (4 * 2 + 0)).diag = false) ∧
    (2 ≤ (getGroup st78 2).quietRun ∧ (getGroup st78 2).stuck = false ∧ 2 < nEmit st78 / 4 ∧ st78.emit.active.getLsbD 7 =
      false) ∧
    ((getGroup st79 2).stuck = true ∧ 64 ≤ (getGroup st79 2).below ∧ ((tset st79.emit.groups 2 { getGroup st79 2 with stuck
      := false }).any (fun p => p.2.stuck) = false)) ∧
    (64 ≤ (getBank st80 1).run ∧ (getBank st80 1).locked = false ∧ 1 < nBank st80 ∧ (getBank st80 1).overSeen = true) ∧
    (64 ≤ (getBank st81 1).run ∧ (getBank st81 1).locked = false ∧ 1 < nBank st81 ∧ (getBank st81 1).overSeen = false ∧
      bankOff (getBank st81 1) = false) := by
  refine ⟨?_, ?_, ?_, ?_, ?_⟩ <;> decide +kernel

/-! ### ShotsProbesAndLatch -/

def regA : Region := {
  s := 4, wpol := 0, nwmax := 1, lmax := 1, lmin := 1, lfix := 1, sfix := 0, dither := 0, two := 0, early := 0
  ksig := 8, grad := 0, hmin := 0, eclass := [] }

def colA : ColRun := {
  seq := 1, planId := 1, frame := 0, k := 0, first := 10, s := 4, region := regA, banks := 1, foveaOk := false
  lastOfFrame := false, fovs := [], outs := [], axsrc := 0, enabled := true, h0 := 0, h1 := 0, v0 := 0, v1 := 0
  dither := 0, twoPulse := false, chans := [(3, { e := 5 })] }

def shotA : Shot := { cls := 0, launch := 1000, width := 4, second := 0, cell := 0, energy := 10, charge := 1 }

def st82 : State := { sCh { st := .run } with
  tick.num := 10, emit.state := .on, emit.shots := [(5, shotA)], plan.cols := [colA] }

def st83 : State := { sCh { st := .run, pair := .opened } with
  tick.num := 11, emit.state := .on, emit.shots := [(5, shotA)], plan.cols := [colA] }

def shotB : Shot := { shotA with fired := true, second := 160 }

def st84 : State := { up with emit.state := .on, emit.shots := [(5, shotB)] }

def st85 : State := { up with emit.shots := [(5, shotA)] }

def st86 : State := { up with emit.probes := [⟨3, 0, 10, 1, 1, 0⟩] }

def latchA : LatchInputs := ⟨[0, 0, 0, 0], List.replicate 16 0, List.replicate 16 0⟩

def convA : Conv := { level := 0, entry := 0, input := 25, mux := 0, guard := false }

def st87 : State := { up with hk.st := .run, hk.cur := some convA }

def convG : Conv := { convA with guard := true }

def st88 : State := { up with hk.st := .run, hk.cur := some convG }

def st89 : State := { up with hk.st := .run, hk.cur := some convG }

def st90 : State := { withOd up [(0xB000, 2, 0)] with hk.st := .run, hk.cur := some convG }

theorem wit_ShotsProbesAndLatch :
    (columnAt st82 st82.tick.num = some colA ∧ tget st82.emit.shots 5 = some shotA ∧ shotA.fired = false ∧ emissionOff st82
      = false ∧ st82.emit.active = 0 ∧ domOn st82 .emit = true ∧ ((List.map (fun x => x.1) colA.chans).Nodup) ∧ (3 ∈
      List.map (fun x => x.1) colA.chans) ∧ chanLive st82 3 = true ∧ (getChan st82 3).pair = .idle ∧ ((stackAt st82 3
      st82.tick.num).map (fun p => (p.e, p.first)) = some (5, 10))) ∧
    (columnAt st83 st83.tick.num = some colA ∧ tget st83.emit.shots 5 = some shotA ∧ shotA.fired = false ∧ emissionOff st83
      = false ∧ st83.emit.active = 0 ∧ domOn st83 .emit = true ∧ ((List.map (fun x => x.1) colA.chans).Nodup) ∧ (3 ∈
      List.map (fun x => x.1) colA.chans) ∧ chanLive st83 3 = true ∧ (getChan st83 3).pair = .opened ∧ ((stackAt st83 3
      st83.tick.num).map (fun p => (p.e, p.first)) = some (5, 10))) ∧
    (tget st84.emit.shots 5 = some shotB ∧ shotB.fired = true ∧ shotB.second ≠ 0 ∧ emissionOff st84 = false ∧
      st84.emit.active = 0 ∧ domOn st84 .emit = true) ∧
    (emissionOff st85 = true ∨ st85.emit.active ≠ 0 ∨ domOn st85 .emit = false) ∧
    (st86.emit.probes ≠ [] ∧ st86.emit.active = 0 ∧ domOn st86 .emit = true) ∧
    domOn up .servo = true ∧
    (st87.hk.cur = some convA ∧ convA.guard = false ∧ convA.level = 0) ∧
    (st88.hk.cur = some convG ∧ convG.guard = true ∧ false = false) ∧
    (st89.hk.cur = some convG ∧ convG.guard = true ∧ true = true ∧ odN st89 0xB000 2 = 1) ∧
    (st90.hk.cur = some convG ∧ convG.guard = true ∧ true = true ∧ odN st90 0xB000 2 = 0) := by
  refine ⟨?_, ?_, ?_, ?_, ?_, ?_, ?_, ?_, ?_, ?_⟩ <;> decide +kernel

/-! ### LoopCommandsWaitForTheLatch -/

def st91 : State := { up with
  servo.v.st := .opened, servo.v.posSeen := true, servo.dec := [(1, { on := true, word := 0 })] }

def st92 : State := { up with servo.h.st := .loss, servo.h.inRun := 16 }

theorem wit_LoopCommandsWaitForTheLatch :
    WriteOk up reqM (axisIx .h) 1 [0] (loopHook .h) (.num 0) ∧
    WriteOk st91 reqM (axisIx .v) 1 [1] (loopHook .v) (.num 1) ∧
    WriteOk up reqM (axisIx .v) 1 [2] (loopHook .v) (.num 2) ∧
    WriteOk st92 reqM (axisIx .h) 15 [1] (faultClearHook .h) (.num 1) := by
  refine ⟨⟨sesM, by unfold Fresh; decide +kernel, ok_of (by decide +kernel)⟩,
    ⟨sesM, by unfold Fresh; decide +kernel, ok_of (by decide +kernel)⟩,
    ⟨sesM, by unfold Fresh; decide +kernel, ok_of (by decide +kernel)⟩,
    ⟨sesM, by unfold Fresh; decide +kernel, ok_of (by decide +kernel)⟩⟩ <;> decide +kernel

/-! ### DecimatorsAndSourcesRun -/

def st93 : State := withOd up [(0x5050, 1, 1)]

def st94 : State := withOd up [(0x5050, 1, 2)]

def st95 : State := { withOd up [(0x5000, 1, 1)] with tick.num := 10000000 }

def st96 : State := { withOd up [(0x5000, 1, 2)] with tick.num := 10000000 }

theorem wit_DecimatorsAndSourcesRun :
    (WriteOk up reqM (20544 + 2) 1 [1] (decRunHook 2) (.num 1) ∧ domOn up .servo = true ∧ (tgetD up.servo.dec 2 {}).on =
      false) ∧
    WriteOk up reqM (20544 + 2) 1 [0] (decRunHook 2) (.num 0) ∧
    (domOn st93 .servo = true ∧ odN st93 0x5050 1 = 1 ∧ 0 < 1000 ∧ 20000000 ≤ 1000 * odN st93 0x5050 3 ∧ 1000 * odN st93
      0x5050 2 ≤ 20000000) ∧
    (domOn st94 .servo = true ∧ odN st94 0x5050 1 = 2 ∧ 0 < 40) ∧
    (sourceLate st95 0 st95.servo.ana = true ∧ sourceLate st95 1 st95.servo.pulse = false) ∧
    (sourceLate st96 0 st96.servo.ana = false ∧ sourceLate st96 1 st96.servo.pulse = true) := by
  refine ⟨⟨⟨sesM, by unfold Fresh; decide +kernel, ok_of (by decide +kernel)⟩, by decide +kernel, by decide +kernel⟩,
    ⟨sesM, by unfold Fresh; decide +kernel, ok_of (by decide +kernel)⟩, ?_, ?_, ?_, ?_⟩ <;> decide +kernel

/-! ### TraceBufferFollowsItsCommands -/

def st97 : State := { withOd up [(0x5060,2,0),(0x5060,3,2)] with servo.trace := { st := .armed, recs := [[1],[2],[3]] } }

def st98 : State := { up with servo.trace.st := .armed }

def st99 : State := { up with servo.trace.st := .recording }

theorem wit_TraceBufferFollowsItsCommands :
    WriteOk up reqM 0x5060 4 [1] traceHook (.num 1) ∧
    (WriteOk st97 reqM 0x5060 4 [2] traceHook (.num 2) ∧ st97.servo.trace.st = .armed ∧ odN st97 0x5060 2 = 0) ∧
    (WriteOk st98 reqM 0x5060 4 [0] traceHook (.num 0) ∧ st98.servo.trace.st ≠ .done) ∧
    (st99.servo.trace.st = .recording ∧ st99.servo.trace.left = 0) := by
  refine ⟨⟨sesM, by unfold Fresh; decide +kernel, ok_of (by decide +kernel)⟩,
    ⟨⟨sesM, by unfold Fresh; decide +kernel, ok_of (by decide +kernel)⟩, by decide +kernel, by decide +kernel⟩,
    ⟨⟨sesM, by unfold Fresh; decide +kernel, ok_of (by decide +kernel)⟩, by decide +kernel⟩, ?_⟩ <;> decide +kernel

/-! ### DriveAndFeedbackLoss -/

def st100 : State := { up with servo.h.st := .opened, servo.v.st := .closed, servo.v.want := 77 }

def rampA : Ramp := { d0 := 100, dp := -100, i := 3, n := 10, loss := false }

def st101 : State := { up with servo.h.st := .parking, servo.h.ramp := some rampA }

def st102 : State := { up with servo.h.st := .closed, servo.h.lossDue := some 2 }

theorem wit_DriveAndFeedbackLoss :
    (domOn st100 .servo = true ∧ (getAxis st100 Axis.h).st = .opened ∧ (getAxis st100 Axis.v).st = .closed) ∧
    (domOn st101 .servo = true ∧ (getAxis st101 Axis.h).st = .parking ∧ (getAxis st101 Axis.v).st = .off) ∧
    (getAxis st102 Axis.h).lossDue = some 2 := by
  refine ⟨?_, ?_, ?_⟩ <;> decide +kernel

/-! ### StoresStayInTheirPlaces -/

def frA : CamFrame := {
  seq := 4, no := 9, tfs := 100, tmid := 100, slot := 1, state := 2, w := 2, h := 3, bits := 8, order := 0, base := 64
  px := 4, black := [], defects := [], gains := [], matrix := [], curveX := [], curveY := [], fadeN := 0, fadeJ := 0
  fading := false, syncMiss := false, arrived := 2 }

def frB : CamFrame := { frA with mem := [(0, [1, 2])] }

def frC : CamFrame := { frB with closed := true, short := true }

def camsWith (a : List (Nat × CamSt)) : State := { up with cams := a }

def camB : CamSt := { st := .normal, seq := 5, frames := [frB], buf := [(4, 1, [7, 8])] }

def st103 : State := camsWith [(0, camB)]

def st104 : State := { withOd up [(0x6000, 9, 0), (0x6001, 9, 1)] with cams := [(0, camB), (1, camB)] }

def frD : CamFrame := { frC with mem := [] }

def camA : CamSt := { st := .normal, seq := 5, frames := [frA], buf := [(4, 0, [7, 8])] }

def st105 : State := camsWith [(1, camA)]

def st106 : State := camsWith [(1, { camB with frames := [frC], buf := [] })]

def st107 : State := camsWith [(1, { camB with frames := [frD], buf := [] })]

def st108 : State := { up with acq.fifo := [(128, [1, 0, 3])] }

theorem wit_StoresStayInTheirPlaces :
    (MemoryWf st103 ∧ (0 = 0 ∨ 0 = 1) ∧ camPowered st103 = true ∧ camWaiting st103 0 = some (frB, 1, [7, 8]) ∧ (camWaiting
      st103 (1 - 0) = none ∨ 0 = if odN st103 0x6000 9 < odN st103 0x6001 9 then 1 else 0) ∧ frB.mem = [(0, [1, 2])] ∧
      (frB.px = 2 ∨ frB.px = 4)) ∧
    (MemoryWf st104 ∧ (1 = 0 ∨ 1 = 1) ∧ camPowered st104 = true ∧ camWaiting st104 1 = some (frB, 1, [7, 8]) ∧ (camWaiting
      st104 (1 - 1) = none ∨ 1 = if odN st104 0x6000 9 < odN st104 0x6001 9 then 1 else 0) ∧ frB.mem = [(0, [1, 2])] ∧
      (frB.px = 2 ∨ frB.px = 4)) ∧
    ((1 = 0 ∨ 1 = 1) ∧ camPowered st105 = true ∧ camWaiting st105 1 = some (frA, 0, [7, 8]) ∧ (camWaiting st105 (1 - 1) =
      none ∨ 1 = if odN st105 0x6000 9 < odN st105 0x6001 9 then 1 else 0) ∧ frA.mem = []) ∧
    (MemoryWf st106 ∧ camPowered st106 = true ∧ storable (getCam st106 1) = some frC ∧ frC.mem = [(0, [1, 2])] ∧ (frC.px = 2
      ∨ frC.px = 4)) ∧
    (MemoryWf st107 ∧ camPowered st107 = true ∧ storable (getCam st107 1) = some frD ∧ frD.mem = [] ∧ slotRead st107 1
      frD.slot = false) ∧
    (MemoryWf st108 ∧ domOn st108 .mem = true ∧ st108.acq.fifo = [(128, [1, 0, 3])]) := by
  refine ⟨
    ⟨by unfold MemoryWf; decide +kernel, by decide +kernel, by decide +kernel, by decide +kernel, by decide +kernel, by decide +kernel, by decide +kernel⟩,
    ⟨by unfold MemoryWf; decide +kernel, by decide +kernel, by decide +kernel, by decide +kernel, by decide +kernel, by decide +kernel, by decide +kernel⟩,
    ?_, ⟨by unfold MemoryWf; decide +kernel, by decide +kernel, by decide +kernel, by decide +kernel, by decide +kernel⟩,
    ⟨by unfold MemoryWf; decide +kernel, by decide +kernel, by decide +kernel, by decide +kernel, by decide +kernel⟩,
    ⟨by unfold MemoryWf; decide +kernel, by decide +kernel, by decide +kernel⟩⟩ <;> decide +kernel

/-! ### CameraFramesAndLines -/

def fsA : FramePacket := ⟨0, .ok, 9, 500⟩

def st109 : State := camsWith [(0, { st := .startup })]

def st110 : State := camsWith [(0, camB)]

def lnA : LinePacket := ⟨0, 0x2C, .ok, true, [1, 2]⟩

def st111 : State := camsWith [(0, camB)]

def st112 : State := camsWith [(0, camB)]

def st113 : State := { withOd up [(0x6000, 9, 0), (0x6001, 9, 1)] with cams := [(0, camB), (1, camB)] }

def st114 : State := camsWith [(1, { camB with frames := [frC], buf := [] })]

def camRd : CamSt := { camB with
  frames := [frD], buf := [], slots := [(1, { seq := 3, tmid := 9, bad := false, base := 64, w := 2, px := 4 })] }

def st115 : State := { camsWith [(1, camRd)] with points.late := [(1, 1)] }

theorem wit_CameraFramesAndLines :
    (camReceives st109 0 = true ∧ entryStops st109 = false ∧ fsA.ecc = .ok ∧ 0 = odN st109 (24576 + 0) 4 ∧ (getCam st109
      0).st ≠ .absent ∧ openFrame (getCam st109 0) = none ∧ (getCam st109 0).lastFs = none) ∧
    (camReceives st110 0 = true ∧ fsA.ecc = .ok ∧ 0 = odN st110 (24576 + 0) 4 ∧ (getCam st110 0).ignore = false ∧ openFrame
      (getCam st110 0) = some frB) ∧
    (camReceives st111 0 = true ∧ lnA.ecc = .ok ∧ 0 = odN st111 (24576 + 0) 4 ∧ lnA.dt.toNat = camType st111 0 ∧ (getCam
      st111 0).ignore = false ∧ openFrame (getCam st111 0) = some frB ∧ frB.arrived < frB.h ∧ frB.cut = false ∧ (getCam
      st111 0).buf.length < 4) ∧
    (camPowered st112 = true ∧ camWaiting st112 0 = some (frB, 1, [7, 8]) ∧ camWaiting st112 1 = none) ∧
    (camPowered st113 = true ∧ camWaiting st113 0 = some (frB, 1, [7, 8]) ∧ camWaiting st113 1 = some (frB, 1, [7, 8]) ∧ odN
      st113 0x6000 9 < odN st113 0x6001 9) ∧
    (camPowered st114 = true ∧ storable (getCam st114 1) = some frC ∧ MemoryWf st114 ∧ (frC.mem ≠ [] ∨ slotRead st114 1
      frC.slot = false) ∧ 2 ≤ odN st114 (24592 + 1) 2 ∧ ((List.map (fun x => x.1) (getCam st114 1).slots).Nodup) ∧ (∀ (p :
      Nat × StoredFrame), p ∈ (getCam st114 1).slots → p.1 ≠ frC.slot → p.snd.seq < frC.seq) ∧ List.length (getCam st114
      1).slots < odN st114 (24592 + 1) 2) ∧
    (storable (getCam st115 1) = some frD ∧ frD.mem = [] ∧ slotRead st115 1 frD.slot = true) := by
  refine ⟨?_, ?_, ?_, ?_, ?_,
    ⟨by decide +kernel, by decide +kernel, by unfold MemoryWf; decide +kernel, by decide +kernel, by decide +kernel, by decide +kernel, by decide +kernel, by decide +kernel⟩,
    ?_⟩ <;> decide +kernel

/-! ### CameraPortsAndSync -/

def st116 : State := camsWith [(1, camB)]

def st117 : State := camsWith [(1, camB)]

def st118 : State := camsWith [(1, { camB with st := .test })]

def st119 : State := { camsWith [(1, { st := .startup })] with tick.num := 1000000 }

def st120 : State := { camsWith [(1, { st := .test })] with tick.num := 1000000 }

def st121 : State := camsWith [(1, { sync := true })]

def st122 : State := camsWith [(1, { sync := true, syncT := some (0, 0), syncW := 200 })]

theorem wit_CameraPortsAndSync :
    (WriteOk up reqM (24576 + 1) 1 [1] (portHook 1) (.num 1) ∧ camPowered up = true ∧ (getCam up 1).st = .off ∧ odN up
      (24576 + 1) 15 = 0) ∧
    WriteOk st116 reqM (24576 + 1) 1 [0] (portHook 1) (.num 0) ∧
    (WriteOk st117 reqM (24576 + 1) 15 [1] (testHook 1) (.num 1) ∧ (getCam st117 1).st = .normal) ∧
    (WriteOk st118 reqM (24576 + 1) 15 [0] (testHook 1) (.num 0) ∧ (getCam st118 1).st = .test) ∧
    (camPowered st119 = true ∧ msTicks (odN st119 (24576 + 1) 13) ≤ since st119 (getCam st119 1).armed ∧ ((getCam st119
      1).st = .startup ∨ (getCam st119 1).st = .recovery)) ∧
    (camPowered st120 = true ∧ msTicks (odN st120 (24576 + 1) 13) ≤ since st120 (getCam st120 1).armed ∧ (getCam st120 1).st
      = .test) ∧
    ((getCam st121 1).sync = true ∧ fsyncLeft st121 1 < 128) ∧
    128 ≤ fsyncLeft st122 1 := by
  refine ⟨
    ⟨⟨sesM, by unfold Fresh; decide +kernel, ok_of (by decide +kernel)⟩, by decide +kernel, by decide +kernel, by decide +kernel⟩,
    ⟨sesM, by unfold Fresh; decide +kernel, ok_of (by decide +kernel)⟩,
    ⟨⟨sesM, by unfold Fresh; decide +kernel, ok_of (by decide +kernel)⟩, by decide +kernel⟩,
    ⟨⟨sesM, by unfold Fresh; decide +kernel, ok_of (by decide +kernel)⟩, by decide +kernel⟩, ?_, ?_, ?_,
    ?_⟩ <;> decide +kernel

/-! ### AcquisitionCaptures -/

def st123 : State := withOd up [(0x7010,1,2)]

def st124 : State := { up with acq.st := .pretrig }

def st125 : State := { withOd up [(0x7010,1,2)] with acq.st := .pretrig, acq.manual := true, tick.num := 9 }

def st126 : State := { withOd up [(0x7010,1,2)] with acq.st := .posttrig, tick.num := 9 }

def st127 : State := { up with acq.fifo := [(128, [1, 0, 3])] }

def st128 : State := { up with acq.st := .posttrig, acq.fifo := [(128, [1, 0, 3])] }

def st129 : State := { up with acq.st := .posttrig, acq.ending := true }

theorem wit_AcquisitionCaptures :
    (WriteOk st123 reqM 0x7000 1 [1] acqHook (.num 1) ∧ armRefusal st123 = none) ∧
    (WriteOk up reqM 0x7000 1 [1] acqHook (.num 1) ∧ armRefusal up = some (2, abRange)) ∧
    (WriteOk st124 reqM 0x7000 1 [0] acqHook (.num 0) ∧ capturing st124 = true) ∧
    WriteOk up reqM 0x7000 1 [2] acqHook (.num 2) ∧
    (capturing st125 = true ∧ st125.acq.armed < st125.tick.num ∧ st125.acq.lastRow < st125.tick.num ∧ st125.acq.st =
      .pretrig ∧ st125.acq.manual = true) ∧
    (capturing st126 = true ∧ st126.acq.armed < st126.tick.num ∧ st126.acq.lastRow < st126.tick.num ∧ st126.acq.st =
      .posttrig) ∧
    (domOn st127 .mem = true ∧ st127.acq.fifo = [(128, [1, 0, 3])]) ∧
    (domOn st128 .mem = true ∧ st128.acq.fifo ≠ [] ∧ (st128.acq.st = .pretrig ∨ st128.acq.st = .posttrig)) ∧
    (st129.acq.ending = true ∧ st129.acq.fifo = []) := by
  refine ⟨⟨⟨sesM, by unfold Fresh; decide +kernel, ok_of (by decide +kernel)⟩, by decide +kernel⟩,
    ⟨⟨sesM, by unfold Fresh; decide +kernel, ok_of (by decide +kernel)⟩, by decide +kernel⟩,
    ⟨⟨sesM, by unfold Fresh; decide +kernel, ok_of (by decide +kernel)⟩, by decide +kernel⟩,
    ⟨sesM, by unfold Fresh; decide +kernel, ok_of (by decide +kernel)⟩, ?_, ?_, ?_, ?_, ?_⟩ <;> decide +kernel

/-! ### IslandStartsAndIsConfigured -/

def st130 : State := { up with isl.code := some 0 }

def cfgA : SafeCfg := { crc := workingCrc up, vals := [] }

def st131 : State := { up with isl.code := some 3, isl.stored := [(3, cfgA)], isl.paired := [(3, cfgA.crc)] }

def upS : State := { up with isl.st := .service, odx.sessions := [sesS], isl.stored := [(3, cfgA)] }

def st132 : State := { upS with isl.writes := [.store 5 cfgA, .delete 3] }

def st133 : State := { up with isl.code := some 3 }

def st134 : State := { up with isl.code := some 3, isl.glitches := 1 }

theorem wit_IslandStartsAndIsConfigured :
    (islOn st130 = true ∧ st130.isl.st = .init ∧ st130.isl.code = some 0) ∧
    (islOn st131 = true ∧ st131.isl.st = .init ∧ st131.isl.code = some 3 ∧ 3 ≠ 0 ∧ tget st131.isl.stored 3 = some cfgA ∧
      pairingHolds st131 3 = true) ∧
    (islOn up = true ∧ up.isl.st = .init ∧ up.isl.active.getLsbD 14 = false) ∧
    WriteOk upS reqM 0x8002 1 [3] (cfgHook reqM 1) (.num 3) ∧
    (WriteOk upS reqM 0x8002 2 [3] (cfgHook reqM 2) (.num 3) ∧ tget upS.isl.stored 3 = some cfgA) ∧
    WriteOk upS reqM 0x8002 3 [3] (cfgHook reqM 3) (.num 3) ∧
    st132.isl.writes = [CfgWrite.store 5 cfgA, CfgWrite.delete 3] ∧
    (hasSafe st133 = true ∧ st133.isl.code = some 3 ∧ 3 = 3 ∧ (0xFC : BitVec 8) = ~~~3) ∧
    (islOn st134 = true ∧ st134.isl.code = some 3 ∧ 4 ≠ 3 ∧ st134.isl.glitches = 1) := by
  refine ⟨?_,
    ⟨by decide +kernel, by decide +kernel, by decide +kernel, by decide +kernel, rfl, pairing_empty (c := cfgA) rfl rfl rfl rfl rfl rfl⟩,
    ?_, ⟨sesS, by unfold Fresh; decide +kernel, ok_of (by decide +kernel)⟩,
    ⟨⟨sesS, by unfold Fresh; decide +kernel, ok_of (by decide +kernel)⟩, rfl⟩,
    ⟨sesS, by unfold Fresh; decide +kernel, ok_of (by decide +kernel)⟩, rfl, ?_, ?_⟩ <;> decide +kernel

/-! ### IslandFaultsActAtOnce -/

def st135 : State := { up with isl.st := .service }

def islRec : IslRecord := {
  chan := 3, range := 4000, az := 0, cls := 0, coarse := false, empty := false, col := 5, tick := 10 }

def st136 : State := { sOp with tick.num := 20, isl.fifo := [.record islRec] }

def sZone : State := { withOd (odSet up 0x8200 6 (.bytes ([4, 0, 0, 0] ++ List.replicate 64 0xFF ++ leBytes 4 (2^32 - 1000) ++ leBytes 4 100 ++ leBytes 4 1000 ++ leBytes 4 100 ++ leBytes 4 1000 ++ leBytes 4 2000 ++ leBytes 4 (2^32 - 1000) ++ leBytes 4 2000))) [(0x8200, 1, 3), (0x8200, 2, 1), (0x8200, 8, 1000)] with
  isl.st := .operate, isl.outA.on := true, isl.outB.on := true, tick.num := 10000 }

def st137 : State := { sOp with tick.num := 100000, isl.outA.pulsed := some 10 }

def sPul : State := { sOp with tick.num := 100, isl.outA.pulsed := some 10, isl.outA.inPulse := true }

def st138 : State := { sOp with tick.num := 78 }

def st139 : State := { sOp with fm.running := some .platform, fm.queue := [.input], isl.active := 0x200 }

theorem wit_IslandFaultsActAtOnce :
    (islOn sOp = true ∧ sOp.isl.st ≠ .service ∧ sOp.isl.active.getLsbD 14 = false) ∧
    (islOn st135 = true ∧ st135.isl.st = .service ∧ st135.isl.active.getLsbD 14 = false) ∧
    (islOn sOp = true ∧ sOp.isl.active.getLsbD 8 = false ∧ sOp.isl.st = .operate) ∧
    (islOn sOp = true ∧ sOp.isl.active.getLsbD 9 = false ∧ sOp.isl.st = .operate) ∧
    (islOn st136 = true ∧ st136.isl.fifo = [IslItem.record islRec] ∧ 1 ≤ since st136 (itemTick (IslItem.record islRec)) ∧
      st136.isl.active.getLsbD 10 = false ∧ st136.isl.st = .operate) ∧
    (islOn sZone = true ∧ 0 ∈ zonesOn sZone ∧ zoneLate sZone 0 = true ∧ (getZone sZone 0).fault = false ∧ sZone.isl.st =
      .operate) ∧
    (islOn st137 = true ∧ st137.isl.st = .operate ∧ (getOut st137 0).inPulse = false ∧ pulseDue st137 0 = true) ∧
    (islOn sPul = true ∧ sPul.isl.st = .operate ∧ pulseEnds sPul 0 = true) ∧
    (islOn sPul = true ∧ sPul.isl.st = .operate ∧ pulseEnds sPul 0 = true ∧ sPul.isl.active.getLsbD 4 = false) ∧
    (islOn sOp = true ∧ pulseEnds sOp 1 = false) ∧
    (islOn st138 = true ∧ 78 ≤ since st138 (getOut st138 1).changed ∧ st138.isl.active.getLsbD 4 = false ∧ st138.isl.st =
      .operate) ∧
    (islOn st139 = true ∧ st139.fm.running = some FGroup.platform ∧ FGroup.platform = FGroup.platform) := by
  refine ⟨?_, ?_, ?_, ?_, ?_, ?_, ?_, ?_, ?_, ?_, ?_, ?_⟩ <;> decide +kernel

/-! ### IslandEvaluatesRecordsAndInputs -/

def st140 : State := { sZone with isl.fifo := [.record islRec] }

def markA : IslMarker := { chan := 3, col := 5, shots := 4, lo := -100, hi := 100, tick := 10 }

def st141 : State := { sZone with isl.fifo := [.marker markA] }

def sampA : SafetyInputs := ⟨0, 0, true, true⟩

def st142 : State := { withOd up [(0x8301, 1, 1)] with isl.st := .safe }

theorem wit_IslandEvaluatesRecordsAndInputs :
    (islOn st140 = true ∧ st140.isl.fifo = [IslItem.record islRec] ∧ (zoneColumn (getZone st140 0) islRec.col).col = some
      islRec.col ∧ classCounted st140 0 islRec = true ∧ inZone st140 0 islRec = true ∧ (zoneColumn (getZone st140 0)
      islRec.col).colBad = false ∧ (odN st140 (33280 + 0) 2 ≤ (List.filter (fun c => ((zoneColumn (getZone st140 0)
      islRec.col).chans ||| 1#512 <<< islRec.chan).getLsbD c) (List.range 512)).length) ∧ zoneProtective st140 0 = true ∧
      cfgActive st140 = true ∧ st140.isl.active.getLsbD 0 = false ∧ st140.isl.st = .operate) ∧
    (islOn st141 = true ∧ st141.isl.fifo = [IslItem.marker markA]) ∧
    (islOn st142 = true ∧ st142.isl.st ≠ .init ∧ odN st142 (33536 + 1) 1 = 1 ∧ odN st142 (33536 + 1) 2 = 0 ∧ sampA.a.getLsbD
      1 = false ∧ sampA.b.getLsbD 1 = false) := by
  refine ⟨
    ⟨by decide +kernel, by decide +kernel, by decide +kernel, by decide +kernel, by decide +kernel, by decide +kernel, by decide +kernel, by decide +kernel, rfl, by decide +kernel, by decide +kernel⟩,
    ?_, ?_⟩ <;> decide +kernel

/-! ### SafetyLayerConnections -/

def bslSt (x : Bsl) (l : List (Nat × Nat × Nat)) : State := { withOd up ((0x8402, 1, 2) :: l) with
  isl.st := .safe, isl.bsl := [(2, x)] }

def st143 : State := bslSt { st := .data, version := 2 } []

def st144 : State := bslSt {} []

def st145 : State := { bslSt { rejected := some 0 } [] with tick.num := 1000000 }

def badTel : Bytes := [2, 3, 1, 0] ++ List.replicate 21 0

def st146 : State := bslSt {} []

def sCons : State :=
  bslSt { st := .data, version := 2, lastSeq := 6, lastTime := 90 } [(0x8402, 2, 1), (0x8402, 3, 11), (0x8402, 4, 22)]

def telBody : Bytes := [2, 3, 1, 0] ++ leBytes 4 22 ++ leBytes 4 11 ++ leBytes 4 7 ++ leBytes 4 90 ++ [5]

def goodTel : Bytes := telBody ++ bslCode32 sCons 2 telBody

def st147 : State := { sCons with tick.num := 10000000 }

theorem wit_SafetyLayerConnections :
    (bslOn st143 2 = true ∧ bslConsumer st143 2 = false ∧ (getBsl st143 2).sent = none ∧ (getBsl st143 2).rejected = none ∧
      (getBsl st143 2).st = .data) ∧
    (bslOn st144 2 = true ∧ bslConsumer st144 2 = false ∧ (getBsl st144 2).sent = none ∧ (getBsl st144 2).rejected = none ∧
      (getBsl st144 2).st ≠ .data) ∧
    (bslOn st145 2 = true ∧ (getBsl st145 2).rejected = some 0 ∧ msTicks 1000 ≤ since st145 0) ∧
    (bslOn st146 2 = true ∧ List.length badTel = 25 ∧ fieldN badTel 2 1 = 1 ∧ fieldN badTel 3 1 = 0 ∧ slice badTel 21 4 ≠
      bslCode32 st146 2 (List.take 21 badTel)) ∧
    (bslOn sCons 2 = true ∧ List.length goodTel = 25 ∧ fieldN goodTel 2 1 = 1 ∧ fieldN goodTel 3 1 = 0 ∧ slice goodTel 21 4
      = bslCode32 sCons 2 (List.take 21 goodTel) ∧ fieldN goodTel 4 4 = odN sCons (33792 + 2) 4 ∧ fieldN goodTel 8 4 = odN
      sCons (33792 + 2) 3 ∧ fieldN goodTel 1 1 = 3 ∧ fieldN goodTel 0 1 = (getBsl sCons 2).version ∧ ((getBsl sCons
      2).version = 1 ∨ (getBsl sCons 2).version = 2) ∧ bslConsumer sCons 2 = true ∧ (getBsl sCons 2).st = .data ∧ (getBsl
      sCons 2).mac = false ∧ fieldN goodTel 12 4 = (getBsl sCons 2).lastSeq + 1 ∧ fieldN goodTel 16 4 = (getBsl sCons
      2).lastTime) ∧
    (bslOn st147 2 = true ∧ bslConsumer st147 2 = true ∧ (getBsl st147 2).st ≠ .down ∧ odN st147 (33792 + 2) 7 * 10000 ≤
      since st147 (getBsl st147 2).heard * 128 ∧ bslRequired st147 2 = true) := by
  refine ⟨?_, ?_, ?_, ?_, ?_, ?_⟩ <;> decide +kernel

/-! ### TimeFollowsItsSource -/

def timeSt (x : TimeSt) (src : Nat) : State := { withOd up [(0xD031, 1, src), (0xD000, 1, 3)] with
  time := x, tick.num := 100, net.link1 := 2, net.link2 := 2 }

def syncA : SyncMeas := ⟨1, 1577836800000001000, 5, 100, -3, 1, 2000⟩

def syncB : SyncMeas := { syncA with interval := 1 }

def syncC : SyncMeas := { syncA with interval := 0 }

def gmA : Master := { vector := 5, gm := 0x11, utc := none, until_ := 10000 }

def st148 : State := timeSt {} 1

def st149 : State := { timeSt { masters := [(1, gmA)] } 1 with net.link1 := 0 }

def st150 : State := timeSt { masters := [(1, gmA)] } 1

def st151 : State := timeSt { masters := [(1, gmA)] } 1

def st152 : State := timeSt { masters := [(1, gmA)], state := .holdover } 1

def st153 : State := timeSt { masters := [(1, gmA)], state := .acquiring, near := 7, c := 1000 * 2 ^ 32 } 1

def delayA : DelayMeas := ⟨2, 900, 500, 100⟩

def st154 : State := { timeSt { masters := [(1, gmA)] } 1 with net.link2 := 0 }

def st155 : State := timeSt { pdelays := [(2, (90, true))] } 1

def st156 : State := timeSt {} 2

def st157 : State := timeSt { ptp := { delayTick := some 99 } } 2

def exchA : DelayExch := ⟨1577836800000001000, 3, 1200, 1577836800000002000, 4, 90, 1, none⟩

def st158 : State := timeSt { delayReq := some 1700 } 2

def st159 : State := timeSt { c := 2999999990 * 2 ^ 32 } 3

def st160 : State := { up with time.state := .locked, tick.num := 300000 }

theorem wit_TimeFollowsItsSource :
    (portUp st148 1 = false ∨ slavePort st148 ≠ 1 ∨ syncA.interval < -3 ∨ 0 < syncA.interval) ∧
    (portUp st149 1 = false ∨ slavePort st149 ≠ 1 ∨ syncA.interval < -3 ∨ 0 < syncA.interval) ∧
    (portUp st150 1 = false ∨ slavePort st150 ≠ 1 ∨ syncB.interval < -3 ∨ 0 < syncB.interval) ∧
    (running st151 = true ∧ odN st151 0xD031 1 = 1 ∧ 1 ≠ 0 ∧ slavePort st151 = 1 ∧ -3 ≤ syncA.interval ∧ syncA.interval ≤ 0
      ∧ st151.time.stepped = false ∧ st151.time.state = .unsync) ∧
    (running st152 = true ∧ odN st152 0xD031 1 = 1 ∧ 1 ≠ 0 ∧ slavePort st152 = 1 ∧ -3 ≤ syncC.interval ∧ syncC.interval ≤ 0
      ∧ st152.time.stepped = false ∧ st152.time.state = .holdover) ∧
    (running st153 = true ∧ odN st153 0xD031 1 = 1 ∧ 1 ≠ 0 ∧ slavePort st153 = 1 ∧ -3 ≤ syncA.interval ∧ syncA.interval ≤ 0
      ∧ st153.time.stepped = false ∧ st153.time.state = .acquiring) ∧
    (running st154 = true ∧ odN st154 0xD031 1 = 1 ∧ 1 ≠ 0 ∧ slavePort st154 = 1 ∧ -3 ≤ syncA.interval ∧ syncA.interval ≤ 0
      ∧ st154.time.stepped = false ∧ st154.time.state = .unsync) ∧
    (running st155 = true ∧ odN st155 0xD031 1 = 1 ∧ 2 ≠ 0 ∧ tget st155.time.pdelays 2 = some (90, true)) ∧
    (running st156 = true ∧ odN st156 0xD031 1 = 2 ∧ delayReqDue st156 = true) ∧
    delayReqDue st157 = false ∧
    (st158.time.delayReq = some 1700 ∧ running st158 = true ∧ odN st158 0xD031 1 = 2) ∧
    (running st159 = true ∧ odN st159 0xD031 1 = 3 ∧ st159.time.ppsWritten = none ∧ st159.time.ppsNext = none ∧
      st159.time.state ≠ .locked) ∧
    ((st160.time.state = .acquiring ∨ st160.time.state = .locked) ∧ msTicks 3000 ≤ since st160 st160.time.lastMeas) := by
  refine ⟨?_, ?_, ?_, ?_, ?_, ?_, ?_, ?_, ?_, ?_, ?_, ?_, ?_⟩ <;> decide +kernel

/-! ### LanesTrainToData -/

def lanes (l : List (Nat × LaneSt)) : State := { up with lane.lanes := l, tick.num := 50 }

def st161 : State := lanes [(3, { st := .searching })]

def st162 : State := lanes [(3, { st := .absent })]

def st163 : State := lanes [(3, { st := .searching, probed := some 50 })]

def st164 : State := lanes [(3, { st := .searching, answer := true })]

def st165 : State := lanes [(3, { st := .eq })]

def st166 : State := lanes [(3, { st := .eq, ready := true })]

def st167 : State := lanes [(3, { st := .fecAlign })]

def st168 : State := lanes [(3, { st := .deskew })]

def sTwo : State :=
  odSet (lanes [(4, { st := .deskew }), (5, { st := .deskew })]) 0xC000 2 (.bytes [1, 1, 1, 1, 2, 0, 1, 1, 1, 1, 1, 1, 1, 1, 1, 1])

def st169 : State := lanes [(3, { st := .caps, caps := 0x578 + 0x80000, capsRun := 2 })]

def st170 : State := { lanes [(3, { st := .eq })] with tick.num := 100000 }

def st171 : State := { lanes [(3, { st := .caps })] with tick.num := 100000 }

def st172 : State := lanes [(3, { st := .data, k := 2 })]

theorem wit_LanesTrainToData :
    (laneSeeks (getLane st161 3) = true ∧ (getLane st161 3).probed = none) ∧
    (laneSeeks (getLane st162 3) = true ∧ 1311768464867721301 % 256 = 85) ∧
    (laneSeeks (getLane st163 3) = true ∧ 1311768464867721301 % 256 = 85) ∧
    (laneSeeks (getLane st164 3) = true ∧ (getLane st164 3).answer = true) ∧
    ((getLane st165 3).st = .eq ∧ 12587366 % 256 = 102 ∧ 12587366 / 2 ^ 14 % 4 = 0 ∧ (getLane st165 3).stat = [0, 0, 0]) ∧
    ((getLane st166 3).st = .eq ∧ (getLane st166 3).ready = true ∧ odN st166 0xC000 7 % 2 ^ 16 ≤ 65535 ∧ odN st166 0xC000 7
      / 2 ^ 16 ≤ 65535) ∧
    (getLane st167 3).st = .fecAlign ∧
    (linkLanes st168 3 ≠ [] ∧ (∀ (i : Nat), i ∈ linkLanes st168 3 → (getLane st168 i).st = .deskew) ∧ [17].length =
      (linkLanes st168 3).length ∧ (∀ (k : Nat), k ∈ [17] → k - List.foldl min ([17].headD 0) [17] ≤ 64)) ∧
    (linkLanes sTwo 4 ≠ [] ∧ (∀ (i : Nat), i ∈ linkLanes sTwo 4 → (getLane sTwo i).st = .deskew) ∧ [17, 81].length =
      (linkLanes sTwo 4).length ∧ (∀ (k : Nat), k ∈ [17, 81] → k - List.foldl min ([17, 81].headD 0) [17, 81] ≤ 64)) ∧
    ((getLane st169 3).st = .caps ∧ 2622840 % 256 = 120 ∧ (0x280578#64).getLsbD 21 = true ∧ (getLane st169 3).caps = 2622840
      &&& ~~~(1#64 <<< 21) ∧ 2 ≤ (getLane st169 3).capsRun ∧ capsReason st169 3 2622840 = 0) ∧
    (stepLimit (getLane st170 3).st = some (250000, 1) ∧ (getLane st170 3).st ≠ .deskew ∧ usSince st170 (getLane st170
      3).since 250000 = true) ∧
    (stepLimit (getLane st171 3).st = some (10000, 5) ∧ (getLane st171 3).st ≠ .deskew ∧ usSince st171 (getLane st171
      3).since 10000 = true) ∧
    (getLane st172 3).st = .data := by
  refine ⟨?_, ?_, ?_, ?_, ?_, ?_, ?_, ?_, ?_, ?_, ?_, ?_, ?_⟩ <;> decide +kernel

/-! ### LinksCarryTraffic -/

def dataL (x : LinkSt) : State := { lanes [(3, { st := .data })] with lane.links := [(3, x)] }

def st173 : State := withOd (dataL {}) [(0xC000, 6, 8)]

def st174 : State := { lanes [(3, { st := .idle })] with lane.links := [(3, { idleFrom := 40 })] }

def st175 : State := { lanes [(3, { st := .idle })] with
  lane.links := [(3, { idleFrom := 40, version := 2 })], tick.num := 100000000 }

def st176 : State := dataL {}

def st177 : State := dataL { cwmDue := 5000 }

def unitA : OutUnit := ⟨5, 0x77, [1, 2, 3], 1, 0⟩

def st178 : State := dataL { version := 1, queues := [(5, [unitA])] }

def markI : MarkerItem := ⟨false, 0x12345678, 99⟩

def st179 : State := dataL {}

def sDith : State := { withOd (dataL { version := 2, leader := true, rxTick := some (9, 0, 100, 50) }) [(0x2000, 1, 2), (0xC030, 1, 3)] with
  tick.sync := .locked, lane.follow.corr := some (7, 60) }

def st180 : State := dataL { version := 2, credits := [(4, 9)] }

def cwA : CodewordCount := ⟨3, 12, 0⟩

def st181 : State := dataL { version := 1 }

theorem wit_LinksCarryTraffic :
    (linkState st173 3 = 2 ∧ (odN st173 0xC000 6).testBit 3 = true) ∧
    (linkState st174 3 = 3 ∧ since st174 (getLink st174 3).idleFrom * 128 ≤ odN st174 0xC000 5 * 10000) ∧
    (linkState st175 3 = 3 ∧ odN st175 0xC000 5 * 10000 < since st175 (getLink st175 3).idleFrom * 128) ∧
    (linkState st176 3 = 2 ∧ (getLink st176 3).queues = []) ∧
    (linkState st177 3 = 2 ∧ (getLink st177 3).queues = []) ∧
    (linkState st178 3 = 2 ∧ (getLink st178 3).version = 1 ∧ (getLink st178 3).queues = [(5, [unitA])] ∧ (getLink st178
      3).sent = [] ∧ 5 < 31 ∧ unitA.words.length + 1 < 63 * linkWidth st178 3) ∧
    (linkState st179 3 = 2 ∧ markI.rx = false) ∧
    (sDith.lane.follow.corr = some (7, 60) ∧ (getLink sDith 3).rxTick = some (9, 0, 100, 50) ∧ ditherLink sDith 3 = true) ∧
    ditherLink sDith 3 = true ∧
    (linkState st180 3 = 2 ∧ (getLink st180 3).version = 2) ∧
    (linkState st181 3 = 2 ∧ 4 ≠ 31 ∧ laneCoded (getLane st181 3) = true) := by
  refine ⟨?_, ?_, ?_, ?_, ?_, ?_, ?_, ?_, ?_, ?_, ?_⟩ <;> decide +kernel

/-! ### HostLinkTimeAndVotes -/

def st182 : State := { up with
  host.caps := [(0x70, 7)], host.rings := [(2, { enable := true, staged := [unitA] })], host.intStatus := 5 }

def st183 : State := { up with host.latching := some 12345678901234 }

def st184 : State := { up with host.timeHi := 77, host.timeValid := true }

def st185 : State := { up with pwr.sending := [(0, 1)] }

theorem wit_HostLinkTimeAndVotes :
    (domUp up .host = true ∧ 1 ≤ 3 ∧ 4 ∈ [1, 2, 4, 8] ∧ 256 ∈ [128, 256, 512]) ∧
    (hostReach up = true ∧ up.host.latching = none) ∧
    st183.host.latching = some 12345678901234 ∧
    hostReach st184 = true ∧
    (hostReach up = true ∧ tget up.pwr.sending 0 = none) ∧
    hostReach st185 = true := by
  refine ⟨?_, ?_, ?_, ?_, ?_, ?_⟩ <;> decide +kernel

/-! ### InterruptsAndMailbox -/

def sInt : State := { up with
  host.intStatus := 0xFF, host.intEnable := 0xFF, host.ringInt := 3, host.ringEnable := 3, host.vecMask := 0xF
  host.pba := 0x3 }

def st186 : State := { sInt with host.funMask := true, host.vecMask := 0x2 }

def st187 : State := { up with host.mbox.reqLen := 16 }

def st188 : State := { up with host.mbox.reqLen := 4097 }

def st189 : State := { up with host.mbox.state := .queued }

def msgA : Bytes := odxMessage 0x23 3 0 7 1 0x3000 8 []

def st190 : State := { up with host.mbox := { state := .queued, req := msgA, reqLen := 16 } }

def st191 : State := { up with host.mbox := { state := .done, valid := true, respLen := 17 } }

theorem wit_InterruptsAndMailbox :
    (hostReach sInt = true ∧ hostIdle sInt = false) ∧
    (hostReach sInt = true ∧ hostIdle sInt = false) ∧
    (hostReach sInt = true ∧ hostIdle sInt = false ∧ sInt.host.funMask = false ∧ sInt.host.pba.getLsbD 1 = true) ∧
    (hostReach st186 = true ∧ hostIdle st186 = false) ∧
    (hostReach st187 = true ∧ hostIdle st187 = false ∧ mboxFree st187 = true ∧ 1 ≤ st187.host.mbox.reqLen ∧
      st187.host.mbox.reqLen ≤ 4096) ∧
    (hostReach st188 = true ∧ hostIdle st188 = false ∧ mboxFree st188 = true ∧ (st188.host.mbox.reqLen = 0 ∨ 4096 <
      st188.host.mbox.reqLen)) ∧
    (hostReach st189 = true ∧ hostIdle st189 = false ∧ st189.host.mbox.state = .queued) ∧
    (hostReach st190 = true ∧ hostIdle st190 = false ∧ st190.host.mbox.state = .queued ∧ taking st190 = true ∧
      st190.odx.netQ = [] ∧ headerOk (mboxRequest st190) 4096 = true ∧ fieldN (mboxRequest st190) 1 1 = 3 ∧ fieldN
      (mboxRequest st190) 2 1 = 0 ∧ sessionOf st190 (reqOf Transport.mailbox (mboxRequest st190)) = some sesM ∧ [64].length
      ≤ 4080 ∧ readObject (taken { st190 with odx := { st190.odx with turnMbx := false }, host := { st190.host with mbox :=
      { st190.host.mbox with state := .busy } } } (reqOf .mailbox (mboxRequest st190))) sesM (fieldN (mboxRequest st190) 12
      2) (fieldN (mboxRequest st190) 14 1) = .ok [64]) ∧
    (hostReach st191 = true ∧ hostIdle st191 = false) := by
  refine ⟨?_, ?_, ?_, ?_, ?_, ?_, ?_,
    ⟨by decide +kernel, by decide +kernel, by decide +kernel, by decide +kernel, by decide +kernel, by decide +kernel, by decide +kernel, by decide +kernel, by decide +kernel, by decide +kernel, ok_of (by decide +kernel)⟩,
    ?_⟩ <;> decide +kernel

/-! ### PushRingsStageAndPublish -/

def ringS (x : Ring) : State := { up with host.rings := [(5, x)], tick.num := 1000 }

def st192 : State := ringS { head := 8 }

def st193 : State := ringS { enable := true, staged := [unitA] }

def st194 : State := ringS { enable := true, head := 64 }

def st195 : State := ringS { enable := true, head := 64 }

def st196 : State := ringS { dropUnits := 6 }

def st197 : State := ringS { dropRecords := 6 }

def sPull : State := { ringS { pull := true, enable := true, staged := [unitA], pulled := 8 } with
  host.dp.enable := true, host.dp.sel := 0x15 }

def sPush : State := { ringS { base := 0x1000, enable := true, staged := [unitA], intBytes := 8, hwb := true } with
  host.linkUp := true }

def st198 : State := { sPush with host.linkUp := false }

def st199 : State := ringS { enable := true, unsignalled := some 3, intUsec := 10 }

theorem wit_PushRingsStageAndPublish :
    (hostReach st192 = true ∧ hostIdle st192 = false ∧ (getRing st192 5).enable = false) ∧
    (hostReach st193 = true ∧ hostIdle st193 = false ∧ (getRing st193 5).enable = true ∧ (getRing st193 5).dropUnits < 2 ^
      32) ∧
    (hostReach st194 = true ∧ hostIdle st194 = false ∧ tailOk (getRing st194 5) 64 = true) ∧
    (hostReach st195 = true ∧ hostIdle st195 = false ∧ tailOk (getRing st195 5) 72 = false) ∧
    (hostReach st196 = true ∧ hostIdle st196 = false) ∧
    (hostReach st197 = true ∧ hostIdle st197 = false) ∧
    (hostReach sPull = true ∧ hostIdle sPull = false ∧ sPull.host.dp.enable = true ∧ sPull.host.dp.sel.toNat = 16 + 5 ∧
      sPull.host.dp.window = false ∧ (getRing sPull 5).pull = true ∧ 0 < 16 ∧ 16 ≤ 4096 ∧ 16 % 8 = 0 ∧ 16 ≤ ringAvail
      (getRing sPull 5) ∧ (∀ (u : OutUnit), (getRing sPull 5).staged.head? = some u → (getRing sPull 5).pulled ≤ entryLen
      u)) ∧
    (domOn sPush .host = true ∧ (getRing sPush 5).staged = [unitA] ∧ (getRing sPush 5).enable = true ∧ (getRing sPush
      5).pull = false ∧ hostReady sPush = true ∧ entryLen unitA ≤ ringFree (getRing sPush 5) ∧ entryLen unitA ≤ ringBytes
      (getRing sPush 5) - (getRing sPush 5).head ∧ (getRing sPush 5).hwb = true ∧ (getRing sPush 5).intBytes ≤ (getRing
      sPush 5).sinceInt + entryLen unitA) ∧
    (domOn st198 .host = true ∧ (getRing st198 5).staged = [unitA] ∧ (getRing st198 5).enable = true ∧ (getRing st198
      5).pull = false ∧ hostReady st198 = false) ∧
    (domOn st199 .host = true ∧ (getRing st199 5).unsignalled = some 3 ∧ (getRing st199 5).intUsec ≠ 0 ∧ (getRing st199
      5).intUsec * 10 ≤ since st199 3 * 128) := by
  refine ⟨?_, ?_, ?_, ?_, ?_, ?_, ?_, ?_, ?_, ?_⟩ <;> decide +kernel

/-! ### RegisterWindowAndDataPort -/

def sDp : State := { up with host.dp := { enable := true, addr := 0x1000, sel := 0 }, qdr := [(0x1001, 7)] }

def st200 : State := { up with tick.num := 0x512345678 }

def st201 : State := { up with host.tickHi := some 5 }

def st202 : State := { sDp with host.dp.window := true }

def st203 : State := { up with host.log := [⟨1, 2, 3, true, 4⟩, ⟨1, 2, 3, true, 5⟩] }

def st204 : State := { up with host.log := [⟨1, 2, 3, true, 4⟩], host.lost := 6 }

theorem wit_RegisterWindowAndDataPort :
    (hostReach up = true ∧ hostIdle up = false ∧ MemoryWf up) ∧
    (hostReach up = true ∧ hostIdle up = false ∧ MemoryWf up) ∧
    (hostReach up = true ∧ hostIdle up = false ∧ MemoryWf up ∧ false = false ∧ (8 ≠ 4 ∨ 132 % 4 ≠ 0 ∨ true = false) ∧
      up.host.log.length < 32) ∧
    (hostReach st200 = true ∧ hostIdle st200 = false ∧ MemoryWf st200) ∧
    (hostReach st201 = true ∧ hostIdle st201 = false ∧ MemoryWf st201 ∧ st201.host.tickHi = some 5) ∧
    (hostReach up = true ∧ hostIdle up = false ∧ MemoryWf up ∧ 8 = 8 ∧ 4 % 8 ≠ 0) ∧
    (hostReach up = true ∧ hostIdle up = false ∧ MemoryWf up) ∧
    (hostReach sDp = true ∧ hostIdle sDp = false ∧ MemoryWf sDp ∧ sDp.host.dp.enable = true ∧ sDp.host.dp.sel = 0 ∧
      sDp.host.dp.window = false ∧ 0 % 4 = 0 ∧ [1, 0, 0, 4].length % 4 = 0 ∧ 0 < [1, 0, 0, 4].length ∧ [1, 0, 0, 4].length ≤
      sDp.host.mps ∧ domOn sDp .mem = true ∧ sDp.host.dp.addr.toNat + [1, 0, 0, 4].length ≤ min sDp.fuses.qdr 75497472) ∧
    (hostReach st202 = true ∧ hostIdle st202 = false ∧ MemoryWf st202 ∧ st202.host.dp.enable = true ∧ st202.host.dp.sel = 0
      ∧ st202.host.dp.window = true ∧ 4 % 4 = 0 ∧ 8 % 4 = 0 ∧ 0 < 8 ∧ 8 ≤ 4096 ∧ domOn st202 .mem = true ∧
      st202.host.dp.addr.toNat + 4 + 8 ≤ min st202.fuses.qdr 75497472) ∧
    (hostReach up = true ∧ hostIdle up = false ∧ MemoryWf up ∧ up.host.dp.enable = false) ∧
    (hostReach sDp = true ∧ hostIdle sDp = false ∧ MemoryWf sDp ∧ BusClient.cal ≠ BusClient.host ∧ sDp.boot.phase ≠ .held ∧
      domOn sDp .core = true ∧ domOn sDp .mem = true ∧ 4096 + [4, 0, 5].length ≤ min sDp.fuses.qdr 75497472) ∧
    (hostReach sDp = true ∧ hostIdle sDp = false ∧ MemoryWf sDp ∧ BusClient.cal ≠ BusClient.host ∧ sDp.boot.phase ≠ .held ∧
      domOn sDp .core = true ∧ 5 * 2 ^ 32 ≤ 21474836480) ∧
    (hostReach st203 = true ∧ hostIdle st203 = false ∧ MemoryWf st203) ∧
    (hostReach st204 = true ∧ hostIdle st204 = false ∧ MemoryWf st204) := by
  refine ⟨⟨by decide +kernel, by decide +kernel, by unfold MemoryWf; decide +kernel⟩,
    ⟨by decide +kernel, by decide +kernel, by unfold MemoryWf; decide +kernel⟩,
    ⟨by decide +kernel, by decide +kernel, by unfold MemoryWf; decide +kernel, by decide +kernel, by decide +kernel, by decide +kernel⟩,
    ⟨by decide +kernel, by decide +kernel, by unfold MemoryWf; decide +kernel⟩,
    ⟨by decide +kernel, by decide +kernel, by unfold MemoryWf; decide +kernel, by decide +kernel⟩,
    ⟨by decide +kernel, by decide +kernel, by unfold MemoryWf; decide +kernel, by decide +kernel, by decide +kernel⟩,
    ⟨by decide +kernel, by decide +kernel, by unfold MemoryWf; decide +kernel⟩,
    ⟨by decide +kernel, by decide +kernel, by unfold MemoryWf; decide +kernel, by decide +kernel, by decide +kernel, by decide +kernel, by decide +kernel, by decide +kernel, by decide +kernel, by decide +kernel, by decide +kernel, by decide +kernel⟩,
    ⟨by decide +kernel, by decide +kernel, by unfold MemoryWf; decide +kernel, by decide +kernel, by decide +kernel, by decide +kernel, by decide +kernel, by decide +kernel, by decide +kernel, by decide +kernel, by decide +kernel, by decide +kernel⟩,
    ⟨by decide +kernel, by decide +kernel, by unfold MemoryWf; decide +kernel, by decide +kernel⟩,
    ⟨by decide +kernel, by decide +kernel, by unfold MemoryWf; decide +kernel, by decide +kernel, by decide +kernel, by decide +kernel, by decide +kernel, by decide +kernel⟩,
    ⟨by decide +kernel, by decide +kernel, by unfold MemoryWf; decide +kernel, by decide +kernel, by decide +kernel, by decide +kernel, by decide +kernel⟩,
    ⟨by decide +kernel, by decide +kernel, by unfold MemoryWf; decide +kernel⟩,
    ⟨by decide +kernel, by decide +kernel, by unfold MemoryWf; decide +kernel⟩⟩ <;> decide +kernel

/-! ### SessionsOpenCloseAndTimeOut -/

def reqU : Req := ⟨.udp 5 9, 0, 1⟩

def st205 : State := { up with odx.netQ := [(.udp 5 9, [1])] }

def st206 : State := { up with odx.netQ := [(.udp 5 9, [1])], tick.num := 7 }

def st207 : State := { up with odx.sessions := [sesN] }

def st208 : State := { withOd up [(0x1F20,2,1)] with tick.num := 100000 }

def xferA : Xfer := { index := 0x3048, sub := 1, total := 8, got := [1, 2], prev := 0, tick := 0 }

def sesX : Session := { sesM with xfer := some xferA }

def st209 : State := { up with odx.sessions := [sesX], tick.num := 390625 }

theorem wit_SessionsOpenCloseAndTimeOut :
    (netWaits st205 reqU = true ∧ sessionOf st205 reqU = none) ∧
    (netWaits st206 reqN = true ∧ sessionOf st206 reqN = some sesN) ∧
    (taking up = true ∧ netWaits up { via := Transport.udp 5 9, session := 0, tag := 3 } = false ∧ up.boot.phase ≠ .recovery
      ∧ Transport.udp 5 9 ≠ .mailbox ∧ 35 / 16 = 2 ∧ topVersion (15 &&& 15) = some 3 ∧ up.odx.sessions.length < 8) ∧
    (taking st207 = true ∧ st207.boot.phase ≠ .recovery ∧ Transport.mailbox = Transport.mailbox ∧ 32 / 16 = 2 ∧ topVersion
      (1 &&& 15) = some 0 ∧ (∀ (y : Session), y ∈ st207.odx.sessions → y.via ≠ .mailbox) ∧ st207.odx.sessions.length < 8) ∧
    Fresh up reqN sesN ∧
    (Fresh up reqN sesN ∧ 3 ≤ sesN.version) ∧
    (taking up = true ∧ netWaits up { via := Transport.mailbox, session := 99, tag := 3 } = false ∧ up.boot.phase ≠
      .recovery ∧ sessionOf up { via := Transport.mailbox, session := 99, tag := 3 } = none) ∧
    (st208.odx.sessions[1]? = some sesN ∧ sesN.via ≠ .mailbox ∧ odN st208 0x1F20 2 * 1000 * 10000 ≤ since st208 sesN.lastReq
      * 128) ∧
    (st209.odx.sessions[0]? = some sesX ∧ sesX.xfer = some xferA ∧ 390625 ≤ since st209 xferA.tick) := by
  refine ⟨?_, ?_, ?_, ?_, by unfold Fresh; decide +kernel, ⟨by unfold Fresh; decide +kernel, by decide +kernel⟩, ?_, ?_,
    ?_⟩ <;> decide +kernel

/-! ### ChallengeAndAuthRaiseARole -/

def nonceA : Nonce := { role := .service, val := [1, 2, 3], tick := 0 }

def sesC : Session := { sesM with role := .host, nonce := some nonceA }

def sAuth : State := { up with odx.sessions := [sesC] }

def codeA : Bytes := (hmac256 (List.replicate 32 0) ([1, 2, 3] ++ leBytes 4 7 ++ leBytes 1 3)).take 16

def st210 : State := { sAuth with odx.authMbx := { fails := [1], lockout := some 1 }, tick.num := 4687501 }

theorem wit_ChallengeAndAuthRaiseARole :
    (Fresh up reqM sesM ∧ 1 ≤ sesM.version ∧ raisedRole 3 = some Role.service) ∧
    (Fresh sAuth reqM sesC ∧ 1 ≤ sesC.version ∧ raisedRole 3 = some Role.service ∧ List.length codeA = 16 ∧ (authOf sAuth
      reqM).lockout = none ∧ authMatches sAuth reqM sesC Role.service codeA = true) ∧
    (Fresh sAuth reqM sesC ∧ 1 ≤ sesC.version ∧ raisedRole 3 = some Role.service ∧ (List.replicate 16 0).length = 16 ∧
      (authOf sAuth reqM).lockout = none ∧ authMatches sAuth reqM sesC Role.service (List.replicate 16 0) = false) ∧
    (Fresh st210 reqM sesC ∧ 1 ≤ sesC.version ∧ raisedRole 3 = some Role.service ∧ (authOf st210 reqM).lockout = some 1 ∧
      lockTicks ≤ since st210 1) := by
  refine ⟨⟨by unfold Fresh; decide +kernel, by decide +kernel, by decide +kernel⟩,
    ⟨by unfold Fresh; decide +kernel, by decide +kernel, by decide +kernel, by decide +kernel, by decide +kernel, by decide +kernel⟩,
    ⟨by unfold Fresh; decide +kernel, by decide +kernel, by decide +kernel, by decide +kernel, by decide +kernel, by decide +kernel⟩,
    ⟨by unfold Fresh; decide +kernel, by decide +kernel, by decide +kernel, by decide +kernel, by decide +kernel⟩⟩ <;> decide +kernel

/-! ### ObjectsAreReadAndWritten -/

def sBig : State := odSet up 0x3048 1 (.bytes (List.replicate 1100 3))

def snapA : Snapshot := { index := 0x3048, sub := 1, value := List.replicate 20 5, read := [(0, 8)], tick := 0 }

def sesP : Session := { sesM with snap := some snapA }

def st211 : State := { up with odx.sessions := [sesP] }

def sesV : Session := { sesM with version := 2 }

def st212 : State := { up with odx.sessions := [sesV] }

def sesW : Session := { sesN with xfer := some { index := 0x2101, sub := 1, total := 4, got := [], prev := 0, tick := 0 } }

def st213 : State := { up with odx.sessions := [sesM, sesW] }

def sXf : State := { up with odx.sessions := [sesX] }

def xferB : Xfer := { index := 0x3000, sub := 8, total := 1, got := [], prev := 0, tick := 0 }

def sesY : Session := { sesM with version := 2, xfer := some xferB }

def st214 : State := { up with odx.sessions := [sesY] }

theorem wit_ObjectsAreReadAndWritten :
    (Fresh up reqM sesM ∧ readObject (taken up reqM) sesM 12288 8 = .ok [64] ∧ [64].length ≤ maxMessage reqM - 16) ∧
    (Fresh sBig reqN sesN ∧ readObject (taken sBig reqN) sesN 12360 1 = .ok (List.replicate 1100 3) ∧ maxMessage reqN - 16 <
      (List.replicate 1100 3).length) ∧
    (Fresh up reqM sesM ∧ readObject (taken up reqM) sesM 16383 1 = Except.error abNoObject) ∧
    (Fresh st211 reqM sesP ∧ [8, 0, 0, 0].length = 4 ∧ sesP.snap = some snapA ∧ snapA.index = 12360 ∧ snapA.sub = 1 ∧ leNat
      [8, 0, 0, 0] < List.length snapA.value) ∧
    (Fresh up reqM sesM ∧ 2 ≤ sesM.version ∧ multiOk [0, 48, 8, 0, 0, 32, 1, 0] = true) ∧
    (Fresh up reqM sesM ∧ hookAll reqM 0x3000 8 = plainHook 0x3000 8 ∧ writeChecks (taken up reqM) sesM 0x3000 8 [5]
      (hookAll reqM 0x3000 8) = .ok (.num 5)) ∧
    (Fresh up reqM sesM ∧ writeChecks (taken up reqM) sesM 0x3000 8 [5, 6] (hookAll reqM 0x3000 8) = Except.error (abLength,
      taken up reqM)) ∧
    (Fresh up reqM sesM ∧ [8, 0, 0, 0].length = 4 ∧ (decide (12360 = 8016) && decide (1 = 1)) = false ∧ writeBusy (taken up
      reqM) sesM.number 12360 1 = false ∧ segJoin sesM.version (leNat [8, 0, 0, 0]) [] [1, 2] = SegResult.more [1, 2]) ∧
    (Fresh st212 reqM sesV ∧ [1, 0, 0, 0].length = 4 ∧ (decide (12288 = 8016) && decide (8 = 1)) = false ∧ writeBusy (taken
      st212 reqM) sesV.number 12288 8 = false ∧ segJoin sesV.version (leNat [1, 0, 0, 0]) [] [5] = SegResult.whole [5] ∧
      hookAll reqM 0x3000 8 = plainHook 0x3000 8 ∧ writeChecks (updSession (dropXfer (taken st212 reqM) sesV.number)
      sesV.number fun y => { y with xfer := none }) sesV 12288 8 [5] (hookAll reqM 0x3000 8) = .ok (.num 5)) ∧
    (Fresh up reqM sesM ∧ [1, 2].length < 4) ∧
    (Fresh st213 reqM sesM ∧ 4 ≤ [4, 0, 0, 0].length ∧ writeBusy (taken st213 reqM) sesM.number 8449 1 = true ∧ writeGrant
      (taken st213 reqM) sesM 8449 1 = Except.error abReadOnly) ∧
    (Fresh sXf reqM sesX ∧ sesX.xfer = some xferA ∧ xferA.index = 12360 ∧ xferA.sub = 1 ∧ (decide (xferA.index = 8016) &&
      decide (xferA.sub = 1)) = false ∧ [2, 0, 0, 0].length = 4 ∧ leNat [2, 0, 0, 0] = List.length xferA.got ∧ segJoin
      sesX.version xferA.total xferA.got [3, 4] = SegResult.more [1, 2, 3, 4]) ∧
    (Fresh st214 reqM sesY ∧ sesY.xfer = some xferB ∧ xferB.index = 12288 ∧ xferB.sub = 8 ∧ (decide (xferB.index = 8016) &&
      decide (xferB.sub = 1)) = false ∧ [0, 0, 0, 0].length = 4 ∧ leNat [0, 0, 0, 0] = List.length xferB.got ∧ segJoin
      sesY.version xferB.total xferB.got [5] = SegResult.whole [5] ∧ hookAll reqM 0x3000 8 = plainHook 0x3000 8 ∧
      writeChecks (updSession (taken st214 reqM) sesY.number fun y => { y with xfer := none }) sesY 0x3000 8 [5] (hookAll
      reqM 0x3000 8) = .ok (.num 5)) := by
  refine ⟨⟨by unfold Fresh; decide +kernel, ok_of (by decide +kernel), by decide +kernel⟩,
    ⟨by unfold Fresh; decide +kernel, ok_of (by decide +kernel), by decide +kernel⟩,
    ⟨by unfold Fresh; decide +kernel, rfl⟩,
    ⟨by unfold Fresh; decide +kernel, by decide +kernel, by decide +kernel, by decide +kernel, by decide +kernel, by decide +kernel⟩,
    ⟨by unfold Fresh; decide +kernel, by decide +kernel, by decide +kernel⟩,
    ⟨by unfold Fresh; decide +kernel, rfl, ok_of (by decide +kernel)⟩, ⟨by unfold Fresh; decide +kernel, rfl⟩,
    ⟨by unfold Fresh; decide +kernel, by decide +kernel, by decide +kernel, by decide +kernel, rfl⟩,
    ⟨by unfold Fresh; decide +kernel, by decide +kernel, by decide +kernel, by decide +kernel, rfl, rfl, ok_of (by decide +kernel)⟩,
    ⟨by unfold Fresh; decide +kernel, by decide +kernel⟩,
    ⟨by unfold Fresh; decide +kernel, by decide +kernel, by decide +kernel, rfl⟩,
    ⟨by unfold Fresh; decide +kernel, by decide +kernel, by decide +kernel, by decide +kernel, by decide +kernel, by decide +kernel, by decide +kernel, rfl⟩,
    ⟨by unfold Fresh; decide +kernel, by decide +kernel, by decide +kernel, by decide +kernel, by decide +kernel, by decide +kernel, by decide +kernel, rfl, rfl, ok_of (by decide +kernel)⟩⟩ <;> decide +kernel

/-! ### SwitchAndRing -/

def frameA : EthFrame := ⟨[2, 0, 0, 0, 0, 9, 2, 0, 0, 0, 0, 8, 0x88, 0xB5] ++ List.replicate 46 1, true, 0xFFF, 0⟩

def sNet : State := { withOd up [(0xD000, 1, 3)] with
  net.link1 := 2, net.link2 := 2, net.addrs := [⟨0x020000000009, 2, 0⟩], tick.num := 50 }

def st215 : State := { sNet with net.queues := [(8, [([1], false)])] }

def frameF : EthFrame := { frameA with fcsOk := false }

def frameL : EthFrame := { frameA with data := frameA.data ++ List.replicate 1500 1 }

def st216 : State := { sNet with net.link1 := 3, net.link2 := 3 }

def sRing (x : NetSt) : State := { withOd up [(0xD000, 1, 3), (0xD000, 4, 2)] with
  net := { x with link1 := 2, link2 := 2 }, tick.num := 10000 }

def st217 : State := sRing { ring := 1 }

def st218 : State := sRing { ring := 1, missRun := 2 }

def st219 : State := sRing { ring := 2, seenRun := 2 }

def st220 : State := sRing { ring := 2, seenRun := 1 }

theorem wit_SwitchAndRing :
    (switchOn sNet = true ∧ portUp sNet 1 = true ∧ ringBlocks sNet 1 frameA.data = false ∧ 14 ≤ frameA.data.length ∧
      frameA.data.length ≤ 1518 ∧ frameA.fcsOk = true ∧ egress (learn sNet (BitVec.ofNat 48 (beField frameA.data 6 6)) 1) 1
      frameA.data ≠ [] ∧ ¬0 ∈ egress (learn sNet (BitVec.ofNat 48 (beField frameA.data 6 6)) 1) 1 frameA.data ∧ (∀ (q :
      Nat), q ∈ egress (learn sNet (BitVec.ofNat 48 (beField frameA.data 6 6)) 1) 1 frameA.data → queueRoom frameA q = true)
      ∧ isGroup (beField frameA.data 6 6) = false ∧ sNet.net.addrs.length < 1024) ∧
    (switchOn st215 = true ∧ portUp st215 1 = true ∧ ringBlocks st215 1 frameA.data = false ∧ 14 ≤ frameA.data.length ∧
      frameA.data.length ≤ 1518 ∧ frameA.fcsOk = true ∧ egress (learn st215 (BitVec.ofNat 48 (beField frameA.data 6 6)) 1) 1
      frameA.data ≠ [] ∧ ¬0 ∈ egress (learn st215 (BitVec.ofNat 48 (beField frameA.data 6 6)) 1) 1 frameA.data ∧ (∀ (q :
      Nat), q ∈ egress (learn st215 (BitVec.ofNat 48 (beField frameA.data 6 6)) 1) 1 frameA.data → queueRoom frameA q =
      true) ∧ isGroup (beField frameA.data 6 6) = false ∧ st215.net.addrs.length < 1024) ∧
    (switchOn sNet = true ∧ portUp sNet 1 = true ∧ ringBlocks sNet 1 frameL.data = false ∧ 1518 < frameL.data.length) ∧
    (switchOn st216 = true ∧ portUp st216 1 = true ∧ ringBlocks st216 1 frameF.data = false ∧ 14 ≤ frameF.data.length ∧
      frameF.data.length ≤ 1518 ∧ frameF.fcsOk = false ∧ st216.net.link1 = 3 ∧ st216.net.link2 = 3 ∧ 1 ≠ 0 ∧ 2 ∈ egress
      st216 1 frameF.data ∧ 2 ≠ 0 ∧ queueRoom frameF 2 = true ∧ ((fun q => 0 < lineRoom st216 q ∧ ∀ (k : Nat), k < 4 →
      egressQueue st216 q k = []) 2)) ∧
    (switchOn sNet = true ∧ 1 ≠ 0 ∧ netLink sNet 1 ≠ if true = true then 3 else 0) ∧
    flushBlocked st217 2 = true ∧
    (switchOn sNet = true ∧ 1 ≠ 0 ∧ portUp sNet 1 = true ∧ flushBlocked sNet 1 = false ∧ portUp sNet (3 - 1) = true ∧
      flushBlocked sNet (3 - 1) = false ∧ ((fun q => 0 < lineRoom sNet q ∧ ∀ (k : Nat), k < 4 → egressQueue sNet q k = [])
      (3 - 1))) ∧
    (switchOn st218 = true ∧ odN st218 0xD000 4 = 2 ∧ 100000 ≤ since st218 st218.net.lastRing * 128 ∧ portUp st218 1 = true
      ∧ ((fun q => 0 < lineRoom st218 q ∧ ∀ (k : Nat), k < 4 → egressQueue st218 q k = []) 1) ∧ st218.net.ring = 1 ∧ 2 ≤
      st218.net.missRun) ∧
    (switchOn st219 = true ∧ odN st219 0xD000 4 = 2 ∧ 100000 ≤ since st219 st219.net.lastRing * 128 ∧ portUp st219 1 = true
      ∧ ((fun q => 0 < lineRoom st219 q ∧ ∀ (k : Nat), k < 4 → egressQueue st219 q k = []) 1) ∧ st219.net.ring = 2 ∧ 2 ≤
      st219.net.seenRun) ∧
    (switchOn st220 = true ∧ odN st220 0xD000 4 = 2 ∧ 100000 ≤ since st220 st220.net.lastRing * 128 ∧ portUp st220 1 = true
      ∧ ((fun q => 0 < lineRoom st220 q ∧ ∀ (k : Nat), k < 4 → egressQueue st220 q k = []) 1) ∧ st220.net.ring = 2 ∧
      st220.net.seenRun < 2) := by
  refine ⟨?_, ?_, ?_, ?_, ?_, ?_, ?_, ?_, ?_, ?_⟩ <;> decide +kernel

/-! ### NetworkMessagesAndPeers -/

def srcA : NetFrom := ⟨0x0A000001, 5000, 0xEF000001, 5, 1⟩

def kaMsg : Bytes := odxMessage 0x23 10 0 9 1 0 0 []

def sesT : Session := { sesN with via := .trdp 0x0A000001 5000 { session := 0 } }

def beBytes (n v : Nat) : Bytes := (leBytes n v).reverse

def trdpHead : Bytes := [0, 0, 0, 0, 1, 0, 0x4D, 0x72] ++ beBytes 4 200 ++ List.replicate 8 0 ++ beBytes 4 16 ++
  List.replicate 88 0

def trdpA : Bytes := trdpHead ++ leBytes 4 (crc32 trdpHead).toNat ++ kaMsg

def st221 : State := { withOd up [(0xD010, 1, 200)] with odx.sessions := [sesT] }

def sAnn : State := withOd up [(0xD011, 1, 100), (0xD011, 3, 0xEF000001)]

def st222 : State := { sAnn with net.lastAnn := some 0, tick.num := 1000000 }

def sSpd : State := withOd up [(0xD012, 1, 300), (0xD012, 5, 0xEF000001), (0xD012, 3, 0xFFFF)]

def st223 : State := { sNet with net.peers := [⟨9, 1, 1, false, 0, 0, 0⟩, ⟨8, 1, 1, false, 0, 0, 0⟩] }

def u6 : State := (netWrite (hearPeer sSpd srcA 300 none) 0x0A000001 1 [0, 0, 0, 0x40]).getD up

theorem wit_NetworkMessagesAndPeers :
    (netUp st221 = true ∧ st221.net.peers.length < 32 ∧ mdHeaderOk trdpA = true ∧ fieldN trdpA 7 1 = 114 ∧ beField trdpA 8 4
      = odN st221 0xD010 1 ∧ 16 ≤ List.length (slice trdpA 116 (beField trdpA 20 4)) ∧ headerOk (slice trdpA 116 (beField
      trdpA 20 4)) 1024 = true ∧ fieldN (slice trdpA 116 (beField trdpA 20 4)) 1 1 = 10 ∧ Fresh st221 (reqOf (Transport.trdp
      srcA.ip srcA.udp (mdCall trdpA)) (slice trdpA 116 (beField trdpA 20 4))) sesT ∧ 3 ≤ sesT.version) ∧
    (netUp up = true ∧ up.net.peers.length < 32 ∧ mdHeaderOk ([79, 68, 88, 50] ++ kaMsg) = false ∧ List.take 4 ([79, 68, 88,
      50] ++ kaMsg) = [79, 68, 88, 50] ∧ odB up 0xD010 2 = true ∧ 16 ≤ (List.drop 4 ([79, 68, 88, 50] ++ kaMsg)).length ∧
      headerOk (List.drop 4 ([79, 68, 88, 50] ++ kaMsg)) 1024 = true ∧ fieldN (List.drop 4 ([79, 68, 88, 50] ++ kaMsg)) 1 1
      = 10 ∧ Fresh up (reqOf (Transport.udp srcA.ip srcA.udp) (List.drop 4 ([79, 68, 88, 50] ++ kaMsg))) sesN ∧ 3 ≤
      sesN.version) ∧
    (netUp up = true ∧ up.net.peers.length < 32 ∧ mdHeaderOk [1, 2, 3] = false ∧ List.take 4 [1, 2, 3] ≠ [79, 68, 88, 50]) ∧
    (netUp sAnn = true ∧ odN sAnn 0xD011 1 ≠ 0 ∧ sAnn.net.lastAnn = none) ∧
    (netUp st222 = true ∧ odN st222 0xD011 1 ≠ 0 ∧ st222.net.lastAnn = some 0 ∧ odN st222 0xD011 2 * 10000 ≤ since st222 0 *
      128) ∧
    (netUp sSpd = true ∧ odN sSpd 0xD012 1 ≠ 0 ∧ 300 = odN sSpd 0xD012 1 ∧ srcA.dst.toNat = odN sSpd 0xD012 5 ∧ speedField
      sSpd [1] (odN sSpd 0xD012 2) = none) ∧
    (netUp sSpd = true ∧ odN sSpd 0xD012 1 ≠ 0 ∧ 300 = odN sSpd 0xD012 1 ∧ srcA.dst.toNat = odN sSpd 0xD012 5 ∧ odN sSpd
      0xD012 3 = 65535 ∧ speedField sSpd [64, 0, 0, 0] (odN sSpd 0xD012 2) = some [0, 0, 0, 64] ∧ netWrite (hearPeer sSpd
      srcA 300 none) srcA.ip 1 [0, 0, 0, 64] = some u6) := by
  refine ⟨
    ⟨by decide +kernel, by decide +kernel, by decide +kernel, by decide +kernel, by decide +kernel, by decide +kernel, by decide +kernel, by decide +kernel, by unfold Fresh; decide +kernel, by decide +kernel⟩,
    ⟨by decide +kernel, by decide +kernel, by decide +kernel, by decide +kernel, by decide +kernel, by decide +kernel, by decide +kernel, by decide +kernel, by unfold Fresh; decide +kernel, by decide +kernel⟩,
    ?_, ?_, ?_, ?_,
    ⟨by decide +kernel, by decide +kernel, by decide +kernel, by decide +kernel, by decide +kernel, by decide +kernel, some_of (by decide +kernel)⟩⟩ <;> decide +kernel

/-! ### PersistentValuesAndUpdate -/

def st224 : State := withOd up [(0x3000, 8, 5)]

def cpA : StoreCopy := ⟨5, []⟩

def cpB : StoreCopy := ⟨6, []⟩

def st225 : State := { up with odx.storing := some [(1, .num 2)], odx.copyA := some cpA, odx.copyB := some cpB }

def st226 : State := { up with odx.storing := some [(1, .num 2)], odx.copyA := some cpA }

def st227 : State := { up with odx.storing := some [(1, .num 2)] }

def st228 : State := { up with odx.storing := some [(1, .num 2)] }

def st229 : State := { up with odx.copyA := some cpA, odx.copyB := some cpB }

def st230 : State := { up with boot.upd := .erasing, boot.nor := .erase }

def st231 : State := { up with boot.upd := .erasing, boot.nor := .erase }

def st232 : State := { up with boot.upd := .verified, boot.target := 1 }

def st233 : State := { up with boot.mode := 1 }

def st234 : State := { up with boot.upd := .activated, boot.ctlA := some ⟨3, 0, some 1, false⟩ }

def st235 : State := { up with boot.upd := .opened, boot.target := 1 }

def longK (k : LongKind) (ix sub : Nat) : List LongWrite := [{ kind := k, req := reqM, index := ix, sub := sub, cmd := 4 }]

def st236 : State := { up with
  boot.mode := 1, odx.longs := longK .confirm 0x1F50 2, boot.slot0.header := [0, 0, 0, 0, 0, 0, 0, 5] }

def st237 : State := { up with odx.longs := longK .keySafe 0x1F21 1, odx.keyNew := List.replicate 32 9 }

def st238 : State := { up with boot.nor := .program, boot.upd := .opened, boot.headerDue := true, boot.updHeader := [1, 2] }

theorem wit_PersistentValuesAndUpdate :
    WriteOk st224 reqM 0x1010 1 [1] (storeHook reqM) (.num 1) ∧
    st225.odx.storing = some [(1, Val.num 2)] ∧
    st226.odx.storing = some [(1, Val.num 2)] ∧
    (st227.odx.storing = some [(1, Val.num 2)] ∧ storeInForce st227 = none) ∧
    st228.odx.storing = some [(1, Val.num 2)] ∧
    WriteOk st229 reqM 0x1011 1 [1] restoreHook (.num 1) ∧
    (WriteOk up reqM 0x1F50 2 [1] (updateHook reqM) (.num 1) ∧ (up.boot.upd = .idle ∨ up.boot.upd = .failed) ∧ up.boot.mode
      ≠ 1) ∧
    st230.boot.upd = .erasing ∧
    st231.boot.upd = .erasing ∧
    (WriteOk st232 reqM 0x1F50 2 [2] (updateHook reqM) (.num 2) ∧ st232.boot.upd = .verified ∧ cfgActive st232 = false) ∧
    (WriteOk st233 reqM 0x1F50 2 [3] (updateHook reqM) (.num 3) ∧ st233.boot.mode = 1) ∧
    (WriteOk st234 reqM 0x1F50 2 [4] (updateHook reqM) (.num 4) ∧ st234.boot.upd = .activated) ∧
    (WriteOk st235 reqM 0x1F50 2 [4] (updateHook reqM) (.num 4) ∧ st235.boot.upd = .opened) ∧
    (st236.boot.nor ≠ .program ∧ waits st236 LongKind.keySafe = false ∧ waits st236 LongKind.keyService = false ∧ waits
      st236 LongKind.confirm = true ∧ rollbackCount st236 < fieldN (slotOf st236 st236.boot.slot).header 7 1) ∧
    (st237.boot.nor ≠ .program ∧ waits st237 LongKind.keySafe = true) ∧
    (st238.boot.nor = .program ∧ st238.boot.upd = .opened ∧ st238.boot.headerDue = true) ∧
    WriteOk up reqM 0x1F40 10 [2] revokeHook (.num 2) := by
  refine ⟨⟨sesM, by unfold Fresh; decide +kernel, ok_of (by decide +kernel)⟩, ?_, ?_, ?_, ?_,
    ⟨sesM, by unfold Fresh; decide +kernel, ok_of (by decide +kernel)⟩,
    ⟨⟨sesM, by unfold Fresh; decide +kernel, ok_of (by decide +kernel)⟩, by decide +kernel, by decide +kernel⟩, ?_, ?_,
    ⟨⟨sesM, by unfold Fresh; decide +kernel, ok_of (by decide +kernel)⟩, by decide +kernel, rfl⟩,
    ⟨⟨sesM, by unfold Fresh; decide +kernel, ok_of (by decide +kernel)⟩, by decide +kernel⟩,
    ⟨⟨sesM, by unfold Fresh; decide +kernel, ok_of (by decide +kernel)⟩, by decide +kernel⟩,
    ⟨⟨sesM, by unfold Fresh; decide +kernel, ok_of (by decide +kernel)⟩, by decide +kernel⟩, ?_, ?_, ?_,
    ⟨sesM, by unfold Fresh; decide +kernel, ok_of (by decide +kernel)⟩⟩ <;> decide +kernel

/-! ### ResetsBootAndWatchdogs -/

def st239 : State := { up with pwr.supply := 8 }

def st240 : State := { up with pwr.state := .standby }

def st241 : State := { up with pwr.on := 1 }

def st242 : State := { up with boot.resetLow := true }

def st243 : State := { up with boot.ignored := true }

def st244 : State := { State.reset with boot.ctlA := some ⟨3, 0, some 1, false⟩ }

def st245 : State := { State.reset with boot.ctlA := some ⟨3, 0, some 1, true⟩ }

def st246 : State := { State.reset with boot.testEn := true }

def st247 : State := { State.reset with boot.phase := .rom }

theorem wit_ResetsBootAndWatchdogs :
    (up.boot.ignored = false ∧ up.boot.resetLow = false ∧ up.boot.phase ≠ .held) ∧
    (serving up = true ∧ up.boot.phase ≠ .held) ∧
    (WriteOk up reqM 0x1F30 5 [1] softResetHook (.num 1) ∧ up.boot.phase ≠ .held) ∧
    up.boot.phase ≠ .held ∧
    up.boot.phase ≠ .held ∧
    hasSafe up = true ∧
    up.pwr.supply.getLsbD 31 = true ∧
    st239.pwr.supply.getLsbD 31 = false ∧
    st240.pwr.state = .standby ∧
    (.rx ∈ railDomains 2 ∧ domUp up .rx = true) ∧
    (.core ∈ railDomains 3 ∧ domUp st241 .core = true) ∧
    (.host ∈ railDomains 5 ∧ domUp up .host = true) ∧
    (.mem ∈ railDomains 6 ∧ domUp up .mem = true) ∧
    (st242.boot.resetLow = true ∧ st242.boot.ignored = false) ∧
    st243.boot.ignored = true ∧
    (State.reset.boot.phase = .held ∧ State.reset.pwr.supply.getLsbD 31 = true ∧ State.reset.boot.testEn = false) ∧
    (st244.boot.phase = .held ∧ st244.pwr.supply.getLsbD 31 = true ∧ st244.boot.testEn = false ∧ (bootCtl
      st244).trial.isSome = true ∧ (bootCtl st244).tried = false) ∧
    (st245.boot.phase = .held ∧ st245.pwr.supply.getLsbD 31 = true ∧ st245.boot.testEn = false ∧ (bootCtl
      st245).trial.isSome = true ∧ (bootCtl st245).tried = true) ∧
    st246.boot.testEn = true ∧
    (st247.boot.phase = .rom ∧ storeInForce st247 = none ∧ st247.boot.wakeBoot = false ∧ st247.pwr.exit = none) ∧
    (up.boot.phase ≠ .held ∧ (if true = true then up.boot.phyRst else up.boot.qspiRst) = false) ∧
    (up.boot.phase ≠ .held ∧ (if false = true then up.boot.phyRst else up.boot.qspiRst) = false) ∧
    serving up = true ∧
    serving up = true := by
  refine ⟨?_, ?_, ⟨⟨sesM, by unfold Fresh; decide +kernel, ok_of (by decide +kernel)⟩, by decide +kernel⟩, ?_, ?_, ?_,
    ?_, ?_, ?_, ?_, ?_, ?_, ?_, ?_, ?_, ?_, ?_, ?_, ?_, ?_, ?_, ?_, ?_, ?_⟩ <;> decide +kernel

/-! ### VotesAndDomains -/

def st248 : State := { up with pwr.sending := [(0, 1)], pwr.held := [(0, 3)] }

def st249 : State := { up with pwr.on := 1, pwr.sending := [(0, 0x1FF)] }

def st250 : State := { up with pwr.on := 1, pwr.rising := 0x80 }

def st251 : State := { up with pwr.starting := 2 }

def st252 : State := { withOd up [] with pwr.hostV := 0 }

def st253 : State := withOd up [(0x9003, 3, 1)]

def st254 : State := { withOd up [(0x9003, 3, 1)] with pwr.state := .doze }

def st255 : State := { up with pwr.state := .doze }

def st256 : State := { up with pwr.state := .doze }

def st257 : State := { up with pwr.state := .doze }

def entN : Entry := { dest := .doze, final := .doze, phase := .drain, forced := false, start := 5 }

def entQ : Entry := { entN with dest := .quiet, final := .quiet }

def st258 : State := { up with pwr.entry := some entN }

def st259 : State := { up with pwr.entry := some entQ }

def st260 : State := { up with pwr.wakePin := true }

def st261 : State := { withOd up [] with pwr.hostV := 0, pwr.idle := 2 }

theorem wit_VotesAndDomains :
    (tget st248.pwr.sending 0 = some 1 ∧ st248.boot.phase = .firmware ∧ st248.pwr.entry = none ∧ st248.pwr.exit = none) ∧
    (tget st249.pwr.sending 0 = some 511 ∧ st249.boot.phase = .firmware ∧ st249.pwr.entry = none ∧ st249.pwr.exit = none) ∧
    List.find? (fun x => st250.pwr.rising.getLsbD (domBit x)) upOrder = some Dom.mem ∧
    st251.pwr.starting.getLsbD (domBit .rx) = true ∧
    (st252.pwr.entry = none ∧ st252.pwr.exit = none ∧ domUp st252 .emit = true ∧ (st252.pwr.idle.getLsbD (domBit .emit) =
      false ∨ st252.pwr.state ≠ .doze) ∧ Dom.emit ≠ Dom.core ∧ wanted st252 st252.pwr.state .emit = false ∧ (implicitMask
      st252).getLsbD (domBit .emit) = false) ∧
    (odB st253 0x9003 3 = true ∧ st253.pwr.entry = none ∧ st253.pwr.exit = none ∧ (st253.pwr.state = .run ∨ st253.pwr.state
      = .quiet)) ∧
    (st254.pwr.state = .doze ∧ st254.pwr.entry = none ∧ st254.pwr.exit = none ∧ odB st254 0x9003 3 = true) ∧
    (st255.pwr.state = .doze ∧ st255.pwr.entry = none ∧ st255.pwr.exit = none ∧ st255.pwr.wakePin = false ∧ st255.boot.phase
      = .firmware) ∧
    (st256.pwr.state = .doze ∧ st256.pwr.entry = none ∧ st256.pwr.exit = none) ∧
    (st257.pwr.state = .doze ∧ st257.pwr.entry = none ∧ st257.pwr.exit = none ∧ st257.boot.phase = .firmware ∧ hostReach
      st257 = true ∧ presentVotes st257 ((341 : BitVec 9)) &&& ~~~st257.host.vote ≠ 0) ∧
    (st258.pwr.entry = some entN ∧ wakesFrom entN.final 3 = true) ∧
    (st259.pwr.entry = some entQ ∧ wakesFrom entQ.final 3 = false) ∧
    (false && !st260.pwr.wakePin) = false ∧
    (st261.pwr.entry = none ∧ st261.pwr.exit = none ∧ domUp st261 .emit = true ∧ (st261.pwr.idle.getLsbD (domBit .emit) =
      false ∨ st261.pwr.state ≠ .doze) ∧ Dom.emit ≠ Dom.core ∧ wanted st261 st261.pwr.state .emit = false ∧ (implicitMask
      st261).getLsbD (domBit .emit) = false) := by
  refine ⟨?_, ?_, ?_, ?_, ?_, ?_, ?_, ?_, ?_, ?_, ?_, ?_, ?_, ?_⟩ <;> decide +kernel

/-! ### PowerStatesAreEntered -/

def st262 : State := { up with pwr.state := .quiet }

def entA : Entry := { dest := .quiet, final := .quiet, phase := .stop, forced := false, start := 5 }

def st263 : State := { up with pwr.entry := some entA, pwr.on := 1, tick.num := 8 }

def st264 : State := { up with pwr.entry := some entA, servo.h.st := .opened, servo.v.st := .opened, tick.num := 8 }

def st265 : State := { up with pwr.entry := some entA, tick.num := 6 }

def entB : Entry := { entA with phase := .drain }

def st266 : State := { up with pwr.entry := some entB, tick.num := 6 }

def sVote : State := { up with pwr.entry := some entB, tick.num := 1000, rx.chans := [(3, { reading := true })] }

def entC : Entry := { entB with forced := true }

def st267 : State := { sVote with pwr.entry := some entC }

theorem wit_PowerStatesAreEntered :
    (WriteOk up reqM 0x9000 1 [1] powerHook (.num 1) ∧ up.pwr.state = .run) ∧
    (WriteOk st262 reqM 0x9000 1 [0] powerHook (.num 0) ∧ st262.pwr.state = .quiet) ∧
    (st263.pwr.entry = some entA ∧ entA.phase = .stop ∧ 3 ≤ since st263 entA.start ∧ affected st263 entA.dest .servo =
      false) ∧
    (st264.pwr.entry = some entA ∧ entA.phase = .stop ∧ 3 ≤ since st264 entA.start ∧ st264.servo.h.st = .opened ∧
      st264.servo.v.st = .opened) ∧
    (st265.pwr.entry = some entA ∧ entA.phase = .stop ∧ since st265 entA.start < 3 ∧ domUp st265 .core = true) ∧
    (st266.pwr.entry = some entB ∧ entB.phase = .drain ∧ (entryVotes st266 entB.dest).isEmpty = true ∧ entB.final =
      entB.dest ∧ entB.wake = none ∧ st266.pwr.exit = none) ∧
    (sVote.pwr.entry = some entB ∧ entB.phase = .drain ∧ entryVotes sVote entB.dest = [(3, 0, 2)] ∧ 10000 ≤ since sVote
      entB.phaseB * 128 ∧ entB.forced = false ∧ sVote.pwr.forced = false) ∧
    (st267.pwr.entry = some entC ∧ entC.phase = .drain ∧ entryVotes st267 entC.dest = [(3, 0, 2)] ∧ 10000 ≤ since st267
      entC.phaseB * 128 ∧ entC.forced = true ∧ entC.final = entC.dest ∧ entC.wake = none ∧ st267.pwr.exit = none) := by
  refine ⟨⟨⟨sesM, by unfold Fresh; decide +kernel, ok_of (by decide +kernel)⟩, by decide +kernel⟩,
    ⟨⟨sesM, by unfold Fresh; decide +kernel, ok_of (by decide +kernel)⟩, by decide +kernel⟩, ?_, ?_, ?_, ?_, ?_,
    ?_⟩ <;> decide +kernel

/-! ### QuiesceRunsToItsRecord -/

def st268 : State := { up with emit.state := .on }

def exA : Exit := { dest := .run, start := 3 }

def st269 : State := { up with pwr.state := .doze, pwr.exit := some exA }

def st270 : State := { up with pwr.state := .doze }

def st271 : State := { up with
  pwr.state := .doze
  pwr.entry := some { dest := .standby, final := .standby, phase := .drain, forced := false, start := 5 } }

def quiA : Quiesce := { tick := 3, time := 100, pBefore := 0, eBefore := 2, iBefore := 3, steps := 3, nor := 0 }

def st272 : State := { up with pwr.quiesce := some quiA, pwr.pfState := 1 }

def st273 : State := { up with pwr.quiesce := some quiA, pwr.pfState := 1, boot.nor := .program }

def quiB : Quiesce := { quiA with steps := 7 }

def st274 : State := { up with pwr.quiesce := some quiA, pwr.pfState := 1, odx.storing := some [(1, .num 2)] }

def st275 : State := { up with pwr.quiesce := some quiB, pwr.pfState := 1, pwr.on := 1 }

def st276 : State := { up with pwr.pwrFailN := false, pwr.pfState := 2 }

def st277 : State := { up with
  pwr.pfState := 2, pwr.pfRise := some 0, tick.num := 10000000, emit.active := 0x400, isl.active := 0x100 }

theorem wit_QuiesceRunsToItsRecord :
    (st268.boot.phase ≠ .held ∧ (st268.pwr.state = .run ∨ st268.pwr.state = .quiet ∨ st268.pwr.exit.isSome = true) ∧
      st268.pwr.pfState ≠ 1 ∧ hasSafe st268 = true) ∧
    (st269.boot.phase ≠ .held ∧ (st269.pwr.state = .run ∨ st269.pwr.state = .quiet ∨ st269.pwr.exit.isSome = true) ∧
      st269.pwr.pfState ≠ 1 ∧ hasSafe st269 = true) ∧
    (st270.boot.phase ≠ .held ∧ st270.pwr.state = .doze ∧ st270.pwr.exit = none ∧ st270.pwr.pfState ≠ 1) ∧
    (st271.boot.phase ≠ .held ∧ st271.pwr.state = .doze ∧ st271.pwr.exit = none ∧ st271.pwr.pfState ≠ 1 ∧
      st271.pwr.entry.isSome = true) ∧
    (st272.pwr.quiesce = some quiA ∧ quiA.steps &&& 4 = 0) ∧
    (st273.pwr.quiesce = some quiA ∧ norBusy st273 = true) ∧
    (st274.pwr.quiesce = some quiA ∧ quiA.nor = 0 ∧ st274.odx.storing = some [(1, Val.num 2)] ∧ norBusy { st274 with odx :=
      { st274.odx with storing := none } } = false) ∧
    (st275.pwr.quiesce = some quiB ∧ quiB.steps &&& 4 ≠ 0 ∧ norBusy st275 = false) ∧
    st276.pwr.pwrFailN = false ∧
    (up.pwr.pwrFailN = true ∧ domUp up .core = true) ∧
    (st277.pwr.pfRise = some 0 ∧ st277.pwr.pfState = 2 ∧ msTicks (odN st277 0x9004 4) ≤ since st277 0) := by
  refine ⟨?_, ?_, ?_, ?_, ?_, ?_, ?_, ?_, ?_, ?_, ?_⟩ <;> decide +kernel

/-! ### ConverterGroupsAndChecks -/

def st278 : State := { odSet up 0xB002 1 (.bytes [1, 0]) with hk.st := .run }

def hkR (x : HkSt) : State := { up with hk := { x with st := .run } }

def st279 : State := hkR { checked := some (26, 5) }

def convH : Conv := { level := 1, entry := 0, input := 3, mux := 0, guard := false }

def st280 : State := hkR { cur := some convH, groups := [{ host := true, items := [(3, 0)], pos := 0, started := true }] }

def convL : Conv := { convH with level := 2, input := 25 }

def st281 : State := hkR { cur := some convL, checked := some (25, 5) }

def st282 : State := hkR { level2 := some 25 }

def st283 : State := hkR { checked := some (25, 5) }

def st284 : State := hkR { data := 0xC0000123 }

theorem wit_ConverterGroupsAndChecks :
    WriteOk st278 reqM 0xB002 2 [1] hostTriggerHook (.num 1) ∧
    ((25 = 25 ∨ 25 = 26) ∧ st279.tick.num % 256 = 0 ∧ (Option.all (fun x => x.1 != 25 && x.snd != st279.tick.num)
      st279.hk.checked = true) ∧ st279.hk.st = .run ∧ st279.hk.level2 = none ∧ st279.hk.cur = none) ∧
    (checkDue st280 25 = true ∧ st280.hk.st = .run ∧ st280.hk.level2 = none ∧ st280.hk.cur = some convH ∧ convH.level ≠ 2) ∧
    (checkDue st281 26 = true ∧ st281.hk.st = .run ∧ st281.hk.level2 = none ∧ st281.hk.cur = some convL ∧ convL.level = 2) ∧
    (checkDue st282 26 = true ∧ st282.hk.st = .run ∧ st282.hk.level2 = some 25) ∧
    (checkDue st283 25 = false ∨ st283.hk.st ≠ .run) := by
  refine ⟨⟨sesM, by unfold Fresh; decide +kernel, ok_of (by decide +kernel)⟩, ?_, ?_, ?_, ?_, ?_⟩ <;> decide +kernel

/-! ### The statements about every command -/

theorem wit_StepRunsTheFrontCommand :
    { up with pending := [.tickStrobe, .gateClose] }.pending = .tickStrobe :: [.gateClose] ∧ up.pending = [] := ⟨rfl, rfl⟩

/-- A stored frame row and a write that waits. -/
def sMem : State := { up with qdr := [(8, 1), (9, 2)], acq.fifo := [(8, [0, 7])], pending := [.acqQdrWrite false] }

theorem wit_MemoryKeepsItsForm : MemoryWf sMem ∧ ∃ t, step sMem = .next t ∧ t.qdr = [(9, 7)] :=
  ⟨by unfold MemoryWf; decide +kernel, _, rfl, by decide +kernel⟩

theorem wit_SafeOutputsOnlyInOperate :
    OutputsSafe { sOp with pending := [.islandWatchdog] } ∧
      ∃ t, step { sOp with pending := [.islandWatchdog] } = .next t ∧ t.isl.st = .safe :=
  ⟨fun h => absurd rfl h, _, rfl, by decide +kernel⟩

/-- Emission on, with a late freeze waiting. -/
def sLate : State := { up with emit.state := .on, pending := [.shadowFreeze true] }

theorem wit_EmissionIsGatedByItsCauses : EmissionGated sLate ∧ ∃ t, step sLate = .next t ∧ t.emit.state = .halted :=
  ⟨fun h => absurd rfl h, _, rfl, by decide +kernel⟩

theorem wit_StoresStayInTheirPlaces_others :
    Instr.tickStrobe ≠ .lineService ∧ (∀ k, Instr.tickStrobe ≠ .frameStored k) ∧ Instr.tickStrobe ≠ .acqQdrWrite false ∧
      (∀ o n w f, Instr.tickStrobe ≠ .dataPortAccess o n w f) ∧ (∀ b a n w, Instr.tickStrobe ≠ .internalBusAccess b a n w) ∧
      ∃ t, exec .tickStrobe up = .next t :=
  ⟨nofun, nofun, nofun, nofun, nofun, _, rfl⟩

/-! ### Ill-formed commands are refused -/

theorem test_wf_pulse : (Instr.frontEndEvent 0 ⟨0, [⟨9, 0, -40⟩, ⟨5, 0, 0⟩]⟩).wf = false := by decide
theorem test_wf_latch : (Instr.positionSampleLatch ⟨[0], [], []⟩).wf = false := by decide
theorem test_wf_hits : (Instr.calibrationHits [⟨0, List.replicate 16 7⟩]).wf = false := by decide
theorem test_wf_decision : (Instr.coincidenceDecision 0 0 ⟨12800, 0, false⟩).wf = false := by decide
theorem test_wf_access : (Instr.internalBusAccess .cal 0 4 (some [1])).wf = false := by decide
theorem test_wf_period : (Instr.calibrationPeriodEnd [1]).wf = false := by decide
theorem test_wf_full_calibration :
    (Instr.fullCalibrationEnd ⟨[⟨0, true, true, [], 0, false, false, 0⟩], 0⟩).wf = false := by decide
theorem test_wf_plan (r : Req) : (Instr.planWrite r (List.replicate 131073 0)).wf = false := by
  show decide ((List.replicate 131073 (0 : Byte)).length ≤ 131072) = false
  rw [List.length_replicate]; decide
theorem test_wf_input_pulse : (Instr.spPulsePeriod 9 8).wf = false := by decide
theorem test_wf_line : (Instr.linePacket 0 ⟨0, 0, .ok, true, [65536]⟩).wf = false := by decide
theorem test_wf_deskew : (Instr.deskewComplete 0 (List.replicate 17 0)).wf = false := by decide
theorem test_wf_register : (Instr.registerWrite { off := 0, size := 3, full := true, v := 0 }).wf = false := by decide
theorem test_wf_data_port : (Instr.dataPortAccess 0 4097 none true).wf = false := by decide
theorem test_wf_pull : (Instr.pullRead 0 0).wf = false := by decide
theorem test_wf_payload (r : Req) : (Instr.odxAuth r (List.replicate 4081 0)).wf = false := by
  show decide ((List.replicate 4081 (0 : Byte)).length ≤ 4080) = false
  rw [List.length_replicate]; decide
theorem test_wf_frame : (Instr.ethernetFrame 0 ⟨[1], true, 0, 0⟩).wf = false := by decide

/-! ### Published values of the codes (the check values of the CRC catalogue, FIPS 180-4) -/

/-- "123456789". -/
def digits : Bytes := [0x31, 0x32, 0x33, 0x34, 0x35, 0x36, 0x37, 0x38, 0x39]

theorem test_crc32 : crc32 digits = 0xCBF43926 := by decide +kernel
theorem test_crc32c : crc32c digits = 0xE3069283 := by decide +kernel
theorem test_crc16 : crc16 digits = 0x29B1 := by decide +kernel
theorem test_sha256 : (sha256 [0x61, 0x62, 0x63]).take 4 = [0xBA, 0x78, 0x16, 0xBF] := by decide +kernel

/-! ### Single steps against the manual -/

/-- R11: the FC-A part has every unit and the screening class A. -/
theorem test_feature : feature State.reset = 0x017FFFFF := by decide +kernel

/-- R510: a half is rounded up. -/
theorem test_round : roundDiv (-5) 2 = -2 ∧ roundDiv 5 2 = 3 ∧ roundDivN 7 2 = 4 := by decide

/-- R22: the first tick is tick 0, the next one tick 1. -/
theorem test_first_ticks :
    ∃ t u, exec .tickStrobe up = .next t ∧ t.tick.num = 0 ∧ exec .tickStrobe t = .next u ∧ u.tick.num = 1 :=
  ⟨_, _, rfl, by decide +kernel, rfl, by decide +kernel⟩

/-- R49: a byte written is read back, and a 0 leaves no entry. -/
theorem test_memory : memGet (memWrite [] 64 [1, 0, 3]) 66 = 3 ∧ memWrite [(64, 9)] 64 [0] = [] := by decide

/-- R158: the generator never reaches 0 from its default. -/
theorem test_dither_seed : State.reset.fuses.dither ≠ 0 := by decide

/-- R402: an unknown session is answered with SESSION_UNKNOWN. -/
theorem test_unknown_session :
    ∃ t, exec (.odxKeepalive ⟨.mailbox, 99, 5⟩) up = .next t ∧
      t.out = [.response ⟨.mailbox, 99, 5⟩ (odxMessage 0x20 10 3 99 5 0 0 [0x01, 0, 0x03, 0x05])] :=
  ⟨_, rfl, by decide +kernel⟩

end Sys2Proof.Tests
end

section
/-! The scope of the device: what no command changes, the FEATURE register, and the state after reset. -/

namespace Sys2Proof.Machine

/-! ### Every command completes (R11; log entry 1) -/

/-- The outcome of a command in `s` is a next state with the same fuses and the same queue. -/
def Completes (s : State) (o : Host.Outcome State Fault Refusal) : Prop :=
  ∃ t, o = .next t ∧ t.fuses = s.fuses ∧ t.pending = s.pending

theorem outcome_completes (s s' : State) : Completes s (outcome s s') := ⟨_, rfl, rfl, rfl⟩

theorem outcomeMem_completes (s s' : State) : Completes s (outcomeMem s s') := ⟨_, rfl, rfl, rfl⟩

theorem outcomeLost_completes (s s' : State) : Completes s (outcomeLost s s') := ⟨_, rfl, rfl, rfl⟩

/-- The commands split by how they close: those that write the memory, those by which MEM may lose its supply, and the
rest, which leave the memory alone. -/
theorem exec_completes (c : Instr) (s : State) : Completes s (exec c s) := by
  cases c with
  | lineService | frameStored | acqQdrWrite | internalBusAccess | dataPortAccess | pullRead =>
    exact outcomeMem_completes ..
  | tickStrobe | wdtSvc | drainComplete | drainTimeout | domainDrop | rtcAlarm | quiesceDrop | brownOut | aonBrownOut
  | vaonPowerOn | vaonPowerLoss | resetN | softwareReset | mailboxResponse | odxWrite | odxWriteSeg | ethernetFrame
  | trdpMessageRequest | directOdx => exact outcomeLost_completes ..
  | _ => exact outcome_completes ..

/-- The fuses keep their contents (R11). -/
theorem exec_fuses {c : Instr} {s t : State} (h : exec c s = .next t) : t.fuses = s.fuses := by
  obtain ⟨u, hu, hf, -⟩ := exec_completes c s
  rw [hu] at h
  cases h
  exact hf

/-- Settles O2: every command closes with one of the three outcomes, and each of them restores fuses and queue. -/
theorem everyCommandCompletes : Obligations.EveryCommandCompletes := exec_completes

/-! ### FEATURE (R11) -/

theorem b2n_lt_two (b : Bool) : b2n b < 2 := by cases b <;> decide

/-- Fields laid side by side are read back, each in its place, when each fits into its width. -/
theorem packed_fields {v sc sa ca l b q : Nat} (hsc : sc < 2 ^ 2) (hsa : sa < 2) (hca : ca < 2) (hl : l < 2 ^ 4)
    (hb : b < 2 ^ 8) (hq : q < 2 ^ 8) {f : Nat}
    (hf : f = v * 2 ^ 24 + sc * 2 ^ 22 + sa * 2 ^ 21 + ca * 2 ^ 20 + l * 2 ^ 16 + b * 2 ^ 8 + q) :
    f / 2 ^ 24 = v ∧ f / 2 ^ 22 % 4 = sc ∧ f / 2 ^ 21 % 2 = sa ∧ f / 2 ^ 20 % 2 = ca ∧ f / 2 ^ 16 % 2 ^ 4 = l ∧
      f / 2 ^ 8 % 2 ^ 8 = b ∧ f / 2 ^ 0 % 2 ^ 8 = q := by
  omega

/-- The fields of FEATURE: VARIANT, SCREEN, SAFE, CAM, and masks of as many low bits as there are groups of four lanes, banks
and quadrants. -/
theorem feature_fields (s : State) :
    feature s / 2 ^ 24 = variantCode s ∧ feature s / 2 ^ 22 % 4 = (if s.fuses.screenA then 1 else 2) ∧
      feature s / 2 ^ 21 % 2 = b2n (hasSafe s) ∧ feature s / 2 ^ 20 % 2 = b2n (hasCam s) ∧
      feature s / 2 ^ 16 % 2 ^ 4 = 2 ^ (nLane s / 4) - 1 ∧ feature s / 2 ^ 8 % 2 ^ 8 = 2 ^ nBank s - 1 ∧
      feature s / 2 ^ 0 % 2 ^ 8 = 2 ^ (nChan s / 64) - 1 := by
  have hscreen : (if s.fuses.screenA then 1 else 2) < 2 ^ 2 := by split <;> decide
  have hlanes : 2 ^ (nLane s / 4) - 1 < 2 ^ 4 := by unfold nLane; split <;> decide
  have hbanks : 2 ^ nBank s - 1 < 2 ^ 8 := by unfold nBank; split <;> decide
  have hquads : 2 ^ (nChan s / 64) - 1 < 2 ^ 8 := by unfold nChan; split <;> decide
  have hlaneq : (if isSmall s then 3 else 15) = 2 ^ (nLane s / 4) - 1 := by unfold nLane; split <;> rfl
  exact packed_fields hscreen (b2n_lt_two _) (b2n_lt_two _) hlanes hbanks hquads (by rw [feature, hlaneq])

theorem testBit_of_bit_field {n k : Nat} {b : Bool} (h : n / 2 ^ k % 2 = b2n b) : n.testBit k = b := by
  rw [Nat.testBit_eq_decide_div_mod_eq, h]
  cases b <;> rfl

/-- A field of width `w` whose `k` low bits are set. -/
theorem testBit_of_mask_field {n p w k i : Nat} (h : n / 2 ^ p % 2 ^ w = 2 ^ k - 1) (hi : i < w) :
    n.testBit (p + i) = decide (i < k) := by
  rw [← Nat.testBit_two_pow_sub_one, ← h, Nat.testBit_mod_two_pow, Nat.testBit_div_two_pow]
  simp [hi, Nat.add_comm]

/-- What FEATURE shows is in the fuses. -/
theorem feature_congr {s t : State} (h : t.fuses = s.fuses) : feature t = feature s := by
  have hfuses (u : State) : feature u = feature { fuses := u.fuses } := rfl
  rw [hfuses t, h, ← hfuses s]

/-- A read below 0x48 that reaches the device is served, in DOZE too (R437). -/
theorem hostReadAt_low {s : State} {off : Nat} (hr : hostReach s = true) (ho : off < 0x48) (k : State → Nat × State) :
    hostReadAt s off k = send (k s).2 (.readData (leBytes 4 (k s).1)) := by
  simp [hostReadAt, hostAt, hr, Nat.not_le.2 ho]

/-- The word at 0x08 is FEATURE, and its read has no effect. -/
theorem readWord_feature (s : State) : readWord s 0x08 = (feature s, s) := rfl

theorem bar0Read_feature {s : State} (hr : hostReach s = true) :
    bar0Read s { off := 0x08, size := 4, full := true } = send s (.readData (leBytes 4 (feature s))) := by
  have hread : bar0Read s { off := 0x08, size := 4, full := true } = hostReadAt s 0x08 fun s => readWord s 0x08 := by
    simp [bar0Read, hr]
  rw [hread, hostReadAt_low hr (by decide), readWord_feature]

/-- Settles O3: the fields of FEATURE do not overlap, its read returns it, and it is made of the fuses alone. -/
theorem featureRegisterLayout : Obligations.FeatureRegisterLayout := by
  intro s
  obtain ⟨hvariant, hscreen, hsafe, hcam, hlanes, hbanks, hquads⟩ := feature_fields s
  refine ⟨fun hr => ⟨_, rfl, ?_⟩, hvariant, hscreen, testBit_of_bit_field hsafe, testBit_of_bit_field hcam,
    fun q => ?_, fun b => testBit_of_mask_field hbanks b.isLt, fun n => ?_, fun c t ht => feature_congr (exec_fuses ht)⟩
  · rw [bar0Read_feature hr]; rfl
  · rw [testBit_of_mask_field hlanes q.isLt]
    exact decide_eq_decide.2 (by omega)
  · rw [← Nat.zero_add n.val, testBit_of_mask_field hquads n.isLt]
    exact decide_eq_decide.2 (by omega)

/-! ### The state after reset (R471; log entry 15) -/

theorem memoryWf_reset : MemoryWf State.reset := rfl

theorem outputsSafe_reset : OutputsSafe State.reset := fun _ => ⟨rfl, rfl⟩

theorem emissionGated_reset : EmissionGated State.reset := fun h => absurd rfl h

/-- The store holds no object after reset, so that each reads its default (R19). -/
theorem odGet_reset (ix sub : Nat) : odGet State.reset ix sub = odDefault State.reset ix sub := rfl

/-- Settles O12: the invariants hold at reset, and each field has its initial value. -/
theorem resetState : Obligations.ResetState :=
  ⟨memoryWf_reset, outputsSafe_reset, emissionGated_reset, rfl, rfl, rfl, rfl, rfl, rfl, rfl, rfl, rfl, rfl, rfl, odGet_reset⟩

end Sys2Proof.Machine
end

section
/-! Return channels: how the table of channels, the stored objects and the interrupt bits read after the operations of the
front end and the histogram engine. -/

namespace Sys2Proof.Machine

/-! ### Tables -/

/-- Of two entries set under one key the later one stays. -/
@[simp] theorem tset_tset {α : Type} (t : Tbl α) (k : Nat) (v w : α) : tset (tset t k v) k w = tset t k w := by
  induction t with
  | nil => simp [tset]
  | cons p t ih =>
    obtain ⟨j, u⟩ := p
    by_cases hlt : k < j
    · simp [tset, hlt]
    · by_cases heq : k = j
      · simp [tset, heq]
      · simp [tset, hlt, heq, ih]

/-- A table whose entries are changed one by one. -/
theorem tget_map {α β : Type} (t : Tbl α) (f : Nat → α → β) (k : Nat) :
    tget (t.map fun p => (p.1, f p.1 p.2)) k = (tget t k).map (f k) := by
  induction t with
  | nil => rfl
  | cons p t ih =>
    obtain ⟨j, v⟩ := p
    by_cases h : j = k
    · simp [tget, h]
    · simp [tget, h, ih]

theorem mem_keys_iff {α : Type} (t : Tbl α) (k : Nat) : k ∈ t.map (·.1) ↔ (tget t k).isSome = true := by
  induction t with
  | nil => simp [tget]
  | cons p t ih =>
    obtain ⟨j, v⟩ := p
    by_cases h : j = k
    · simp [tget, h]
    · simp [tget, h, ih, Ne.symm h]

/-! ### Channels -/

theorem getChan_congr {s t : State} (h : t.rx = s.rx) (c : Nat) : getChan t c = getChan s c := by
  unfold getChan; rw [h]

theorem chanLive_eq (s : State) (c : Nat) : chanLive s c = ((getChan s c).st == .run || (getChan s c).st == .degraded) := rfl

theorem getChan_setChan (s : State) (c d : Nat) (x : Chan) :
    getChan (setChan s c x) d = if d = c then x else getChan s d := by
  unfold getChan setChan tgetD
  dsimp only
  rw [tget_tset]
  split <;> rfl

@[simp] theorem getChan_setChan_self (s : State) (c : Nat) (x : Chan) : getChan (setChan s c x) c = x := by
  simp [getChan_setChan]

theorem getChan_setChan_ne {c d : Nat} (h : d ≠ c) (s : State) (x : Chan) : getChan (setChan s c x) d = getChan s d := by
  simp [getChan_setChan, h]

@[simp] theorem getChan_updChan_self (s : State) (c : Nat) (f : Chan → Chan) :
    getChan (updChan s c f) c = f (getChan s c) := getChan_setChan_self ..

theorem getChan_updChan_ne {c d : Nat} (h : d ≠ c) (s : State) (f : Chan → Chan) :
    getChan (updChan s c f) d = getChan s d := getChan_setChan_ne h ..

@[simp] theorem setChan_setChan (s : State) (c : Nat) (x y : Chan) : setChan (setChan s c x) c y = setChan s c y := by
  simp [setChan]

@[simp] theorem updChan_setChan (s : State) (c : Nat) (x : Chan) (f : Chan → Chan) :
    updChan (setChan s c x) c f = setChan s c (f x) := by
  simp [updChan]

@[simp] theorem updChan_updChan (s : State) (c : Nat) (f g : Chan → Chan) :
    updChan (updChan s c f) c g = setChan s c (g (f (getChan s c))) := updChan_setChan ..

@[simp] theorem setChan_rx (s : State) (c : Nat) (x : Chan) :
    (setChan s c x).rx = { s.rx with chans := tset s.rx.chans c x } := rfl

@[simp] theorem updChan_rx (s : State) (c : Nat) (f : Chan → Chan) :
    (updChan s c f).rx = { s.rx with chans := tset s.rx.chans c (f (getChan s c)) } := rfl

@[simp] theorem odN_setChan (s : State) (c : Nat) (x : Chan) (ix sub : Nat) : odN (setChan s c x) ix sub = odN s ix sub :=
  odN_congr rfl rfl ix sub
@[simp] theorem odN_updChan (s : State) (c : Nat) (f : Chan → Chan) (ix sub : Nat) :
    odN (updChan s c f) ix sub = odN s ix sub := odN_congr rfl rfl ix sub

@[simp] theorem getChan_bumpBy (s : State) (ix sub k c : Nat) : getChan (bumpBy s ix sub k) c = getChan s c := rfl
@[simp] theorem getChan_bump (s : State) (ix sub c : Nat) : getChan (bump s ix sub) c = getChan s c := rfl
@[simp] theorem getChan_bumpChan (s : State) (b d k c : Nat) : getChan (bumpChan s b d k) c = getChan s c := rfl
@[simp] theorem getChan_reportFault (s : State) (g : FGroup) (c : Nat) : getChan (reportFault s g) c = getChan s c :=
  getChan_congr (reportFault_rx s g) c

@[simp] theorem countMarks_rx (s : State) (c : Nat) (v : Event) : (countMarks s c v).rx = s.rx := by
  unfold countMarks
  split <;> split <;> rfl

@[simp] theorem getChan_countMarks (s : State) (c d : Nat) (v : Event) : getChan (countMarks s c v) d = getChan s d :=
  getChan_congr (countMarks_rx s c v) d

/-! ### Operations on the channels of a set -/

/-- `t` is `s` but for channels with the property `p`, as far as front end and histogram engine go: no other channel is
changed, none is lost, and nothing of the two units but the table of channels. -/
structure ChansOnly (p : Nat → Prop) (s t : State) : Prop where
  rest : t.rx = { s.rx with chans := t.rx.chans }
  other : ∀ d, ¬ p d → tget t.rx.chans d = tget s.rx.chans d
  kept : ∀ d, (tget s.rx.chans d).isSome = true → (tget t.rx.chans d).isSome = true

theorem ChansOnly.of_rx {p : Nat → Prop} {s t : State} (h : t.rx = s.rx) : ChansOnly p s t :=
  ⟨by rw [h], fun d _ => by rw [h], fun d hd => by rw [h]; exact hd⟩

theorem ChansOnly.refl (p : Nat → Prop) (s : State) : ChansOnly p s s := .of_rx rfl

theorem ChansOnly.trans {p : Nat → Prop} {s t u : State} (a : ChansOnly p s t) (b : ChansOnly p t u) : ChansOnly p s u :=
  ⟨by rw [b.rest, a.rest], fun d hd => (b.other d hd).trans (a.other d hd), fun d hd => b.kept d (a.kept d hd)⟩

theorem ChansOnly.mono {p q : Nat → Prop} {s t : State} (h : ChansOnly p s t) (hpq : ∀ d, p d → q d) : ChansOnly q s t :=
  ⟨h.rest, fun d hd => h.other d fun hp => hd (hpq d hp), h.kept⟩

theorem ChansOnly.setChan {p : Nat → Prop} {c : Nat} {s t : State} (h : ChansOnly p s t) (hc : p c) (x : Chan) :
    ChansOnly p s (setChan t c x) := by
  refine h.trans ⟨rfl, fun d hd => ?_, fun d hd => ?_⟩
  · have hne : d ≠ c := fun e => hd (e ▸ hc)
    rw [setChan_rx, tget_tset, if_neg hne]
  · rw [setChan_rx, tget_tset]
    split
    · rfl
    · exact hd

theorem ChansOnly.updChan {p : Nat → Prop} {c : Nat} {s t : State} (h : ChansOnly p s t) (hc : p c) (f : Chan → Chan) :
    ChansOnly p s (updChan t c f) := h.setChan hc _

theorem ChansOnly.bump {p : Nat → Prop} {s t : State} (h : ChansOnly p s t) (ix sub : Nat) :
    ChansOnly p s (bump t ix sub) := h.trans (.of_rx (bump_rx ..))

theorem ChansOnly.bumpChan {p : Nat → Prop} {s t : State} (h : ChansOnly p s t) (base c k : Nat) :
    ChansOnly p s (bumpChan t base c k) := h.trans (.of_rx (bumpChan_rx ..))

theorem ChansOnly.foldl {α : Type} {p : Nat → Prop} {f : State → α → State} (l : List α) (s : State)
    (h : ∀ t x, x ∈ l → ChansOnly p t (f t x)) : ChansOnly p s (l.foldl f s) := by
  induction l generalizing s with
  | nil => exact .refl p s
  | cons x l ih =>
    exact (h s x (.head _)).trans (ih (f s x) fun t y hy => h t y (.tail _ hy))

theorem ChansOnly.getChan_eq {p : Nat → Prop} {s t : State} (h : ChansOnly p s t) {d : Nat} (hd : ¬ p d) :
    getChan t d = getChan s d := by
  unfold getChan tgetD; rw [h.other d hd]

theorem unassigned_chansOnly (s : State) (c : Nat) (v : Event) : ChansOnly (· = c) s (unassigned s c v) := by
  unfold unassigned
  split
  · exact (((ChansOnly.refl (· = c) s).updChan rfl _).bumpChan ..).trans (.of_rx (countMarks_rx ..))
  · exact .refl _ s

theorem dropEarly_chansOnly (s : State) (c : Nat) : ChansOnly (· = c) s (dropEarly s c) :=
  ((ChansOnly.refl (· = c) s).setChan rfl _).trans (.foldl _ _ fun t v _ => unassigned_chansOnly t c v)

theorem chanLeave_chansOnly (s : State) (c : Nat) (st : ChanState) : ChansOnly (· = c) s (chanLeave s c st) :=
  (dropEarly_chansOnly s c).updChan rfl _

theorem chanFault_chansOnly (s : State) (c : Nat) : ChansOnly (· = c) s (chanFault s c) :=
  (chanLeave_chansOnly s c .fault).trans (.of_rx (reportFault_rx ..))

/-- Events that go unassigned are counted at their channel and leave its other events alone. -/
theorem getChan_unassigned_events (s : State) (c : Nat) (v : Event) :
    (getChan (unassigned s c v) c).events = (getChan s c).events := by
  unfold unassigned
  split
  · simp [countRate]
  · rfl

theorem getChan_dropEarly_events (s : State) (c : Nat) : (getChan (dropEarly s c) c).events = (getChan s c).events := by
  have hfold (l : List Event) (t : State) :
      (getChan (l.foldl (fun s v => unassigned s c v) t) c).events = (getChan t c).events := by
    induction l generalizing t with
    | nil => rfl
    | cons v l ih => rw [List.foldl_cons, ih, getChan_unassigned_events]
  unfold dropEarly
  rw [hfold, getChan_setChan_self]

theorem getChan_chanLeave_st (s : State) (c : Nat) (st : ChanState) : (getChan (chanLeave s c st) c).st = st := by
  simp [chanLeave]

theorem getChan_chanFault_st (s : State) (c : Nat) : (getChan (chanFault s c) c).st = .fault := by
  simp [chanFault, getChan_chanLeave_st]

theorem getChan_chanFault_events (s : State) (c : Nat) : (getChan (chanFault s c) c).events = (getChan s c).events := by
  simp [chanFault, chanLeave, getChan_dropEarly_events]

/-! ### Interrupts -/

@[simp] theorem stopRecord_host (s : State) : (stopRecord s).host = s.host := rfl
@[simp] theorem banksZero_host (s : State) : (banksZero s).host = s.host := rfl
section
variable {s : State} {i : Nat}

/-- A bit of INT_STATUS stays set when another is raised. -/
theorem setInt_keeps_bit (b : Nat) (h : s.host.intStatus.getLsbD i = true) :
    (setInt s b).host.intStatus.getLsbD i = true := by
  rw [setInt_intStatus, BitVec.getLsbD_or, h, Bool.true_or]

theorem halt_keeps_bit (b : Nat) (h : s.host.intStatus.getLsbD i = true) :
    (halt s b).host.intStatus.getLsbD i = true := by
  unfold halt
  exact setInt_keeps_bit 3 (by simpa using h)

theorem inhibit_keeps_bit (b : Nat) (h : s.host.intStatus.getLsbD i = true) :
    (inhibit s b).host.intStatus.getLsbD i = true := by
  unfold inhibit
  split
  · exact h
  · exact halt_keeps_bit b (by simpa using h)

theorem islInhibit_keeps_bit (h : s.host.intStatus.getLsbD i = true) :
    (islInhibit s).host.intStatus.getLsbD i = true := by
  unfold islInhibit inhibitSet
  split
  · exact inhibit_keeps_bit 8 h
  · exact h

theorem islEnter_keeps_bit (st : IslState) (h : s.host.intStatus.getLsbD i = true) :
    (islEnter s st).host.intStatus.getLsbD i = true := by
  unfold islEnter
  split
  · exact h
  · exact setInt_keeps_bit 4 (by simpa using h)

@[simp] theorem islOutputs_host (s : State) (v : Bool) : (islOutputs s v).host = s.host := by
  unfold islOutputs
  dsimp only
  split <;> split <;> rfl

theorem islCause_keeps_bit (b : Nat) (h : s.host.intStatus.getLsbD i = true) :
    (islCause s b).host.intStatus.getLsbD i = true := by
  unfold islCause
  split
  · exact h
  · refine islInhibit_keeps_bit ?_
    dsimp only
    split
    · exact islEnter_keeps_bit _ (by simpa using h)
    · split
      · exact islEnter_keeps_bit _ (by simpa using h)
      · exact h

theorem escalate_keeps_bit (g : FGroup) (h : s.host.intStatus.getLsbD i = true) :
    (escalate s g).host.intStatus.getLsbD i = true := by
  unfold escalate
  exact islCause_keeps_bit 11 (by simpa using h)

end

/-- The bit that is raised is set. -/
theorem setInt_getLsbD (s : State) {b : Nat} (hb : b < 21) : (setInt s b).host.intStatus.getLsbD b = true := by
  simp [hb]

/-- A fault that is notified sets FAULT (R327). -/
theorem reportFault_fault (s : State) (g : FGroup) : (reportFault s g).host.intStatus.getLsbD 17 = true := by
  have hset := setInt_getLsbD s (b := 17) (by decide)
  have hesc := escalate_keeps_bit g hset
  unfold reportFault
  generalize setInt s 17 = u at hset hesc ⊢
  have hite (c : Bool) : (if c then escalate u g else u).host.intStatus.getLsbD 17 = true := by
    cases c
    · exact hset
    · exact hesc
  dsimp only
  split
  · exact hite _
  · split
    · exact hite _
    · rw [bump_host]
      exact hite _

/-! ### The object store -/

theorem odDefault_congr {s t : State} {ix : Nat} (hdet : detType t ix = detType s ix) (hf : t.fuses = s.fuses) (sub : Nat) :
    odDefault t ix sub = odDefault s ix sub := by
  have hchan : nChan t = nChan s := by unfold nChan isSmall; rw [hf]
  have hbank : nBank t = nBank s := by unfold nBank isSmall; rw [hf]
  have hbyte : ∀ r, byteDefault t r ix = byteDefault s r ix := fun r => by
    unfold byteDefault; simp only [hdet, defaultMap, defaultSequence, hchan, hbank]
  have hnum : ∀ r, numDefault t r ix = numDefault s r ix := fun r => by
    unfold numDefault; simp only [hdet, hf]
  unfold odDefault; simp only [hbyte, hnum]

/-- What an object reads depends on its own entry, on the fuses, and for its default on the first object of its index. -/
theorem odGet_congr_at {s t : State} {ix sub : Nat} (hf : t.fuses = s.fuses)
    (hfirst : tget t.od (odKey ix 1) = tget s.od (odKey ix 1))
    (hown : tget t.od (odKey ix sub) = tget s.od (odKey ix sub)) : odGet t ix sub = odGet s ix sub := by
  have hdet : detType t ix = detType s ix := by
    unfold detType
    rw [show ix * 256 + 1 = odKey ix 1 from rfl, hfirst]
  unfold odGet
  rw [odDefault_congr hdet hf, hown]

/-- An object reads the same after an operation that spares the registers of its index. -/
theorem Only.odGet_spared {C : List Part} {s t : State} (h : Only C s t) (hf : t.fuses = s.fuses) {ix sub : Nat}
    (hC : C.all (Part.spares (ix * 256)) = true) (hsub : sub < 256) : Machine.odGet t ix sub = Machine.odGet s ix sub := by
  have hkey : ∀ j < 256, tget t.od (odKey ix j) = tget s.od (odKey ix j) := fun j hj => by
    refine h.regs _ (List.all_eq_true.2 fun p hp => ?_)
    have hdiv : odKey ix j / 256 = ix * 256 / 256 := by unfold odKey; omega
    have hspare := List.all_eq_true.1 hC p hp
    cases p with
    | regs => simpa only [Part.spares, hdiv] using hspare
    | od => cases hspare
    | _ => rfl
  exact odGet_congr_at hf (hkey 1 (by decide)) (hkey sub hsub)

theorem Only.odI_spared {C : List Part} {s t : State} (h : Only C s t) (hf : t.fuses = s.fuses) {ix sub : Nat}
    (hC : C.all (Part.spares (ix * 256)) = true) (hsub : sub < 256) : odI t ix sub = odI s ix sub := by
  unfold odI; rw [h.odGet_spared hf hC hsub]

theorem Only.odN_spared {C : List Part} {s t : State} (h : Only C s t) (hf : t.fuses = s.fuses) {ix sub : Nat}
    (hC : C.all (Part.spares (ix * 256)) = true) (hsub : sub < 256) : Machine.odN t ix sub = Machine.odN s ix sub := by
  unfold Machine.odN; rw [h.odI_spared hf hC hsub]

/-- A value that is set leaves the other objects alone. -/
theorem odGet_odSet_other {ix ix' sub sub' : Nat} (h : ix' ≠ ix ∨ sub ≠ 1 ∧ sub' ≠ sub) (hsub : sub < 256)
    (hsub' : sub' < 256) (s : State) (v : Val) : Machine.odGet (odSet s ix sub v) ix' sub' = Machine.odGet s ix' sub' := by
  have hkey : ∀ j < 256, (ix' ≠ ix ∨ j ≠ sub) → tget (odSet s ix sub v).od (odKey ix' j) = tget s.od (odKey ix' j) :=
    fun j hj hne => by
      have hne' : odKey ix' j ≠ odKey ix sub := fun e => by
        obtain ⟨hix, hj'⟩ := (odKey_inj hj hsub).1 e
        exact hne.elim (· hix) (· hj')
      rw [odSet, tget_tset, if_neg hne']
  exact odGet_congr_at rfl (hkey 1 (by decide) (h.imp_right fun a => a.1.symm)) (hkey sub' hsub' (h.imp_right And.right))

theorem odI_odSet_other {ix ix' sub sub' : Nat} (h : ix' ≠ ix ∨ sub ≠ 1 ∧ sub' ≠ sub) (hsub : sub < 256)
    (hsub' : sub' < 256) (s : State) (v : Val) : odI (odSet s ix sub v) ix' sub' = odI s ix' sub' := by
  unfold odI
  rw [odGet_odSet_other h hsub hsub']

theorem odN_odSet_other {ix ix' sub sub' : Nat} (h : ix' ≠ ix ∨ sub ≠ 1 ∧ sub' ≠ sub) (hsub : sub < 256)
    (hsub' : sub' < 256) (s : State) (v : Val) : Machine.odN (odSet s ix sub v) ix' sub' = Machine.odN s ix' sub' := by
  unfold Machine.odN
  rw [odI_odSet_other h hsub hsub']

theorem odN_bumpBy_other {ix ix' sub sub' : Nat} (h : ix' ≠ ix ∨ sub ≠ 1 ∧ sub' ≠ sub) (hsub : sub < 256)
    (hsub' : sub' < 256) (s : State) (k : Nat) : Machine.odN (bumpBy s ix sub k) ix' sub' = Machine.odN s ix' sub' :=
  odN_odSet_other h hsub hsub' s _

@[simp] theorem odI_bumpBy (s : State) (ix sub k : Nat) :
    odI (bumpBy s ix sub k) ix sub = (satN (odWidth ix sub) (Machine.odN s ix sub + k) : Nat) := by
  simp [bumpBy, odSetN]

/-- A per-channel counter counts at its channel's place (R77, R120). -/
theorem odI_bumpChan {c : Nat} (hc : c < 512) (s : State) (base k : Nat) :
    odI (bumpChan s base c k) (base + c / 64) (c % 64 + 1) =
      (satN (odWidth (base + c / 64) (c % 64 + 1)) (Machine.odN s (base + c / 64) (c % 64 + 1) + k) : Nat) := by
  have hquad : c / 64 % 8 = c / 64 := by omega
  rw [bumpChan, hquad, odI_bumpBy]

theorem Only.odx_eq {C : List Part} {s t : State} (h : Only C s t) (hs : C.contains .sessions = false)
    (ho : C.contains .odx = false) : t.odx = s.odx := by
  obtain ⟨hsessions, hqueue, hturn⟩ := h.same .sessions hs
  have hrest : t.odx = { s.odx with sessions := t.odx.sessions, netQ := t.odx.netQ, turnMbx := t.odx.turnMbx } :=
    h.same .odx ho
  rw [hrest, hsessions, hqueue, hturn]

/-! ### Outcomes -/

/-- The next state of a command that closes on `u`: `u` with the fuses, the queue and the memory of before (`outcome`). -/
def closed (s u : State) : State := { u with fuses := s.fuses, pending := s.pending, qdr := s.qdr }

@[simp] theorem getChan_closed (s u : State) (c : Nat) : getChan (closed s u) c = getChan u c := rfl
@[simp] theorem closed_rx (s u : State) : (closed s u).rx = u.rx := rfl
@[simp] theorem closed_emit (s u : State) : (closed s u).emit = u.emit := rfl
@[simp] theorem closed_plan (s u : State) : (closed s u).plan = u.plan := rfl
@[simp] theorem closed_host (s u : State) : (closed s u).host = u.host := rfl

/-- What is read of the store after a command that leaves the fuses alone. -/
theorem odI_closed {s u : State} (h : u.fuses = s.fuses) (ix sub : Nat) : odI (closed s u) ix sub = odI u ix sub := by
  have hod : (closed s u).od = u.od := rfl
  have hfuses : (closed s u).fuses = u.fuses := h.symm
  exact odI_congr hod hfuses ix sub

theorem odN_closed {s u : State} (h : u.fuses = s.fuses) (ix sub : Nat) : odN (closed s u) ix sub = odN u ix sub := by
  unfold odN; rw [odI_closed h]

end Sys2Proof.Machine
end

section
/-! The front end and the coincidence filter: what a pulse, a stuck tick, the end of a blanking interval and a decision of the
filter come to at their channel. -/

namespace Sys2Proof.Machine

/-! ### The restorer before a hit (R53) -/

/-- `y` is the channel `x` but for its baseline estimate. -/
def BaselineOnly (x y : Chan) : Prop := ∃ e r a, y = { x with est := e, estRuns := r, estAt := a }

theorem BaselineOnly.refl (x : Chan) : BaselineOnly x x := ⟨x.est, x.estRuns, x.estAt, rfl⟩

theorem BaselineOnly.trans {x y z : Chan} (h : BaselineOnly x y) (h' : BaselineOnly y z) : BaselineOnly x z := by
  obtain ⟨e, r, a, rfl⟩ := h
  obtain ⟨e', r', a', rfl⟩ := h'
  exact ⟨e', r', a', rfl⟩

theorem restoreTo_baselineOnly (s : State) (c : Nat) (b : Int) (t : Nat) : BaselineOnly (getChan s c) (restoreTo s c b t) :=
  ⟨_, _, _, rfl⟩

theorem holdUntil_baselineOnly (x : Chan) (t : Int) : BaselineOnly x (holdUntil x t) := ⟨_, _, _, rfl⟩

/-- On the samples of a waveform the restorer changes the channel's estimate only. -/
theorem idleRun_state (c : Nat) (b : Int) (x : Sample) (xs : List Sample) (s : State) :
    ∃ y, BaselineOnly (getChan s c) y ∧ (idleRun c b (x :: xs) s).1 = setChan s c y := by
  induction xs generalizing x s with
  | nil =>
    refine ⟨_, restoreTo_baselineOnly s c b x.t, ?_⟩
    unfold idleRun
    dsimp only
    split <;> rfl
  | cons x' xs ih =>
    unfold idleRun
    dsimp only
    split
    · exact ⟨_, restoreTo_baselineOnly s c b x.t, rfl⟩
    · obtain ⟨y, hy, hs⟩ := ih x' (setChan s c (restoreTo s c b x.t))
      rw [getChan_setChan_self] at hy
      rw [setChan_setChan] at hs
      exact ⟨y, (restoreTo_baselineOnly s c b x.t).trans hy, hs⟩

/-- Until the next hit of a waveform is found, and to its end where there is none, the channel's estimate changes only. -/
theorem nextHit_state (s : State) (c : Nat) (b : Int) (x : Sample) (xs : List Sample) :
    ∃ y, BaselineOnly (getChan s c) y ∧ (nextHit s c b (x :: xs)).1 = setChan s c y := by
  obtain ⟨y, hy, hs⟩ := idleRun_state c b x xs s
  refine ⟨y, hy, ?_⟩
  rw [← hs]
  unfold nextHit
  split <;> (rename_i e; rw [e])

theorem runWave_nil (c : Nat) (b : Int) (n : Nat) (s : State) : runWave c b n [] s = s := by
  cases n <;> rfl

/-- A waveform without a hit leaves the channel as it is but for the estimate. -/
theorem frontEndEvent_of_none {s : State} {c : Nat} {p : Pulse} (hn : (nextHit s c p.base p.wave).2 = none) :
    BaselineOnly (getChan s c) (getChan (frontEndEvent s c p) c) := by
  unfold frontEndEvent
  split
  · exact .refl _
  cases hw : p.wave with
  | nil => rw [runWave_nil]; exact .refl _
  | cons x xs =>
    rw [hw] at hn
    obtain ⟨y, hy, hs⟩ := nextHit_state s c p.base x xs
    have hrun : runWave c p.base (x :: xs).length (x :: xs) s = (nextHit s c p.base (x :: xs)).1 := by
      rw [List.length_cons, runWave]
      split
      · rename_i e; rw [e]
      · rename_i e; rw [e] at hn; cases hn
    rw [hrun, hs, getChan_setChan_self]
    exact hy

/-- A waveform of a single stretch is judged as that hit, once the restorer has run up to it. -/
theorem frontEndEvent_of_hit {s : State} {c : Nat} {p : Pulse} {h : Hit} (hl : chanLive s c = true)
    (hn : (nextHit s c p.base p.wave).2 = some (h, [])) :
    ∃ y, BaselineOnly (getChan s c) y ∧ frontEndEvent s c p = frontEndHit (setChan s c y) c h := by
  have hrun : frontEndEvent s c p = runWave c p.base p.wave.length p.wave s := by simp [frontEndEvent, hl]
  rw [hrun]
  cases hw : p.wave with
  | nil => rw [hw] at hn; cases hn
  | cons x xs =>
    rw [hw] at hn
    obtain ⟨y, hy, hs⟩ := nextHit_state s c p.base x xs
    refine ⟨y, hy, ?_⟩
    rw [← hs, List.length_cons, runWave]
    split
    · rename_i e; rw [e] at hn; cases hn
    · rename_i u k rest e
      rw [e] at hn ⊢
      cases hn
      exact runWave_nil ..

/-! ### A hit (R57 to R60) -/

section
variable {s : State} {c : Nat} {h : Hit} (hl : chanLive s c = true) (hs : (getChan s c).stuckNow = false)
include hl hs

/-- A stretch longer than the stuck time makes the tick stuck (R60). -/
theorem frontEndHit_long (ha : 512 * stuckTime s < activeFor h) :
    frontEndHit s c h = stuckTick (updChan s c fun x => holdUntil x (endOf h.trail)) c := by
  have ht (f : Chan → Chan) : stuckTime (updChan s c f) = stuckTime s := odN_updChan ..
  simp [frontEndHit, hl, hs, ht, ha]

variable (ha : activeFor h ≤ 512 * stuckTime s) (hset : s.rx.settled = false) (ht : h.lead.t < gateEnd.toNat)
include ha hset ht

/-- A pulse within the dead time that is active at re-arm is a loss (R59). -/
theorem frontEndHit_dead {u : Int} (hu : (getChan s c).trail = some u) (hd : stamp (getChan s c) h.lead < u + 1024)
    (hr : u + 1024 < h.trailStamp (getChan s c)) :
    frontEndHit s c h = bumpChan (updChan s c fun x => holdUntil x (endOf h.trail)) 0x3058 c 1 := by
  have htime (f : Chan → Chan) : stuckTime (updChan s c f) = stuckTime s := odN_updChan ..
  have htrail (x : Chan) (t : Int) : (holdUntil x t).trail = x.trail := rfl
  have hstamp (x : Chan) (t : Int) : stamp (holdUntil x t) h.lead = stamp x h.lead := rfl
  have hend (x : Chan) (t : Int) : h.trailStamp (holdUntil x t) = h.trailStamp x := rfl
  simp [frontEndHit, hl, hs, htime, htrail, hstamp, hend, Nat.not_lt.2 ha, hset, Nat.not_le.2 ht, hu, hd, hr]

/-- A pulse with no trailing edge before it in the tick is stamped (R57). -/
theorem frontEndHit_first (hu : (getChan s c).trail = none) :
    frontEndHit s c h = stampHit (updChan s c fun x => holdUntil x (endOf h.trail)) c h := by
  have htime (f : Chan → Chan) : stuckTime (updChan s c f) = stuckTime s := odN_updChan ..
  have htrail (x : Chan) (t : Int) : (holdUntil x t).trail = x.trail := rfl
  simp [frontEndHit, hl, hs, htime, htrail, Nat.not_lt.2 ha, hset, Nat.not_le.2 ht, hu]

end

section
variable {s : State} {c : Nat} {p : Pulse} {h : Hit} (hl : chanLive s c = true)
  (hn : (nextHit s c p.base p.wave).2 = some (h, [])) (hs : (getChan s c).stuckNow = false)
include hl hn hs

/-- A return of a single stretch that outlasts the stuck time. -/
theorem frontEndEvent_long (ha : 512 * stuckTime s < activeFor h) :
    ∃ y, BaselineOnly (getChan s c) y ∧ frontEndEvent s c p = stuckTick (setChan s c y) c := by
  obtain ⟨y, ⟨e, r, a, rfl⟩, hev⟩ := frontEndEvent_of_hit hl hn
  refine ⟨_, .trans ⟨e, r, a, rfl⟩ (holdUntil_baselineOnly _ (endOf h.trail)), ?_⟩
  rw [hev, frontEndHit_long, updChan_setChan]
  · rw [chanLive_eq, getChan_setChan_self]; exact hl
  · rw [getChan_setChan_self]; exact hs
  · rw [stuckTime, odN_setChan]; exact ha

variable (ha : activeFor h ≤ 512 * stuckTime s) (hset : s.rx.settled = false) (ht : h.lead.t < gateEnd.toNat)
include ha hset ht

/-- A return of a single stretch within the dead time that is active at re-arm. -/
theorem frontEndEvent_dead {u : Int} (hu : (getChan s c).trail = some u) (hd : stamp (getChan s c) h.lead < u + 1024)
    (hr : u + 1024 < h.trailStamp (getChan s c)) :
    ∃ y, BaselineOnly (getChan s c) y ∧ frontEndEvent s c p = bumpChan (setChan s c y) 0x3058 c 1 := by
  obtain ⟨y, ⟨e, r, a, rfl⟩, hev⟩ := frontEndEvent_of_hit hl hn
  refine ⟨_, .trans ⟨e, r, a, rfl⟩ (holdUntil_baselineOnly _ (endOf h.trail)), ?_⟩
  rw [hev, frontEndHit_dead (u := u), updChan_setChan]
  · rw [chanLive_eq, getChan_setChan_self]; exact hl
  · rw [getChan_setChan_self]; exact hs
  · rw [stuckTime, odN_setChan]; exact ha
  · exact hset
  · exact ht
  · rw [getChan_setChan_self]; exact hu
  · rw [getChan_setChan_self]; exact hd
  · rw [getChan_setChan_self]; exact hr

/-- A return of a single stretch, the first of its tick. -/
theorem frontEndEvent_first (hu : (getChan s c).trail = none) :
    ∃ y, BaselineOnly (getChan s c) y ∧ frontEndEvent s c p = stampHit (setChan s c y) c h := by
  obtain ⟨y, ⟨e, r, a, rfl⟩, hev⟩ := frontEndEvent_of_hit hl hn
  refine ⟨_, .trans ⟨e, r, a, rfl⟩ (holdUntil_baselineOnly _ (endOf h.trail)), ?_⟩
  rw [hev, frontEndHit_first, updChan_setChan]
  · rw [chanLive_eq, getChan_setChan_self]; exact hl
  · rw [getChan_setChan_self]; exact hs
  · rw [stuckTime, odN_setChan]; exact ha
  · exact hset
  · exact ht
  · rw [getChan_setChan_self]; exact hu

end

/-- The width of a closed hit between its corrected edges. -/
def hitWidth (x : Chan) (h : Hit) : Nat := (max 0 (h.trailStamp x + x.skew + x.trim - corrected x h.lead)).toNat

/-- The instant of a hit of the low discriminator, walk-corrected. -/
def hitTime (q : Quad) (x : Chan) (h : Hit) : Int :=
  roundDiv (corrected x h.lead + (walkWidth q (hitWidth x h) false).1) 16

/-- The event of a closed hit that the high discriminator has not seen. -/
def lowEvent (q : Quad) (x : Chan) (h : Hit) : Event where
  time := (hitTime q x h).toNat
  width := min 511 (roundDivN (hitWidth x h) 64)
  ht := false
  ovl := false
  blank := inBlank x (corrected x h.lead)
  wclamp := (walkWidth q (hitWidth x h) false).2
  winv := false

/-- A delivered event of an assigned channel within its scout span joins the channel's events (R25, R58). -/
theorem deliver_assigned {s : State} {c : Nat} {v : Event} (ha : (getChan s c).assigned = true)
    (hlo : (getChan s c).lambda ≤ v.time) (hhi : v.time - (getChan s c).lambda ≤ 327679) :
    (getChan (deliver s c v) c).events = (getChan s c).events ++ [v] ∧
      (getChan (deliver s c v) c).trail = (getChan s c).trail := by
  have hon (x : Chan) (f : Half → Half) : (x.onHalf f).events = x.events ∧ (x.onHalf f).trail = x.trail := by
    unfold Chan.onHalf; split <;> exact ⟨rfl, rfl⟩
  rw [deliver, if_pos ha, assignedEvent, if_neg (by simp; omega)]
  rw [getChan_countMarks, getChan_setChan_self]
  simp only [(hon _ _).1, (hon _ _).2]
  exact ⟨rfl, rfl⟩

/-- A closed hit that the high discriminator has not seen is stamped: its event is delivered (R57, R58, R68). -/
theorem stampHit_low {s : State} {c : Nat} {h : Hit} (ho : h.open = false) (hh : h.high = none)
    (ha : (getChan s c).assigned = true) (h0 : 0 ≤ hitTime (quadOf s c) (getChan s c) h)
    (hlo : (getChan s c).lambda ≤ (hitTime (quadOf s c) (getChan s c) h).toNat)
    (hhi : (hitTime (quadOf s c) (getChan s c) h).toNat - (getChan s c).lambda ≤ 327679) :
    (getChan (stampHit s c h) c).events = (getChan s c).events ++ [lowEvent (quadOf s c) (getChan s c) h] ∧
      (getChan (stampHit s c h) c).trail = some (h.trailStamp (getChan s c)) := by
  have hself := getChan_updChan_self s c fun x => { x with trail := some (h.trailStamp x) }
  have hdel := deliver_assigned (s := updChan s c fun x => { x with trail := some (h.trailStamp x) }) (c := c)
    (v := lowEvent (quadOf s c) (getChan s c) h)
    (by rw [hself]; exact ha) (by rw [hself]; exact hlo) (by rw [hself]; exact hhi)
  have hstamp : stampHit s c h = deliver (updChan s c fun x => { x with trail := some (h.trailStamp x) }) c
      (lowEvent (quadOf s c) (getChan s c) h) := by
    simp only [stampHit, ho, hh, Bool.false_eq_true, if_false]
    refine (if_neg (Int.not_lt.2 h0)).trans ?_
    rw [hself]
    rfl
  rw [hself] at hdel
  rw [hstamp]
  exact hdel

/-! ### Stuck ticks (R60, R72) -/

/-- The tick counts as stuck: what the channel has delivered in it is discarded. -/
def stuckCounted (s : State) (c : Nat) : State :=
  let bufs := s.rx.bufs.map fun p => (p.1, { p.2 with entries := p.2.entries.filter fun k => k.chan != c })
  bump (setChan { s with rx := { s.rx with bufs := bufs } } c { (getChan s c).discard with
    events := [], early := [], rate := (0, 0, 0), stuckNow := true, stuckRun := (getChan s c).stuckRun + 1 }) 0x3080 3

theorem getChan_stuckCounted (s : State) (c : Nat) :
    (getChan (stuckCounted s c) c).stuckNow = true ∧ (getChan (stuckCounted s c) c).events = [] ∧
      (getChan (stuckCounted s c) c).stuckRun = (getChan s c).stuckRun + 1 := by
  simp [stuckCounted]

theorem odN_stuckCounted (s : State) (c : Nat) : odN (stuckCounted s c) 0x3080 3 = satN 32 (odN s 0x3080 3 + 1) := by
  have hwidth : odWidth 0x3080 3 = 32 := by decide
  rw [stuckCounted, odN_bump, hwidth, odN_setChan]
  rfl

section
variable {s : State} {c : Nat} (hl : chanLive s c = true) (hs : (getChan s c).stuckNow = false)
include hl hs

/-- A first stuck stretch of the tick counts it, and the limit of stuck ticks in a row is a fault of the channel. -/
theorem stuckTick_eq : stuckTick s c =
    if odN s 0x3000 8 ≤ (getChan s c).stuckRun + 1 then chanFault (stuckCounted s c) c else stuckCounted s c := by
  have hlimit : odN (stuckCounted s c) 0x3000 8 = odN s 0x3000 8 := by
    rw [stuckCounted, bump, odN_bumpBy_other (.inl (by decide)) (by decide) (by decide), odN_setChan]
    exact odN_congr rfl rfl ..
  rw [← hlimit]
  simp only [stuckTick, hl, hs, Bool.not_true, Bool.or_self, Bool.false_eq_true, if_false]
  rfl

theorem stuckTick_counted (hr : (getChan s c).stuckRun + 1 < odN s 0x3000 8) : stuckTick s c = stuckCounted s c := by
  rw [stuckTick_eq hl hs, if_neg (Nat.not_le.2 hr)]

theorem stuckTick_fault (hr : odN s 0x3000 8 ≤ (getChan s c).stuckRun + 1) :
    stuckTick s c = chanFault (stuckCounted s c) c := by
  rw [stuckTick_eq hl hs, if_pos hr]

end

/-- A low discriminator active for longer than the stuck time makes the tick stuck, whenever in the tick it is (R60). -/
theorem exec_stuckTick_long {s : State} {c : Fin 512} {ns : Nat} (h : stuckTime s < ns) :
    exec (.stuckTick ⟨c, ns⟩) s = .next (closed s (stuckTick s c.val)) := congrArg (outcome s) (if_pos h)

theorem exec_stuckTick_short {s : State} {c : Fin 512} {ns : Nat} (h : ns ≤ stuckTime s) :
    exec (.stuckTick ⟨c, ns⟩) s = .next s := congrArg (outcome s) (if_neg (Nat.not_lt.2 h))

/-! ### The end of a blanking interval (R66) -/

theorem Chan.onHalf_acc {x : Chan} (h : x.late = false) (f : Half → Half) : x.onHalf f = { x with acc := f x.acc } := by
  simp [Chan.onHalf, h]

/-- The crosstalk mark of an interval on a channel. -/
def crossMark (a b : Int) (x : Chan) : Chan := x.onHalf fun h => { h with xt := h.xt ||| markBins x.lambda a b }

/-- The crosstalk mark of an interval on a channel whose events belong to a stack. -/
def markCross (a b : Int) (s : State) (d : Nat) : State := if markable s d then updChan s d (crossMark a b) else s

/-- A mark leaves alone all of a channel but its two halves. -/
theorem crossMark_halves (a b : Int) (x : Chan) :
    crossMark a b x = { x with acc := (crossMark a b x).acc, held := (crossMark a b x).held } := by
  unfold crossMark Chan.onHalf
  split <;> rfl

theorem crossMark_keeps (a b : Int) (x : Chan) : (crossMark a b x).blank = x.blank ∧
    (crossMark a b x).acc.overload = x.acc.overload ∧ (crossMark a b x).acc.sat = x.acc.sat := by
  unfold crossMark Chan.onHalf
  split <;> exact ⟨rfl, rfl, rfl⟩

theorem crossMark_idem (a b : Int) (x : Chan) : crossMark a b (crossMark a b x) = crossMark a b x := by
  unfold crossMark Chan.onHalf
  split <;> simp [*, BitVec.or_assoc]

theorem markable_congr {s t : State} {d : Nat} (hst : (getChan t d).st = (getChan s d).st)
    (ha : (getChan t d).assigned = (getChan s d).assigned) : markable t d = markable s d := by
  rw [markable, markable, chanLive_eq, chanLive_eq, hst, ha]

theorem getChan_markCross (a b : Int) (s : State) (e d : Nat) :
    getChan (markCross a b s e) d = if d = e ∧ markable s e = true then crossMark a b (getChan s d) else getChan s d := by
  unfold markCross
  by_cases hm : markable s e = true
  · by_cases hd : d = e
    · subst hd; simp [hm]
    · simp [hm, hd, getChan_updChan_ne]
  · simp [hm]

theorem markable_markCross (a b : Int) (s : State) (e d : Nat) : markable (markCross a b s e) d = markable s d := by
  refine markable_congr ?_ ?_ <;>
    · rw [getChan_markCross]
      split
      · rw [crossMark_halves]
      · rfl

/-- Each channel of a list whose events belong to a stack is marked, and no other. -/
theorem getChan_foldl_markCross (a b : Int) (l : List Nat) (s : State) (d : Nat) :
    getChan (l.foldl (markCross a b) s) d =
      if d ∈ l ∧ markable s d = true then crossMark a b (getChan s d) else getChan s d := by
  induction l generalizing s with
  | nil => simp
  | cons e l ih =>
    rw [List.foldl_cons, ih, markable_markCross, getChan_markCross]
    by_cases hm : markable s d = true
    · by_cases hd : d = e
      · subst hd; simp [hm, crossMark_idem]
      · simp [hm, hd]
    · by_cases hd : d = e
      · subst hd; simp [hm]
      · simp [hm, hd]

/-- The channel of a blanking interval as the interval's end marks it. -/
def overMark (a b : Int) (x : Chan) : Chan :=
  { x with blank := none, blanked := x.blanked ++ [(a, b)] }.onHalf fun h =>
    { h with sat := h.sat ||| markBins x.lambda a b, overload := true }

theorem overMark_reads (a b : Int) {x : Chan} (h : x.late = false) : (overMark a b x).blank = none ∧
    (overMark a b x).acc.overload = true ∧ (overMark a b x).acc.sat = x.acc.sat ||| markBins x.lambda a b := by
  simp [overMark, Chan.onHalf_acc, h]

/-- The end of a blanking interval marks the stack of its channel, and the neighbours. -/
theorem markOverload_eq {s : State} {c : Nat} {a b : Int} (hb : (getChan s c).blank = some (a, b))
    (hm : markable s c = true) : markOverload s c =
      (listedBy s c).foldl (markCross a (min b gateEnd)) (setChan s c (overMark a (min b gateEnd) (getChan s c))) := by
  have hmark : markable (updChan s c fun x => { x with
      blank := none, blanked := x.blanked ++ [(a, min b gateEnd)] }) c = true := by
    rw [← hm]
    exact markable_congr (by simp) (by simp)
  unfold markOverload
  simp only [hb, hmark, if_true, updChan_updChan]
  rfl

section
variable {s : State} {c : Nat} {a b : Int} (hb : (getChan s c).blank = some (a, b)) (hm : markable s c = true)
include hb hm

theorem getChan_markOverload_self (hlate : (getChan s c).late = false) :
    (getChan (markOverload s c) c).blank = none ∧ (getChan (markOverload s c) c).acc.overload = true ∧
      (getChan (markOverload s c) c).acc.sat =
        (getChan s c).acc.sat ||| markBins (getChan s c).lambda a (min b gateEnd) := by
  have hover := overMark_reads a (min b gateEnd) hlate
  rw [markOverload_eq hb hm, getChan_foldl_markCross, getChan_setChan_self]
  split
  · obtain ⟨hblank, hoverload, hsat⟩ := crossMark_keeps a (min b gateEnd) (overMark a (min b gateEnd) (getChan s c))
    rw [hblank, hoverload, hsat]
    exact hover
  · exact hover

theorem getChan_markOverload_listed {d : Nat} (hd : d ∈ listedBy s c) (hne : d ≠ c) (hmd : markable s d = true)
    (hlate : (getChan s d).late = false) :
    (getChan (markOverload s c) d).acc.xt =
      (getChan s d).acc.xt ||| markBins (getChan s d).lambda a (min b gateEnd) := by
  have hsame := getChan_setChan_ne hne s (overMark a (min b gateEnd) (getChan s c))
  have hmark : markable (setChan s c (overMark a (min b gateEnd) (getChan s c))) d = true := by
    rw [← hmd]
    exact markable_congr (by rw [hsame]) (by rw [hsame])
  rw [markOverload_eq hb hm, getChan_foldl_markCross, if_pos ⟨hd, hmark⟩, hsame, crossMark, Chan.onHalf_acc hlate]

end

/-! ### Decisions of the coincidence filter (R88 to R92, R111) -/

theorem binEvent_eccErr (rt : Nat) (h : Half) : (binEvent rt h).eccErr = h.eccErr := by
  unfold binEvent
  dsimp only
  split
  · rfl
  · split <;> rfl

/-- An event that finds room in the coalescing buffer is binned (R92). -/
theorem coalesce_room {s : State} {c : Nat} (hroom : (tgetD s.rx.bufs (c / 8) {}).entries.length < 64) (rt cycle : Nat) :
    (coalesce s c rt cycle).2 = true ∧
      getChan (coalesce s c rt cycle).1 c = (getChan s c).onHalf (binEvent rt) := by
  have hput (t : State) (h : t.rx.chans = s.rx.chans) (f : Chan → Chan) :
      getChan (updChan t c f) c = f (getChan s c) := by
    rw [getChan_updChan_self, getChan, h, getChan]
  have hrest : ((tgetD s.rx.bufs (c / 8) {}).entries.drop (cycle - (tgetD s.rx.bufs (c / 8) {}).cycle)).length < 64 := by
    rw [List.length_drop]; omega
  unfold coalesce
  simp only [hrest, if_true]
  split <;> exact ⟨rfl, hput _ (by rfl) _⟩

/-- The memory errors of an accepted event: an uncorrectable one marks the half, the corrected ones are counted (R111). -/
theorem accMemory_reads (s : State) (c corrected : Nat) (bad : Bool) :
    getChan (accMemory s c corrected bad) c =
        (if bad then (getChan s c).onHalf fun h => { h with eccErr := true } else getChan s c) ∧
      odN (accMemory s c corrected bad) 0x3108 7 = satN 32 (odN s 0x3108 7 + corrected) := by
  have hwidth : odWidth 0x3108 7 = 32 := by decide
  unfold accMemory
  rw [getChan_bumpBy, odN_bumpBy, hwidth]
  cases bad
  · exact ⟨rfl, rfl⟩
  · simp only [if_true, getChan_updChan_self, odN_updChan, and_self]

section
variable {s : State} {c n : Nat} {v : Event} (hset : s.rx.settled = false) (ha : (getChan s c).assigned = true)
  (hv : (getChan s c).events.find? (fun w => w.time == n && w.passed.isNone) = some v) (cyc k : Nat) (b : Bool)
include hset ha hv

/-- An event with too few events beside it is rejected (R88, R89). -/
theorem coincidence_rejected (hk : coincCount s c n < (coincOf s c).1) (hh : ((coincOf s c).2.2.2 && v.ht) = false) :
    coincidence s c n cyc k b = bumpChan (setChan s c
      (Chan.onHalf { getChan s c with events := decideFirst n false (getChan s c).events }
        fun h => { h with rejects := h.rejects + 1 })) 0x3120 c 1 := by
  simp [coincidence, hv, hset, ha, Nat.not_le.2 hk, hh]

variable (hk : (coincOf s c).1 ≤ coincCount s c n ∨ ((coincOf s c).2.2.2 && v.ht) = true)
include hk

/-- An event that passes the filter is dropped once the quota of the tick is used up (R91). -/
theorem coincidence_dropped (hq : 1050 ≤ (getChan s c).accepted) :
    coincidence s c n cyc k b = bumpChan (setChan s c
      (Chan.onHalf { getChan s c with events := decideFirst n true (getChan s c).events }
        fun h => { h with quotaDrop := h.quotaDrop + 1, rateLim := true })) 0x3128 c 1 := by
  have hok : (decide ((coincOf s c).1 ≤ coincCount s c n) || ((coincOf s c).2.2.2 && v.ht)) = true := by
    simpa using hk
  simp only [coincidence, hv, hset, ha, hok]
  simp [hq]

/-- An event that passes filter and quota enters the coalescing buffer, where there is room for it (R91, R92). -/
theorem coincidence_binned (hq : (getChan s c).accepted < 1050)
    (hroom : (tgetD s.rx.bufs (c / 8) {}).entries.length < 64) :
    coincidence s c n cyc k b = accMemory (coalesce (setChan s c { getChan s c with
      events := decideFirst n true (getChan s c).events, accepted := (getChan s c).accepted + 1 }) c
      (n - (getChan s c).lambda) cyc).1 c k b := by
  have hok : (decide ((coincOf s c).1 ≤ coincCount s c n) || ((coincOf s c).2.2.2 && v.ht)) = true := by
    simpa using hk
  have hbin (x : Chan) (rt : Nat) : (coalesce (setChan s c x) c rt cyc).2 = true :=
    (coalesce_room (s := setChan s c x) hroom rt cyc).1
  simp only [coincidence, hv, hset, ha, hok]
  simp [Nat.not_le.2 hq, hbin]

end

section
variable {s : State} {c n : Nat} {v : Event} (hset : s.rx.settled = false) (ha : (getChan s c).assigned = true)
  (hv : (getChan s c).events.find? (fun w => w.time == n && w.passed.isNone) = some v) (cyc k : Nat) (b : Bool)
  (hk : (coincOf s c).1 ≤ coincCount s c n ∨ ((coincOf s c).2.2.2 && v.ht) = true)
  (hq : (getChan s c).accepted < 1050) (hroom : (tgetD s.rx.bufs (c / 8) {}).entries.length < 64)
  (hlate : (getChan s c).late = false)
include hset ha hv hk hq hroom hlate

/-- The binned event enters the accumulating half, with the memory errors that it met. -/
theorem coincidence_binned_reads :
    (getChan (coincidence s c n cyc k b) c).acc = { binEvent (n - (getChan s c).lambda) (getChan s c).acc with
        eccErr := b || (getChan s c).acc.eccErr } ∧
      odN (coincidence s c n cyc k b) 0x3108 7 = satN 32 (odN s 0x3108 7 + k) ∧
      (getChan (coincidence s c n cyc k b) c).accepted = (getChan s c).accepted + 1 := by
  rw [coincidence_binned hset ha hv cyc k b hk hq hroom]
  generalize hu : setChan s c { getChan s c with
    events := decideFirst n true (getChan s c).events, accepted := (getChan s c).accepted + 1 } = u
  have hbufs : (tgetD u.rx.bufs (c / 8) {}).entries.length < 64 := by rw [← hu]; exact hroom
  obtain ⟨-, hchan⟩ := coalesce_room hbufs (n - (getChan s c).lambda) cyc
  have hodn : odN (coalesce u c (n - (getChan s c).lambda) cyc).1 0x3108 7 = odN s 0x3108 7 := by
    rw [(coalesce_only ..).odN_spared ((coalesce_only ..).same .fuses rfl) rfl (by decide), ← hu, odN_setChan]
  obtain ⟨hmem, hcount⟩ := accMemory_reads (coalesce u c (n - (getChan s c).lambda) cyc).1 c k b
  have hlateu : (getChan u c).late = false := by rw [← hu, getChan_setChan_self]; exact hlate
  rw [hmem, hcount, hodn, hchan, Chan.onHalf_acc hlateu, ← hu, getChan_setChan_self]
  have herr := binEvent_eccErr (n - (getChan s c).lambda) (getChan s c).acc
  cases b
  · refine ⟨?_, rfl, rfl⟩
    simp only [Bool.false_eq_true, if_false, Bool.false_or, ← herr]
  · rw [if_pos rfl, Chan.onHalf_acc (by exact hlate)]
    exact ⟨rfl, rfl, rfl⟩

end

/-! ### FrontEndAndFilter -/

/-- The dead-time losses of a channel are counted in 32 bits (R77). -/
theorem odWidth_deadTime {q i : Nat} (hq : q < 8) (hi : i < 64) : odWidth (0x3058 + q) (i + 1) = 32 := by
  have hbefore : ∀ r ∈ objRows.take 27, r.ix + r.nIx ≤ 0x3058 := by decide
  have hrow : objRow (0x3058 + q) (i + 1) =
      some ⟨0x3058, 8, 1, 64, .u 4, 8, .counter, .none, 0, 4294967295, 0, .no, .quad⟩ := by
    refine List.find?_eq_some_iff_append.2 ⟨by simp; omega, objRows.take 27, objRows.drop 28, rfl, fun r hr => ?_⟩
    have hend := hbefore r hr
    simp
    omega
  simp [odWidth, hrow, ObjTy.size]

/-- Settles O15, command by command: what each comes to at its channel is the lemma of its case. -/
theorem frontEndAndFilter : Obligations.FrontEndAndFilter := by
  intro s c hl
  refine ⟨fun p hn => ?noStretch, fun p h u hn hset hs ht ha hu hd hr => ?deadTime,
    fun p h hn hset hs ht ha ho hh hu has => ?stamped, fun p h hn hs ha hr => ?tooLong,
    fun ns hns hs hr => ?stuck, fun ns hns hs hr => ?fault, fun ns hns => exec_stuckTick_short (c := c) hns,
    fun a b hb hset has hlate => ?blanked,
    fun v n cyc k b hset has hlate hv => ⟨fun hk hh => ?rejected, fun hk hq => ?dropped, fun hk hq hroom => ?binned⟩⟩
  case noStretch =>
    obtain ⟨e, r, a, hy⟩ := frontEndEvent_of_none hn
    exact ⟨closed s (frontEndEvent s c p), rfl, by rw [getChan_closed, hy], by rw [getChan_closed, hy]⟩
  case deadTime =>
    obtain ⟨y, ⟨e, r, a, rfl⟩, hev⟩ := frontEndEvent_dead hl hn hs ha hset ht hu hd hr
    refine ⟨closed s (frontEndEvent s c p), rfl, ?_, ?_⟩
    · rw [getChan_closed, hev, getChan_bumpChan, getChan_setChan_self]
    · rw [odI_closed (by rw [hev]; rfl), hev, odI_bumpChan c.isLt, odWidth_deadTime (by omega) (by omega), odN_setChan]
  case stamped =>
    dsimp only
    intro h0 hlo hhi
    obtain ⟨y, ⟨e, r, a, rfl⟩, hev⟩ := frontEndEvent_first hl hn hs ha hset ht hu
    have hlow := stampHit_low (s := setChan s c { getChan s c with est := e, estRuns := r, estAt := a }) (c := c) ho hh
    rw [getChan_setChan_self] at hlow
    refine ⟨closed s (frontEndEvent s c p), rfl, ?_⟩
    rw [getChan_closed, hev]
    exact hlow has h0 hlo hhi
  case tooLong =>
    obtain ⟨y, ⟨e, r, a, rfl⟩, hev⟩ := frontEndEvent_long hl hn hs ha
    obtain ⟨hnow, hevents, -⟩ :=
      getChan_stuckCounted (setChan s c { getChan s c with est := e, estRuns := r, estAt := a }) c
    refine ⟨closed s (frontEndEvent s c p), rfl, ?_⟩
    rw [getChan_closed, hev, stuckTick_counted (by rw [chanLive_eq, getChan_setChan_self]; exact hl)
      (by rw [getChan_setChan_self]; exact hs) (by rw [getChan_setChan_self, odN_setChan]; exact hr)]
    exact ⟨hnow, hevents⟩
  case stuck =>
    obtain ⟨hnow, hevents, hrun⟩ := getChan_stuckCounted s c
    have hex := exec_stuckTick_long (c := c) hns
    rw [stuckTick_counted hl hs hr] at hex
    have hfuses : (stuckCounted s c).fuses = s.fuses := rfl
    exact ⟨_, hex, hnow, hevents, hrun, (odN_closed hfuses ..).trans (odN_stuckCounted s c)⟩
  case fault =>
    obtain ⟨-, hevents, -⟩ := getChan_stuckCounted s c
    have hex := exec_stuckTick_long (c := c) hns
    rw [stuckTick_fault hl hs hr] at hex
    exact ⟨_, hex, getChan_chanFault_st .., (getChan_chanFault_events ..).trans hevents, reportFault_fault ..⟩
  case blanked =>
    have hm : markable s c = true := by rw [markable, has, hl]; rfl
    obtain ⟨hblank, hover, hsat⟩ := getChan_markOverload_self hb hm hlate
    refine ⟨closed s (markOverload s c), rfl, hblank, hover, hsat, fun d hd hne hld had hlated => ?_⟩
    exact getChan_markOverload_listed hb hm hd hne (by rw [markable, had, hld]; rfl) hlated
  case rejected =>
    refine ⟨closed s (coincidence s c n cyc k b), rfl, ?_⟩
    rw [getChan_closed, coincidence_rejected hset has hv cyc k b hk hh, getChan_bumpChan, getChan_setChan_self,
      Chan.onHalf_acc (by exact hlate)]
    exact ⟨rfl, rfl⟩
  case dropped =>
    refine ⟨closed s (coincidence s c n cyc k b), rfl, ?_⟩
    rw [getChan_closed, coincidence_dropped hset has hv cyc k b hk hq, getChan_bumpChan, getChan_setChan_self,
      Chan.onHalf_acc (by exact hlate)]
    exact ⟨rfl, rfl⟩
  case binned =>
    have hfuses := (coincidence_only s c n cyc k b).same .fuses rfl
    obtain ⟨hacc, hcount, hacs⟩ := coincidence_binned_reads hset has hv cyc k b hk hq hroom hlate
    exact ⟨closed s (coincidence s c n cyc k b), rfl, hacc, (odN_closed hfuses ..).trans hcount, hacs⟩

end Sys2Proof.Machine
end

section
/-! Calibration: the code density, the calibration period, and the full calibration from its request to its end. -/

namespace Sys2Proof.Machine

/-! ### Hits and periods (R61, R62) -/

/-- The hits of one channel add to its code density. -/
theorem getChan_calHits {s : State} {h : CalHits} (hon : domOn s .rx = true) (hc : (tget s.rx.chans h.c.val).isSome = true) :
    (getChan (calHits s [h]) h.c.val).counts =
      (List.range 16).map fun p => (getChan s h.c.val).counts.getD p 0 + h.counts.getD p 0 := by
  obtain ⟨x, hx⟩ := Option.isSome_iff_exists.1 hc
  simp [calHits, hon, hx]

theorem chanPeriod_chansOnly (s : State) (c : Nat) : ChansOnly (· = c) s (chanPeriod s c) := by
  have hstart := ChansOnly.refl (· = c) s
  unfold chanPeriod
  dsimp only
  split
  · exact hstart
  split
  · split
    · exact hstart.setChan rfl _
    · split
      · exact ((hstart.setChan rfl _).updChan rfl _).bump ..
      · exact (hstart.setChan rfl _).updChan rfl _
  · split
    · exact (hstart.setChan rfl _).bumpChan ..
    · have hfail := fun x f => ((hstart.setChan (c := c) rfl x).bumpChan 0x3060 c 1).updChan (c := c) rfl f
      split
      · exact (hfail _ _).trans (chanFault_chansOnly ..)
      · exact (hfail _ _).updChan rfl _

/-- The channels in RUN or DEGRADED take their tables of the period. -/
def chansPeriod (s : State) : State := (chanList s).foldl (fun s c => if chanLive s c then chanPeriod s c else s) s

theorem chansPeriod_chansOnly (s : State) : ChansOnly (fun _ => True) s (chansPeriod s) := by
  refine .foldl _ s fun t c _ => ?_
  split
  · exact (chanPeriod_chansOnly t c).mono fun _ _ => trivial
  · exact .refl _ t

theorem chansPeriod_only (s : State) : Only [.rx, .regs 12416 1, .regs 12384 8, .regs 12600 8, .regs 12368 8, .regs 12392 8,
    .irq, .out, .regs 32769 1, .fm, .isl, .emit, .regs 16384 1, .pwr] s (chansPeriod s) :=
  Only.foldl _ _ (fun t c => Only.ite (chanPeriod_only t c) (Only.refl _ t)) (Only.refl _ s)

theorem periodEnd_eq {s : State} (osc : List Nat) (hdue : s.rx.periodDue = true) :
    periodEnd s osc = bump (chansPeriod (oscFrequencies { s with rx := { s.rx with periodDue := false } } osc)) 0x3000 5 := by
  simp only [periodEnd, hdue]
  rfl

theorem nChan_quads_pos (s : State) : 0 < nChan s / 64 := by
  unfold nChan
  split <;> decide

/-- The end of a period measures the oscillators and counts the period (R62, R511). -/
theorem periodEnd_reads {s : State} (osc : List Nat) (hdue : s.rx.periodDue = true) :
    (periodEnd s osc).rx.periodDue = false ∧ odN (periodEnd s osc) 0x3000 6 = roundDivN (osc.getD 0 0 * 78125) 256 ∧
      odN (periodEnd s osc) 0x3000 5 = satN 32 (odN s 0x3000 5 + 1) := by
  have hwidth : odWidth 0x3000 5 = 32 := by decide
  generalize hu : oscFrequencies { s with rx := { s.rx with periodDue := false } } osc = u
  have hrx : u.rx.periodDue = false := by rw [← hu]; rfl
  have hfreq : odN u 0x3000 6 = roundDivN (osc.getD 0 0 * 78125) 256 := by
    rw [← hu, oscFrequencies, odN_odSet_other (.inl (by decide)) (by decide) (by decide), odN_odSetN]
    exact if_pos (nChan_quads_pos _)
  have hcount : odN u 0x3000 5 = odN s 0x3000 5 := by
    rw [← hu, oscFrequencies, odN_odSet_other (.inl (by decide)) (by decide) (by decide), odSetN,
      odN_odSet_other (.inr (by decide)) (by decide) (by decide)]
    exact odN_congr rfl rfl ..
  have honly := chansPeriod_only u
  have hspared {sub : Nat} (hsub : sub < 256) : odN (chansPeriod u) 0x3000 sub = odN u 0x3000 sub :=
    honly.odN_spared (honly.same .fuses rfl) (by decide) hsub
  rw [periodEnd_eq osc hdue, hu]
  refine ⟨?_, ?_, ?_⟩
  · rw [bump_rx, (chansPeriod_chansOnly u).rest]
    exact hrx
  · rw [bump, odN_bumpBy_other (.inr (by decide)) (by decide) (by decide), hspared (by decide), hfreq]
  · rw [odN_bump, hspared (by decide), hcount, hwidth]

/-! ### The request of a full calibration (R75) -/

/-- The cause that an inhibit raises is active. -/
theorem inhibit_active (s : State) {b : Nat} (hb : b < 12) : (inhibit s b).emit.active.getLsbD b = true := by
  have hhalt (u : State) : (halt u b).emit.active = u.emit.active := by simp [halt, stopRecord, banksZero]
  unfold inhibit
  split
  · assumption
  · dsimp only
    rw [hhalt]
    simp [hb]

/-- Whether a channel joins a full calibration: present, and enabled by the masks in force (R78). -/
def calJoins (s : State) (c : Nat) : Bool := c < nChan s && s.rx.enabled.getLsbD c

/-- The events held for the shots of the channels that join are unassigned (R83). -/
def calDropped (s : State) : State := (chanList s).foldl (fun t c => if calJoins s c then dropEarly t c else t) s

theorem calDropped_chansOnly (s : State) : ChansOnly (fun _ => True) s (calDropped s) := by
  refine .foldl _ s fun t c _ => ?_
  split
  · exact (dropEarly_chansOnly t c).mono fun _ _ => trivial
  · exact .refl _ t

theorem calDropped_tick (s : State) : (calDropped s).tick = s.tick :=
  (Only.foldl (C := [.rx, .regs 12600 8, .regs 12368 8, .regs 12392 8]) _ _
    (fun t c => Only.ite (dropEarly_only t c) (Only.refl _ t)) (Only.refl _ s)).same .tick rfl

theorem calStart_rx (s : State) (power : Bool) : (calStart s power).rx = { (calDropped s).rx with
    cal := .running, calStart := (calDropped s).tick.num, calPower := power
    chans := (calDropped s).rx.chans.map fun p => (p.1, if calJoins s p.1 then joinCal p.2 else p.2) } :=
  inhibit_rx ..

/-- A full calibration runs from its start on, under the inhibit RX_CAL, with the channels that join in CAL (R72, R75). -/
theorem calStart_reads (s : State) (power : Bool) :
    (calStart s power).rx.cal = .running ∧ (calStart s power).rx.calStart = s.tick.num ∧
      (calStart s power).rx.calPower = power ∧ (calStart s power).emit.active.getLsbD 3 = true ∧
      ∀ c x, tget s.rx.chans c = some x → s.rx.enabled.getLsbD c = true → c < nChan s →
        (getChan (calStart s power) c).st = .cal := by
  refine ⟨by rw [calStart_rx], by rw [calStart_rx, calDropped_tick], by rw [calStart_rx], inhibit_active _ (by decide),
    fun c x hx hen hc => ?_⟩
  have hjoin : calJoins s c = true := by simp [calJoins, hen, hc]
  obtain ⟨y, hy⟩ := Option.isSome_iff_exists.1 ((calDropped_chansOnly s).kept c (by rw [hx]; rfl))
  have hmap := tget_map (calDropped s).rx.chans (fun k x => if calJoins s k then joinCal x else x) c
  rw [hy] at hmap
  rw [getChan, tgetD, calStart_rx, hmap]
  simp [hjoin, joinCal]

/-- Taking a request notes its time, and keeps the session's version. -/
theorem sessionOf_taken (s : State) (r : Req) :
    (sessionOf (taken s r) r).map (·.version) = (sessionOf s r).map (·.version) := by
  have hturn : (netTurn s r).odx.sessions = s.odx.sessions := by unfold netTurn; split <;> rfl
  unfold sessionOf taken touch updSession
  dsimp only
  rw [hturn, List.find?_map, Option.map_map]
  congr 1
  · funext x
    dsimp only [Function.comp]
    split <;> rfl
  · congr 1
    funext x
    dsimp only [Function.comp]
    split <;> rfl

theorem verOf_taken (s : State) (r : Req) : verOf (taken s r) r = verOf s r := by
  rw [verOf, verOf, sessionOf_taken]

/-- A write that a check turns away is answered with that check's code. -/
theorem requestWrite_error {s : State} {r : Req} {x : Session} {ix sub k : Nat} {data : Bytes} {h : State → WriteHook}
    (hf : Fresh s r x) (hc : writeChecks (taken s r) x ix sub data h = .error (k, taken s r)) :
    requestWrite s r ix sub data h = respondAbort (taken s r) r cmdWrite ix sub k := by
  unfold requestWrite
  rw [withSession_fresh hf]
  unfold writeObject
  rw [hc]

/-- A write that ends in an abort of its own session leaves front end and histogram engine alone, and the answer leaves the
block. -/
theorem write_aborted {s : State} {r : Req} {ix sub k : Nat} {data : Bytes} {h : State → WriteHook}
    (ha : requestWrite s r ix sub data h = respondAbort (taken s r) r cmdWrite ix sub k) :
    ∃ t, outcome s (requestWrite s r ix sub data h) = .next t ∧ t.rx = s.rx ∧
      .response r (odxMessage (verOf s r) cmdWrite 3 r.session.toNat r.tag.toNat ix sub (leBytes 4 k)) ∈ t.out := by
  refine ⟨closed s (requestWrite s r ix sub data h), rfl, ?_, ?_⟩
  · rw [closed_rx, ha, respondAbort_rx, taken_rx]
  · show _ ∈ (requestWrite s r ix sub data h).out
    rw [ha, ← verOf_taken]
    exact answer_sent ..

/-- The value that a passed request writes. -/
theorem calRequest_value {s : State} {r : Req} {v : Val} (hw : WriteOk s r 0x3000 1 [1] calHook v) : v = .num 1 :=
  hw.byte (.inr (by decide))

/-- A request with RX on and no calibration running starts one (R75). -/
theorem calHook_starts {s : State} {r : Req} {v : Val} (hw : WriteOk s r 0x3000 1 [1] calHook v)
    (hcal : s.rx.cal ≠ .running) (hon : domOn s .rx = true) :
    (calHook (taken s r)).run (taken s r) v = .done (calStart (taken s r) false) := by
  have hpower : domOn (taken s r) .rx = true := by unfold domOn; rw [taken_pwr]; exact hon
  simp [calHook, calRequest_value hw, valN, Val.int, hcal, hpower]

/-- A request while a calibration runs, or with RX off, is aborted (R75; log entry 30). -/
theorem calHook_refuses {s : State} {r : Req} {v : Val} (hw : WriteOk s r 0x3000 1 [1] calHook v)
    (h : s.rx.cal = .running ∨ domOn s .rx = false) :
    requestWrite s r 0x3000 1 [1] calHook = respondAbort (taken s r) r cmdWrite 0x3000 1 abState := by
  have hpower : domOn (taken s r) .rx = domOn s .rx := by unfold domOn; rw [taken_pwr]
  have hrun : (calHook (taken s r)).run (taken s r) v = .abort abState (taken s r) := by
    rcases h with h | h <;> simp [calHook, calRequest_value hw, valN, Val.int, hpower, h]
  rw [requestWrite_ok hw, hrun]

/-- A request while emission is not off fails the condition of its row (R75, R408). -/
theorem calHook_emission {s : State} {r : Req} {x : Session} {row : ObjRow}
    (hg : writeGrant (taken s r) x 0x3000 1 = .ok row) (hem : emissionOff s = false) :
    writeChecks (taken s r) x 0x3000 1 [1] calHook = .error (abState, taken s r) := by
  have hrow : row = ⟨0x3000, 1, 1, 1, .bool, 11, .wo, .emOff, 0, 1, 0, .no, .all⟩ :=
    Option.some.inj ((writeGrant_row hg).symm.trans (by decide))
  have hoff : emissionOff (taken s r) = false := by unfold emissionOff; rw [taken_emit]; exact hem
  subst hrow
  unfold writeChecks writeChecksOf
  rw [hg]
  simp [lengthFits, lengthOk, rangeOk, decodeVal, leNat, calHook, condCheck, hoff]

/-! ### The end of a full calibration (R75, R147, R190) -/

theorem calChan_chansOnly (s : State) (r : FullCalResult) (c : Nat) : ChansOnly (· = c) s (calChan s r c) := by
  unfold calChan
  dsimp only
  split
  · split
    · exact chanFault_chansOnly s c
    · exact (ChansOnly.refl (· = c) s).updChan rfl _
  · exact chanFault_chansOnly s c

/-- A channel has left CAL: it is in RUN or FAULT (R72). -/
def Judged (s : State) (c : Nat) : Prop := (getChan s c).st = .run ∨ (getChan s c).st = .fault

theorem calChan_judged (s : State) (r : FullCalResult) (c : Nat) : Judged (calChan s r c) c := by
  unfold calChan
  dsimp only
  split
  · split
    · exact .inr (getChan_chanFault_st s c)
    · exact .inl (by rw [getChan_updChan_self])
  · exact .inr (getChan_chanFault_st s c)

theorem calChan_keeps_judged {s : State} {c : Nat} (h : Judged s c) (r : FullCalResult) (d : Nat) :
    Judged (calChan s r d) c := by
  by_cases hd : c = d
  · exact hd ▸ calChan_judged s r c
  · unfold Judged
    rw [(calChan_chansOnly s r d).getChan_eq hd]
    exact h

/-- Every channel that takes part is judged. -/
theorem foldl_calChan_judged (r : FullCalResult) {c : Nat} (l : List Nat) {s : State} (h : Judged s c ∨ c ∈ l) :
    Judged (l.foldl (fun s c => calChan s r c) s) c := by
  induction l generalizing s with
  | nil => simpa using h
  | cons d l ih =>
    refine ih ?_
    rcases h with h | h
    · exact .inl (calChan_keeps_judged h r d)
    · rcases List.mem_cons.1 h with rfl | h
      · exact .inl (calChan_judged s r c)
      · exact .inr h

/-- The state in which the channels are judged: after a power-up the groups with bad memory are shown (R112). -/
def calTested (s : State) (r : FullCalResult) : State :=
  if s.rx.calPower then
    odSetN s 0x3108 9 ((List.range (nChan s / 8)).foldl (fun m g => if r.memBad.getLsbD g then m + 2 ^ g else m) 0)
  else s

/-- The channels that take part. -/
def calPart (s : State) : List Nat := (chanList s).filter fun c => (getChan s c).st == .cal

/-- The channels that take part are judged. -/
def calJudged (s : State) (r : FullCalResult) : State := (calPart s).foldl (fun s c => calChan s r c) s

/-- Eddy starts anew, and the calibration is over (`s` is the state before, `t` the one with the channels judged). -/
def calOver (s t : State) (r : FullCalResult) : State :=
  let t := { t with rx := { t.rx with chans := t.rx.chans.map fun p => (p.1, eddyInit t r (calPart s) p.1 p.2) } }
  let failed := (calPart s).any fun c => (getChan t c).st == .fault
  let t := odSetN t 0x3000 3 (tickUs (since t t.rx.calStart))
  inhibitClear (setInt { t with rx := { t.rx with cal := if failed then .faults else .done } } 7) 3

/-- A start-up plan that waits goes to admission (R190). -/
def calAdmit (s : State) : State :=
  if s.odx.startDue && s.plan.admission.isNone then
    startAdmission { s with odx := { s.odx with startDue := false } } s.odx.startUp none false
  else s

/-- The calibration is over, with every channel that took part judged. -/
def calEnded (s : State) (r : FullCalResult) : State := calOver (calTested s r) (calJudged (calTested s r) r) r

theorem fullCalEnd_eq {s : State} (r : FullCalResult) (hcal : s.rx.cal = .running) (hsince : 9375 ≤ since s s.rx.calStart) :
    fullCalEnd s r = calAdmit (calEnded s r) := by
  simp only [fullCalEnd, hcal, Nat.not_lt.2 hsince]
  rfl

theorem calTested_same (s : State) (r : FullCalResult) : (calTested s r).rx = s.rx ∧ (calTested s r).tick = s.tick ∧
    (calTested s r).odx = s.odx ∧ (calTested s r).plan = s.plan ∧ (calTested s r).fuses = s.fuses := by
  unfold calTested
  split <;> exact ⟨rfl, rfl, rfl, rfl, rfl⟩

theorem odChan_calTested (s : State) (r : FullCalResult) (c : Nat) :
    odChan (calTested s r) 0x3020 c = odChan s 0x3020 c := by
  unfold calTested
  split
  · exact odI_odSet_other (.inl (by omega)) (by decide) (by omega) ..
  · rfl

theorem calJudged_chansOnly (s : State) (r : FullCalResult) : ChansOnly (fun _ => True) s (calJudged s r) :=
  .foldl _ s fun t c _ => (calChan_chansOnly t r c).mono fun _ _ => trivial

theorem calJudged_only (s : State) (r : FullCalResult) : Only [.rx, .regs 12600 8, .regs 12368 8, .regs 12392 8, .irq, .out,
    .regs 32769 1, .fm, .isl, .emit, .regs 16384 1, .pwr] s (calJudged s r) :=
  Only.foldl _ _ (fun t c => calChan_only t r c) (Only.refl _ s)

theorem odChan_calJudged (s : State) (r : FullCalResult) (c : Nat) :
    odChan (calJudged s r) 0x3020 c = odChan s 0x3020 c :=
  (calJudged_only s r).odI_spared ((calJudged_only s r).same .fuses rfl) (by simp [Part.spares]; omega) (by omega)

/-- The calibration is over: its result, its duration, the interrupt, and the inhibit RX_CAL gone (R75, R208). -/
theorem calOver_reads (s t : State) (r : FullCalResult) :
    ((calOver s t r).rx.cal = .done ∨ (calOver s t r).rx.cal = .faults) ∧ (calOver s t r).emit.active.getLsbD 3 = false ∧
      odN (calOver s t r) 0x3000 3 = tickUs (since t t.rx.calStart) ∧
      (calOver s t r).host.intStatus.getLsbD 7 = true ∧ (calOver s t r).odx = t.odx ∧ (calOver s t r).plan = t.plan ∧
      (calOver s t r).fuses = t.fuses := by
  unfold calOver
  dsimp only
  refine ⟨?_, ?_, ?_, setInt_getLsbD _ (by decide), by simp, by simp, by simp⟩
  · rw [inhibitClear_rx, setInt_rx]
    dsimp only
    split
    · exact .inr rfl
    · exact .inl rfl
  · simp [inhibitClear]
  · rw [odN_congr (inhibitClear_od ..) (inhibitClear_fuses ..), odN_congr (setInt_od ..) (setInt_fuses ..)]
    exact (odN_congr rfl rfl ..).trans (odN_odSetN ..)

/-- Eddy starts anew from the static threshold on every channel, whose state stands (R147). -/
theorem getChan_calOver {s t : State} (r : FullCalResult) {c : Nat} (hc : (tget t.rx.chans c).isSome = true) :
    (getChan (calOver s t r) c).le = odChan t 0x3020 c ∧ (getChan (calOver s t r) c).st = (getChan t c).st := by
  obtain ⟨x, hx⟩ := Option.isSome_iff_exists.1 hc
  have hmap := tget_map t.rx.chans (eddyInit t r (calPart s)) c
  rw [hx] at hmap
  have hover : (calOver s t r).rx.chans = t.rx.chans.map fun p => (p.1, eddyInit t r (calPart s) p.1 p.2) := by
    unfold calOver
    rw [inhibitClear_rx, setInt_rx]
    rfl
  rw [getChan, tgetD, hover, hmap, getChan, tgetD, hx]
  exact ⟨rfl, rfl⟩

/-- What the end of a calibration shows, told of the state before. -/
theorem calEnded_reads (s : State) (r : FullCalResult) :
    ((calEnded s r).rx.cal = .done ∨ (calEnded s r).rx.cal = .faults) ∧ (calEnded s r).emit.active.getLsbD 3 = false ∧
      odN (calEnded s r) 0x3000 3 = tickUs (since s s.rx.calStart) ∧ (calEnded s r).host.intStatus.getLsbD 7 = true ∧
      (calEnded s r).odx = s.odx ∧ (calEnded s r).plan = s.plan ∧ (calEnded s r).fuses = s.fuses := by
  obtain ⟨hrx, htick, hodx, hplan, hfuses⟩ := calTested_same s r
  have honly := calJudged_only (calTested s r) r
  have hjtick : (calJudged (calTested s r) r).tick = (calTested s r).tick := honly.same .tick rfl
  have hjplan : (calJudged (calTested s r) r).plan = (calTested s r).plan := honly.same .plan rfl
  have hjfuses : (calJudged (calTested s r) r).fuses = (calTested s r).fuses := honly.same .fuses rfl
  have hjstart : (calJudged (calTested s r) r).rx.calStart = (calTested s r).rx.calStart := by
    rw [(calJudged_chansOnly _ r).rest]
  obtain ⟨hdone, hinh, htime, hint, hoodx, hoplan, hofuses⟩ := calOver_reads (calTested s r) (calJudged (calTested s r) r) r
  refine ⟨hdone, hinh, htime.trans ?_, hint, ?_, ?_, ?_⟩
  · rw [hjstart, hrx, since, since, hjtick, htick]
  · exact hoodx.trans ((honly.odx_eq rfl rfl).trans hodx)
  · exact hoplan.trans (hjplan.trans hplan)
  · exact hofuses.trans (hjfuses.trans hfuses)

/-- At the end of a calibration Eddy starts anew on every channel, and no channel is left in CAL (R72, R147). -/
theorem getChan_calEnded {s : State} {c : Nat} (hc : c ∈ chanList s) (r : FullCalResult) :
    (getChan (calEnded s r) c).le = odChan s 0x3020 c ∧
      ((getChan s c).st = .cal → (getChan (calEnded s r) c).st = .run ∨ (getChan (calEnded s r) c).st = .fault) := by
  obtain ⟨hrx, -⟩ := calTested_same s r
  have hpart : calPart (calTested s r) = calPart s := by unfold calPart chanList getChan; rw [hrx]
  have hin : (tget (calTested s r).rx.chans c).isSome = true := by rw [hrx]; exact (mem_keys_iff _ c).1 hc
  obtain ⟨hle, hst⟩ := getChan_calOver (s := calTested s r) r ((calJudged_chansOnly _ r).kept c hin)
  refine ⟨?_, fun hcal => ?_⟩
  · exact hle.trans ((odChan_calJudged ..).trans (odChan_calTested ..))
  · have hmem : c ∈ calPart (calTested s r) := by
      rw [hpart]
      exact List.mem_filter.2 ⟨hc, by simp [hcal]⟩
    have hjudged : Judged (calJudged (calTested s r) r) c := foldl_calChan_judged r _ (.inr hmem)
    unfold calEnded
    rw [hst]
    exact hjudged

theorem calAdmit_same (s : State) : (calAdmit s).rx = s.rx ∧ (calAdmit s).emit = s.emit ∧ (calAdmit s).od = s.od ∧
    (calAdmit s).host = s.host ∧ (calAdmit s).fuses = s.fuses := by
  unfold calAdmit
  split <;> exact ⟨rfl, rfl, rfl, rfl, rfl⟩

theorem calAdmit_due {s : State} (hd : s.odx.startDue = true) (ha : s.plan.admission = none) :
    (calAdmit s).odx.startDue = false ∧ (calAdmit s).plan.admission.isSome = true := by
  simp [calAdmit, hd, ha, startAdmission]

theorem calAdmit_idle {s : State} (hd : s.odx.startDue = false) : calAdmit s = s := by
  simp [calAdmit, hd]

/-! ### CalibrationRuns -/

/-- Settles O17: the hits, the period, the request with what turns it away, and the end of a full calibration. -/
theorem calibrationRuns : Obligations.CalibrationRuns := by
  intro s
  refine ⟨fun h hon hc => ⟨closed s (calHits s [h]), rfl, getChan_calHits hon hc⟩, fun osc hdue => ?period,
    fun r v hw hcal hon => ?starts, fun r v hw hcal => write_aborted (calHook_refuses hw hcal),
    fun r x row hf hg hem => write_aborted (requestWrite_error hf (calHook_emission hg hem)),
    fun r x k hf hc => write_aborted (requestWrite_error hf hc), fun y hcal hsince => ?ends⟩
  case period =>
    have hfuses := (periodEnd_only s osc).same .fuses rfl
    obtain ⟨hoff, hfreq, hcount⟩ := periodEnd_reads osc hdue
    exact ⟨closed s (periodEnd s osc), rfl, hoff, (odN_closed hfuses ..).trans hfreq, (odN_closed hfuses ..).trans hcount⟩
  case starts =>
    obtain ⟨t, ht, honly, -, -⟩ := write_done hw (calHook_starts hw hcal hon)
    obtain ⟨hrun, hstart, hpower, hact, hjoin⟩ := calStart_reads (taken s r) false
    have hrx : t.rx = (calStart (taken s r) false).rx := honly.same .rx rfl
    have hemit : t.emit = (calStart (taken s r) false).emit := honly.same .emit rfl
    have hpresent : nChan (taken s r) = nChan s := by unfold nChan isSmall; rw [taken_fuses]
    refine ⟨t, ht, by rw [hrx, hrun], by rw [hrx, hstart, taken_tick], by rw [hrx, hpower], by rw [hemit, hact],
      fun c x hx hen hch => ?_⟩
    rw [getChan_congr hrx]
    exact hjoin c x (by rw [taken_rx, hx]) (by rw [taken_rx, hen]) (by rw [hpresent]; exact hch)
  case ends =>
    obtain ⟨hdone, hinh, htime, hint, hodx, hplan, hfuses⟩ := calEnded_reads s y
    obtain ⟨hrx, hemit, hod, hhost, hafuses⟩ := calAdmit_same (calEnded s y)
    have hex : exec (.fullCalibrationEnd y) s = .next (closed s (calAdmit (calEnded s y))) :=
      congrArg (outcome s) (fullCalEnd_eq y hcal hsince)
    refine ⟨_, hex, by rw [closed_rx, hrx]; exact hdone, by rw [closed_emit, hemit, hinh], ?_,
      by rw [closed_host, hhost, hint], fun hd ha => calAdmit_due (by rw [hodx, hd]) (by rw [hplan, ha]),
      fun hd => by rw [closed_plan, calAdmit_idle (by rw [hodx, hd]), hplan], fun c hc => ?_⟩
    · rw [odN_closed (hafuses.trans hfuses), odN_congr hod hafuses, htime]
    · rw [getChan_closed, getChan_congr hrx]
      exact getChan_calEnded hc y

end Sys2Proof.Machine
end

section
/-! The frame of the receive path: what its commands can change. -/

namespace Sys2Proof.Machine

/-- Settles O53: the meaning of each command keeps to its parts, as the frame lemma of that meaning says, and the command does
no more than that. -/
theorem frameOfTheReceivePath : Obligations.FrameOfTheReceivePath :=
  ⟨execShotLaunch_only, execSwapPointBSlot_only, execFrontEndEvent_only, execStuckTick_only, execBlankingIntervalEnd_only,
    execCoincidenceDecision_only, execGateClose_only, execEarlyTerminationTest_only, execCalibrationHits_only,
    execShadowFreeze_only, execCalibrationPeriodEnd_only, execFullCalibrationRequest_only, execFullCalibrationEnd_only,
    execReadPassComplete_only, execReadPassOverrun_only, execEchoExtraction_only, execOxbowDecision_only,
    execConfluence_only, execPixelReadReturn_only, execMemLate_only, execPr32VersionWrite_only⟩

end Sys2Proof.Machine
end

section
/-! Events that pass the coincidence filter: they count no rejection (R89 to R92). -/

namespace Sys2Proof.Machine

/-- `f` counts no rejection: the half keeps its count of rejected events. -/
def KeepsRejects (f : Half → Half) : Prop := ∀ h, (f h).rejects = h.rejects

theorem binEvent_keepsRejects (rt : Nat) : KeepsRejects (binEvent rt) := fun h => by
  unfold binEvent
  dsimp only
  split
  · rfl
  · split <;> rfl

/-- `y` has the events of `x`, and has no more rejections counted. -/
structure Unrejected (x y : Chan) : Prop where
  events : y.events = x.events
  acc : y.acc.rejects = x.acc.rejects
  held : y.held.rejects = x.held.rejects

theorem Unrejected.refl (x : Chan) : Unrejected x x := ⟨rfl, rfl, rfl⟩

theorem Unrejected.trans {x y z : Chan} (h : Unrejected x y) (h' : Unrejected y z) : Unrejected x z :=
  ⟨h'.events.trans h.events, h'.acc.trans h.acc, h'.held.trans h.held⟩

theorem Unrejected.onHalf {f : Half → Half} (hf : KeepsRejects f) (x : Chan) : Unrejected x (x.onHalf f) := by
  unfold Chan.onHalf
  split
  · exact ⟨rfl, rfl, hf _⟩
  · exact ⟨rfl, hf _, rfl⟩

/-- An event at the coalescing buffer is binned or dropped there, and is no rejection either way (R92). -/
theorem coalesce_unrejected (s : State) (c rt cycle : Nat) :
    Unrejected (getChan s c) (getChan (coalesce s c rt cycle).1 c) := by
  have hbin := Unrejected.onHalf (binEvent_keepsRejects rt) (getChan s c)
  unfold coalesce
  dsimp only
  split
  · rw [getChan_updChan_self]; exact hbin
  split
  · rw [getChan_updChan_self]; exact hbin
  · rw [getChan_bumpChan, getChan_updChan_self]
    exact .onHalf (by exact fun _ => rfl) _

theorem accMemory_unrejected (s : State) (c corrected : Nat) (bad : Bool) :
    Unrejected (getChan s c) (getChan (accMemory s c corrected bad) c) := by
  rw [(accMemory_reads s c corrected bad).1]
  split
  · exact .onHalf (by exact fun _ => rfl) _
  · exact .refl _

section
variable {s : State} {c n : Nat} {v : Event} (hset : s.rx.settled = false) (ha : (getChan s c).assigned = true)
  (hv : (getChan s c).events.find? (fun w => w.time == n && w.passed.isNone) = some v) (cyc k : Nat) (b : Bool)
  (hk : (coincOf s c).1 ≤ coincCount s c n ∨ ((coincOf s c).2.2.2 && v.ht) = true)
include hset ha hv hk

/-- An event that passes filter and quota goes to the coalescing buffer, and meets the memory errors of its words where it is
binned (R91, R92, R111). -/
theorem coincidence_accepted (hq : (getChan s c).accepted < 1050) :
    ∃ r, r = coalesce (setChan s c { getChan s c with
      events := decideFirst n true (getChan s c).events, accepted := (getChan s c).accepted + 1 }) c
      (n - (getChan s c).lambda) cyc ∧
      coincidence s c n cyc k b = if r.2 then accMemory r.1 c k b else r.1 := by
  have hok : (decide ((coincOf s c).1 ≤ coincCount s c n) || ((coincOf s c).2.2.2 && v.ht)) = true := by
    simpa using hk
  refine ⟨_, rfl, ?_⟩
  simp only [coincidence, hv, hset, ha, hok]
  simp [Nat.not_le.2 hq]

/-- The event that passes is marked as passed, and no rejection is counted at its channel (R89). -/
theorem coincidence_passed_chan : Unrejected { getChan s c with events := decideFirst n true (getChan s c).events }
    (getChan (coincidence s c n cyc k b) c) := by
  rcases Nat.lt_or_ge (getChan s c).accepted 1050 with hq | hq
  · obtain ⟨r, hr, heq⟩ := coincidence_accepted hset ha hv cyc k b hk hq
    have hbuf : Unrejected { getChan s c with events := decideFirst n true (getChan s c).events } (getChan r.1 c) := by
      refine .trans ?_ (hr ▸ coalesce_unrejected ..)
      rw [getChan_setChan_self]
      exact ⟨rfl, rfl, rfl⟩
    rw [heq]
    split
    · exact hbuf.trans (accMemory_unrejected ..)
    · exact hbuf
  · rw [coincidence_dropped hset ha hv cyc k b hk hq, getChan_bumpChan, getChan_setChan_self]
    exact .onHalf (by exact fun _ => rfl) _

/-- The decision on an event that passes counts memory errors, drops by the quota and drops at the buffer, and nothing else. -/
theorem coincidence_passed_only :
    Only [.rx, .regs 0x3108 1, .regs 0x3128 8, .regs 0x3130 8] s (coincidence s c n cyc k b) := by
  rcases Nat.lt_or_ge (getChan s c).accepted 1050 with hq | hq
  · obtain ⟨r, hr, heq⟩ := coincidence_accepted hset ha hv cyc k b hk hq
    have hbuf : Only [.rx, .regs 0x3108 1, .regs 0x3128 8, .regs 0x3130 8] s r.1 :=
      hr ▸ (coalesce_only ..).step rfl ((setChan_only ..).mono rfl)
    rw [heq]
    exact .ite ((accMemory_only ..).step rfl hbuf) hbuf
  · rw [coincidence_dropped hset ha hv cyc k b hk hq]
    exact (bumpChan_only ..).step rfl ((setChan_only ..).mono rfl)

end

/-- Settles O4: the bypass makes the event pass, a passing event counts no rejection at its channel, and the counters of
rejected events lie outside the objects that its decision can change. -/
theorem highThresholdBypassAccepts : Obligations.HighThresholdBypassAccepts := by
  intro s c n cyc k b v hset ha hv hht hbyp
  have hk : (coincOf s c.val).1 ≤ coincCount s c.val n ∨ ((coincOf s c.val).2.2.2 && v.ht) = true := .inr (by simp [hbyp, hht])
  have honly := coincidence_passed_only hset ha hv cyc k b hk
  have hfuses : (coincidence s c.val n cyc k b).fuses = s.fuses := honly.same .fuses rfl
  obtain ⟨hevents, hacc, hheld⟩ := coincidence_passed_chan hset ha hv cyc k b hk
  refine ⟨closed s (coincidence s c.val n cyc k b), rfl, hevents, hacc, hheld, fun d hd => ?_⟩
  rw [odI_closed hfuses]
  exact honly.odI_spared hfuses (by simp [Part.spares]; omega) (by omega)

end Sys2Proof.Machine
end

section
/-! Stacks close: at gate close, at the early-termination test, and at swap point B of the launch slot (R97, R99, R153). -/

namespace Sys2Proof.Machine

/-! ### Folds over the channels -/

/-- A fold over a list that holds `a`: where the steps of the others keep `Q`, the step of `a` leads from `Q` to `R`, and every
step keeps `R`, the fold leads from `Q` to `R`. -/
theorem foldl_reaches {α β : Type} {f : β → α → β} {a : α} {Q R : β → Prop} (hQ : ∀ t b, b ≠ a → Q t → Q (f t b))
    (hact : ∀ t, Q t → R (f t a)) (hR : ∀ t b, R t → R (f t b)) {l : List α} (ha : a ∈ l) {s : β} (hs : Q s) :
    R (l.foldl f s) := by
  induction l generalizing s with
  | nil => cases ha
  | cons b l ih =>
    by_cases hb : b = a
    · subst hb
      exact List.foldlRecOn l f (hact s hs) fun t ht b _ => hR t b ht
    · exact ih ((List.mem_cons.1 ha).resolve_left (Ne.symm hb)) (hQ s b hb hs)

/-! ### What stands of front end and histogram engine but the channels and the loads -/

/-- Nothing of front end and histogram engine is changed but the channels and the loads of the banks. -/
def RxStands (s t : State) : Prop := t.rx = { s.rx with chans := t.rx.chans, load := t.rx.load }

theorem RxStands.of_rx {s t : State} (h : t.rx = s.rx) : RxStands s t := by unfold RxStands; rw [h]

theorem RxStands.trans {s t u : State} (a : RxStands s t) (b : RxStands t u) : RxStands s u := by
  unfold RxStands at *; rw [b, a]

theorem ChansOnly.rxStands {p : Nat → Prop} {s t : State} (h : ChansOnly p s t) : RxStands s t := by
  unfold RxStands; rw [h.rest]

theorem setChan_rxStands (s : State) (c : Nat) (x : Chan) : RxStands s (setChan s c x) := rfl

theorem RxStands.foldl {α : Type} {f : State → α → State} (h : ∀ t x, RxStands t (f t x)) (l : List α) (s : State) :
    RxStands s (l.foldl f s) :=
  List.foldlRecOn l f (.of_rx rfl) fun _ ht x _ => ht.trans (h _ x)

/-! ### A stack that closes (R97) -/

theorem noteLoad_rxStands (s : State) (g k : Nat) : RxStands s (noteLoad s g k) := by
  unfold noteLoad
  dsimp only
  split <;> rfl

@[simp] theorem getChan_noteLoad (s : State) (g k d : Nat) : getChan (noteLoad s g k) d = getChan s d := by
  unfold noteLoad
  dsimp only
  split <;> rfl

theorem countLimited_rx (s : State) (c : Nat) (h : Half) : (countLimited s c h).rx = s.rx := (countLimited_only ..).same .rx rfl

@[simp] theorem getChan_countLimited (s : State) (c d : Nat) (h : Half) : getChan (countLimited s c h) d = getChan s d :=
  getChan_congr (countLimited_rx ..) d

/-- A channel whose stack has closed: the halves have exchanged their roles, and the read pass is queued. -/
def closedChan (x : Chan) (cut early : Bool) : Chan := { x with
  pair := .idle, acc := {}, stackSeq := (x.stackSeq + 1) % 65536, reading := true, toExtract := false
  held := { x.acc with stackSeq := (x.stackSeq + 1) % 65536, cutShort := cut, early := early }, due := x.acc.closeTick + 1 }

theorem getChan_closeStack (s : State) (c d : Nat) (cut early : Bool) :
    getChan (closeStack s c cut early) d = if d = c then closedChan (getChan s c) cut early else getChan s d := by
  cases cut <;> cases early <;> simp [closeStack, getChan_setChan, closedChan]

theorem closeStack_rxStands (s : State) (c : Nat) (cut early : Bool) : RxStands s (closeStack s c cut early) := by
  unfold closeStack
  dsimp only
  refine .trans ?_ (noteLoad_rxStands ..)
  cases cut <;> cases early <;> rfl

/-! ### Overload marks leave the stacks (R66) -/

/-- `y` is the channel `x` but for its two halves, the accumulating one with the same content but for marks. -/
def MarkedOnly (x y : Chan) : Prop := ∃ a h, y = { x with acc := a, held := h } ∧
  a = { x.acc with overload := a.overload, sat := a.sat, xt := a.xt }

theorem MarkedOnly.refl (x : Chan) : MarkedOnly x x := ⟨x.acc, x.held, rfl, rfl⟩

theorem MarkedOnly.trans {x y z : Chan} (h : MarkedOnly x y) (h' : MarkedOnly y z) : MarkedOnly x z := by
  obtain ⟨a, e, rfl, ha⟩ := h
  obtain ⟨b, e', rfl, hb⟩ := h'
  exact ⟨b, e', rfl, hb.trans (congrArg (fun g : Half => { g with overload := b.overload, sat := b.sat, xt := b.xt }) ha)⟩

theorem MarkedOnly.onHalf (x : Chan) {f : Half → Half}
    (hf : ∀ h, f h = { h with overload := (f h).overload, sat := (f h).sat, xt := (f h).xt }) : MarkedOnly x (x.onHalf f) := by
  unfold Chan.onHalf
  split
  · exact ⟨x.acc, f x.held, rfl, rfl⟩
  · exact ⟨f x.acc, x.held, rfl, hf x.acc⟩

/-- Every channel is as before but for marks. -/
def ChansMarked (s t : State) : Prop := ∀ d, MarkedOnly (getChan s d) (getChan t d)

theorem ChansMarked.refl (s : State) : ChansMarked s s := fun _ => .refl _

theorem ChansMarked.updChan {s t : State} (h : ChansMarked s t) (c : Nat) {f : Chan → Chan} (hf : ∀ x, MarkedOnly x (f x)) :
    ChansMarked s (updChan t c f) := fun d => by
  by_cases hd : d = c
  · subst hd
    rw [getChan_updChan_self]
    exact (h d).trans (hf _)
  · rw [getChan_updChan_ne hd]
    exact h d

/-- The end of a blanking interval ends it at its channel, and sets marks; other channels get marks only. -/
theorem markOverload_marks (s : State) (c : Nat) :
    ∃ l, ChansMarked (updChan s c fun x => { x with blank := none, blanked := l }) (markOverload s c) := by
  unfold markOverload
  split
  · rename_i hnone
    refine ⟨(getChan s c).blanked, fun d => ?_⟩
    by_cases hd : d = c
    · subst hd
      rw [getChan_updChan_self, ← hnone]
      exact .refl _
    · rw [getChan_updChan_ne hd]
      exact .refl _
  · rename_i a b _
    refine ⟨(getChan s c).blanked ++ [(a, min b gateEnd)], ?_⟩
    dsimp only
    refine List.foldlRecOn _ _ ?_ fun t ht d _ => ?_
    · split
      · exact (ChansMarked.refl _).updChan c fun x => .onHalf x fun _ => rfl
      · exact .refl _
    · split
      · exact ht.updChan d fun x => .onHalf x fun _ => rfl
      · exact ht

theorem markOverload_chansOnly (s : State) (c : Nat) : ChansOnly (fun _ => True) s (markOverload s c) := by
  unfold markOverload
  split
  · exact .refl _ s
  · dsimp only
    refine .trans ?_ (.foldl _ _ fun t d _ => ?_)
    · split
      · exact ((ChansOnly.refl _ s).updChan trivial _).updChan trivial _
      · exact (ChansOnly.refl _ s).updChan trivial _
    · split
      · exact (ChansOnly.refl _ t).updChan trivial _
      · exact .refl _ t

/-- `y` has the open stack of `x`, but for marks of overload and crosstalk. -/
structure SameStack (x y : Chan) : Prop where
  pair : y.pair = x.pair
  assigned : y.assigned = x.assigned
  gone : y.gone = x.gone
  stackSeq : y.stackSeq = x.stackSeq
  acc : y.acc = { x.acc with overload := y.acc.overload, sat := y.acc.sat, xt := y.acc.xt }

theorem SameStack.refl (x : Chan) : SameStack x x := ⟨rfl, rfl, rfl, rfl, rfl⟩

theorem SameStack.trans {x y z : Chan} (h : SameStack x y) (h' : SameStack y z) : SameStack x z :=
  ⟨h'.pair.trans h.pair, h'.assigned.trans h.assigned, h'.gone.trans h.gone, h'.stackSeq.trans h.stackSeq,
    h'.acc.trans (congrArg (fun g : Half => { g with overload := z.acc.overload, sat := z.acc.sat, xt := z.acc.xt }) h.acc)⟩

theorem MarkedOnly.sameStack {x y : Chan} (h : MarkedOnly x y) : SameStack x y := by
  obtain ⟨a, e, rfl, ha⟩ := h
  exact ⟨rfl, rfl, rfl, rfl, ha⟩

theorem markOverload_sameStack (s : State) (c d : Nat) : SameStack (getChan s d) (getChan (markOverload s c) d) := by
  obtain ⟨l, hmarks⟩ := markOverload_marks s c
  refine .trans ?_ (hmarks d).sameStack
  by_cases hd : d = c
  · subst hd
    rw [getChan_updChan_self]
    exact ⟨rfl, rfl, rfl, rfl, rfl⟩
  · rw [getChan_updChan_ne hd]
    exact .refl _

theorem getChan_markOverload_blank (s : State) (c d : Nat) :
    (getChan (markOverload s c) d).blank = if d = c then none else (getChan s d).blank := by
  obtain ⟨l, hmarks⟩ := markOverload_marks s c
  obtain ⟨a, e, heq, -⟩ := hmarks d
  rw [heq]
  by_cases hd : d = c
  · subst hd; simp
  · simp [hd, getChan_updChan_ne]

/-- Every running blanking interval has ended. -/
def allMarked (s : State) : State := (chanList s).foldl markOverload s

theorem allMarked_chansOnly (s : State) : ChansOnly (fun _ => True) s (allMarked s) :=
  .foldl _ s fun t c _ => markOverload_chansOnly t c

theorem allMarked_sameStack (s : State) (c : Nat) : SameStack (getChan s c) (getChan (allMarked s) c) :=
  List.foldlRecOn (motive := fun t => SameStack (getChan s c) (getChan t c)) _ _ (.refl _)
    fun t ht d _ => ht.trans (markOverload_sameStack t d c)

theorem allMarked_only (s : State) : Only [.rx] s (allMarked s) :=
  Only.foldl _ _ (fun t c => markOverload_only t c) (Only.refl _ s)

theorem allMarked_blank {s : State} {c : Nat} (hc : c ∈ chanList s) : (getChan (allMarked s) c).blank = none := by
  refine foldl_reaches (Q := fun _ => True) (R := fun t => (getChan t c).blank = none) (fun _ _ _ _ => trivial)
    (fun t _ => ?_) (fun t d ht => ?_) hc trivial
  · rw [getChan_markOverload_blank, if_pos rfl]
  · rw [getChan_markOverload_blank, ht, ite_self]

theorem mem_chanList_of_kept {p : Nat → Prop} {s t : State} (h : ChansOnly p s t) {c : Nat} (hc : c ∈ chanList s) :
    c ∈ chanList t := (mem_keys_iff _ c).2 (h.kept c ((mem_keys_iff _ c).1 hc))

/-! ### Gate close (R97) -/

/-- Whether a stack with all its shots swaps at point A. -/
def swapsAtA (x : Chan) : Bool := x.pair = .opened && x.assigned && !x.gone && x.acc.fired = x.acc.planned

/-- A channel after a swap at point A: events in flight belong to the held half, and the window shows the one before. -/
def swappedChan (x : Chan) : Chan := { closedChan x false false with late := true, shown := some x.held }

/-- A channel at gate close. -/
def gateSwap (s : State) (c : Nat) : State :=
  if swapsAtA (getChan s c) then
    updChan (closeStack s c false false) c fun y => { y with late := true, shown := some (getChan s c).held }
  else s

/-- Gate close before the swaps: no blanking interval runs. -/
def gateMarked (s : State) : State :=
  { allMarked s with rx := { (allMarked s).rx with gate := false, load := [] } }

theorem gateClose_eq {s : State} (hg : s.rx.gate = true) :
    gateClose s = (chanList (gateMarked s)).foldl gateSwap (gateMarked s) := by
  simp only [gateClose, hg]
  rfl

theorem getChan_gateSwap (s : State) (c d : Nat) : getChan (gateSwap s c) d =
    if d = c ∧ swapsAtA (getChan s c) = true then swappedChan (getChan s c) else getChan s d := by
  unfold gateSwap
  by_cases hd : d = c
  · subst hd
    by_cases hsw : swapsAtA (getChan s d) = true <;> simp [hsw, getChan_closeStack, swappedChan]
  · by_cases hsw : swapsAtA (getChan s c) = true <;> simp [hsw, hd, getChan_updChan_ne, getChan_closeStack]

theorem gateSwap_rxStands (s : State) (c : Nat) : RxStands s (gateSwap s c) := by
  unfold gateSwap
  split
  · exact (closeStack_rxStands ..).trans (setChan_rxStands ..)
  · exact .of_rx rfl

theorem gateClose_gate {s : State} (hg : s.rx.gate = true) : (gateClose s).rx.gate = false := by
  rw [gateClose_eq hg, RxStands.foldl gateSwap_rxStands]
  rfl

theorem getChan_gateClose_blank {s : State} (hg : s.rx.gate = true) {c : Nat} (hc : c ∈ chanList s) :
    (getChan (gateClose s) c).blank = none := by
  rw [gateClose_eq hg]
  refine List.foldlRecOn (motive := fun t => (getChan t c).blank = none) _ _ (allMarked_blank hc) fun t ht d _ => ?_
  rw [getChan_gateSwap]
  split
  · rename_i h
    rw [← h.1]
    exact ht
  · exact ht

/-- A stack with all its shots swaps at gate close, and the swap is done once. -/
theorem getChan_gateClose {s : State} (hg : s.rx.gate = true) {c : Nat} (hc : c ∈ chanList s)
    (hsw : swapsAtA (getChan (allMarked s) c) = true) :
    getChan (gateClose s) c = swappedChan (getChan (allMarked s) c) := by
  rw [gateClose_eq hg]
  refine foldl_reaches (Q := fun t => getChan t c = getChan (allMarked s) c)
    (R := fun t => getChan t c = swappedChan (getChan (allMarked s) c)) (fun t d hd ht => ?_) (fun t ht => ?_) (fun t d ht => ?_)
    (mem_chanList_of_kept (allMarked_chansOnly s) hc) rfl
  · rw [getChan_gateSwap, if_neg fun h => hd h.1.symm, ht]
  · rw [getChan_gateSwap, ht, if_pos ⟨rfl, hsw⟩]
  · rw [getChan_gateSwap, if_neg, ht]
    rintro ⟨rfl, hagain⟩
    rw [ht] at hagain
    cases hagain

theorem swapsAtA_marked {s : State} {c : Nat} (hp : (getChan s c).pair = .opened) (ha : (getChan s c).assigned = true)
    (hgone : (getChan s c).gone = false) (hf : (getChan s c).acc.fired = (getChan s c).acc.planned) :
    swapsAtA (getChan (allMarked s) c) = true := by
  obtain ⟨hpair, hassigned, hgo, -, hacc⟩ := allMarked_sameStack s c
  rw [swapsAtA, hpair, hassigned, hgo, hacc]
  simp [hp, ha, hgone, hf]

/-! ### The event taps count outside the settings (R361, R362) -/

/-- The objects of every index up to sub-index 2 are as before. The test of early termination reads the object at 0x3208 and its
channel's quadrant on, sub-index 2; the number of a channel has no bound in the state, so that the index may be that of a link's
counters, which have higher sub-indexes. -/
structure LowSubsKept (s t : State) : Prop where
  keys : ∀ k, k % 256 < 3 → tget t.od k = tget s.od k

theorem LowSubsKept.of_od {s t : State} (h : t.od = s.od) : LowSubsKept s t := ⟨fun _ _ => by rw [h]⟩

theorem LowSubsKept.trans {s t u : State} (a : LowSubsKept s t) (b : LowSubsKept t u) : LowSubsKept s u :=
  ⟨fun k hk => (b.keys k hk).trans (a.keys k hk)⟩

theorem bumpBy_lowSubsKept {sub : Nat} (h : 3 ≤ sub) (hsub : sub < 256) (s : State) (ix n : Nat) :
    LowSubsKept s (bumpBy s ix sub n) := by
  refine ⟨fun k hk => ?_⟩
  have hne : k ≠ odKey ix sub := by unfold odKey; omega
  rw [bumpBy, odSetN, odSet, tget_tset, if_neg hne]

theorem LowSubsKept.foldl {α : Type} {f : State → α → State} (h : ∀ t x, LowSubsKept t (f t x)) (l : List α) (s : State) :
    LowSubsKept s (l.foldl f s) :=
  List.foldlRecOn l f (.of_od rfl) fun _ ht x _ => ht.trans (h _ x)

theorem setLink_lowSubsKept (s : State) (j : Nat) (x : LinkSt) : LowSubsKept s (setLink s j x) := .of_od rfl

/-- A unit dropped on a link is counted at sub-indexes 3 to 5 (R362, R363). -/
theorem laneDrop_lowSubsKept (s : State) (j : Nat) (u : OutUnit) : LowSubsKept s (laneDrop s j u) := by
  have hcount := (bumpBy_lowSubsKept (sub := 3) (by decide) (by decide) s (0xC020 + j % 16) 1).trans
    (bumpBy_lowSubsKept (sub := 4) (by decide) (by decide) _ (0xC020 + j % 16) u.records)
  unfold laneDrop
  dsimp only
  split
  · exact (hcount.trans (setLink_lowSubsKept ..)).trans (bumpBy_lowSubsKept (by decide) (by decide) _ _ 1)
  · exact hcount

theorem route_lowSubsKept (s : State) (lane : Bool) (i : Nat) (u : OutUnit) : LowSubsKept s (route s lane i u) := by
  unfold route
  split
  · unfold stageLane
    dsimp only
    split
    · exact laneDrop_lowSubsKept ..
    · exact (setLink_lowSubsKept ..).trans (.of_od ((noteStalls_only ..).store rfl))
  · exact .of_od ((stageRing_only ..).store rfl)

/-- The events that a tap loses are counted at sub-index 6 (R361). -/
theorem eventTap_lowSubsKept (s : State) (i : Nat) (o : OutEntry) : LowSubsKept s (eventTap s i o) := by
  have hlost (n : Nat) (p : Prop) [Decidable p] :
      LowSubsKept s (if p then bumpBy s (0xC020 + o.sinki % 16) 6 n else s) := by
    split
    · exact bumpBy_lowSubsKept (sub := 6) (by decide) (by decide) ..
    · exact .of_od rfl
  unfold eventTap
  dsimp only
  split
  · exact hlost ..
  · exact (hlost ..).trans (route_lowSubsKept ..)

theorem eventTaps_lowSubsKept (s : State) : LowSubsKept s (eventTaps s) := by
  unfold eventTaps
  split
  · exact .of_od rfl
  · refine .foldl (fun t p => ?_) _ _
    split
    · exact eventTap_lowSubsKept ..
    · exact .of_od rfl

/-! ### Early termination (R153) -/

/-- What the early-termination test reads of a channel, and of the objects, is the same. -/
structure SameTest (c : Nat) (s t : State) : Prop where
  stack : SameStack (getChan s c) (getChan t c)
  device : ∀ sub < 256, odN t 0x3200 sub = odN s 0x3200 sub
  quad : odN t (0x3208 + c / 64) 2 = odN s (0x3208 + c / 64) 2

theorem SameTest.trans {c : Nat} {s t u : State} (a : SameTest c s t) (b : SameTest c t u) : SameTest c s u :=
  ⟨a.stack.trans b.stack, fun sub h => (b.device sub h).trans (a.device sub h), b.quad.trans a.quad⟩

theorem SameTest.test_eq {c : Nat} {s t : State} (h : SameTest c s t) : earlyTest t c = earlyTest s c := by
  obtain ⟨⟨hpair, hassigned, hgone, -, hacc⟩, hdevice, hquad⟩ := h
  unfold earlyTest odB
  dsimp only
  rw [hpair, hassigned, hgone, hacc, hdevice _ (by decide), hdevice _ (by decide), hdevice _ (by decide), hquad]

/-- An operation that spares the objects of the test, from the thresholds of early termination on. -/
theorem Only.sameTest {C : List Part} {s t : State} (h : Only C s t) (hf : t.fuses = s.fuses)
    (hC : ∀ ix, 0x3200 ≤ ix → C.all (Part.spares (ix * 256)) = true) {c : Nat}
    (hstack : SameStack (getChan s c) (getChan t c)) : SameTest c s t :=
  ⟨hstack, fun _ hsub => h.odN_spared hf (hC _ (by decide)) hsub, h.odN_spared hf (hC _ (by omega)) (by decide)⟩

theorem allMarked_sameTest (s : State) (c : Nat) : SameTest c s (allMarked s) :=
  (allMarked_only s).sameTest ((allMarked_only s).same .fuses rfl) (fun _ _ => rfl) (allMarked_sameStack s c)

theorem eventTaps_sameTest (s : State) (c : Nat) : SameTest c s (eventTaps s) := by
  have honly := eventTaps_only s
  have hfuses : (eventTaps s).fuses = s.fuses := honly.same .fuses rfl
  have hlow := eventTaps_lowSubsKept s
  have hget : odGet (eventTaps s) (0x3208 + c / 64) 2 = odGet s (0x3208 + c / 64) 2 :=
    odGet_congr_at hfuses (hlow.keys _ (by unfold odKey; omega)) (hlow.keys _ (by unfold odKey; omega))
  refine ⟨?_, fun sub hsub => honly.odN_spared hfuses (by decide) hsub, by unfold odN odI; rw [hget]⟩
  rw [getChan_congr (honly.same .rx rfl)]
  exact .refl _

/-- The closed stacks with all their events are counted. -/
def lateCounted (s : State) : State :=
  (chanList s).foldl (fun s c => if (getChan s c).late then countLimited s c (getChan s c).held else s) s

theorem lateCounted_only (s : State) : Only [.regs 0x3118 8] s (lateCounted s) :=
  Only.foldl _ _ (fun _ _ => .ite (countLimited_only ..) (.refl _ _)) (.refl _ s)

theorem lateCounted_sameTest (s : State) (c : Nat) : SameTest c s (lateCounted s) := by
  have honly := lateCounted_only s
  refine honly.sameTest (honly.same .fuses rfl) (fun ix hix => by simp [Part.spares]; omega) ?_
  rw [getChan_congr (honly.same .rx rfl)]
  exact .refl _

/-- A channel once all accepted events of the tick are written. -/
def settledChan (x : Chan) : Chan := { x with late := false, shown := none }

/-- All accepted events of the tick are written, and the halves closed at gate close are visible. -/
def allWritten (s : State) : State := { s with rx := { s.rx with
  settled := true, bufs := [], chans := s.rx.chans.map fun p => (p.1, settledChan p.2) } }

theorem getChan_allWritten (s : State) (c : Nat) : getChan (allWritten s) c = settledChan (getChan s c) := by
  have hmap := tget_map s.rx.chans (fun _ => settledChan) c
  unfold getChan tgetD allWritten
  dsimp only
  rw [hmap]
  cases tget s.rx.chans c <;> rfl

theorem allWritten_sameTest (s : State) (c : Nat) : SameTest c s (allWritten s) := by
  refine ⟨?_, fun sub _ => odN_congr rfl rfl .., odN_congr rfl rfl ..⟩
  rw [getChan_allWritten]
  exact ⟨rfl, rfl, rfl, rfl, rfl⟩

/-- t+10.60 µs before the early closes. -/
def beforeEarly (s : State) : State := allWritten (lateCounted (eventTaps (allMarked s)))

theorem beforeEarly_sameTest (s : State) (c : Nat) : SameTest c s (beforeEarly s) :=
  (((allMarked_sameTest s c).trans (eventTaps_sameTest ..)).trans (lateCounted_sameTest ..)).trans (allWritten_sameTest ..)

theorem mem_chanList_beforeEarly {s : State} {c : Nat} (hc : c ∈ chanList s) : c ∈ chanList (beforeEarly s) := by
  have hrx : (lateCounted (eventTaps (allMarked s))).rx = (allMarked s).rx :=
    ((lateCounted_only _).same .rx rfl).trans ((eventTaps_only _).same .rx rfl)
  have hkeys : chanList (beforeEarly s) = chanList (allMarked s) := by
    unfold chanList beforeEarly allWritten
    rw [hrx]
    simp
  rw [hkeys]
  exact mem_chanList_of_kept (allMarked_chansOnly s) hc

/-- A channel at the early-termination test. -/
def earlyStep (s : State) (c : Nat) : State :=
  if earlyTest s c then closeStack (countLimited s c (getChan s c).acc) c false true else s

theorem earlyTermination_eq {s : State} (hg : s.rx.gate = false) (hset : s.rx.settled = false) :
    earlyTermination s = freeShots ((chanList (beforeEarly s)).foldl earlyStep (beforeEarly s)) := by
  simp only [earlyTermination, hg, hset]
  rfl

theorem getChan_earlyStep (s : State) (c d : Nat) : getChan (earlyStep s c) d =
    if d = c ∧ earlyTest s c = true then closedChan (getChan s c) false true else getChan s d := by
  unfold earlyStep
  by_cases ht : earlyTest s c = true <;> simp [ht, getChan_closeStack]

theorem earlyStep_rxStands (s : State) (c : Nat) : RxStands s (earlyStep s c) := by
  unfold earlyStep
  split
  · exact (RxStands.of_rx (countLimited_rx ..)).trans (closeStack_rxStands ..)
  · exact .of_rx rfl

theorem earlyStep_only (s : State) (c : Nat) :
    Only [.rx, .regs 0x3108 1, .regs 0x3110 16, .regs 0x3140 16] s (earlyStep s c) :=
  .ite ((closeStack_only ..).step rfl ((countLimited_only ..).mono rfl)) (.refl _ s)

/-- The close of another stack does not bear on a channel's test. -/
theorem earlyStep_sameTest {c d : Nat} {s : State} (h : ¬ (c = d ∧ earlyTest s d = true)) : SameTest c s (earlyStep s d) := by
  have honly := earlyStep_only s d
  refine honly.sameTest (honly.same .fuses rfl) (fun ix hix => by simp [Part.spares]; omega) ?_
  rw [getChan_earlyStep, if_neg h]
  exact .refl _

theorem freeShots_rx (s : State) : (freeShots s).rx = s.rx := (freeShots_only s).same .rx rfl

theorem earlyTermination_settled {s : State} (hg : s.rx.gate = false) (hset : s.rx.settled = false) :
    (earlyTermination s).rx.settled = true ∧ (earlyTermination s).rx.bufs = [] := by
  rw [earlyTermination_eq hg hset, freeShots_rx, RxStands.foldl earlyStep_rxStands]
  exact ⟨rfl, rfl⟩

section
variable {s : State} (hg : s.rx.gate = false) (hset : s.rx.settled = false) {c : Nat}
include hg hset

/-- An open stack that passes the test closes early (R153). -/
theorem getChan_earlyTermination_closed (hc : c ∈ chanList s) (ht : earlyTest s c = true) :
    ∃ x, getChan (earlyTermination s) c = closedChan x false true := by
  rw [earlyTermination_eq hg hset, getChan_congr (freeShots_rx _)]
  refine foldl_reaches (Q := SameTest c s) (R := fun t => ∃ x, getChan t c = closedChan x false true) (fun t d hd hq => ?_)
    (fun t hq => ?_) (fun t d hr => ?_) (mem_chanList_beforeEarly hc) (beforeEarly_sameTest s c)
  · exact hq.trans (earlyStep_sameTest fun h => hd h.1.symm)
  · exact ⟨getChan t c, by rw [getChan_earlyStep, if_pos ⟨rfl, hq.test_eq.trans ht⟩]⟩
  · rw [getChan_earlyStep]
    split
    · exact ⟨_, rfl⟩
    · exact hr

/-- A stack that does not pass stays as it is (R153). -/
theorem getChan_earlyTermination_kept (ht : earlyTest s c = false) :
    (getChan (earlyTermination s) c).pair = (getChan s c).pair := by
  rw [earlyTermination_eq hg hset, getChan_congr (freeShots_rx _)]
  have hsame : SameTest c s ((chanList (beforeEarly s)).foldl earlyStep (beforeEarly s)) :=
    List.foldlRecOn _ _ (beforeEarly_sameTest s c) fun t hq d _ => hq.trans (earlyStep_sameTest fun h => by
      obtain ⟨rfl, hpass⟩ := h
      rw [hq.test_eq, ht] at hpass
      cases hpass)
  exact hsame.stack.pair

end

/-! ### Swap point B of the launch slot (R83, R97) -/

theorem getChan_unassigned (s : State) (c : Nat) (v : Event) :
    ∃ r, getChan (unassigned s c v) c = { getChan s c with rate := r } := by
  unfold unassigned
  split
  · exact ⟨_, by rw [getChan_countMarks, getChan_bumpChan, getChan_updChan_self]; rfl⟩
  · exact ⟨(getChan s c).rate, rfl⟩

/-- The events held for a shot that did not fire are counted, and no longer held. -/
theorem getChan_dropEarly (s : State) (c : Nat) :
    ∃ r, getChan (dropEarly s c) c = { getChan s c with early := [], rate := r } := by
  unfold dropEarly
  dsimp only
  refine List.foldlRecOn (motive := fun t => ∃ r, getChan t c = { getChan s c with early := [], rate := r }) _ _ ?_
    fun t ht v _ => ?_
  · exact ⟨(getChan s c).rate, by rw [getChan_setChan_self]⟩
  · obtain ⟨r, hr⟩ := ht
    obtain ⟨r', hr'⟩ := getChan_unassigned t c v
    exact ⟨r', by rw [hr', hr]⟩

/-- A channel whose stack is discarded at swap point B (R99). -/
def goneChan (x : Chan) : Chan := { x with
  pair := .idle, acc := {}, base := none, gone := false, stackSeq := (x.stackSeq + 1) % 65536 }

theorem getChan_closeB (s : State) (c d : Nat) : getChan (closeB s c) d =
    if d = c then (if (getChan s c).gone then goneChan (getChan s c) else closedChan (getChan s c) true false)
    else getChan s d := by
  unfold closeB
  split
  · simp [closeGone, getChan_setChan, goneChan]
  · simp [getChan_closeStack]

theorem closeB_rxStands (s : State) (c : Nat) : RxStands s (closeB s c) := by
  unfold closeB
  split
  · exact (setChan_rxStands ..).trans (.of_rx (countLimited_rx ..))
  · exact (RxStands.of_rx (countLimited_rx ..)).trans (closeStack_rxStands ..)

/-- A channel at swap point B of the launch slot. -/
def slotStep (s : State) (c : Nat) : State :=
  if (getChan s c).assigned then s
  else if (getChan s c).pair = .opened then closeB (dropEarly s c) c
  else dropEarly s c

/-- Swap point B of the launch slot has come. -/
def slotReached (s : State) : State := { s with rx := { s.rx with slotDone := true } }

theorem swapSlot_eq {s : State} (h : s.rx.slotDone = false) :
    swapSlot s = (chanList s).foldl slotStep (slotReached s) := by
  simp only [swapSlot, h]
  rfl

theorem slotStep_rxStands (s : State) (c : Nat) : RxStands s (slotStep s c) := by
  have hdrop := (dropEarly_chansOnly s c).rxStands
  unfold slotStep
  split
  · exact .of_rx rfl
  split
  · exact hdrop.trans (closeB_rxStands ..)
  · exact hdrop

theorem getChan_slotStep_ne {c d : Nat} (hd : d ≠ c) (s : State) : getChan (slotStep s c) d = getChan s d := by
  have hdrop : getChan (dropEarly s c) d = getChan s d := (dropEarly_chansOnly s c).getChan_eq hd
  unfold slotStep
  split
  · rfl
  split
  · rw [getChan_closeB, if_neg hd, hdrop]
  · exact hdrop

/-- What swap point B leaves of the channel `x` whose shot was suppressed, in `y`: it holds no events, and its open stack has
closed, cut short unless the channel is gone. -/
structure Slotted (x y : Chan) : Prop where
  assigned : y.assigned = false
  early : y.early = []
  pair : y.pair = .idle
  closed : x.pair = .opened → x.gone = false → y.reading = true ∧ y.held.cutShort = true

theorem slotStep_slotted {s : State} {c : Nat} (ha : (getChan s c).assigned = false) :
    Slotted (getChan s c) (getChan (slotStep s c) c) := by
  obtain ⟨r, hr⟩ := getChan_dropEarly s c
  unfold slotStep
  rw [if_neg (by simp [ha])]
  split
  · rw [getChan_closeB, if_pos rfl, hr]
    split
    · rename_i hgone
      exact ⟨ha, rfl, rfl, fun _ h => absurd (hgone.symm.trans h) (by decide)⟩
    · exact ⟨ha, rfl, rfl, fun _ _ => ⟨rfl, rfl⟩⟩
  · rename_i hpair
    rw [hr]
    refine ⟨ha, rfl, ?_, fun h => absurd h hpair⟩
    cases h : (getChan s c).pair with
    | idle => rfl
    | opened => exact absurd h hpair

/-- A channel that swap point B has served is served in the same way a second time. -/
theorem slotStep_keeps_slotted {x : Chan} {s : State} {c : Nat} (h : Slotted x (getChan s c)) (d : Nat) :
    Slotted x (getChan (slotStep s d) c) := by
  by_cases hd : c = d
  · subst hd
    obtain ⟨r, hr⟩ := getChan_dropEarly s c
    rw [slotStep, if_neg (by simp [h.assigned]), if_neg (by simp [h.pair]), hr]
    exact ⟨h.assigned, rfl, h.pair, h.closed⟩
  · rw [getChan_slotStep_ne hd]
    exact h

theorem swapSlot_slotDone {s : State} (h : s.rx.slotDone = false) : (swapSlot s).rx.slotDone = true := by
  rw [swapSlot_eq h, RxStands.foldl slotStep_rxStands]
  rfl

theorem getChan_swapSlot {s : State} (h : s.rx.slotDone = false) {c : Nat} (hc : c ∈ chanList s)
    (ha : (getChan s c).assigned = false) : Slotted (getChan s c) (getChan (swapSlot s) c) := by
  rw [swapSlot_eq h]
  refine foldl_reaches (Q := fun t => getChan t c = getChan s c) (R := fun t => Slotted (getChan s c) (getChan t c))
    (fun t d hd ht => ?_) (fun t ht => ?_) (fun t d ht => slotStep_keeps_slotted ht d) hc rfl
  · rw [getChan_slotStep_ne hd.symm, ht]
  · rw [← ht] at ha ⊢
    exact slotStep_slotted ha

end Sys2Proof.Machine
end

section
/-! Read passes: what a pass hands on, what it loses, and its overrun (R104, R106, R110, R111). -/

namespace Sys2Proof.Machine

/-! ### The end of a read pass (R104, R106, R111) -/

/-- The half that a read pass has read. -/
def readHalf (x : Chan) (bad : Bool) : Half := { x.held with
  eccErr := x.held.eccErr || bad, cntBound := beyondBound x.held }

/-- Whether a stack is lost: an uncorrectable error, or a bin beyond its bound. -/
def readLost (x : Chan) (bad : Bool) : Bool := (readHalf x bad).eccErr || (readHalf x bad).cntBound

/-- A channel whose half has been read. -/
def readChan (x : Chan) (bad : Bool) : Chan := { x with
  held := readHalf x bad, reading := false, toExtract := !readLost x bad }

/-- The half has been read and its corrected errors are counted. -/
def readCounted (s : State) (c k : Nat) (bad : Bool) : State :=
  bumpBy (setChan s c (readChan (getChan s c) bad)) 0x3108 7 k

/-- The taps and probes have what they take of the pass. -/
def readTapped (s : State) (c k : Nat) (bad : Bool) : State :=
  histProbes (histTaps (readCounted s c k bad) c (readHalf (getChan s c) bad)) c (readHalf (getChan s c) bad)

theorem readPass_eq {s : State} {c : Nat} (hr : (getChan s c).reading = true) (k : Nat) (bad : Bool) :
    readPass s c k bad = if readLost (getChan s c) bad then reportFault (bump (readTapped s c k bad) 0x3108 8) .detection
      else readTapped s c k bad := by
  simp only [readPass, hr]
  rfl

theorem readTapped_only (s : State) (c k : Nat) (bad : Bool) :
    Only [.regs 0xC020 16, .lane, .rings, .irq, .out, .acq] (readCounted s c k bad) (readTapped s c k bad) :=
  (histProbes_only ..).step rfl ((histTaps_only ..).mono rfl)

theorem getChan_readTapped (s : State) (c k : Nat) (bad : Bool) :
    getChan (readTapped s c k bad) c = readChan (getChan s c) bad := by
  rw [getChan_congr ((readTapped_only s c k bad).same .rx rfl), readCounted, getChan_bumpBy, getChan_setChan_self]

theorem odN_readTapped (s : State) (c k : Nat) (bad : Bool) :
    odN (readTapped s c k bad) 0x3108 7 = satN 32 (odN s 0x3108 7 + k) ∧
      odN (readTapped s c k bad) 0x3108 8 = odN s 0x3108 8 := by
  have hwidth : odWidth 0x3108 7 = 32 := by decide
  have honly := readTapped_only s c k bad
  have hspared {sub : Nat} (hsub : sub < 256) : odN (readTapped s c k bad) 0x3108 sub = odN (readCounted s c k bad) 0x3108 sub :=
    honly.odN_spared (honly.same .fuses rfl) (by decide) hsub
  rw [hspared (by decide), hspared (by decide), readCounted, odN_bumpBy, hwidth,
    odN_bumpBy_other (.inr (by decide)) (by decide) (by decide), odN_setChan, odN_setChan]
  exact ⟨rfl, rfl⟩

/-- A read pass without an error hands the half to extraction (R106). -/
theorem readPass_handed {s : State} {c : Nat} (hr : (getChan s c).reading = true) (k : Nat) {bad : Bool}
    (hl : readLost (getChan s c) bad = false) : getChan (readPass s c k bad) c = readChan (getChan s c) bad ∧
      odN (readPass s c k bad) 0x3108 7 = satN 32 (odN s 0x3108 7 + k) := by
  rw [readPass_eq hr, if_neg (by simp [hl])]
  exact ⟨getChan_readTapped .., (odN_readTapped ..).1⟩

/-- A lost stack is discarded, counted, and notified as a fault (R104, R111). -/
theorem readPass_lost {s : State} {c : Nat} (hr : (getChan s c).reading = true) (k : Nat) {bad : Bool}
    (hl : readLost (getChan s c) bad = true) : getChan (readPass s c k bad) c = readChan (getChan s c) bad ∧
      odN (readPass s c k bad) 0x3108 8 = satN 32 (odN s 0x3108 8 + 1) ∧
      (readPass s c k bad).host.intStatus.getLsbD 17 = true := by
  have hwidth : odWidth 0x3108 8 = 32 := by decide
  have hfault := reportFault_only (bump (readTapped s c k bad) 0x3108 8) .detection
  rw [readPass_eq hr, if_pos hl]
  refine ⟨?_, ?_, reportFault_fault ..⟩
  · rw [getChan_reportFault, getChan_bump, getChan_readTapped]
  · rw [hfault.odN_spared (hfault.same .fuses rfl) (by decide) (by decide), odN_bump, hwidth, (odN_readTapped ..).2]

/-! ### The overrun of a read pass (R27, R110) -/

/-- The tick is noted as overrun and counted (R27). -/
def overrunCounted (s : State) : State := bump { s with tick := { s.tick with overrun := true } } 0x2000 0x0B

/-- What a tick overrun does beside: emission is inhibited, and the island is informed (R27). -/
theorem tickOverrun_only_beside (s : State) :
    Only [.emit, .regs 0x4000 1, .pwr, .irq, .out, .isl, .fm, .regs 0x8001 1] (overrunCounted s) (tickOverrun s) := by
  have hinhibit : Only [.emit, .regs 0x4000 1, .pwr, .irq, .out, .isl, .fm, .regs 0x8001 1] (overrunCounted s)
      (inhibit (overrunCounted s) 0) := (inhibit_only ..).mono rfl
  unfold tickOverrun
  exact .ite ((islRaise_only ..).step rfl (.set_isl rfl hinhibit)) hinhibit

theorem tickOverrun_reads (s : State) : (tickOverrun s).rx = s.rx ∧ (tickOverrun s).tick.overrun = true ∧
    odN (tickOverrun s) 0x2000 0x0B = satN 32 (odN s 0x2000 0x0B + 1) ∧
    odN (tickOverrun s) 0x3108 3 = odN s 0x3108 3 := by
  have hwidth : odWidth 0x2000 0x0B = 32 := by decide
  have honly := tickOverrun_only_beside s
  have hfuses := honly.same .fuses rfl
  refine ⟨honly.same .rx rfl, congrArg TickSt.overrun (honly.same .tick rfl), ?_, ?_⟩
  · rw [honly.odN_spared hfuses (by decide) (by decide), overrunCounted, odN_bump, hwidth]
    rfl
  · rw [honly.odN_spared hfuses (by decide) (by decide), overrunCounted, bump,
      odN_bumpBy_other (.inl (by decide)) (by decide) (by decide)]
    exact odN_congr rfl rfl ..

/-- A pass that is incomplete in its extraction tick drops the stack, and is a tick overrun (R110). -/
theorem readOverrun_reads {s : State} {c : Nat} (hr : (getChan s c).reading = true) (hd : (getChan s c).due ≤ s.tick.num) :
    getChan (readOverrun s c) c = { getChan s c with reading := false, toExtract := false } ∧
      (readOverrun s c).tick.overrun = true ∧ odN (readOverrun s c) 0x3108 3 = satN 32 (odN s 0x3108 3 + 1) ∧
      odN (readOverrun s c) 0x2000 0x0B = satN 32 (odN s 0x2000 0x0B + 1) := by
  have hwidth : odWidth 0x3108 3 = 32 := by decide
  have heq : readOverrun s c =
      tickOverrun (bump (setChan s c { getChan s c with reading := false, toExtract := false }) 0x3108 3) := by
    simp [readOverrun, hr, Nat.not_lt.2 hd]
  obtain ⟨hrx, hover, hticks, hlost⟩ :=
    tickOverrun_reads (bump (setChan s c { getChan s c with reading := false, toExtract := false }) 0x3108 3)
  rw [heq, hlost, hticks, getChan_congr hrx]
  refine ⟨?_, hover, ?_, ?_⟩
  · rw [getChan_bump, getChan_setChan_self]
  · rw [odN_bump, hwidth, odN_setChan]
  · rw [bump, odN_bumpBy_other (.inl (by decide)) (by decide) (by decide), odN_setChan]

/-! ### StacksCloseAndAreRead -/

/-- Settles O16, instant by instant: gate close, the early-termination test, swap point B of the launch slot, the end of a read
pass with and without an error, and its overrun. -/
theorem stacksCloseAndAreRead : Obligations.StacksCloseAndAreRead := by
  intro s
  refine ⟨fun hg => ⟨closed s (gateClose s), rfl, gateClose_gate hg, fun c hc =>
      ⟨getChan_gateClose_blank hg hc, fun hp ha hgone hf => ?swapA⟩⟩,
    fun hg hset => ⟨closed s (earlyTermination s), rfl, (earlyTermination_settled hg hset).1,
      (earlyTermination_settled hg hset).2, fun c hc => ⟨fun ht => ?early, getChan_earlyTermination_kept hg hset⟩⟩,
    fun hslot => ⟨closed s (swapSlot s), rfl, swapSlot_slotDone hslot, fun c hc ha => ?swapB⟩,
    fun c k hr hecc hbound => ?handed, fun c k hr => ?lost, fun c hr hd => ?overrun⟩
  case swapA =>
    obtain ⟨-, -, -, hseq, hacc⟩ := allMarked_sameStack s c
    have hclose : (getChan (allMarked s) c).acc.closeTick = (getChan s c).acc.closeTick := by rw [hacc]
    rw [getChan_closed, getChan_gateClose hg hc (swapsAtA_marked hp ha hgone hf), ← hseq, ← hclose]
    exact ⟨rfl, rfl, rfl, rfl, rfl, rfl⟩
  case early =>
    obtain ⟨x, hx⟩ := getChan_earlyTermination_closed hg hset hc ht
    rw [getChan_closed, hx]
    exact ⟨rfl, rfl, rfl⟩
  case swapB =>
    obtain ⟨-, hearly, hpair, hclosed⟩ := getChan_swapSlot hslot hc ha
    exact ⟨hearly, fun ho => ⟨hpair, hclosed ho⟩⟩
  case handed =>
    have hl : readLost (getChan s c.val) false = false := by simp [readLost, readHalf, hecc, hbound]
    have hfuses := (readPass_only s c.val k false).same .fuses rfl
    obtain ⟨hchan, hcount⟩ := readPass_handed hr k hl
    refine ⟨closed s (readPass s c.val k false), rfl, ?_, ?_, (odN_closed hfuses ..).trans hcount⟩
    · rw [getChan_closed, hchan]; rfl
    · rw [getChan_closed, hchan, readChan, hl]; rfl
  case lost =>
    have hl : readLost (getChan s c.val) true = true := by simp [readLost, readHalf]
    have hfuses := (readPass_only s c.val k true).same .fuses rfl
    obtain ⟨hchan, hcount, hint⟩ := readPass_lost hr k hl
    refine ⟨closed s (readPass s c.val k true), rfl, ?_, ?_, (odN_closed hfuses ..).trans hcount, hint⟩
    · rw [getChan_closed, hchan]; rfl
    · rw [getChan_closed, hchan, readChan, hl]; rfl
  case overrun =>
    have hfuses := (readOverrun_only s c.val).same .fuses rfl
    obtain ⟨hchan, hover, hlost, hticks⟩ := readOverrun_reads hr hd
    exact ⟨closed s (readOverrun s c.val), rfl, congrArg Chan.reading hchan, congrArg Chan.toExtract hchan, hover,
      (odN_closed hfuses ..).trans hlost, (odN_closed hfuses ..).trans hticks⟩

end Sys2Proof.Machine
end

section
/-! The guard conversion of an input that the converter does not have: its count and its offset share a place in the store. -/

namespace Sys2Proof.Machine

/-- A guard conversion of input 12293. Its offset stands at 0xB010 with the sub-index 12294, which in the store is the place of
the guard counter 0xB040:06. -/
def strayGuard : Conv := { level := 0, entry := 0, input := 12293, mux := 0, guard := true }

/-- The converter with that conversion under way, and no guard counted yet. -/
def strayState : State := { hk := { cur := some strayGuard }, od := [(odKey 0xB040 6, .num 0)] }

/-- The end of a guard conversion within range: the conversion runs again, with the corrections that are in force once the guard
is counted (R455, R457). -/
theorem exec_guardInRange {s : State} {c : Conv} (hc : s.hk.cur = some c) (hg : c.guard = true) (raw : Fin 4096) :
    ∃ t, exec (.conversionComplete raw false) s = .next t ∧
      t.hk.cur = some (withTrim (bump s 0xB040 6) { c with guard := false }) := by
  refine ⟨_, rfl, ?_⟩
  simp [hkComplete, hc, hg]

/-- The stray offset reads what the guard counter holds. -/
theorem odI_strayOffset {s : State} {n : Int} (h : tget s.od (odKey 0xB040 6) = some (.num n)) : odI s 0xB010 12294 = n := by
  have hkey : odKey 0xB010 12294 = odKey 0xB040 6 := rfl
  rw [odI, odGet, hkey, h]
  rfl

theorem odI_strayOffset_before : odI strayState 0xB010 12294 = 0 := odI_strayOffset rfl

theorem odI_strayOffset_counted : odI (bump strayState 0xB040 6) 0xB010 12294 = 1 := by
  have hwidth : odWidth 0xB040 6 = 32 := by decide +kernel
  have hzero : odN strayState 0xB040 6 = 0 := rfl
  refine odI_strayOffset ?_
  rw [bump, bumpBy, odSetN, odSet, tget_tset, if_pos rfl, hwidth, hzero]
  rfl

/-- Refutes O22, in its clause on guard conversions: the statement takes the corrections of the conversion that follows from the
state before, and a guard conversion may have any input number there. For input 12293, which no sequence and no group of the
converter can hold, the count of the guard falls on the offset that the next conversion takes. -/
theorem not_shotsProbesAndLatch : ¬ Obligations.ShotsProbesAndLatch := by
  intro h
  obtain ⟨-, -, -, -, -, -, hguard⟩ := h strayState
  obtain ⟨t, ht, -, -, -, hcur, -⟩ := hguard strayGuard 0 false rfl rfl
  obtain ⟨u, hu, hagain⟩ := exec_guardInRange (s := strayState) (c := strayGuard) rfl rfl 0
  have htu : t = u := Host.Outcome.next.inj (ht.symm.trans hu)
  have hconv : withTrim strayState { strayGuard with guard := false } =
      withTrim (bump strayState 0xB040 6) { strayGuard with guard := false } :=
    Option.some.inj ((hcur rfl).1.symm.trans (htu ▸ hagain))
  have hofs : odI strayState 0xB010 12294 = odI (bump strayState 0xB040 6) 0xB010 12294 := congrArg Conv.ofs hconv
  rw [odI_strayOffset_before, odI_strayOffset_counted] at hofs
  cases hofs

end Sys2Proof.Machine
end

section
/-! Extraction, Oxbow and Confluence: what a channel result holds, what Oxbow makes of it, and how records are coloured or
marked (R122, R140, R175, R273, R278). -/

namespace Sys2Proof.Machine

/-! ### The lists of a result (R140, R142) -/

theorem length_insertEcho (le : Echo → Echo → Bool) (x : Echo) (l : List Echo) :
    (insertEcho le x l).length = l.length + 1 := by
  induction l with
  | nil => rfl
  | cons y l ih =>
    unfold insertEcho
    split
    · rw [List.length_cons, ih, List.length_cons]
    · rfl

theorem length_sortEchoes (le : Echo → Echo → Bool) (l : List Echo) : (sortEchoes le l).length = l.length := by
  have hfold (l a : List Echo) : (l.foldl (fun a x => insertEcho le x a) a).length = a.length + l.length := by
    induction l generalizing a with
    | nil => rfl
    | cons x l ih => rw [List.foldl_cons, ih, length_insertEcho, List.length_cons, Nat.add_assoc, Nat.add_comm 1]
  exact (hfold l []).trans (Nat.zero_add _)

/-- A list that is ordered in two parts keeps its length. -/
theorem length_sortEchoes_parts (le : Echo → Echo → Bool) (late : Echo → Bool) (l : List Echo) :
    (sortEchoes le (l.filter fun x => !late x) ++ sortEchoes le (l.filter late)).length = l.length := by
  rw [List.length_append, length_sortEchoes, length_sortEchoes, Nat.add_comm, ← List.countP_eq_length_filter,
    ← List.countP_eq_length_filter, List.length_eq_countP_add_countP late]
  simp only [Bool.not_eq_true, Bool.decide_eq_false]

/-- At most four echoes of a list are kept (R140). -/
theorem length_reduceList_le (s : State) (l : List Echo) : (reduceList s l).1.length ≤ 4 := by
  unfold reduceList
  dsimp only
  rw [length_sortEchoes_parts, List.length_map]
  exact List.length_take_le ..

theorem length_withEmpty_le (s : State) {l : List Echo} (h : l.length ≤ 4) : (withEmpty s l).2.length ≤ 4 := by
  unfold withEmpty
  split
  · exact Nat.le_add_left 1 3
  · exact h

/-! ### Eddy's update (R146) -/

theorem rx_ite_bump (p : Prop) [Decidable p] (s : State) (ix sub : Nat) : (if p then bump s ix sub else s).rx = s.rx := by
  split <;> rfl

/-- Eddy's update moves the estimate of its channel, and leaves nothing to extract where nothing was. -/
theorem getChan_eddyUpdate (s : State) (c a : Nat) :
    (getChan (eddyUpdate s c a) c).toExtract = (getChan s c).toExtract ∧ (getChan (eddyUpdate s c a) c).as8 =
      (getChan s c).as8 + fdiv (256 * (a : Int) - (getChan s c).as8) (2 ^ odN s 0x3218 5) := by
  unfold eddyUpdate
  dsimp only
  split
  · rw [getChan_setChan_self]
    exact ⟨rfl, rfl⟩
  · rw [getChan_updChan_self]
    dsimp only
    rw [getChan_congr (rx_ite_bump ..), getChan_setChan_self]
    exact ⟨rfl, rfl⟩

theorem eddyUpdate_chansOnly (s : State) (c a : Nat) : ChansOnly (· = c) s (eddyUpdate s c a) := by
  have hset (x : Chan) := (ChansOnly.refl (· = c) s).setChan rfl x
  unfold eddyUpdate
  dsimp only
  split
  · exact hset _
  · exact ((hset _).trans (.of_rx (rx_ite_bump ..))).updChan rfl _

/-! ### The extraction (R122, R143) -/

/-- The state with a result added for Oxbow. -/
def withResult (s : State) (res : ChanResult) : State := { s with rx := { s.rx with results := s.rx.results ++ [res] } }

/-- The state in which a channel has nothing left to extract. -/
def extractTaken (s : State) (c : Nat) : State := setChan s c { getChan s c with toExtract := false }

/-- What a result of a channel is, whatever its echoes are. -/
structure IsResult (s : State) (c : Nat) (res : ChanResult) : Prop where
  chan : res.chan = c
  half : res.half = { (getChan s c).held with scout := [], fine := [] }
  ambient : res.ambient = ambientOf (getChan s c).held
  listF : res.listF.length ≤ 4
  listS : res.listS.length ≤ 4

/-- An extraction counts at 0x3240, updates Eddy and adds one result. -/
theorem extract_cases {s : State} {c : Nat} (hx : (getChan s c).toExtract = true) (hl : chanLive s c = true) :
    ∃ u res, Only [.regs 0x3240 1] (extractTaken s c) u ∧ IsResult s c res ∧
      extract s c = withResult (eddyUpdate u c (ambientOf (getChan s c).held)) res := by
  unfold extract
  simp only [hx, hl, Bool.not_true, Bool.or_self, Bool.false_eq_true, if_false]
  have hcount {t : State} {sub : Nat} (hsub : sub < 256) (k : Nat) (h : Only [.regs 0x3240 1] (extractTaken s c) t) :
      Only [.regs 0x3240 1] (extractTaken s c) (bumpBy t 0x3240 sub k) :=
    (bumpBy_fam 0x3240 1 (by decide) hsub k).step rfl h
  have hsome {t : State} (b : Bool) (h : Only [.regs 0x3240 1] (extractTaken s c) t) :
      Only [.regs 0x3240 1] (extractTaken s c) (if b = true then bump t 0x3240 4 else t) :=
    Only.ite (hcount (by decide) 1 h) h
  have hempty {t : State} (l : List Echo) (h : Only [.regs 0x3240 1] (extractTaken s c) t) :
      Only [.regs 0x3240 1] (extractTaken s c) (withEmpty t l).1 := (withEmpty_only t l).step rfl h
  refine ⟨_, _, hempty _ (hempty _ ?_), ⟨rfl, rfl, rfl, ?_, ?_⟩, rfl⟩
  · iterate 6 refine hcount (by decide) _ ?_
    refine hsome _ ?_
    iterate 3 refine hcount (by decide) _ ?_
    exact Only.refl ..
  · exact length_withEmpty_le _ (length_reduceList_le ..)
  · exact length_withEmpty_le _ (length_reduceList_le ..)

/-- What an extraction leaves of its channel and of the results. -/
theorem extract_reads {s : State} {c : Nat} (hx : (getChan s c).toExtract = true) (hl : chanLive s c = true) :
    ∃ res, IsResult s c res ∧ (extract s c).rx.results = s.rx.results ++ [res] ∧
      (getChan (extract s c) c).toExtract = false ∧
      (getChan (extract s c) c).as8 =
        (getChan s c).as8 + fdiv (256 * (res.ambient : Int) - (getChan s c).as8) (2 ^ odN s 0x3218 5) := by
  obtain ⟨u, res, honly, hres, heq⟩ := extract_cases hx hl
  have hrx : u.rx = (extractTaken s c).rx := honly.same .rx rfl
  have hshift : odN u 0x3218 5 = odN s 0x3218 5 :=
    (honly.odN_spared (honly.same .fuses rfl) (by decide) (by decide)).trans (odN_setChan ..)
  obtain ⟨hdone, has⟩ := getChan_eddyUpdate u c (ambientOf (getChan s c).held)
  rw [getChan_congr hrx, extractTaken, getChan_setChan_self] at hdone has
  have hget : getChan (extract s c) c = getChan (eddyUpdate u c (ambientOf (getChan s c).held)) c := by rw [heq]; rfl
  refine ⟨res, hres, ?_, by rw [hget, hdone], by rw [hget, has, hshift, hres.ambient]⟩
  rw [heq, withResult, (eddyUpdate_chansOnly ..).rest, hrx]
  rfl

/-! ### Oxbow (R175 to R179) -/

/-- Oxbow discards a result: its outcome is UNSUPPORTED or OUTSIDE (R175). -/
def oxbowDiscards (s : State) (r : ChanResult) : Bool := oxbowCode s r == 2 || oxbowCode s r == 3

/-- The list that Oxbow takes: S on a discard, else F (R176). -/
def oxbowList (s : State) (r : ChanResult) : List Echo := if oxbowDiscards s r then r.listS else r.listF

/-- The result is taken off, and its outcome counted (R175, R179). -/
def oxbowCounted (s : State) (r : ChanResult) : State :=
  bump { s with rx := { s.rx with results := s.rx.results.erase r } } 0x2120 (oxbowCode s r + 1)

/-- A discard advances the epoch of its channel (R176). -/
def oxbowEpoch (s : State) (c : Nat) (discard : Bool) : State :=
  if discard then bumpChan (updChan s c fun x => { x with epoch := (x.epoch + 1) % 256 }) 0x2130 c 1 else s

/-- The result leaves its seeds, and its column is noted to have a record. -/
def oxbowSeeded (s : State) (c : Nat) (o : Option ColRun) (r : ChanResult) (l : List Echo) : State :=
  let s := updChan s c fun x => { x with seed := some (seedResult s o r l) }
  match o with
  | some col => if l.isEmpty then s else updCol s col.seq fun x => { x with anyRecord := true }
  | none => s

/-- The state in which the records of a result are formed. -/
def oxbowDecided (s : State) (c : Nat) (r : ChanResult) : State :=
  oxbowSeeded (oxbowEpoch (countDecision (oxbowCounted s r) (columnOf s r.half) (oxbowDiscards s r)) c (oxbowDiscards s r)) c
    (columnOf s r.half) r (oxbowList s r)

/-- One record is formed, with its copy for the island. -/
def formRecord (o : Option ColRun) (r : ChanResult) (miss : Bool) (m : BitVec 4) (s : State) (x : Echo × Nat) : State :=
  enterConfluence (islandCopy s (recordOf s o r miss x.1 x.2)) { recordOf s o r miss x.1 x.2 with corrupt := m.getLsbD x.2 }

theorem oxbow_eq {s : State} {c : Nat} {r : ChanResult} (m : BitVec 4)
    (h : (s.rx.results.find? fun x => x.chan == c && decide (x.half.closeTick + 2 ≤ s.tick.num)) = some r) :
    oxbow s c m = islandMarker ((oxbowList s r).zipIdx.foldl
      (formRecord (columnOf s r.half) r (oxbowDiscards s r) m) (oxbowDecided s c r)) (columnOf s r.half) r := by
  unfold oxbow
  rw [h]
  rfl

theorem formRecord_only (o : Option ColRun) (r : ChanResult) (miss : Bool) (m : BitVec 4) (s : State) (x : Echo × Nat) :
    Only [.isl, .points, .regs 0x3301 1] s (formRecord o r miss m s x) :=
  (enterConfluence_only ..).step rfl ((islandCopy_only ..).mono rfl)

theorem formRecords_only (o : Option ColRun) (r : ChanResult) (miss : Bool) (m : BitVec 4) (l : List (Echo × Nat))
    (s : State) : Only [.isl, .points, .regs 0x3301 1] s (l.foldl (formRecord o r miss m) s) :=
  Only.foldl _ l (formRecord_only o r miss m) (.refl _ s)

theorem points_ite_odSetN (p : Prop) [Decidable p] (s : State) (ix sub n : Nat) :
    (if p then odSetN s ix sub n else s).points = s.points := by
  split <;> rfl

/-- A record enters behind those that wait, marked as it is. -/
theorem corrupt_enterConfluence (s : State) (p : PointRec) :
    (enterConfluence s p).points.queue.map (·.corrupt) = s.points.queue.map (·.corrupt) ++ [p.corrupt] := by
  unfold enterConfluence
  generalize hq : (if hasCam s then p else { p with stage := .done, status := 1 }) = q
  have hmark : q.corrupt = p.corrupt := by rw [← hq]; split <;> rfl
  dsimp only
  rw [points_ite_odSetN]
  simp [hmark]

theorem corrupt_formRecord (o : Option ColRun) (r : ChanResult) (miss : Bool) (m : BitVec 4) (s : State) (x : Echo × Nat) :
    (formRecord o r miss m s x).points.queue.map (·.corrupt) = s.points.queue.map (·.corrupt) ++ [m.getLsbD x.2] := by
  have hpoints (p : PointRec) : (islandCopy s p).points = s.points := (islandCopy_only s p).same .points rfl
  rw [formRecord, corrupt_enterConfluence, hpoints]

/-- One record is formed per echo, each marked as the operand says (R265). -/
theorem corrupt_formRecords (o : Option ColRun) (r : ChanResult) (miss : Bool) (m : BitVec 4) (l : List (Echo × Nat))
    (s : State) : (l.foldl (formRecord o r miss m) s).points.queue.map (·.corrupt) =
      s.points.queue.map (·.corrupt) ++ l.map fun x => m.getLsbD x.2 := by
  induction l generalizing s with
  | nil => simp
  | cons x l ih => rw [List.foldl_cons, ih, corrupt_formRecord, List.map_cons, List.append_assoc, List.singleton_append]

theorem oxbowEpoch_only (s : State) (c : Nat) (d : Bool) : Only [.rx, .regs 0x2130 8] s (oxbowEpoch s c d) :=
  .ite ((bumpChan_only ..).step rfl ((updChan_only ..).mono rfl)) (.refl _ s)

theorem oxbowSeeded_only (s : State) (c : Nat) (o : Option ColRun) (r : ChanResult) (l : List Echo) :
    Only [.rx, .plan] s (oxbowSeeded s c o r l) := by
  have hseed (f : Chan → Chan) : Only [.rx, .plan] s (updChan s c f) := (updChan_only ..).mono rfl
  unfold oxbowSeeded
  dsimp only
  split
  · exact .ite (hseed _) ((updCol_only ..).step rfl (hseed _))
  · exact hseed _

theorem oxbowDecided_only (s : State) (c : Nat) (r : ChanResult) :
    Only [.plan, .rx, .regs 0x2130 8] (oxbowCounted s r) (oxbowDecided s c r) :=
  (oxbowSeeded_only ..).step rfl ((oxbowEpoch_only ..).step rfl ((countDecision_only ..).mono rfl))

theorem getChan_oxbowEpoch (s : State) (c : Nat) (d : Bool) : getChan (oxbowEpoch s c d) c =
    { getChan s c with epoch := if d then ((getChan s c).epoch + 1) % 256 else (getChan s c).epoch } := by
  unfold oxbowEpoch
  cases d
  · rfl
  · rw [if_pos rfl, getChan_bumpChan, getChan_updChan_self]
    rfl

theorem oxbowSeeded_rx (s : State) (c : Nat) (o : Option ColRun) (r : ChanResult) (l : List Echo) :
    (oxbowSeeded s c o r l).rx = (updChan s c fun x => { x with seed := some (seedResult s o r l) }).rx := by
  unfold oxbowSeeded
  dsimp only
  split
  · split <;> rfl
  · rfl

theorem oxbowEpoch_results (s : State) (c : Nat) (d : Bool) : (oxbowEpoch s c d).rx.results = s.rx.results := by
  cases d <;> rfl

/-- What a decision leaves before its records are formed. -/
theorem oxbowDecided_reads (s : State) (c : Nat) (r : ChanResult) :
    (oxbowDecided s c r).rx.results = s.rx.results.erase r ∧ (oxbowDecided s c r).points = s.points ∧
      (oxbowDecided s c r).fuses = s.fuses ∧ odN (oxbowDecided s c r) 0x2120 (oxbowCode s r + 1) =
        satN (odWidth 0x2120 (oxbowCode s r + 1)) (odN s 0x2120 (oxbowCode s r + 1) + 1) ∧
      (getChan (oxbowDecided s c r) c).epoch =
        if oxbowDiscards s r then ((getChan s c).epoch + 1) % 256 else (getChan s c).epoch := by
  have honly := oxbowDecided_only s c r
  have hrx (o : Option ColRun) (d : Bool) : (countDecision (oxbowCounted s r) o d).rx = (oxbowCounted s r).rx :=
    (countDecision_only ..).same .rx rfl
  refine ⟨?_, honly.same .points rfl, honly.same .fuses rfl, ?_, ?_⟩
  · rw [oxbowDecided, oxbowSeeded_rx, updChan_rx]
    dsimp only
    rw [oxbowEpoch_results, hrx]
    rfl
  · rw [honly.odN_spared (honly.same .fuses rfl) (by decide) (oxbowCode_sub s r), oxbowCounted, odN_bump]
    rfl
  · rw [oxbowDecided, getChan_congr (oxbowSeeded_rx ..), getChan_updChan_self]
    dsimp only
    rw [getChan_oxbowEpoch, getChan_congr (hrx ..)]
    rfl

/-- The counters of the outcomes have 32 bits. -/
theorem odWidth_oxbowCode (s : State) (r : ChanResult) : odWidth 0x2120 (oxbowCode s r + 1) = 32 := by
  unfold oxbowCode
  dsimp only
  repeat' split
  all_goals decide

/-- What a decision of Oxbow leaves (R175, R176, R179, R265). -/
theorem oxbow_reads {s : State} {c : Nat} {r : ChanResult} (m : BitVec 4)
    (h : (s.rx.results.find? fun x => x.chan == c && decide (x.half.closeTick + 2 ≤ s.tick.num)) = some r) :
    (oxbow s c m).rx.results = s.rx.results.erase r ∧ (oxbow s c m).fuses = s.fuses ∧
      odN (oxbow s c m) 0x2120 (oxbowCode s r + 1) = satN 32 (odN s 0x2120 (oxbowCode s r + 1) + 1) ∧
      (getChan (oxbow s c m) c).epoch =
        (if oxbowDiscards s r then ((getChan s c).epoch + 1) % 256 else (getChan s c).epoch) ∧
      (oxbow s c m).points.queue.map (·.corrupt) =
        s.points.queue.map (·.corrupt) ++ (oxbowList s r).zipIdx.map fun x => m.getLsbD x.2 := by
  obtain ⟨hresults, hpoints, hfuses, hcount, hepoch⟩ := oxbowDecided_reads s c r
  have hformed := formRecords_only (columnOf s r.half) r (oxbowDiscards s r) m (oxbowList s r).zipIdx (oxbowDecided s c r)
  have honly : Only [.isl, .points, .regs 0x3301 1] (oxbowDecided s c r) (oxbow s c m) := by
    rw [oxbow_eq m h]
    exact (islandMarker_only ..).step rfl hformed
  have hrx : (oxbow s c m).rx = (oxbowDecided s c r).rx := honly.same .rx rfl
  refine ⟨by rw [hrx, hresults], (honly.same .fuses rfl).trans hfuses, ?_, by rw [getChan_congr hrx, hepoch], ?_⟩
  · rw [honly.odN_spared (honly.same .fuses rfl) (by decide) (oxbowCode_sub s r), hcount, odWidth_oxbowCode]
  · have hmarked : (oxbow s c m).points = ((oxbowList s r).zipIdx.foldl
        (formRecord (columnOf s r.half) r (oxbowDiscards s r) m) (oxbowDecided s c r)).points := by
      rw [oxbow_eq m h]
      exact (islandMarker_only ..).same .points rfl
    rw [hmarked, corrupt_formRecords, hpoints]

/-- Records that are formed behind a queue: how many, and how each is marked. -/
theorem marks_of_queue {q q' : List PointRec} {l : List Echo} {m : BitVec 4}
    (h : q'.map (·.corrupt) = q.map (·.corrupt) ++ l.zipIdx.map fun x => m.getLsbD x.2) :
    q'.length = q.length + l.length ∧ ∀ i < l.length, (q'[q.length + i]?).map (·.corrupt) = some (m.getLsbD i) := by
  refine ⟨by simpa using congrArg List.length h, fun i hi => ?_⟩
  rw [← List.getElem?_map, h, List.getElem?_append_right (by simp)]
  simp [hi]

/-! ### Confluence (R273 to R278) -/

@[simp] theorem closed_points (s u : State) : (closed s u).points = u.points := rfl

/-- Nothing leaves while every record is of this tick or a later one. -/
theorem flushPoints_idle {s : State} (h : ∀ q ∈ s.points.queue, s.tick.num ≤ q.commit) : flushPoints s = s := by
  have hnone : ((s.points.queue.map (·.commit)).eraseDups.filter (· < s.tick.num)) = [] := by
    refine List.filter_eq_nil_iff.2 fun t ht => ?_
    obtain ⟨q, hq, rfl⟩ := List.mem_map.1 (List.mem_eraseDups.1 ht)
    simpa using h q hq
  unfold flushPoints
  dsimp only
  rw [hnone]
  rfl

/-- A change of one record that keeps its commit tick keeps a bound on all of them. -/
theorem commit_updFirst {n : Nat} {f : PointRec → PointRec} (t : PointRec → Bool) (hf : ∀ q, (f q).commit = q.commit)
    {l : List PointRec} (h : ∀ q ∈ l, n ≤ q.commit) : ∀ q ∈ updFirst t f l, n ≤ q.commit := by
  induction l with
  | nil => exact h
  | cons p l ih =>
    obtain ⟨hp, hl⟩ := List.forall_mem_cons.1 h
    unfold updFirst
    split
    · exact List.forall_mem_cons.2 ⟨(hf p).symm ▸ hp, hl⟩
    · exact List.forall_mem_cons.2 ⟨hp, ih hl⟩

/-- After a change of one record nothing leaves, where nothing was to leave before. -/
theorem flushPoints_updFirst {s u : State} {t : PointRec → Bool} {f : PointRec → PointRec}
    (h : ∀ q ∈ s.points.queue, s.tick.num ≤ q.commit) (hq : u.points.queue = updFirst t f s.points.queue)
    (ht : u.tick = s.tick) (hf : ∀ q, (f q).commit = q.commit) : flushPoints u = u := by
  refine flushPoints_idle ?_
  rw [hq, ht]
  exact commit_updFirst t hf h

theorem queue_flushPoints {s u : State} {t : PointRec → Bool} {f : PointRec → PointRec}
    (h : ∀ q ∈ s.points.queue, s.tick.num ≤ q.commit) (hq : u.points.queue = updFirst t f s.points.queue)
    (ht : u.tick = s.tick) (hf : ∀ q, (f q).commit = q.commit) :
    (flushPoints u).points.queue = updFirst t f s.points.queue := by
  rw [flushPoints_updFirst h hq ht hf, hq]

theorem statusCounter_points (s : State) (k : Nat) : (statusCounter s k).points = s.points :=
  (statusCounter_only s k).same .points rfl

theorem statusCounter_tick (s : State) (k : Nat) : (statusCounter s k).tick = s.tick :=
  (statusCounter_only s k).same .tick rfl

/-- The first waiting record is decided, and stays in its place. -/
theorem confluence_queue {s : State} {p : PointRec} (hp : (s.points.queue.find? fun q => q.stage == .wait) = some p)
    (h : ∀ q ∈ s.points.queue, s.tick.num ≤ q.commit) :
    (confluence s).points.queue = updFirst (fun q => q.stage == .wait) (fun q => { q with
      stage := (colourOf s p).1, status := (colourOf s p).2.1, cam := (colourOf s p).2.2 }) s.points.queue := by
  unfold confluence
  rw [hp]
  exact queue_flushPoints h (congrArg PointSt.queue (statusCounter_points ..)) (statusCounter_tick ..) fun _ => rfl

/-- With Confluence disabled a record leaves with DISABLED (R273). -/
theorem colourOf_disabled {s : State} (h : odN s 0x6040 1 = 0) (p : PointRec) : colourOf s p = (.done, 2, 3) := by
  simp [colourOf, odB, h]

/-- A count in the first object of an index leaves an object alone whose default does not depend on it. -/
theorem odN_bumpBy_first {ix sub : Nat} (hd : ∀ t u, odDefault t ix sub = odDefault u ix sub) (hne : sub ≠ 1)
    (hsub : sub < 256) (s : State) (k : Nat) : odN (bumpBy s ix 1 k) ix sub = odN s ix sub := by
  have hkey : odKey ix sub ≠ odKey ix 1 := fun e => hne ((odKey_inj hsub (by decide)).1 e).2
  have hstored : tget (bumpBy s ix 1 k).od (odKey ix sub) = tget s.od (odKey ix sub) := by
    rw [bumpBy, odSetN, odSet, tget_tset, if_neg hkey]
  rw [odN, odI, odGet, hstored, hd _ s]
  rfl

theorem odDefault_greatestAge (t u : State) : odDefault t 0x6044 7 = odDefault u 0x6044 7 := by
  have hrow : objRow 0x6044 7 =
      some ⟨0x6044, 1, 7, 1, .u 4, 8, .counter, .none, 0, 4294967295, 0, .no, .cam⟩ := by decide
  rw [odDefault, odDefault, hrow]
  rfl

/-- The state after a read that returns to its record, coloured `x`: the record leaves COLOURED (R278). -/
def pixelColoured (s : State) (x : Nat × Nat × Nat) : State :=
  bump { s with points := { s.points with
    queue := updFirst reading (fun q => { q with stage := .done, rgb := x }) s.points.queue } } 0x6044 1

/-- The greatest age of a frame that coloured a record (0x6044:07). -/
def noteAge (s : State) (age : Nat) : State := if odN s 0x6044 7 < age then odSetN s 0x6044 7 (satN 32 age) else s

theorem odN_noteAge (s : State) (age : Nat) :
    odN (noteAge s age) 0x6044 7 = if odN s 0x6044 7 < age then satN 32 age else odN s 0x6044 7 := by
  unfold noteAge
  split
  · exact odN_odSetN ..
  · rfl

theorem odN_noteAge_other {sub : Nat} (hne : sub ≠ 7) (hsub : sub < 256) (s : State) (age : Nat) :
    odN (noteAge s age) 0x6044 sub = odN s 0x6044 sub := by
  unfold noteAge
  split
  · exact odN_odSet_other (.inr ⟨by decide, hne⟩) (by decide) hsub ..
  · rfl

theorem noteAge_only (s : State) (age : Nat) : Only [.regs 0x6044 1] s (noteAge s age) :=
  .ite (odSetN_fam 0x6044 1 (by decide) (by decide) _) (.refl _ s)

section
variable {s : State} {p : PointRec} {k sl a px age : Nat}

/-- The oldest read returns to its record. -/
theorem pixelReturn_eq (hl : s.points.late = []) (hp : s.points.queue.find? reading = some p)
    (hst : p.stage = .read k sl a px age) (h : ∀ q ∈ s.points.queue, s.tick.num ≤ q.commit) :
    pixelReturn s = noteAge (pixelColoured s (pixelColour s a px)) age := by
  have honly := noteAge_only (pixelColoured s (pixelColour s a px)) age
  have hflush : flushPoints (noteAge (pixelColoured s (pixelColour s a px)) age) =
      noteAge (pixelColoured s (pixelColour s a px)) age :=
    flushPoints_updFirst h (congrArg PointSt.queue (honly.same .points rfl)) (honly.same .tick rfl) fun _ => rfl
  unfold pixelReturn
  split
  next hlate => rw [hl] at hlate; cases hlate
  · rw [hp]
    dsimp only
    rw [hst]
    exact hflush

theorem pixelReturn_reads (hl : s.points.late = []) (hp : s.points.queue.find? reading = some p)
    (hst : p.stage = .read k sl a px age) (h : ∀ q ∈ s.points.queue, s.tick.num ≤ q.commit) :
    (pixelReturn s).points.queue =
        updFirst reading (fun q => { q with stage := .done, rgb := pixelColour s a px }) s.points.queue ∧
      odN (pixelReturn s) 0x6044 1 = satN 64 (odN s 0x6044 1 + 1) ∧
      odN (pixelReturn s) 0x6044 7 = if odN s 0x6044 7 < age then satN 32 age else odN s 0x6044 7 := by
  have hwidth : odWidth 0x6044 1 = 64 := by decide
  have hpoints : (noteAge (pixelColoured s (pixelColour s a px)) age).points =
      (pixelColoured s (pixelColour s a px)).points := (noteAge_only ..).same .points rfl
  have hage : odN (pixelColoured s (pixelColour s a px)) 0x6044 7 = odN s 0x6044 7 := by
    rw [pixelColoured, bump, odN_bumpBy_first (odDefault_greatestAge · ·) (by decide) (by decide)]
    exact odN_congr rfl rfl ..
  rw [pixelReturn_eq hl hp hst h]
  refine ⟨by rw [hpoints]; rfl, ?_, by rw [odN_noteAge, hage]⟩
  rw [odN_noteAge_other (by decide) (by decide), pixelColoured, odN_bump, hwidth]
  rfl

/-- The oldest read of the records is that of the first record that waits for one. -/
theorem findSome?_readSlot {l : List PointRec} (hp : l.find? reading = some p) (hst : p.stage = .read k sl a px age) :
    l.findSome? readSlot = some (k, sl) := by
  induction l with
  | nil => cases hp
  | cons q l ih =>
    by_cases hq : reading q = true
    · rw [List.find?_cons_of_pos hq] at hp
      cases hp
      simp [readSlot, hst]
    · rw [List.find?_cons_of_neg hq] at hp
      have hnone : readSlot q = none := by
        unfold reading at hq
        unfold readSlot
        split <;> simp_all
      rw [List.findSome?_cons, hnone]
      exact ih hp

/-- A read that is given up: its record leaves with MEM_LATE, and the read goes on behind those given up before (R278). -/
theorem memLate_reads (hp : s.points.queue.find? reading = some p) (hst : p.stage = .read k sl a px age)
    (h : ∀ q ∈ s.points.queue, s.tick.num ≤ q.commit) :
    (memLate s).points.late = s.points.late ++ [(k, sl)] ∧
      (memLate s).points.queue = updFirst reading (fun q => { q with stage := .done, status := 7 }) s.points.queue ∧
      odN (memLate s) 0x6044 5 = satN 32 (odN s 0x6044 5 + 1) := by
  have hwidth : odWidth 0x6044 5 = 32 := by decide
  have heq : memLate s = bump { s with points := { s.points with
      queue := updFirst reading (fun q => { q with stage := .done, status := 7 }) s.points.queue
      late := s.points.late ++ [(k, sl)] } } 0x6044 5 := by
    unfold memLate
    rw [findSome?_readSlot hp hst]
    exact flushPoints_updFirst h rfl rfl fun _ => rfl
  rw [heq, odN_bump, hwidth]
  exact ⟨rfl, rfl, rfl⟩

/-- The return of a read that was given up changes no record (R278; log entry 94). -/
theorem pixelReturn_late {x : Nat × Nat} {l : List (Nat × Nat)} (hl : s.points.late = x :: l) :
    (pixelReturn s).points.late = l ∧ (pixelReturn s).points.queue = s.points.queue := by
  simp [pixelReturn, hl]

end

/-! ### The version (R272) -/

/-- A version write that passes sets the lower of the value and 2. -/
theorem versionWrite_reads {s : State} {r : Req} {sub : Fin 256} {b : BitVec 8} {v : Val}
    (hsub : sub.val = 2 ∨ sub.val = 3) (hw : WriteOk s r 0x1F12 sub.val [b] (versionHook sub.val) v) :
    ∃ t, exec (.pr32VersionWrite r sub b) s = .next t ∧ odN t 0x1F12 sub.val = min b.toNat 2 := by
  have hv : v = .num (b.toNat : Nat) := hw.byte (.inl (by rcases hsub with h | h <;> rw [h] <;> decide))
  have hhook : (if sub.val = 2 || sub.val = 3 then versionHook sub.val else plainHook 0x1F12 sub.val) =
      versionHook sub.val := if_pos (by simpa using hsub)
  have hrun : (versionHook sub.val (taken s r)).run (taken s r) v =
      .done (odSetN (taken s r) 0x1F12 sub.val (min b.toNat 2)) := by
    rw [hv, versionHook, Nat.mod_eq_of_lt sub.isLt]
    rfl
  obtain ⟨t, ht, honly, hfuses, -⟩ := write_done hw hrun
  refine ⟨t, (congrArg (fun h => outcome s (requestWrite s r 0x1F12 sub.val [b] h)) hhook).trans ht, ?_⟩
  rw [honly.odN rfl (hfuses.trans (by simp)), odN_odSetN]

/-! ### ResultsBecomeRecords -/

/-- Settles O18, command by command: extraction, Oxbow's decision, Confluence, the pixel read that returns to its record, the
one that had been given up, MEM_LATE, and the version write. -/
theorem resultsBecomeRecords : Obligations.ResultsBecomeRecords := by
  intro s
  refine ⟨fun c hx hl => ?extraction, fun c m r hr => ?decision, fun p hp h => ?coloured,
    fun p k sl a px age hl hp hst h => ?returned, fun p l hl => ?given, fun p k sl a px age hp hst h => ?late,
    fun r sub b v hsub hw => versionWrite_reads hsub hw⟩
  case extraction =>
    obtain ⟨res, hres, hadd, hdone, heddy⟩ := extract_reads hx hl
    exact ⟨closed s (extract s c.val), res, rfl, hadd, hres.chan, hres.half, hres.ambient, hres.listF, hres.listS, hdone,
      heddy⟩
  case decision =>
    obtain ⟨hresults, hfuses, hcount, hepoch, hqueue⟩ := oxbow_reads m hr
    obtain ⟨hlength, hmarks⟩ := marks_of_queue hqueue
    exact ⟨closed s (oxbow s c.val m), rfl, hresults, (odN_closed hfuses ..).trans hcount, hepoch, hlength, hmarks⟩
  case coloured =>
    exact ⟨closed s (confluence s), rfl, confluence_queue hp h, fun hoff => colourOf_disabled hoff p⟩
  case returned =>
    have hfuses := (pixelReturn_only s).same .fuses rfl
    obtain ⟨hqueue, hcount, hage⟩ := pixelReturn_reads hl hp hst h
    exact ⟨closed s (pixelReturn s), rfl, hqueue, (odN_closed hfuses ..).trans hcount, (odN_closed hfuses ..).trans hage⟩
  case given =>
    exact ⟨closed s (pixelReturn s), rfl, pixelReturn_late hl⟩
  case late =>
    have hfuses := (memLate_only s).same .fuses rfl
    obtain ⟨hgiven, hqueue, hcount⟩ := memLate_reads hp hst h
    exact ⟨closed s (memLate s), rfl, hgiven, hqueue, (odN_closed hfuses ..).trans hcount⟩

end Sys2Proof.Machine
end

section
/-! Beam steering: loop commands, decimators, external sources, the trace buffer, the drives and the loss of feedback (R228,
R229, R236, R241, R247, R249, R256, R257, R259). -/

namespace Sys2Proof.Machine

/-! ### Axes and the store -/

theorem getAxis_congr {s t : State} (h : t.servo = s.servo) (a : Axis) : getAxis t a = getAxis s a := by
  unfold getAxis; rw [h]

@[simp] theorem getAxis_setAxis_self (s : State) (a : Axis) (x : AxisSt) : getAxis (setAxis s a x) a = x := by
  cases a <;> rfl

@[simp] theorem getAxis_odSet (s : State) (a : Axis) (ix sub : Nat) (v : Val) :
    getAxis (odSet s ix sub v) a = getAxis s a := getAxis_congr (odSet_servo ..) a

@[simp] theorem getAxis_taken (s : State) (r : Req) (a : Axis) : getAxis (taken s r) a = getAxis s a :=
  getAxis_congr (taken_servo s r) a

@[simp] theorem setAxis_fuses (s : State) (a : Axis) (x : AxisSt) : (setAxis s a x).fuses = s.fuses :=
  (setAxis_only ..).same .fuses rfl

@[simp] theorem odN_setAxis (s : State) (a : Axis) (x : AxisSt) (ix sub : Nat) : odN (setAxis s a x) ix sub = odN s ix sub :=
  odN_congr ((setAxis_only ..).store rfl) (setAxis_fuses ..) ix sub

@[simp] theorem odN_taken (s : State) (r : Req) (ix sub : Nat) : odN (taken s r) ix sub = odN s ix sub :=
  odN_congr ((taken_only ..).store rfl) (taken_fuses s r) ix sub

/-- The number of a numeric value. -/
@[simp] theorem valN_num (n : Int) : valN (.num n) = n.toNat := rfl

@[simp] theorem closed_servo (s u : State) : (closed s u).servo = u.servo := rfl

/-! ### Writes of the servo's objects (R408) -/

section
variable {s : State} {r : Req} {a : Axis} {d : Fin 3} {k : Byte} {v : Val}

/-- After a write that is done, servo and store read as its hook left them. -/
theorem write_reads {u : State} {ix sub : Nat} {data : Bytes} {h : State → WriteHook} (hw : WriteOk s r ix sub data h v)
    (hu : (h (taken s r)).run (taken s r) v = .done u) (hf : u.fuses = s.fuses) :
    ∃ t, outcome s (requestWrite s r ix sub data h) = .next t ∧ t.servo = u.servo ∧ ∀ i j, odN t i j = odN u i j := by
  obtain ⟨t, ht, honly, hfuses, -⟩ := write_done hw hu
  exact ⟨t, ht, honly.same .servo rfl, honly.odN rfl (hfuses.trans hf.symm)⟩

/-- A loop command keeps its code in its object and for the next latch (R247, R249). -/
theorem loopCommand_kept (hw : WriteOk s r (axisIx a) 1 [k] (loopHook a) v) :
    ∃ t, outcome s (requestWrite s r (axisIx a) 1 [k] (loopHook a)) = .next t ∧
      getAxis t a = { getAxis s a with cmd := some k.toNat } ∧ odN t (axisIx a) 1 = k.toNat := by
  have hv : v = .num (k.toNat : Nat) := hw.byte (.inl (by cases a <;> decide))
  obtain ⟨t, ht, hservo, hod⟩ := write_reads hw rfl (by simp)
  refine ⟨t, ht, ?_, ?_⟩
  · rw [getAxis_congr hservo]
    simp [hv]
  · rw [hod, odN_setAxis, hv]
    exact odN_odSetN ..

/-- A CLOSE that passes its gate finds SERVO powered and its conditions met (R249). -/
theorem closeCommand_checked (hw : WriteOk s r (axisIx a) 1 [1] (loopHook a) v) :
    domUp s .servo = true ∧ closeRefused s a = false := by
  have hv : v = .num 1 := hw.byte (.inl (by cases a <;> decide))
  obtain ⟨-, -, -, -, -, -, hgate⟩ := hw.passed
  have hup : domUp (taken s r) .servo = domUp s .servo := by simp [domUp]
  have hrefused : closeRefused (taken s r) a = closeRefused s a := by simp [closeRefused, decScs]
  have hdom : domUp s .servo = true := by
    refine eq_true_of_ne_false fun hoff => ?_
    simp [loopHook, hv, hup, hoff] at hgate
  have hmet : closeRefused s a = false := by
    refine eq_false_of_ne_true fun hunmet => ?_
    simp [loopHook, hv, hup, hdom, hrefused, hunmet] at hgate
  exact ⟨hdom, hmet⟩

/-- A fault clear that passes its gate marks the axis, which is in LOSS with 16 samples in band (R257). -/
theorem faultClear_marked (hw : WriteOk s r (axisIx a) 0x0F [1] (faultClearHook a) v) :
    ∃ t, outcome s (requestWrite s r (axisIx a) 0x0F [1] (faultClearHook a)) = .next t ∧
      getAxis t a = { getAxis s a with clear := true } ∧ (getAxis s a).st = .loss ∧ (getAxis s a).inRun = 16 := by
  have hv : v = .num 1 := hw.byte (.inr (by cases a <;> decide))
  obtain ⟨-, -, -, -, -, -, hgate⟩ := hw.passed
  have hrun : (faultClearHook a (taken s r)).run (taken s r) v =
      .done (setAxis (taken s r) a { getAxis s a with clear := true }) := by
    simp [faultClearHook, hv]
  obtain ⟨t, ht, hservo, -⟩ := write_reads hw hrun (by simp)
  refine ⟨t, ht, ?_, by simpa [faultClearHook, hv] using hgate⟩
  rw [getAxis_congr hservo, getAxis_setAxis_self]

/-- The run setting of a decimator: 0 stops it at once, 1 marks a start where it is off and SERVO is on (R236). -/
theorem decimatorRun_set (hw : WriteOk s r (0x5040 + d.val) 1 [k] (decRunHook d.val) v) :
    ∃ t, outcome s (requestWrite s r (0x5040 + d.val) 1 [k] (decRunHook d.val)) = .next t ∧
      odN t (0x5040 + d.val) 1 = k.toNat ∧
      tget t.servo.dec d.val = some (
        if k.toNat = 0 then decStop (tgetD s.servo.dec d.val {})
        else if (tgetD s.servo.dec d.val {}).on || !domOn s .servo then tgetD s.servo.dec d.val {}
        else { tgetD s.servo.dec d.val {} with starting := true }) := by
  have hrow : ∀ d : Fin 3, (objRow0 (0x5040 + d.val) 1).map (·.ty) = some (.u 1) := by decide
  have hv : v = .num (k.toNat : Nat) := hw.byte (.inl (hrow d))
  have hd : d.val % 3 = d.val := Nat.mod_eq_of_lt d.isLt
  have hon : domOn (taken s r) .servo = domOn s .servo := by simp [domOn]
  obtain ⟨t, ht, hservo, hod⟩ := write_reads hw rfl (by simp)
  refine ⟨t, ht, ?_, ?_⟩
  · rw [hod, hd, hv]
    exact odN_odSetN ..
  · rw [hservo, odSet_servo, tget_tset, if_pos rfl, taken_servo, hon, hv]
    rfl

/-- A trace command acts at once (R259). -/
theorem traceCommand_acts (hw : WriteOk s r 0x5060 4 [k] traceHook v) :
    ∃ t, outcome s (requestWrite s r 0x5060 4 [k] traceHook) = .next t ∧
      t.servo = (traceCommand (taken s r) k.toNat).servo := by
  have hv : v = .num (k.toNat : Nat) := hw.byte (.inl (by decide))
  have hfuses : (traceCommand (taken s r) (valN v)).fuses = s.fuses :=
    ((traceCommand_only ..).same .fuses rfl).trans (taken_fuses s r)
  obtain ⟨t, ht, hservo, -⟩ := write_reads hw rfl hfuses
  exact ⟨t, ht, by rw [hservo, hv]; rfl⟩

end

/-! ### LoopCommandsWaitForTheLatch -/

/-- Settles O23, command by command: what is kept, and for CLOSE and the fault clear what their gate has found. -/
theorem loopCommandsWaitForTheLatch : Obligations.LoopCommandsWaitForTheLatch := by
  intro s r a v
  refine ⟨fun hw => loopCommand_kept hw, fun hw => ?close, fun hw => loopCommand_kept hw, fun hw => faultClear_marked hw⟩
  obtain ⟨t, ht, haxis, hod⟩ := loopCommand_kept hw
  exact ⟨t, ht, haxis, hod, closeCommand_checked hw⟩

/-! ### External sources (R241) -/

/-- The expiry of a source hangs on nothing that another source's expiry changes: that one's input and the counter. -/
theorem sourceLate_expired (s : State) (y : ExtIn) (src : Nat) (x : ExtIn) :
    sourceLate (bump { s with servo := { s.servo with ana := y } } 0x5070 7) src x = sourceLate s src x := by
  have hod {ix sub : Nat} (hix : ix ≠ 0x5070) (hsub : sub < 256) :
      odN (bump { s with servo := { s.servo with ana := y } } 0x5070 7) ix sub = odN s ix sub :=
    (odN_bumpBy_other (.inl hix) (by decide) hsub ..).trans (odN_congr rfl rfl ix sub)
  unfold sourceLate sourceUsed axisUses since
  rw [hod (by decide) (by decide), hod (by decide) (by decide), hod (by decide) (by decide), hod (by decide) (by decide)]
  rfl

/-- The counter of source timeouts counts one up, whatever else of the servo changes. -/
theorem odN_sourceCount (s : State) (y : ServoSt) :
    odN (bump { s with servo := y } 0x5070 7) 0x5070 7 = satN 32 (odN s 0x5070 7 + 1) := by
  have hwidth : odWidth 0x5070 7 = 32 := by decide
  have hcount : odN { s with servo := y } 0x5070 7 = odN s 0x5070 7 := odN_congr rfl rfl ..
  rw [odN_bump, hwidth, hcount]

theorem sourceTimeout_analogue {s : State} (ha : sourceLate s 0 s.servo.ana = true)
    (hp : sourceLate s 1 s.servo.pulse = false) :
    sourceTimeout s = bump { s with servo := { s.servo with ana := { s.servo.ana with late := true } } } 0x5070 7 := by
  have hp' := (sourceLate_expired s { s.servo.ana with late := true } 1 s.servo.pulse).trans hp
  unfold sourceTimeout
  rw [if_pos ha]
  exact if_neg (Bool.eq_false_iff.1 hp')

theorem sourceTimeout_pulse {s : State} (ha : sourceLate s 0 s.servo.ana = false)
    (hp : sourceLate s 1 s.servo.pulse = true) :
    sourceTimeout s = bump { s with servo := { s.servo with pulse := { s.servo.pulse with late := true } } } 0x5070 7 := by
  unfold sourceTimeout
  rw [if_neg (Bool.eq_false_iff.1 ha)]
  exact if_pos hp

/-! ### DecimatorsAndSourcesRun -/

/-- Settles O24: the two run settings of a decimator, the two forms of an SP_PULSE update, and the expiry of either source. -/
theorem decimatorsAndSourcesRun : Obligations.DecimatorsAndSourcesRun := by
  intro s r d v high period count
  refine ⟨fun hw hon hoff => ?start, fun hw => decimatorRun_set hw, fun hon hmode hpos hmax hmin => ?period,
    fun hon hmode hpos => ?gate, fun ha hp => ?analogue, fun ha hp => ?pulse⟩
  case start =>
    obtain ⟨t, ht, hod, hdec⟩ := decimatorRun_set hw
    have hfree : ¬((tgetD s.servo.dec d.val {}).on || !domOn s .servo) = true := by rw [hoff, hon]; decide
    rw [if_neg (by decide), if_neg hfree] at hdec
    exact ⟨t, ht, hod, hdec⟩
  case period =>
    refine ⟨closed s (spPeriod s high period), rfl, ?_⟩
    simp [spPeriod, extUpdate, hon, hmode, hmax, hmin, Nat.pos_iff_ne_zero.1 hpos]
  case gate =>
    refine ⟨closed s (spGate s count), rfl, ?_⟩
    simp [spGate, extUpdate, hon, hmode, Nat.pos_iff_ne_zero.1 hpos]
  case analogue =>
    refine ⟨closed s (sourceTimeout s), rfl, ?_⟩
    rw [odN_closed ((sourceTimeout_only s).same .fuses rfl), closed_servo, sourceTimeout_analogue ha hp]
    exact ⟨rfl, rfl, odN_sourceCount ..⟩
  case pulse =>
    refine ⟨closed s (sourceTimeout s), rfl, ?_⟩
    rw [odN_closed ((sourceTimeout_only s).same .fuses rfl), closed_servo, sourceTimeout_pulse ha hp]
    exact ⟨rfl, rfl, odN_sourceCount ..⟩

/-! ### The trace buffer (R259) -/

/-- The trigger that an armed buffer waits for. -/
theorem traceTrigger_armed {s : State} {code : Nat} (hst : s.servo.trace.st = .armed) (hcode : odN s 0x5060 2 = code) :
    (traceTrigger s code).servo.trace = { s.servo.trace with
      st := .recording, recs := s.servo.trace.recs.take (odN s 0x5060 3)
      held := min (odN s 0x5060 3) s.servo.trace.recs.length, left := 4096 - odN s 0x5060 3, tick := s.tick.num } := by
  simp [traceTrigger, hst, hcode]

/-- A stop leaves what was recorded. -/
theorem traceCommand_stop {s : State} (hst : s.servo.trace.st ≠ .done) :
    (traceCommand s 0).servo.trace = { s.servo.trace with st := .idle } := by
  simp [traceCommand, hst]

/-- The end of a recording that has no record left. -/
theorem exec_traceDone {s : State} (hst : s.servo.trace.st = .recording) (hleft : s.servo.trace.left = 0) :
    exec .traceDone s = .next (closed s (setInt { s with servo := { s.servo with
      trace := { s.servo.trace with st := .done } } } 16)) := by
  have hdue : (decide (s.servo.trace.st = .recording) && decide (s.servo.trace.left = 0)) = true := by simp [hst, hleft]
  exact congrArg (fun u => Host.Outcome.next (closed s u)) (if_pos hdue)

/-! ### TraceBufferFollowsItsCommands -/

/-- Settles O25: the three commands of the trace buffer and the end of a recording. -/
theorem traceBufferFollowsItsCommands : Obligations.TraceBufferFollowsItsCommands := by
  intro s r v
  refine ⟨fun hw => ?arm, fun hw hst htrig => ?manual, fun hw hst => ?stop, fun hst hleft => ?done⟩
  case arm =>
    obtain ⟨t, ht, hservo⟩ := traceCommand_acts hw
    have htrace : t.servo.trace = { st := .armed } := congrArg ServoSt.trace hservo
    exact ⟨t, ht, by rw [htrace], by rw [htrace]⟩
  case manual =>
    obtain ⟨t, ht, hservo⟩ := traceCommand_acts hw
    have htrace : t.servo.trace = (traceTrigger (taken s r) 0).servo.trace := congrArg ServoSt.trace hservo
    rw [traceTrigger_armed (by simpa using hst) (by simpa using htrig)] at htrace
    exact ⟨t, ht, by simp [htrace]⟩
  case stop =>
    obtain ⟨t, ht, hservo⟩ := traceCommand_acts hw
    have htrace : t.servo.trace = (traceCommand (taken s r) 0).servo.trace := congrArg ServoSt.trace hservo
    exact ⟨t, ht, by rw [htrace, traceCommand_stop (by simpa using hst), taken_servo]⟩
  case done =>
    exact ⟨_, exec_traceDone hst hleft, by simp⟩

/-! ### Drives (R228, R229) -/

/-- The shadow of an axis after DRIVE_VALUE_WRITE. -/
theorem exec_driveValueWrite {s : State} (hon : domOn s .servo = true) :
    ∃ t, exec .driveValueWrite s = .next t ∧ ∀ a, getAxis t a = axisDrive s a (getAxis s a) := by
  refine ⟨_, congrArg (fun u => Host.Outcome.next (closed s u)) (if_pos hon), fun a => ?_⟩
  cases a <;> rfl

/-- The legs idle in OFF alone (R229). -/
theorem axisDrive_idleNext (s : State) (a : Axis) (x : AxisSt) : (axisDrive s a x).idleNext = (x.st == .off) := by
  cases hst : x.st
  case parking => cases hramp : x.ramp <;> simp [axisDrive, hst, hramp]
  all_goals simp [axisDrive, hst]

/-- A park ramp takes its next step, and none behind its last (R248). -/
theorem axisDrive_parking (s : State) (a : Axis) {x : AxisSt} {p : Ramp} (hst : x.st = .parking) (hp : x.ramp = some p) :
    axisDrive s a x = { x with
      ramp := some { p with i := min p.n (p.i + 1) }
      shadow := p.d0 + roundDiv ((p.dp - p.d0) * (min p.n (p.i + 1) : Nat)) p.n, idleNext := false } := by
  simp [axisDrive, hst, hp]

/-! ### Inhibit causes that stay active -/

section
variable {s : State} {i : Nat}

@[simp] theorem halt_active (s : State) (b : Nat) : (halt s b).emit.active = s.emit.active := by
  simp [halt, stopRecord, banksZero]

/-- A cause stays active when another is raised. -/
theorem inhibit_keeps_active (b : Nat) (h : s.emit.active.getLsbD i = true) :
    (inhibit s b).emit.active.getLsbD i = true := by
  unfold inhibit
  split
  · exact h
  · simp [h]

/-- A cause stays active when the condition of another goes. -/
theorem inhibitClear_keeps_active {b : Nat} (hne : i ≠ b) (h : s.emit.active.getLsbD i = true) :
    (inhibitClear s b).emit.active.getLsbD i = true := by
  have hi : i < 12 := BitVec.lt_of_getLsbD h
  have hplace : i < b ∨ i - b ≠ 0 := by omega
  simp [inhibitClear, h, hi, hplace]

/-- The island's request holds and releases its own cause alone (R313). -/
theorem islInhibit_keeps_active (hne : i ≠ 8) (h : s.emit.active.getLsbD i = true) :
    (islInhibit s).emit.active.getLsbD i = true := by
  unfold islInhibit inhibitSet
  split
  · exact inhibit_keeps_active 8 h
  · exact inhibitClear_keeps_active hne h

@[simp] theorem islOutputs_emit (s : State) (b : Bool) : (islOutputs s b).emit = s.emit :=
  (islOutputs_only ..).same .emit rfl

@[simp] theorem islEnter_emit (s : State) (st : IslState) : (islEnter s st).emit = s.emit :=
  (islEnter_only ..).same .emit rfl

theorem islCause_keeps_active (b : Nat) (hne : i ≠ 8) (h : s.emit.active.getLsbD i = true) :
    (islCause s b).emit.active.getLsbD i = true := by
  unfold islCause
  split
  · exact h
  · refine islInhibit_keeps_active hne ?_
    dsimp only
    split
    · simpa using h
    · split
      · simpa using h
      · exact h

theorem escalate_keeps_active (g : FGroup) (hne : i ≠ 8) (h : s.emit.active.getLsbD i = true) :
    (escalate s g).emit.active.getLsbD i = true := by
  unfold escalate
  exact islCause_keeps_active 11 hne (by simpa using h)

/-- A fault that is notified changes host interface and emission by FAULT and by its escalation alone (R327). -/
theorem reportFault_host_emit (s : State) (g : FGroup) : ∃ u, (u = setInt s 17 ∨ u = escalate (setInt s 17) g) ∧
    (reportFault s g).host = u.host ∧ (reportFault s g).emit = u.emit := by
  unfold reportFault
  generalize setInt s 17 = w
  have hite (c : Bool) : (if c then escalate w g else w) = w ∨ (if c then escalate w g else w) = escalate w g := by
    cases c
    · exact .inl rfl
    · exact .inr rfl
  dsimp only
  refine ⟨_, hite (inRecovery w g || !w.fm.running.isNone && decide (8 ≤ w.fm.queue.length)), ?_⟩
  split
  · exact ⟨rfl, rfl⟩
  · split <;> exact ⟨rfl, rfl⟩

theorem reportFault_keeps_bit (g : FGroup) (h : s.host.intStatus.getLsbD i = true) :
    (reportFault s g).host.intStatus.getLsbD i = true := by
  have hset := setInt_keeps_bit 17 h
  obtain ⟨u, hu, hhost, -⟩ := reportFault_host_emit s g
  rw [hhost]
  rcases hu with rfl | rfl
  · exact hset
  · exact escalate_keeps_bit g hset

theorem reportFault_keeps_active (g : FGroup) (hne : i ≠ 8) (h : s.emit.active.getLsbD i = true) :
    (reportFault s g).emit.active.getLsbD i = true := by
  have hset : (setInt s 17).emit.active.getLsbD i = true := by rwa [setInt_emit]
  obtain ⟨u, hu, -, hemit⟩ := reportFault_host_emit s g
  rw [hemit]
  rcases hu with rfl | rfl
  · exact hset
  · exact escalate_keeps_active g hne hset

end

/-! ### Loss of feedback (R256) -/

section
variable {s : State} {a : Axis} {c : Nat}

/-- The counter of a loss by its cause: a frozen position has one of its own. -/
def lossCounter (c : Nat) : Nat := if c = 2 then 2 else 1

/-- A loss as the servo takes it: the axis parks and the loss is counted. -/
def lossTaken (s : State) (a : Axis) (c : Nat) : State :=
  bump (setAxis s a (lossPark s a (getAxis s a) c)) 0x5070 (lossCounter c)

/-- A loss as it is reported: the inhibit cause SERVO, the servo interrupt, and the island's cause under a safety configuration. -/
def lossRaised (s : State) : State :=
  if cfgActive (setInt (inhibit s 4) 8) then islCause (setInt (inhibit s 4) 8) 6 else setInt (inhibit s 4) 8

theorem feedbackLoss_eq (h : (getAxis s a).lossDue = some c) :
    feedbackLoss s a = reportFault (lossRaised (lossTaken s a c)) .beam := by
  have hcount (u : State) : (if c = 2 then bump u 0x5070 2 else bump u 0x5070 1) = bump u 0x5070 (lossCounter c) := by
    unfold lossCounter; split <;> rfl
  simp only [feedbackLoss, h, hcount]
  rfl

theorem lossReported_only (s : State) : Only [.emit, .regs 0x4000 1, .pwr, .irq, .out, .isl, .fm, .regs 0x8001 1] s
    (reportFault (lossRaised s) .beam) := by
  have hraised : Only [.emit, .regs 0x4000 1, .pwr, .irq, .out, .isl, .fm, .regs 0x8001 1] s (setInt (inhibit s 4) 8) :=
    (setInt_only ..).step rfl ((inhibit_only ..).mono rfl)
  exact (reportFault_only ..).step rfl (Only.ite ((islCause_only ..).step rfl hraised) hraised)

/-- The servo interrupt and the inhibit cause SERVO stand after the report of a loss. -/
theorem lossReported_raises (s : State) : (reportFault (lossRaised s) .beam).host.intStatus.getLsbD 8 = true ∧
    (reportFault (lossRaised s) .beam).emit.active.getLsbD 4 = true := by
  have hint : (setInt (inhibit s 4) 8).host.intStatus.getLsbD 8 = true := setInt_getLsbD _ (by decide)
  have hactive : (setInt (inhibit s 4) 8).emit.active.getLsbD 4 = true := by
    rw [setInt_emit]; exact inhibit_active s (by decide)
  unfold lossRaised
  split
  · exact ⟨reportFault_keeps_bit _ (islCause_keeps_bit 6 hint),
      reportFault_keeps_active _ (by decide) (islCause_keeps_active 6 (by decide) hactive)⟩
  · exact ⟨reportFault_keeps_bit _ hint, reportFault_keeps_active _ (by decide) hactive⟩

theorem getAxis_feedbackLoss (h : (getAxis s a).lossDue = some c) :
    getAxis (feedbackLoss s a) a = lossPark s a (getAxis s a) c := by
  rw [feedbackLoss_eq h, getAxis_congr ((lossReported_only _).same .servo rfl), lossTaken, getAxis_congr (bump_servo ..),
    getAxis_setAxis_self]

theorem odN_feedbackLoss (h : (getAxis s a).lossDue = some c) :
    odN (feedbackLoss s a) 0x5070 (lossCounter c) = satN 32 (odN s 0x5070 (lossCounter c) + 1) := by
  have hplace : lossCounter c < 256 ∧ odWidth 0x5070 (lossCounter c) = 32 := by unfold lossCounter; split <;> decide
  obtain ⟨hsub, hwidth⟩ := hplace
  have honly := lossReported_only (lossTaken s a c)
  rw [feedbackLoss_eq h, honly.odN_spared (honly.same .fuses rfl) (by decide) hsub, lossTaken, odN_bump, odN_setAxis, hwidth]

end

/-! ### DriveAndFeedbackLoss -/

/-- Settles O26: the shadow by axis state, and what FEEDBACK_LOSS does to its axis, the counters and the causes. -/
theorem driveAndFeedbackLoss : Obligations.DriveAndFeedbackLoss := by
  refine ⟨fun s hon => ?drive, fun s a c h => ?loss⟩
  case drive =>
    obtain ⟨t, ht, haxis⟩ := exec_driveValueWrite hon
    refine ⟨t, ht, fun a => ?_⟩
    rw [haxis a]
    refine ⟨fun hst => by simp [axisDrive, hst], axisDrive_idleNext .., fun hst => by simp [axisDrive, hst],
      fun hst => by simp [axisDrive, hst], fun p hst hp => ?_⟩
    rw [axisDrive_parking s a hst hp]
    exact ⟨rfl, rfl⟩
  case loss =>
    obtain ⟨hint, hactive⟩ := lossReported_raises (lossTaken s a c)
    rw [← feedbackLoss_eq h] at hint hactive
    refine ⟨closed s (feedbackLoss s a), rfl, ?_⟩
    rw [getAxis_congr (closed_servo ..), getAxis_feedbackLoss h, odN_closed ((feedbackLoss_only ..).same .fuses rfl)]
    exact ⟨rfl, rfl, rfl, rfl, rfl, odN_feedbackLoss h, hint, hactive⟩

end Sys2Proof.Machine
end

section
/-! Cameras: the port commands, the frame watchdog and the end of a CAM_FSYNC pulse (R285, R287). -/

namespace Sys2Proof.Machine

/-! ### Cameras and the store -/

theorem getCam_congr {s t : State} (h : t.cams = s.cams) (k : Nat) : getCam t k = getCam s k := by
  unfold getCam; rw [h]

@[simp] theorem getCam_updCam_self (s : State) (k : Nat) (f : CamSt → CamSt) : getCam (updCam s k f) k = f (getCam s k) := by
  rw [getCam, updCam, tgetD, tget_tset, if_pos rfl]
  rfl

@[simp] theorem getCam_odSet (s : State) (k ix sub : Nat) (v : Val) : getCam (odSet s ix sub v) k = getCam s k := rfl

@[simp] theorem getCam_bump (s : State) (k ix sub : Nat) : getCam (bump s ix sub) k = getCam s k := rfl

@[simp] theorem getCam_taken (s : State) (r : Req) (k : Nat) : getCam (taken s r) k = getCam s k :=
  getCam_congr (taken_cams s r) k

@[simp] theorem getCam_closed (s u : State) (k : Nat) : getCam (closed s u) k = getCam u k := rfl

@[simp] theorem camPowered_odSet (s : State) (ix sub : Nat) (v : Val) : camPowered (odSet s ix sub v) = camPowered s := rfl

@[simp] theorem camPowered_taken (s : State) (r : Req) : camPowered (taken s r) = camPowered s := by
  simp [camPowered, hasCam, domOn]

/-! ### A port enters a state (R287) -/

/-- The counts of frames start anew, and the watchdog is armed. -/
@[simp] theorem getCam_camEnter (s : State) (k : Nat) (st : PortState) :
    getCam (camEnter s k st) k = { getCam s k with st := st, good := 0, bad := 0, armed := s.tick.num } := by
  unfold camEnter
  rw [getCam_updCam_self]
  split
  · rfl
  · rw [getCam_congr (setInt_cams s 9), setInt_tick]

/-- A change of state is reported (R380). -/
theorem camEnter_host {s : State} {k : Nat} {st : PortState} (h : (getCam s k).st ≠ st) :
    (camEnter s k st).host = (setInt s 9).host := by
  unfold camEnter
  rw [if_neg h]
  rfl

@[simp] theorem odN_camEnter (s : State) (k : Nat) (st : PortState) (ix sub : Nat) :
    odN (camEnter s k st) ix sub = odN s ix sub :=
  (camEnter_only ..).odN rfl ((camEnter_only ..).same .fuses rfl) ix sub

theorem portOff_reads (s : State) (k : Nat) :
    (getCam (portOff s k) k).st = .off ∧ (getCam (portOff s k) k).lastFs = none := by
  simp [portOff]

/-- A port that is enabled where no test is requested starts up. -/
theorem portOn_startup {s : State} {k : Nat} (hon : camPowered s = true) (hoff : (getCam s k).st = .off)
    (htest : odN s (0x6000 + k) 0x0F = 0) : portOn s k = camEnter s k .startup := by
  simp [portOn, camFirst, odB, hon, hoff, htest]

/-! ### Writes of a port's objects (R408) -/

section
variable {s : State} {r : Req} {k : Fin 2} {b : Byte} {v : Val}

theorem camIndex_mod (k : Fin 2) : k.val % 2 = k.val := Nat.mod_eq_of_lt k.isLt

/-- After a write that is done, cameras and store read as its hook left them. -/
theorem write_reads_cams {u : State} {ix sub : Nat} {data : Bytes} {h : State → WriteHook} (hw : WriteOk s r ix sub data h v)
    (hu : (h (taken s r)).run (taken s r) v = .done u) (hf : u.fuses = s.fuses) :
    ∃ t, outcome s (requestWrite s r ix sub data h) = .next t ∧ (∀ j, getCam t j = getCam u j) ∧
      ∀ i j, odN t i j = odN u i j := by
  obtain ⟨t, ht, honly, hfuses, -⟩ := write_done hw hu
  exact ⟨t, ht, getCam_congr (honly.same .cams rfl), honly.odN rfl (hfuses.trans hf.symm)⟩

/-- The request for the test image has its default whatever else is stored. -/
theorem odDefault_testRequest (k : Fin 2) (t u : State) :
    odDefault t (0x6000 + k.val) 0x0F = odDefault u (0x6000 + k.val) 0x0F := by
  have hrow : ∀ k : Fin 2, objRow (0x6000 + k.val) 0x0F =
      some ⟨0x6000, 2, 15, 1, .bool, 11, .rw, .none, 0, 1, 0, .no, .cam⟩ := by decide
  rw [odDefault, odDefault, hrow]
  rfl

theorem odN_testRequest_enable (s : State) (k : Fin 2) (v : Val) :
    odN (odSet s (0x6000 + k.val) 1 v) (0x6000 + k.val) 0x0F = odN s (0x6000 + k.val) 0x0F := by
  have hkey : odKey (0x6000 + k.val) 0x0F ≠ odKey (0x6000 + k.val) 1 := by unfold odKey; omega
  rw [odN, odI, odGet, odSet, tget_tset, if_neg hkey, odDefault_testRequest k _ s]
  rfl

theorem portEnable_value (hw : WriteOk s r (0x6000 + k.val) 1 [b] (portHook k.val) v) : v = .num (b.toNat : Nat) := by
  have hrow : ∀ k : Fin 2, (objRow0 (0x6000 + k.val) 1).map (·.ty) = some .bool := by decide
  exact hw.byte (.inr (hrow k))

theorem portEnable_starts (hw : WriteOk s r (0x6000 + k.val) 1 [1] (portHook k.val) v) (hon : camPowered s = true)
    (hoff : (getCam s k.val).st = .off) (htest : odN s (0x6000 + k.val) 0x0F = 0) :
    ∃ t, outcome s (requestWrite s r (0x6000 + k.val) 1 [1] (portHook k.val)) = .next t ∧
      (getCam t k.val).st = .startup ∧ (getCam t k.val).armed = s.tick.num ∧ odN t (0x6000 + k.val) 1 = 1 := by
  have hv : v = .num 1 := portEnable_value hw
  have hstart : portOn (odSet (taken s r) (0x6000 + k.val) 1 (.num 1)) k =
      camEnter (odSet (taken s r) (0x6000 + k.val) 1 (.num 1)) k .startup :=
    portOn_startup (by simpa using hon) (by simpa using hoff) (by rw [odN_testRequest_enable, odN_taken, htest])
  have hrun : (portHook k.val (taken s r)).run (taken s r) v =
      .done (camEnter (odSet (taken s r) (0x6000 + k.val) 1 (.num 1)) k .startup) := by
    rw [← hstart, hv]
    simp [portHook, camIndex_mod]
  obtain ⟨t, ht, hcam, hod⟩ := write_reads_cams hw hrun
    (((camEnter_only ..).same .fuses rfl).trans (by simp))
  refine ⟨t, ht, ?_, ?_, ?_⟩
  · rw [hcam, getCam_camEnter]
  · rw [hcam, getCam_camEnter]; simp
  · rw [hod, odN_camEnter]; exact odN_odSetN ..

theorem portDisable_stops (hw : WriteOk s r (0x6000 + k.val) 1 [0] (portHook k.val) v) :
    ∃ t, outcome s (requestWrite s r (0x6000 + k.val) 1 [0] (portHook k.val)) = .next t ∧
      (getCam t k.val).st = .off ∧ (getCam t k.val).lastFs = none ∧ odN t (0x6000 + k.val) 1 = 0 := by
  have hv : v = .num 0 := portEnable_value hw
  have hrun : (portHook k.val (taken s r)).run (taken s r) v =
      .done (portOff (odSet (taken s r) (0x6000 + k.val) 1 (.num 0)) k) := by
    rw [hv]
    simp [portHook, camIndex_mod]
  have honly := portOff_only (odSet (taken s r) (0x6000 + k.val) 1 (.num 0)) k
  have hfuses := honly.same .fuses rfl
  obtain ⟨t, ht, hcam, hod⟩ := write_reads_cams hw hrun (hfuses.trans (by simp))
  obtain ⟨hst, hlast⟩ := portOff_reads (odSet (taken s r) (0x6000 + k.val) 1 (.num 0)) k
  refine ⟨t, ht, by rw [hcam, hst], by rw [hcam, hlast], ?_⟩
  rw [hod, honly.odN_spared hfuses (by simp [Part.spares]; omega) (by decide)]
  exact odN_odSetN ..

/-- A test request, by the port's state: the state that follows. -/
theorem testRequest_enters {st : PortState}
    (hw : WriteOk s r (0x6000 + k.val) 0x0F [b] (testHook k.val) v)
    (h : (getCam s k.val).st = .normal ∧ b.toNat ≠ 0 ∧ st = .test ∨
      (getCam s k.val).st = .test ∧ b.toNat = 0 ∧ st = .startup) :
    ∃ t, outcome s (requestWrite s r (0x6000 + k.val) 0x0F [b] (testHook k.val)) = .next t ∧
      (getCam t k.val).st = st ∧ odN t (0x6000 + k.val) 0x0F = b.toNat := by
  have hrow : ∀ k : Fin 2, (objRow0 (0x6000 + k.val) 0x0F).map (·.ty) = some .bool := by decide
  have hv : v = .num (b.toNat : Nat) := hw.byte (.inr (hrow k))
  have hrun : (testHook k.val (taken s r)).run (taken s r) v =
      .done (camEnter (odSet (taken s r) (0x6000 + k.val) 0x0F v) k st) := by
    rcases h with ⟨hst, hb, rfl⟩ | ⟨hst, hb, rfl⟩ <;> simp [testHook, camIndex_mod, hst, hv, hb]
  obtain ⟨t, ht, hcam, hod⟩ := write_reads_cams hw hrun
    (((camEnter_only ..).same .fuses rfl).trans (by simp))
  refine ⟨t, ht, ?_, ?_⟩
  · rw [hcam, getCam_camEnter]
  · rw [hod, odN_camEnter, hv]; exact odN_odSetN ..

end

/-! ### The frame watchdog (R287) -/

section
variable {s : State} {k : Fin 2}

theorem frameTimeout_reported (hon : camPowered s = true)
    (hdue : msTicks (odN s (0x6000 + k.val) 0x0D) ≤ since s (getCam s k.val).armed)
    (hst : (getCam s k.val).st = .startup ∨ (getCam s k.val).st = .recovery) :
    frameTimeout s k.val = camEnter (reportFault (bump s (0x6008 + k.val) 0x0B) .platform) k.val .absent := by
  rcases hst with hst | hst <;> simp [frameTimeout, camIndex_mod, hon, hdue, hst]

theorem frameTimeout_inTest (hon : camPowered s = true)
    (hdue : msTicks (odN s (0x6000 + k.val) 0x0D) ≤ since s (getCam s k.val).armed) (hst : (getCam s k.val).st = .test) :
    frameTimeout s k.val = camEnter (bump s (0x6008 + k.val) 0x0B) k.val .absent := by
  simp [frameTimeout, camIndex_mod, hon, hdue, hst]

end

/-! ### CameraPortsAndSync -/

/-- Settles O28: the enable and test writes through their hooks, the timeout with and without its notification, and the pulse that
has lasted its width, or has not. -/
theorem cameraPortsAndSync : Obligations.CameraPortsAndSync := by
  intro s k r v
  refine ⟨portEnable_starts, portDisable_stops, fun hw hst => ?toTest, fun hw hst => ?fromTest, fun hon hdue hst => ?timeout,
    fun hon hdue hst => ?timeoutInTest, fun hsync hleft => ?falls, fun hleft => ?lasts⟩
  case toTest => exact testRequest_enters hw (.inl ⟨hst, by decide, rfl⟩)
  case fromTest => exact testRequest_enters hw (.inr ⟨hst, rfl, rfl⟩)
  case timeout =>
    have hst' : (getCam (reportFault (bump s (0x6008 + k.val) 0x0B) .platform) k.val).st ≠ .absent := by
      rw [getCam_congr (reportFault_cams ..), getCam_bump]
      rcases hst with hst | hst <;> simp [hst]
    have honly := reportFault_only (bump s (0x6008 + k.val) 0x0B) .platform
    refine ⟨closed s (frameTimeout s k.val), rfl, ?_⟩
    rw [odN_closed ((frameTimeout_only ..).same .fuses rfl), getCam_closed, closed_host, frameTimeout_reported hon hdue hst,
      getCam_camEnter, camEnter_host hst', odN_camEnter,
      honly.odN_spared (honly.same .fuses rfl) (by simp [Part.spares]; omega) (by decide), odN_bump]
    exact ⟨rfl, setInt_keeps_bit 9 (reportFault_fault ..), rfl⟩
  case timeoutInTest =>
    refine ⟨closed s (frameTimeout s k.val), rfl, ?_⟩
    rw [getCam_closed, closed_host, frameTimeout_inTest hon hdue hst, getCam_camEnter,
      camEnter_host (by simp [hst]), setInt_intStatus]
    exact ⟨rfl, rfl⟩
  case falls =>
    refine ⟨closed s (fsyncEnd s k.val), rfl, ?_⟩
    rw [getCam_closed, fsyncEnd, if_pos hleft, fsyncLow, if_pos hsync, getCam_updCam_self]
    exact ⟨rfl, rfl⟩
  case lasts =>
    have hkept : fsyncEnd s k.val = s := if_neg (Nat.not_lt.2 hleft)
    exact congrArg (outcome s) hkept

end Sys2Proof.Machine
end

section
/-! The frame of the cameras and the acquisition engine: what their commands can change. -/

namespace Sys2Proof.Machine

/-- Settles O55: the meaning of each command keeps to its parts, as the frame lemma of that meaning says, and the command does
no more than that. -/
theorem frameOfCamerasAndAcquisition : Obligations.FrameOfCamerasAndAcquisition :=
  ⟨execFrameStart_only, execFrameEnd_only, execLinePacket_only, execLineService_only, execFrameStored_only,
    execFrameTimeout_only, execPortEnableWrite_only, execTestRequestWrite_only, execCamFsyncPulseEnd_only, execAcqArm_only,
    execAcqStop_only, execAcqManualTrigger_only, execAcqRow_only, execAcqDrainComplete_only, execAcqQdrWrite_only⟩

end Sys2Proof.Machine
end

section
/-! The slots of the frame store: a stored frame in a table of slots whose keys do not rise (R296). -/

namespace Sys2Proof.Machine

/-! ### FRAME_STORED (R291, R296, R298) -/

section
variable {s : State} {k : Nat} {f : CamFrame}

/-- A frame as it stands in its slot (R295). -/
def storedFrame (f : CamFrame) : StoredFrame :=
  { seq := f.seq, tmid := f.tmid, bad := f.short || f.trunc, base := f.base, w := f.w, px := f.px }

/-- The last line of a frame leaves the demosaic stage, where one is held. -/
def lastLineOut (s : State) (k : Nat) (f : CamFrame) : State :=
  match f.mem with
  | [] => s
  | (j, cur) :: _ => camOut s k f j cur none

theorem lastLineOut_only (s : State) (k : Nat) (f : CamFrame) :
    Only [.free, .acq, .qdr, .regs 0xC020 16, .lane, .rings, .irq, .out] s (lastLineOut s k f) := by
  unfold lastLineOut
  split
  · exact .refl _ s
  · exact camOut_only ..

/-- What FRAME_STORED has done before the frame takes its slot: the last line has left, the descriptor is written and sent. -/
def frameDescribed (s : State) (k : Nat) (f : CamFrame) : State :=
  let s := camSend (qdrWrite (lastLineOut s k f) (f.base + f.w * f.h * f.px) (frameDesc k f)) k false 5 (frameDesc k f)
  if odN s (0x6006 + k) 3 = 0 then s else camSend s k true 5 (frameDesc k f)

theorem frameDescribed_only (s : State) (k : Nat) (f : CamFrame) :
    Only [.free, .acq, .qdr, .regs 0xC020 16, .lane, .rings, .irq, .out] s (frameDescribed s k f) := by
  have hsent (bs : Bytes) : Only [.free, .acq, .qdr, .regs 0xC020 16, .lane, .rings, .irq, .out] s
      (camSend (qdrWrite (lastLineOut s k f) (f.base + f.w * f.h * f.px) bs) k false 5 bs) :=
    (camSend_only ..).step rfl ((qdrWrite_only ..).step rfl (lastLineOut_only s k f))
  exact .ite (hsent _) ((camSend_only ..).step rfl (hsent _))

theorem frameStored_eq (hon : camPowered s = true) (hf : storable (getCam s k) = some f)
    (hfree : (f.mem.isEmpty && slotRead s k f.slot) = false) :
    frameStored s k = updCam (frameDescribed s k f) k fun c => { c with
      frames := c.frames.filter fun x => x.seq != f.seq
      slots := candidates (odN (frameDescribed s k f) (0x6010 + k) 2) (tset c.slots f.slot (storedFrame f)) } := by
  simp only [frameStored, hon, hf, hfree]
  rfl

/-- The slots after FRAME_STORED: the frame takes its slot, and the candidates stay. -/
theorem frameStored_slots (hk : k < 2) (hon : camPowered s = true) (hf : storable (getCam s k) = some f)
    (hfree : (f.mem.isEmpty && slotRead s k f.slot) = false) : (getCam (frameStored s k) k).slots =
      candidates (odN s (0x6010 + k) 2) (tset (getCam s k).slots f.slot (storedFrame f)) := by
  have honly := frameDescribed_only s k f
  rw [frameStored_eq hon hf hfree, getCam_updCam_self, getCam_congr (honly.same .cams rfl),
    honly.odN_spared (honly.same .fuses rfl) (by simp [Part.spares]; omega) (by decide)]

end

/-! ### CameraFramesAndLines -/

/-- A frame that has closed with its lines served, for slot 0. -/
def closedFrame : CamFrame :=
  { seq := 9, no := 9, tfs := 0, tmid := 0, slot := 0, state := 2, w := 16, h := 16, bits := 12, order := 0, base := 0, px := 4
    black := [], defects := [], gains := [], matrix := [], curveX := [], curveY := [], fadeN := 1, fadeJ := 0, fading := false
    syncMiss := false, closed := true }

/-- The frame that slot 0 holds before it. -/
def oldFrame : StoredFrame := { seq := 0, tmid := 0, bad := false, base := 0, w := 16, px := 4 }

/-- The slots of a ring of two, listed with slot 1 first: a table whose keys do not rise. -/
def fallingSlots : Tbl StoredFrame := [(1, { oldFrame with seq := 3, base := 2048 }), (0, oldFrame)]

/-- Camera 0 with that frame and those slots. -/
def fallingState : State :=
  { pwr.on := 0x1FF, cams := [(0, { st := .normal, frames := [closedFrame], slots := fallingSlots })]
    od := [(odKey 0x6010 2, .num 2)] }

/-- The new entry of slot 0 enters in front of the old one, and with the oldest frame both entries of its slot leave. -/
theorem candidates_fallingSlots : tget (candidates 2 (tset fallingSlots 0 (storedFrame closedFrame))) 0 = none := by
  decide

/-- Refutes O27, in its clause on FRAME_STORED: it asks of the table of slots that its keys differ, not that they rise. In a table
that does not rise the frame's entry is set in front of an older one of the same slot, and is lost with that one when the oldest
frame leaves the candidates. -/
theorem not_cameraFramesAndLines : ¬ Obligations.CameraFramesAndLines := by
  intro h
  obtain ⟨-, -, -, -, -, hstored, -⟩ := h fallingState 0
  have hseq : ∀ p ∈ fallingSlots, p.1 ≠ closedFrame.slot → p.2.seq < closedFrame.seq := by decide
  obtain ⟨t, ht, -, hslot, -⟩ := hstored closedFrame rfl rfl rfl (.inr rfl) (Nat.le_refl 2) (by decide) hseq
  have hcam : getCam t 0 = getCam (frameStored fallingState 0) 0 := by
    rw [← Host.Outcome.next.inj ht]
    rfl
  have hslots : (getCam t 0).slots = candidates 2 (tset fallingSlots 0 (storedFrame closedFrame)) := by
    rw [hcam]
    exact frameStored_slots (f := closedFrame) (by decide) rfl rfl rfl
  have hnone : tget (getCam t 0).slots 0 = none := by rw [hslots, candidates_fallingSlots]
  cases hnone.symm.trans hslot

end Sys2Proof.Machine
end

section
/-! The acquisition engine: the write rule of its command, a row, and what its FIFO brings to QDR (R329, R337, R340, R342,
R344). -/

namespace Sys2Proof.Machine

/-! ### The engine and the store -/

@[simp] theorem updAcq_acq (s : State) (f : AcqSt → AcqSt) : (updAcq s f).acq = f s.acq := rfl
@[simp] theorem updAcq_qdr (s : State) (f : AcqSt → AcqSt) : (updAcq s f).qdr = s.qdr := rfl
@[simp] theorem closed_acq (s u : State) : (closed s u).acq = u.acq := rfl

@[simp] theorem odN_updAcq (s : State) (f : AcqSt → AcqSt) (ix sub : Nat) : odN (updAcq s f) ix sub = odN s ix sub :=
  odN_congr rfl rfl ix sub

/-- What the registers of another index read does not hang on the ones put back to their defaults. -/
theorem odN_odReset_other {ix ix' sub : Nat} (h : ix' ≠ ix) (hsub : sub < 256) (s : State) :
    odN (odReset s ix) ix' sub = odN s ix' sub :=
  (odReset_only s ix).odN_spared rfl (by simp [Part.spares]; omega) hsub

/-- The slots follow from the settings of the capture and the probes. -/
theorem acqSlots_congr {s t : State} (hset : ∀ sub < 256, odN t 0x7000 sub = odN s 0x7000 sub)
    (hprobe : ∀ p, ∀ sub < 256, odN t (0x7010 + p) sub = odN s (0x7010 + p) sub) : acqSlots t = acqSlots s := by
  have hR : acqR t = acqR s := hset 8 (by decide)
  have hkind : probeKind t = probeKind s := funext fun p => hprobe p 1 (by decide)
  unfold acqSlots acqSlot
  rw [hR, hkind, hset 5 (by decide)]
  simp only [hprobe _ 4 (by decide)]

theorem acqSlots_clearStatus (s : State) : acqSlots (odReset s 0x7001) = acqSlots s :=
  acqSlots_congr (fun _ h => odN_odReset_other (by decide) h s) fun _ _ h => odN_odReset_other (by omega) h s

theorem acqSlots_taken (s : State) (r : Req) : acqSlots (taken s r) = acqSlots s :=
  acqSlots_congr (fun _ _ => odN_taken ..) fun _ _ _ => odN_taken ..

theorem acqOverlap_taken (s : State) (r : Req) : acqOverlap (taken s r) = acqOverlap s := by
  have hod : odN (taken s r) = odN s := funext fun ix => funext (odN_taken s r ix)
  unfold acqOverlap storeSpan storePixel odB hasCam
  rw [hod, taken_fuses]

/-- Whether an arm is refused does not hang on the session that asks. -/
theorem armRefusal_taken (s : State) (r : Req) : armRefusal (taken s r) = armRefusal s := by
  have hod : odN (taken s r) = odN s := funext fun ix => funext (odN_taken s r ix)
  have hmem : domOn (taken s r) .mem = domOn s .mem := by simp [domOn]
  unfold armRefusal acqPre probeKind
  rw [acqSlots_taken, acqOverlap_taken, hod, hmem, taken_fuses, taken_acq]

/-! ### What the entries of a row leave alone -/

/-- What is read of a capture besides its entries: its state, what the latest row has used up, and the tick of its trigger. -/
structure CaptureView where
  st       : CapState
  lastRow  : Nat
  manual   : Bool
  adc      : BitVec 32
  lines    : Tbl (List (Nat × Nat))
  trigTick : Nat

/-- The view of an engine, with the trigger tick that the status holds. -/
def AcqSt.view (a : AcqSt) (trigTick : Nat) : CaptureView :=
  { st := a.st, lastRow := a.lastRow, manual := a.manual, adc := a.adc, lines := a.lines, trigTick := trigTick }

/-- The view of the capture under way. -/
def captureView (s : State) : CaptureView := s.acq.view (odN s 0x7001 6)

theorem captureView_updAcq {f : AcqSt → AcqSt} (hf : ∀ a n, (f a).view n = a.view n) (s : State) :
    captureView (updAcq s f) = captureView s := by
  rw [captureView, odN_updAcq, updAcq_acq, hf]
  rfl

/-- Of the status the view shows the trigger tick alone, whose default may hang on the first object of the index. -/
theorem captureView_odSet {ix sub : Nat} (h : 0x7001 ≠ ix ∨ sub ≠ 1 ∧ 6 ≠ sub) (hsub : sub < 256) (s : State) (v : Val) :
    captureView (odSet s ix sub v) = captureView s := by
  simp [captureView, odN_odSet_other h hsub]

theorem captureView_bumpBy {sub : Nat} (h : sub ≠ 1 ∧ 6 ≠ sub) (hsub : sub < 256) (s : State) (k : Nat) :
    captureView (bumpBy s 0x7001 sub k) = captureView s :=
  captureView_odSet (.inr h) hsub s _

@[simp] theorem captureView_acqPut (s : State) (post row : Bool) (tick : Nat) (bs : Bytes) :
    captureView (acqPut s post row tick bs) = captureView s :=
  captureView_updAcq (fun _ _ => rfl) s

@[simp] theorem captureView_acqMarkers (s : State) : captureView (acqMarkers s) = captureView s := by
  unfold acqMarkers
  dsimp only
  refine (captureView_updAcq (fun _ _ => rfl) _).trans ?_
  refine List.foldlRecOn (motive := fun t => captureView t = captureView s) _ _ rfl fun t ht g _ => ?_
  rw [bump, captureView_bumpBy (by decide) (by decide), captureView_acqPut, ht]

@[simp] theorem captureView_acqLose (s : State) (post : Bool) (tick : Nat) :
    captureView (acqLose s post tick) = captureView s := by
  rw [acqLose, bump, captureView_bumpBy (by decide) (by decide)]
  exact captureView_updAcq (fun _ _ => rfl) s

@[simp] theorem captureView_acqEnter (s : State) (post : Bool) (tick : Nat) (bs : Bytes) :
    captureView (acqEnter s post tick bs) = captureView s := by
  simp [acqEnter, apply_ite captureView]

@[simp] theorem captureView_flushInterval (s : State) (vals : Tbl AcqVal) :
    captureView (flushInterval s vals) = captureView s := by
  unfold flushInterval
  dsimp only
  split
  · rfl
  · exact (captureView_updAcq (fun _ _ => rfl) _).trans (captureView_acqEnter ..)

@[simp] theorem captureView_acqEnd (s : State) (cause : Nat) : captureView (acqEnd s cause) = captureView s := by
  rw [acqEnd, odSetN, captureView_odSet (.inl (by decide)) (by decide),
    captureView_updAcq (f := fun a => { a with ending := true }) fun _ _ => rfl, captureView_acqMarkers,
    captureView_flushInterval]

@[simp] theorem captureView_logHit (s : State) (c : Nat) : captureView (logHit s c) = captureView s := by
  unfold logHit
  split
  · exact captureView_updAcq (fun _ _ => rfl) s
  · exact captureView_bumpBy (by decide) (by decide) ..

@[simp] theorem captureView_noteViolations (s : State) (l : List (Nat × Nat × Nat × Nat)) :
    captureView (noteViolations s l) = captureView s := by
  unfold noteViolations
  split
  · rfl
  · dsimp only
    rw [captureView_bumpBy (by decide) (by decide)]
    split
    · exact captureView_odSet (.inr (by decide)) (by decide) ..
    · rfl

theorem captureView_noted (s : State) (hits : List Nat) (l : List (Nat × Nat × Nat × Nat)) :
    captureView (noteViolations (hits.foldl logHit s) l) = captureView s := by
  rw [captureView_noteViolations]
  exact List.foldlRecOn (motive := fun t => captureView t = captureView s) hits logHit rfl
    fun t ht c _ => (captureView_logHit t c).trans ht

/-! ### ACQ_ROW (R329, R337, R338) -/

/-- The view after a row of this tick, by whether it triggers. -/
def rowView (s : State) (trig : Bool) : CaptureView :=
  { st := if trig then .posttrig else s.acq.st, lastRow := s.tick.num, manual := false, adc := 0, lines := []
    trigTick := if trig then s.tick.num else odN s 0x7001 6 }

/-- The values of the probes that are present in the row of this tick. -/
def rowVals (s : State) : Tbl AcqVal := (List.range 16).filterMap fun p => (probeVal s p).map fun v => (p, v)

/-- The row of this tick is the trigger row: it finds the capture in PRETRIG, and the combined condition holds. -/
def rowTriggers (s : State) : Bool :=
  s.acq.st == .pretrig && combined s ((List.range 4).filter (comparatorTrue s (rowVals s))) s.acq.manual

/-- A row that is noted in the log and the counts: the trigger, where it is one, and what the row uses up. -/
theorem captureView_rowTaken {s u : State} (hu : captureView u = captureView s) {trig : Bool} {k : Nat} {f : AcqSt → AcqSt}
    (hf : ∀ a n, (f a).view n = ⟨if trig then .posttrig else a.st, s.tick.num, false, 0, [], n⟩) :
    captureView (updAcq (if trig then odSetN (odSetN u 0x7001 6 s.tick.num) 0x7001 7 k else u) f) = rowView s trig := by
  have hst : u.acq.st = s.acq.st := congrArg CaptureView.st hu
  have htick : odN u 0x7001 6 = odN s 0x7001 6 := congrArg CaptureView.trigTick hu
  rw [captureView, updAcq_acq, hf, odN_updAcq, rowView]
  cases trig with
  | false => simp [hst, htick]
  | true =>
    have htrig : odN (odSetN (odSetN u 0x7001 6 s.tick.num) 0x7001 7 k) 0x7001 6 = s.tick.num := by
      rw [odSetN, odN_odSet_other (.inr (by decide)) (by decide) (by decide), odN_odSetN]
    simp [htrig]

/-- A row uses up what stood for it, and the trigger row leads to POSTTRIG. -/
theorem captureView_acqRow {s : State} (hcap : capturing s = true) (harm : s.acq.armed < s.tick.num)
    (hrow : s.acq.lastRow < s.tick.num) : captureView (acqRow s) = rowView s (rowTriggers s) := by
  unfold acqRow
  rw [if_neg (by simp [hcap, harm, hrow])]
  simp only [apply_ite captureView, captureView_acqEnd, captureView_flushInterval, ite_self]
  exact captureView_rowTaken (captureView_noted ..) fun _ _ => rfl

/-- With a manual trigger, the row in PRETRIG is the trigger row. -/
theorem rowTriggers_manual {s : State} (hst : s.acq.st = .pretrig) (hman : s.acq.manual = true) : rowTriggers s = true := by
  simp [rowTriggers, combined, hst, hman]

theorem rowTriggers_posttrig {s : State} (hst : s.acq.st = .posttrig) : rowTriggers s = false := by
  simp [rowTriggers, hst]

/-! ### The command (R337, R340, R342) -/

/-- The status of a capture that is armed: cleared, with the size and the count of its slots. -/
def armedStatus (s : State) : State :=
  odSetN (odSetN (odReset s 0x7001) 0x7001 1 (acqSlot (odReset s 0x7001))) 0x7001 2 (acqSlots (odReset s 0x7001))

theorem odN_acqStart (s : State) (ix sub : Nat) :
    odN (acqStart s) ix sub = odN (odSetN (odSetN (armedStatus s) 0x7000 3 0) 0x7000 0x0B 0) ix sub :=
  odN_congr rfl rfl ix sub

theorem acqStart_reads (s : State) : odN (acqStart s) 0x7000 3 = 0 ∧ odN (acqStart s) 0x7000 0x0B = 0 ∧
    odN (acqStart s) 0x7001 2 = acqSlots s := by
  simp only [odN_acqStart]
  refine ⟨?cause, odN_odSetN .., ?slots⟩
  case cause => exact (odN_odSet_other (.inr (by decide)) (by decide) (by decide) ..).trans (odN_odSetN ..)
  case slots =>
    have hother (u : State) {sub n : Nat} (hsub : sub < 256) : odN (odSetN u 0x7000 sub n) 0x7001 2 = odN u 0x7001 2 :=
      odN_odSet_other (.inl (by decide)) hsub (by decide) ..
    rw [hother _ (by decide), hother _ (by decide), armedStatus, odN_odSetN, acqSlots_clearStatus]

section
variable {s : State} {r : Req} {b : Byte} {v : Val}

/-- After a command that passes its checks, engine and store read as the command left them, whether it is answered or aborted. -/
theorem acqCommand_reads {u : State} (hw : WriteOk s r 0x7000 1 [b] acqHook v)
    (hu : (acqHook (taken s r)).run (taken s r) (.num b.toNat) = .done u ∨
      ∃ c, (acqHook (taken s r)).run (taken s r) (.num b.toNat) = .abort c u) :
    ∃ t, outcome s (requestWrite s r 0x7000 1 [b] acqHook) = .next t ∧ t.acq = u.acq ∧ ∀ i j, odN t i j = odN u i j := by
  have hv : v = .num (b.toNat : Nat) := hw.byte (.inl (by decide))
  have honly := (acqHook_only (taken s r) (.num (b.toNat : Nat))).2
  have hfuses : u.fuses = s.fuses := by
    rcases hu with hu | ⟨c, hu⟩ <;> rw [hu] at honly <;> exact (honly.same .fuses rfl).trans (taken_fuses s r)
  have hreads : (requestWrite s r 0x7000 1 [b] acqHook).acq = u.acq ∧ (requestWrite s r 0x7000 1 [b] acqHook).od = u.od := by
    rw [requestWrite_ok hw, hv]
    rcases hu with hu | ⟨c, hu⟩ <;> simp [hu]
  exact ⟨_, rfl, hreads.1, odN_congr hreads.2 hfuses.symm⟩

theorem acqArm_starts (hw : WriteOk s r 0x7000 1 [1] acqHook v) (hfree : armRefusal s = none) :
    ∃ t, outcome s (requestWrite s r 0x7000 1 [1] acqHook) = .next t ∧ t.acq.st = .pretrig ∧ t.acq.armed = s.tick.num ∧
      t.acq.fifo = [] ∧ t.acq.ring = [] ∧ odN t 0x7000 3 = 0 ∧ odN t 0x7000 0x0B = 0 ∧ odN t 0x7001 2 = acqSlots s := by
  have hrun : (acqHook (taken s r)).run (taken s r) (.num 1) = .done (acqStart (taken s r)) := by
    simp [acqHook, armRefusal_taken, hfree]
  obtain ⟨t, ht, hacq, hod⟩ := acqCommand_reads hw (.inl hrun)
  obtain ⟨hcause, hreason, hslots⟩ := acqStart_reads (taken s r)
  refine ⟨t, ht, ?_⟩
  rw [hacq, hod, hod, hod, hcause, hreason, hslots, acqSlots_taken]
  exact ⟨rfl, congrArg (·.num) (taken_tick s r), rfl, rfl, rfl, rfl, rfl⟩

theorem acqArm_refused {k c : Nat} (hw : WriteOk s r 0x7000 1 [1] acqHook v) (hrefused : armRefusal s = some (k, c)) :
    ∃ t, outcome s (requestWrite s r 0x7000 1 [1] acqHook) = .next t ∧ t.acq = s.acq ∧ odN t 0x7000 0x0B = k := by
  have hrun : (acqHook (taken s r)).run (taken s r) (.num 1) = .abort c (odSetN (taken s r) 0x7000 0x0B k) := by
    simp [acqHook, armRefusal_taken, hrefused]
  obtain ⟨t, ht, hacq, hod⟩ := acqCommand_reads hw (.inr ⟨c, hrun⟩)
  exact ⟨t, ht, by rw [hacq, odSetN_acq, taken_acq], by rw [hod, odN_odSetN]⟩

theorem acqStop_ends (hw : WriteOk s r 0x7000 1 [0] acqHook v) (hcap : capturing s = true) :
    ∃ t, outcome s (requestWrite s r 0x7000 1 [0] acqHook) = .next t ∧ t.acq.ending = true ∧ t.acq.gaps = [] ∧
      odN t 0x7000 3 = 3 := by
  have hrun : (acqHook (taken s r)).run (taken s r) (.num 0) = .done (acqEnd (taken s r) 3) := by
    have hcap' : capturing (taken s r) = true := by simpa [capturing] using hcap
    simp [acqHook, hcap']
  obtain ⟨t, ht, hacq, hod⟩ := acqCommand_reads hw (.inl hrun)
  refine ⟨t, ht, ?_, ?_, ?_⟩
  · rw [hacq]; rfl
  · rw [hacq]; rfl
  · rw [hod]; exact odN_odSetN ..

theorem acqManualTrigger_waits (hw : WriteOk s r 0x7000 1 [2] acqHook v) :
    ∃ t, outcome s (requestWrite s r 0x7000 1 [2] acqHook) = .next t ∧ t.acq = { s.acq with manual := true } := by
  obtain ⟨t, ht, hacq, -⟩ := acqCommand_reads hw (.inl rfl)
  exact ⟨t, ht, by rw [hacq, updAcq_acq, taken_acq]⟩

end

/-! ### The way to QDR (R340, R344) -/

theorem acqQdrWrite_good {s : State} {a : Nat} {bs : Bytes} {l : List (Nat × Bytes)} (hon : domOn s .mem = true)
    (hfifo : s.acq.fifo = (a, bs) :: l) :
    acqQdrWrite s false = qdrWrite (updAcq s fun x => { x with fifo := l }) a bs := by
  simp [acqQdrWrite, hon, hfifo]

theorem acqQdrWrite_bad {s : State} (hon : domOn s .mem = true) (hfifo : s.acq.fifo ≠ []) :
    acqQdrWrite s true = acqMemLost s := by
  obtain ⟨e, l, hcons⟩ := List.exists_cons_of_ne_nil hfifo
  simp [acqQdrWrite, hon, hcons]

/-- Memory that fails a capture ends it at once, with cause 4. -/
theorem acqMemLost_reads {s : State} (hst : s.acq.st = .pretrig ∨ s.acq.st = .posttrig) :
    (acqMemLost s).acq.st = .done ∧ (acqMemLost s).acq.fifo = [] ∧ (acqMemLost s).qdr = s.qdr ∧
      odN (acqMemLost s) 0x7000 3 = 4 ∧ (acqMemLost s).host.intStatus.getLsbD 15 = true := by
  unfold acqMemLost
  rw [if_pos (by simpa using hst)]
  refine ⟨by simp, by simp, by simp, ?_, setInt_getLsbD _ (by decide)⟩
  exact (odN_congr (setInt_od ..) (setInt_fuses ..) ..).trans (odN_odSetN ..)

/-- The capture whose last entry has reached QDR is DONE. -/
theorem acqDrained_done {s : State} (hend : s.acq.ending = true) (hfifo : s.acq.fifo = []) :
    acqDrained s = setInt (updAcq s fun a => { a with st := .done, ending := false }) 15 := by
  simp [acqDrained, hend, hfifo]

/-- What is read after a command that writes the memory and leaves the fuses alone. -/
theorem outcomeMem_reads {s u : State} (hf : u.fuses = s.fuses) :
    ∃ t, outcomeMem s u = .next t ∧ t.acq = u.acq ∧ t.qdr = u.qdr ∧ t.host = u.host ∧ ∀ i j, odN t i j = odN u i j :=
  ⟨_, rfl, rfl, rfl, rfl, odN_congr rfl hf.symm⟩

/-! ### AcquisitionCaptures -/

/-- Settles O29: the commands through their write rule, the row by what it uses up, and the entries on their way to QDR. -/
theorem acquisitionCaptures : Obligations.AcquisitionCaptures := by
  intro s r v
  have hwrite (bad : Bool) := outcomeMem_reads ((acqQdrWrite_only s bad).same .fuses rfl)
  refine ⟨acqArm_starts, fun k c => acqArm_refused, acqStop_ends, acqManualTrigger_waits, fun hcap harm hrow => ?row,
    fun a bs l hon hfifo => ?stored, fun hon hfifo hst => ?failed, fun hend hfifo => ?drained⟩
  case row =>
    have hview := captureView_acqRow hcap harm hrow
    refine ⟨closed s (acqRow s), rfl, congrArg CaptureView.lastRow hview, congrArg CaptureView.manual hview,
      congrArg CaptureView.adc hview, congrArg CaptureView.lines hview, fun hst hman => ?_, fun hst => ?_⟩
    · rw [rowTriggers_manual hst hman] at hview
      refine ⟨congrArg CaptureView.st hview, ?_⟩
      rw [odN_closed ((acqRow_only s).same .fuses rfl)]
      exact congrArg CaptureView.trigTick hview
    · rw [rowTriggers_posttrig hst] at hview
      exact (congrArg CaptureView.st hview).trans hst
  case stored =>
    obtain ⟨t, ht, hacq, hqdr, -⟩ := hwrite false
    rw [acqQdrWrite_good hon hfifo] at hacq hqdr
    exact ⟨t, ht, hacq, hqdr⟩
  case failed =>
    obtain ⟨t, ht, hacq, hqdr, hhost, hod⟩ := hwrite true
    refine ⟨t, ht, ?_⟩
    rw [hacq, hqdr, hhost, hod, acqQdrWrite_bad hon hfifo]
    exact acqMemLost_reads hst
  case drained =>
    refine ⟨closed s (acqDrained s), rfl, ?_⟩
    rw [closed_acq, closed_host, acqDrained_done hend hfifo, setInt_acq]
    exact ⟨rfl, setInt_getLsbD _ (by decide)⟩

end Sys2Proof.Machine
end
